-- ==== Sys2Proof/Word.lean ====
section
/-! DEFINITION. Word.lean: the word types of the EVX-6012 and nothing else. Registers are 32 bits wide and little-endian (R4);
the spec's wider registers are 64 or 128 bits (R5). Field values are kept as natural numbers below 2 to the field's width. -/

namespace Sys2Proof

/-- A byte of memory. -/
abbrev Byte := BitVec 8

/-- A 64-bit word: the unit the check code protects (R437). -/
abbrev Dword := BitVec 64

end Sys2Proof
end

