-- ==== Sys2Proof/Syntax.lean ====
section
/-! DEFINITION. Syntax.lean: the commands of the EVX-6012, one constructor of `Instr` for each row of the spec's table of
operations and events, and the types of their operands. The table gives its rows no bits and no operands; a command's
operands are what the rule that the row cites lets vary (log entry 1). -/

namespace Sys2Proof

/-- The masters of a register access (R41, R45). -/
inductive Master where
  /-- The local PCI Express port (code 0x0). -/
  | pcie
  /-- A host access forwarded over Xiesh (code 0x1). -/
  | xiesh
  /-- Management processor 0 to 3, running Ozzizo (codes 0x2 to 0x5). -/
  | mp (i : Nat)
  /-- JTAG with debug unlocked (code 0x6). -/
  | jtag
  /-- An internal hardware agent (code 0x7). -/
  | hw
deriving DecidableEq, Repr

/-- A Xiesh frame (R299): the header's fields and the payload. -/
structure Frame where
  typ : Nat
  vc : Nat
  epoch : Nat
  bcast : Bool
  lseq : Nat
  dst : Nat
  src : Nat
  dxy : Nat
  hops : Nat
  sseq : Nat
  arg : Nat
  addr : Nat
  tag : Nat
  payload : List Byte
deriving DecidableEq, Repr

/-- How a frame reached a port (R299, R301, R302): its port, whether its header check passed, the logical lanes
whose check failed or that met a symbol error (bit per lane), the physical lanes that met symbol errors, whether it ended with ABORT, and whether its reserved fields are zero. -/
structure Rx where
  port : Nat
  headerOk : Bool
  badLanes : Nat
  symbols : List Nat
  aborted : Bool
  reservedZero : Bool
  frame : Frame
deriving DecidableEq, Repr

/-- What a host access to a slot asks for (R31 to R34): a register write or read in BAR0; a doorbell (an aligned 8-byte write), any
other write or a read in BAR2; a write or read of device memory in BAR4. -/
inductive HostAccess where
  | regWrite (addr size data : Nat)
  | regRead (addr size : Nat)
  | doorbell (queue data : Nat)
  | queueWrite (offset size data : Nat)
  | queueRead (offset size : Nat)
  | memWrite (addr : Nat) (bytes : List Byte)
  | memRead (addr len : Nat)
deriving DecidableEq, Repr

/-- R133, R146: how the verification of a kernel package ends: with its version and its kernels, each with whether the host
may select it, or refused. -/
inductive PkgOutcome where
  | ok (version : Nat) (kernels : List (Nat × Bool))
  | fetchError
  | badSignature
deriving DecidableEq, Repr

/-- R140: why an engine failed. -/
inductive EngineFault where
  | storage
  | residue
  | sequencer
deriving DecidableEq, Repr

/-- R167: the speeds at which the drum's state or output changes. -/
inductive DrumThreshold where
  /-- 1,200 rpm rising. -/
  | lightOn
  /-- Within 1 % of the target. -/
  | target
  /-- 1,200 rpm falling. -/
  | lightOff
  /-- 60 rpm falling. -/
  | creep
deriving DecidableEq, Repr

/-- R174, R178: how a CSI-2 packet reached a port: its virtual channel, and its header's check: 0 right, 1 one bit corrected, 2 beyond
correction. -/
structure CsiHead where
  vc : Nat
  ecc : Nat
deriving DecidableEq, Repr

/-- R198: a detection: image position in 1/16 pixel, pupil diameter and confidence. -/
structure Detection where
  u : Int
  v : Int
  pupil : Nat
  conf : Nat
deriving DecidableEq, Repr

/-- R202: whose detections have ended: a viewer by slot, an overflow viewer or a candidate by place in its list. -/
inductive Tracked where
  | viewer (slot : Nat)
  | overflow (i : Nat)
  | candidate (i : Nat)
deriving DecidableEq, Repr

/-- R278: a training set: LANE, SOURCE, STAGE, REQ_LANE with its TOGGLE, REQUEST, STAT_LANE with its TOGGLE, STATUS, C_PRE,
C_POST and FLAGS. -/
structure Ts where
  lane : Nat
  source : Nat
  stage : Nat
  reqLane : Nat
  toggle : Bool
  request : Nat
  statLane : Nat
  statToggle : Bool
  status : Nat
  cPre : Nat
  cPost : Nat
  flags : Nat
deriving DecidableEq, Repr

/-- R277 to R282: what the receiver has found by a training set: whether its own receive lanes have completed the stage, the
lane order (0 identity, 1 full reversal, 2 any other), the receive lanes found inverted and those found dead or beyond the
skew limit (bit per input), and a request it makes of a peer's transmit lane. -/
structure TsSeen where
  complete : Bool
  order : Nat
  inverted : Nat
  dead : Nat
  wish : Option (Nat × Nat)
deriving DecidableEq, Repr

/-- R351, R451: what the word that the patrol scrubber reads belongs to: plain device memory, a standby spare (channel × 4 +
rank), or an object whose place the spec does not give: the record of a lenslet, a kernel package slot, a camera model. -/
inductive ScrubWord where
  | plain (addr : Nat)
  | spare (rank : Nat)
  | lenslet (addr lens : Nat)
  | package (addr slot : Nat)
  | model (addr port : Nat)
deriving DecidableEq, Repr

/-- R400, R401: what Ozzizo's analysis of a groom pass finds, and its limits have yet to judge: lenslet deltas, zone references,
the drum's correction table, FACET_SLOPE and the eight FACET_OFFSETs, trims (converter, GAIN, OFFSET as signed), and
an overdrive table set. -/
structure GroomResult where
  lens : List (Nat × List Int)
  zones : List (Nat × Nat)
  angles : Option (List Int)
  optics : Option (List Int)
  trims : List (Nat × Nat × Int)
  overdrive : Option (List Byte)
deriving DecidableEq, Repr

/-- R381: how far a commit that runs gets when the supplies fall: it completes on the reserve, or, outside specification, it
stops before or after its commit point. -/
inductive CommitFate where
  | completed
  | beforePoint
  | afterPoint
deriving DecidableEq, Repr

/-- R474, R459, R346, R378, R377, R489: what a start-up meets: the STRAP_LINKW level, the HOLDUP voltage reached (mV), the loft's
temperature (1/16 °C), the channels and ranks (channel × 4 + rank) that fail training, and the PART words that the boot
ROM's self-test gives partitions 0 to 15 where it runs. -/
structure Start where
  linkw : Nat
  holdupMv : Nat
  loftTemp : Int
  channels : List Nat
  ranks : List Nat
  selfTest : List Nat
deriving DecidableEq, Repr

/-- R470: a PLL: of a stall, of a compute die, of a compute die's link, of the I/O die's core, its link, a DRAM controller or the
time base, of a lane group (24 to 27 panel, 28 Xiesh, as R468 numbers the domains), or the reference PLL. -/
inductive Pll where
  | stall (s : Nat)
  | computeDie (d : Nat)
  | dieLink (d : Nat)
  | ioCore
  | ioLink
  | dram (q : Nat)
  | timeBase
  | laneGroup (d : Nat)
  | reference
deriving DecidableEq, Repr

/-- The commands: one constructor per row of spec/opcode_table.json, in the table's order. -/
inductive Instr where
  /-- R45: a write of `size` bytes of `data` at a device-local register address (page times 0x1000 plus offset). -/
  | registerWrite (m : Master) (addr size data : Nat)
  /-- R7: a read of `size` bytes at a register address; RC fields are cleared. -/
  | registerReadClear (m : Master) (addr size : Nat)
  /-- R5: a 4-byte read of the lowest piece of a wide register. -/
  | pieceReadCapture (m : Master) (addr : Nat)
  /-- R5: a write of `size` bytes to a piece of a wide register. -/
  | pieceWrite (m : Master) (addr size data : Nat)
  /-- R34: a host access to slot `slot`, with the tag under which a read's completion returns. -/
  | forwardedAccess (slot tag : Nat) (a : HostAccess)
  /-- R34: the forwarded read with this tag has not completed within HIF.FWD_TIMEOUT. -/
  | fwdReadTimeout (tag : Nat)
  /-- R33: an access at an offset of BAR4: the bytes written, or the length read. -/
  | bar4Access (offset : Nat) (write : Option (List Byte)) (len tag : Nat)
  /-- R50: a write to IRQ_CLR of a page. -/
  | irqClrWrite (m : Master) (page bits : Nat)
  /-- R50: a write of INT.VEC of a page. -/
  | intVecWrite (m : Master) (page en vector : Nat)
  /-- R48: the write that unmasks an MSI-X vector. -/
  | msixUnmask (vector : Nat)
  /-- R52: Ozzizo clears latch bits of a page, or reads and clears the second copy of an RC counter. -/
  | secureLatchClear (page bits : Nat) (counter : Option Nat)
  /-- R43: Ozzizo evaluates the requested registers of a page with mirrors. -/
  | effectiveEvaluate (page : Nat)
  /-- R44: the version point at which a mirror takes its evaluated value. -/
  | mirrorUpdate (page offset : Nat)
  /-- R20: management processor `i`'s watchdog expires. -/
  | watchdogExpiry (i : Nat)
  /-- R20: a restarted management processor resumes. -/
  | mpRestartDone (i : Nat)
  /-- R91: a write of `size` bytes at an offset of BAR2 slot 0. -/
  | doorbell (m : Master) (offset size data : Nat)
  /-- R94: a write of QMG.CTX_CMD with operation READ for a queue. -/
  | ctxRead (m : Master) (queue : Nat)
  /-- R94: operation INIT. -/
  | ctxInit (m : Master) (queue : Nat)
  /-- R94: operation DISABLE. -/
  | ctxDisable (m : Master) (queue : Nat)
  /-- R94: operation ENABLE. -/
  | ctxEnable (m : Master) (queue : Nat)
  /-- R94: the running context command completes. -/
  | ctxCmdComplete
  /-- R90, R98: the next descriptor starts; `readable` says whether its ring entry could be read (R507). -/
  | descriptorStart (readable : Bool)
  /-- R508: the block read of a queue's running descriptor ends; `completed` says whether the read met no completion error
  or timeout. -/
  | blockReadDone (queue : Nat) (completed : Bool)
  /-- R508: decoding of a queue's running descriptor ends. -/
  | decodeDone (queue : Nat)
  /-- R99: the front descriptor of a queue retires; `readable` says whether a skipped or aborted one's ring entry could be
  read (R507). -/
  | descriptorRetire (queue : Nat) (readable : Bool)
  /-- R102: a write of QMG.CQ_HEAD of a completion ring. -/
  | cqHeadWrite (m : Master) (ring head : Nat)
  /-- R102: a ring's oldest unconsumed entry becomes older than MICROSECONDS. -/
  | cqAgeTimeout (ring : Nat)
  /-- R109: a queue's held tile or LAYER description is looked at again. -/
  | heldWriteRelease (queue : Nat)
  /-- R110: a host write of LAY.FENCE[n]. -/
  | fenceWrite (m : Master) (n value : Nat)
  /-- R110: a host write of LAY.FENCE_MAX[n]. -/
  | fenceMaxWrite (m : Master) (n value : Nat)
  /-- R113: the commit latch before the next boundary. -/
  | commitLatch
  /-- R163: the next subframe boundary is reached. -/
  | subframeBoundary
  /-- R132: a write of RSY.KSEL_ARM. -/
  | kselArm (m : Master) (data : Nat)
  /-- R132: the parameter block has been copied into the parameter store. -/
  | kselLoadDone
  /-- R123: a write of RSY.LDELTA_ARM. -/
  | ldeltaArm (m : Master) (data : Nat)
  /-- R123: the lenslet build that runs is complete. -/
  | lensletBuildDone
  /-- R133: a write of RSY.PKG_CMD. -/
  | pkgCmd (m : Master) (slot : Nat)
  /-- R133: Ozzizo's verification of the package ends. -/
  | pkgInstallDone (o : PkgOutcome)
  /-- R164: RELEASE of a band is reached and its plan is fixed. -/
  | releasePoint (band : Nat)
  /-- R134: the next lot of a band's plan is released. -/
  | lotRelease (band : Nat)
  /-- R137: a stall's first waiting lot meets an engine, or is lent. -/
  | lotDispatch (stall engine : Nat)
  /-- R137: an engine finishes its lot's next span, its residue check passed. -/
  | spanDeposit (stall engine : Nat)
  /-- R137: a band's next line, complete, moves to its line buffer. -/
  | lineMove (band : Nat)
  /-- R135: a band's next line falls due. -/
  | lineDue (band : Nat)
  /-- R222: a plane's lenslet row is read (plane 8: the protected layer). -/
  | overlayRowRead (plane row : Nat)
  /-- R140: an engine fails. -/
  | engineFailure (stall engine : Nat) (why : EngineFault)
  /-- R140: an engine has run its lot longer than STL.LOT_TIMEOUT. -/
  | lotTimeout (stall engine : Nat)
  /-- R149, R151: the filtered encoder inputs reach a new quadrature state (0 to 3, in forward order). -/
  | encoderEdge (quad : Nat)
  /-- R156, R169: the rising edge of DRUM_ENC_IDX; `code` is the DRUM_SPEED code the speed control then sets. -/
  | indexEdge (code : Nat)
  /-- R157: the predictor has coasted longer than COAST_LIMIT. -/
  | coastTimeout
  /-- R157: 3 s have passed since brake release without a valid predictor. -/
  | spinupValidTimeout
  /-- R157: the speed has differed from the target by more than 5 % for 1 s. -/
  | speedDeviationTimeout
  /-- R157: DRUM_FAULT_N changes; `asserted` says whether it is now low. -/
  | drumFaultInput (asserted : Bool)
  /-- R158: STOP_WAIT ends. -/
  | stopWaitExpiry
  /-- R167: the drum reaches a speed at which its state or output changes. -/
  | drumSpeedThreshold (t : DrumThreshold)
  /-- R168: the count at which the brake stops the drum at E is reached. -/
  | parkBrakePoint
  /-- R168: the count is checked at rest. -/
  | parkPositionCheck
  /-- R162: a write of DRU.SCHED_SELECT. -/
  | schedSwap (m : Master) (data : Nat)
  /-- R164: a band's write window starts. -/
  | writeStartPoint (band : Nat)
  /-- R251: a band's next line slot begins. -/
  | lineSlotStart (band : Nat)
  /-- R136: a band's write deadline passes. -/
  | writeDeadlinePoint (band : Nat)
  /-- R165: a band's strobe is due to begin. -/
  | strobeOnPoint (band : Nat)
  /-- R164: a band's strobe ends. -/
  | strobeOffPoint (band : Nat)
  /-- R177: a frame-start packet with its frame number field. -/
  | csiFrameStart (port : Nat) (head : CsiHead) (number : Nat)
  /-- R175: a frame-end packet. -/
  | csiFrameEnd (port : Nat) (head : CsiHead)
  /-- R178: a long packet of a data type (0x2A to 0x2C: RAW8, RAW10, RAW12), its samples, and whether its CRC-16 is right. -/
  | csiLine (port : Nat) (head : CsiHead) (dataType : Nat) (crcOk : Bool) (samples : List Nat)
  /-- R175: an embedded-data packet. -/
  | csiEmbedded (port : Nat) (head : CsiHead) (bytes : List Byte)
  /-- R175: a generic short packet: data type 0x08 to 0x0F, and value. -/
  | csiGeneric (port : Nat) (head : CsiHead) (dataType value : Nat)
  /-- R176: a trigger of a triggered port. -/
  | camTrigger (port : Nat)
  /-- R177: no frame start has come within CAM.TIMEOUT.FRAME_US of the oldest trigger that awaits one. -/
  | frameTimeout (port : Nat)
  /-- R178: no packet for CAM.TIMEOUT.LINE_US while a frame is open. -/
  | lineTimeout (port : Nat)
  /-- R194: the pattern generator of a port supplies its next packet. -/
  | testPatternLine (port : Nat)
  /-- R195: a write of CAM.CFG with ENABLE set. -/
  | camEnable (m : Master) (port data : Nat)
  /-- R181: a write of CAM.EXP_SET. -/
  | expSetPost (m : Master) (port data : Nat)
  /-- R196: a write of CAM.I2C_CMD of a controller. -/
  | i2cCmd (m : Master) (controller data : Nat)
  /-- R180: a controller's transaction ends with a status (R196), and the bytes it received. -/
  | i2cTransactionDone (controller status : Nat) (bytes : List Byte)
  /-- R179: a controller's clock has been held low longer than STRETCH_MS. -/
  | i2cStretchTimeout (controller : Nat)
  /-- R185: an idle pipeline starts the next ready stripe. -/
  | stripeStart (pipe : Nat)
  /-- R185: a pipeline's stripe completes. -/
  | stripeComplete (pipe : Nat)
  /-- R189: a write of CAM.RING_FULL. -/
  | ringSlotRelease (m : Master) (port data : Nat)
  /-- R192: a read of CAM.STATS_FRAME. -/
  | statsCaptureRead (m : Master) (port : Nat)
  /-- R198, R199: detection ends on a frame of a tracking port: its record's TEST_PATTERN or DEDICATED, its SET_ID, its
  EXP_UNCERTAIN, and the detections on its processed, undamaged lines. -/
  | detectionDone (port : Nat) (unusable : Bool) (setId : Nat) (uncertain : Bool) (found : List Detection)
  /-- R201: a detection updates an estimate: the eye's position its camera's ray gives it, the frame's TRIGGER_TIME and frame
  period (ns), and the cameras that saw the eye in that frame. -/
  | fusionUpdate (x y z : Int) (trigger period cameras : Nat)
  /-- R202: no detection for 2 frame periods. -/
  | trackLostTimeout (t : Tracked)
  /-- R202: a coasting viewer's coast time ends. -/
  | coastExpiry (slot : Nat)
  /-- R205: the head moves a viewer's ownership. -/
  | ownerReassign (slot owner : Nat)
  /-- R213: a zone has had no eye in its frustum for HOLD_MS. -/
  | zoneUnobserved (zone : Nat)
  /-- R219: a read of VWB.ROSTER_CAPTURE. -/
  | rosterCaptureRead (m : Master)
  /-- R214: a port has delivered no used frame for three frame periods. -/
  | trackingFrameTimeout (port : Nat)
  /-- R226: a write of CMP.FLIP_CTRL with ARM = 1. -/
  | flipArm (m : Master) (group data : Nat)
  /-- R226: a write of CMP.FLIP_CTRL with CANCEL = 1. -/
  | flipCancel (m : Master) (group data : Nat)
  /-- R228: YARD_TIMEOUT has passed since a group was armed. -/
  | yardFlipTimeout (group : Nat)
  /-- R233: a write of CMP.LUT_LOAD. -/
  | lutLoad (m : Master) (data : Nat)
  /-- R233: the load of a colour bank ends. -/
  | lutLoadDone
  /-- R229: a write of CMP.PROT_CTRL with SWAP = 1. -/
  | protSwap (m : Master) (data : Nat)
  /-- R231: a write of CMP.PROT_CTRL with REARM = 1. -/
  | protRearm (m : Master) (data : Nat)
  /-- R235: a command list that waits on the bound queue starts. -/
  | blitListStart
  /-- R236: the list's next command is END, or the list has ended. -/
  | bltEnd
  /-- R236: the list's next command is FILL. -/
  | bltFill
  /-- R236: the list's next command is COPY. -/
  | bltCopy
  /-- R236: the list's next command is BLEND. -/
  | bltBlend
  /-- R236: the list's next command is WAIT_LINE. -/
  | bltWaitLine
  /-- R236: a WAIT_LINE has waited 100 ms. -/
  | waitLineTimeout
  /-- R236: the list's next command is FENCE. -/
  | bltFence
  /-- R236: the list's next command is IRQ. -/
  | bltIrq
  /-- R228: the stripe copies of a group for a member are finished. -/
  | stripeCopiesDone (group member : Nat)
  /-- R252: a LINE_STATUS packet: its line, its failed segments and its mismatch bit. -/
  | lineStatus (port line segments : Nat) (mismatch : Bool)
  /-- R250: an ACK packet. -/
  | folovAck (port seq code : Nat)
  /-- R250: a REG_DATA packet. -/
  | regData (port seq value : Nat)
  /-- R255: a MODEL_DATA packet. -/
  | modelData (port seq : Nat) (bytes : List Byte)
  /-- R259: a SENSOR packet: sensor and temperature in 1/16 °C. -/
  | panelSensor (port sensor : Nat) (temp : Int)
  /-- R249: an EVENT packet. -/
  | panelEvent (port code : Nat)
  /-- R250: a control packet's answer has not come in time. -/
  | ctrlAnswerTimeout (port seq : Nat)
  /-- R268: a write of PNL.DRV_CMD with OP = REG_READ. -/
  | drvRegRead (m : Master) (port addr : Nat)
  /-- R268: a write of PNL.DRV_CMD with OP = REG_WRITE. -/
  | drvRegWrite (m : Master) (port addr : Nat)
  /-- R259: a write of OVD.TABLE_LOAD. -/
  | ovdTableLoad (m : Master) (data : Nat)
  /-- R259: the load of an overdrive bank ends. -/
  | ovdTableLoadDone
  /-- R259: a write of OVD.TABLE_SWAP. -/
  | ovdTableSwap (m : Master) (data : Nat)
  /-- R260: a write of 1 to OVD.CTRL.HIST_RESET. -/
  | histReset (m : Master) (data : Nat)
  /-- R264: a tick in parked output. -/
  | parkedTick
  /-- R264: a write of PNL.LR_KICK. -/
  | lrKick (m : Master) (data : Nat)
  /-- R266: a write of PNL.POWER_CMD. -/
  | powerOffCmd (m : Master) (data : Nat)
  /-- R267: step 4 of R266 ends. -/
  | dischargeTimeout
  /-- R295: an ECHO packet: its line, logical lane, CRC flag and segment. -/
  | echo (port line lane : Nat) (failed : Bool) (segment : List Byte)
  /-- R277: a write of SER.CTRL with ENABLE = 1. -/
  | serEnable (m : Master) (group data : Nat)
  /-- R296: a write of SER.CTRL with TRAIN = 1. -/
  | serTrain (m : Master) (group data : Nat)
  /-- R289: a write of SER.CTRL with RETRAIN = 1; `passed` says how the lane's retrain ends. -/
  | serRetrainLane (m : Master) (group data : Nat) (passed : Bool)
  /-- R277: two identical training sets have been received. -/
  | ts (group : Nat) (set : Ts) (seen : TsSeen)
  /-- R277: the stage a group trains in has passed its limit. -/
  | trainingStageTimeout (group : Nat)
  /-- R285, R288: a receive lane in service loses symbol lock. -/
  | symbolLockLoss (group lane : Nat)
  /-- R285: a write of SER.SUB_CMD. -/
  | subCmd (m : Master) (group data : Nat)
  /-- R286: LM BRIDGE received; `good` says whether the spare then passes its check. -/
  | lmBridge (group logical : Nat) (good : Bool)
  /-- R286: LM READY received. -/
  | lmReady (group logical : Nat)
  /-- R286: LM SWAP received. -/
  | lmSwap (group logical : Nat)
  /-- R286, R287: LM ABORT received. -/
  | lmAbort (group logical : Nat)
  /-- R285: LM REQUEST received. -/
  | lmRequest (group logical : Nat)
  /-- R287: 200 microseconds pass after BRIDGE without READY or ABORT. -/
  | substitutionTimeout (group : Nat)
  /-- R288: a panel back-channel has not regained lock within 2 ms. -/
  | backchannelRelockTimeout (group : Nat)
  /-- R290: a write of SER.EYE_CTRL with START = 1. -/
  | eyeScanStart (m : Master) (group data : Nat)
  /-- R290: a scan's dwell ends with its count of disagreements. -/
  | eyeScanDone (group errors : Nat)
  /-- R293: a write of SER.LOOP. -/
  | loopModeWrite (m : Master) (group data : Nat)
  /-- R293: a LOOP set received. -/
  | loopCommand (group mode lane : Nat)
  /-- R274, R288: a receive lane regains symbol lock. -/
  | symbolLockRegained (group lane : Nat)
  /-- R293: a group in a peer's loop has seen 1 ms of electrical idle. -/
  | loopElectricalIdleTimeout (group : Nat)
  /-- R313: a REG_WR frame. -/
  | regWr (rx : Rx)
  /-- R313: a REG_RD frame. -/
  | regRd (rx : Rx)
  /-- R34: a REG_RD_CPL frame. -/
  | regRdCpl (rx : Rx)
  /-- R313: a MEM_WR frame. -/
  | memWr (rx : Rx)
  /-- R313: a MEM_RD frame. -/
  | memRd (rx : Rx)
  /-- R313: a MEM_RD_CPL frame. -/
  | memRdCpl (rx : Rx)
  /-- R313: a DOORBELL frame. -/
  | xshDoorbell (rx : Rx)
  /-- R51: an IRQ frame. -/
  | xshIrq (rx : Rx)
  /-- R313: a HOST_WR frame. -/
  | hostWr (rx : Rx)
  /-- R313: a HOST_RD frame. -/
  | hostRd (rx : Rx)
  /-- R313: a HOST_RD_CPL frame. -/
  | hostRdCpl (rx : Rx)
  /-- R310: an ENUM frame. -/
  | enum (rx : Rx)
  /-- R310: an ENUM_REPLY frame. -/
  | enumReply (rx : Rx)
  /-- R319: an ASSIGN frame. -/
  | assign (rx : Rx)
  /-- R307: a ROUTE frame. -/
  | route (rx : Rx)
  /-- R307: a ROUTE_ACK frame. -/
  | routeAck (rx : Rx)
  /-- R307: the quiet interval of an epoch change ends on the head. -/
  | routeQuietEnd
  /-- R307: a LINK_EVENT frame. -/
  | linkEvent (rx : Rx)
  /-- R169: a YARD_PARAM frame. -/
  | yardParam (rx : Rx)
  /-- R318: 100 ms pass on the head. -/
  | yardParamPeriod
  /-- R205: a SIGHTING frame; the frame period (ns) of the tracking cameras. -/
  | sighting (rx : Rx) (period : Nat)
  /-- R205: an ESTIMATE frame. -/
  | estimate (rx : Rx)
  /-- R205: a ROSTER_CHANGE frame. -/
  | rosterChange (rx : Rx)
  /-- R320: a FLIP_PREP frame. -/
  | flipPrep (rx : Rx)
  /-- R320: a FLIP_ACK frame. -/
  | flipAck (rx : Rx)
  /-- R228: a FLIP frame. -/
  | flip (rx : Rx)
  /-- R302: a LINK frame. -/
  | xshLink (rx : Rx)
  /-- R294: a TEST frame on a port, with the bit errors the checker found in it and its bits. -/
  | xshTest (rx : Rx) (errors bits : Nat)
  /-- R303: 10 microseconds pass on a port without a LINK frame. -/
  | linkSendTimer (port : Nat)
  /-- R302: a port's oldest frame has been unacknowledged for 10 microseconds. -/
  | replayTimeout (port : Nat)
  /-- R308: 200 ms pass since a candidate's first ENUM. -/
  | headElectionTimeout
  /-- R309: a member has had no route to its head for ORPHAN_MS. -/
  | orphanTimeout
  /-- R333: a Sync message in a TIME frame; `stamp` is when its SOP column left deskew, less the deskew delay (1/65,536 ns). -/
  | ptpSync (rx : Rx) (stamp : Nat)
  /-- R333: a Follow_Up message. -/
  | ptpFollowUp (rx : Rx) (stamp : Nat)
  /-- R333: a Pdelay_Req message. -/
  | ptpPdelayReq (rx : Rx) (stamp : Nat)
  /-- R333: a Pdelay_Resp message. -/
  | ptpPdelayResp (rx : Rx) (stamp : Nat)
  /-- R333: a Pdelay_Resp_Follow_Up message. -/
  | ptpPdelayRespFollowUp (rx : Rx) (stamp : Nat)
  /-- R329: the Sync interval passes. -/
  | syncInterval
  /-- R329: the Pdelay_Req interval passes. -/
  | pdelayInterval
  /-- R334: no usable Sync for four intervals. -/
  | syncLossTimeout
  /-- R327: a write of TIM.STEP. -/
  | timeStep (m : Master) (data : Nat)
  /-- R326: a read of TIM.TIME. -/
  | timeReadCapture (m : Master)
  /-- R336: the scheduled time of a trigger's next edge is reached. -/
  | triggerEdge (trigger : Nat)
  /-- R337: a write of TIM.TRIG_CTRL with UPDATE set. -/
  | triggerUpdate (m : Master) (trigger data : Nat)
  /-- R339: an edge on a capture source (numbered as TIM.CAP_CFG.SOURCE). -/
  | captureEdge (source : Nat) (falling : Bool)
  /-- R339: a write of TIM.CAP_POP. -/
  | capPop (m : Master) (channel data : Nat)
  /-- R331: a write of TIM.TXQ_FIND. -/
  | txqFind (m : Master) (port data : Nat)
  /-- R331: a port's oldest transmit stamp is older than 1 s. -/
  | txqAgeExpiry (port : Nat)
  /-- R354: tREFIpb passes; the banks (channel × 48 + rank × 16 + bank) that stayed in use without a free slot since the last. -/
  | refreshInterval (inUse : List Nat)
  /-- R350: a rank's read centring is checked and moved by a step of −1, 0 or 1 sixty-fourth of a unit interval. -/
  | readCentringCheck (channel rank : Nat) (step : Int)
  /-- R351: the scrubber reads its next word; what it finds: 0 nothing, 1 a correctable, 2 an uncorrectable error. -/
  | scrubPass (word : ScrubWord) (found : Nat)
  /-- R357: a write of DMC.SPEED with GO = 1. -/
  | speedGo (m : Master) (data : Nat)
  /-- R357: a speed change ends. -/
  | speedChangeDone
  /-- R360: the running migration has copied its last block. -/
  | migrationDone
  /-- R365: a write of DMC.LOOP with START = 1 on a channel. -/
  | dmcLoop (m : Master) (channel data : Nat)
  /-- R365: a channel's loop ends with bit errors and the lane with the most. -/
  | dmcLoopDone (channel errors lane : Nat)
  /-- R372: a write of LFT.BUF_CLAIM with CLAIM = 1. -/
  | bufClaim (m : Master) (data : Nat)
  /-- R372: a write of LFT.BUF_CLAIM with RELEASE = 1. -/
  | bufRelease (m : Master) (data : Nat)
  /-- R373: an 8-byte write of LFT.BUF_DATA, or an 8-byte read. -/
  | bufDataAccess (m : Master) (write : Option Nat)
  /-- R373: an 8-byte write of LFT.BUF_FILL. -/
  | bufFill (m : Master) (data : Nat)
  /-- R373: a fill ends. -/
  | bufFillDone
  /-- R374: a write of LFT.STORE_LEN; the HOLDUP voltage measured at the time, in mV (R378). -/
  | store (m : Master) (length holdupMv : Nat)
  /-- R376: a commit ends. -/
  | commitDone
  /-- R369, R388: an 8-byte read of LFT.RD_DATA; what the check of the word found: 0 nothing, 1 a corrected bit, 2 an
  uncorrectable word. -/
  | loftReadData (m : Master) (found : Nat)
  /-- R369: the loft's own scrub commit. -/
  | loftScrub
  /-- R394: a write of CAL.REQ with NOW = 1. -/
  | groomNow (m : Master) (data : Nat)
  /-- R394, R395: Ozzizo starts a pass that is due, at the next boundary at which its conditions hold. -/
  | groomPassStart
  /-- R397, R400: the last band of a pass has been measured. -/
  | groomPassEnd
  /-- R401: the analysis of a pass ends with its result. -/
  | groomAnalysisDone (r : GroomResult)
  /-- R402: a write of CAL.APPLY with ARM = 1. -/
  | calApplyArm (m : Master) (data : Nat)
  /-- R390: the crystal is flagged bad. -/
  | xtalBad
  /-- R390: a window of the external reference detector: its edges, and the crystal's offset in 0.1 ppm. -/
  | refWindow (edges : Nat) (offset : Int)
  /-- R391: holdover has lasted 1 s. -/
  | refHoldoverTimeout
  /-- R391: the crystal has been good for 60 s. -/
  | xtalRecovered
  /-- R404, R405: inputs read at one instant: input, and its reading in 1/16 °C (an analogue input's 12-bit code); none where the
  converter cannot complete. -/
  | sensorSample (readings : List (Nat × Option Int))
  /-- R424: an ATTEST frame with a fragment of a CHALLENGE. -/
  | attestChallenge (rx : Rx)
  /-- R424: an ATTEST frame with a fragment of a STATEMENT. -/
  | attestStatement (rx : Rx)
  /-- R424: an ATTEST frame with a fragment of KEYS. -/
  | attestKeys (rx : Rx)
  /-- R424: an ATTEST frame with a fragment of a DONE. -/
  | attestDone (rx : Rx)
  /-- R426: 24 h have passed on the head. -/
  | reattestTimer
  /-- R430: Ozzizo handles the request that runs, a GET_IDENTITY. -/
  | getIdentity
  /-- R430: Ozzizo handles the request that runs, an ATTEST. -/
  | mbxAttest
  /-- R427: Ozzizo handles the request that runs, a CLAIM_OWNER. -/
  | claimOwner
  /-- R427: Ozzizo handles the request that runs, a REPLACE_OWNER. -/
  | replaceOwner
  /-- R427: Ozzizo handles the request that runs, a RELEASE_OWNER. -/
  | releaseOwner
  /-- R430: Ozzizo handles the request that runs, a SET_PAGE. -/
  | setPage
  /-- R430: Ozzizo handles the request that runs, a SET_LOFT_PROTECT. -/
  | setLoftProtect
  /-- R430: Ozzizo handles the request that runs, a LOFT_READ. -/
  | loftRead
  /-- R422: Ozzizo handles the request that runs, an FW_UPDATE. -/
  | fwUpdate
  /-- R428: Ozzizo handles the request that runs, an ENROL. -/
  | enrol
  /-- R428: Ozzizo handles the request that runs, an UNENROL. -/
  | unenrol
  /-- R430: Ozzizo handles the request that runs, a ROTATE_YARD_KEY. -/
  | rotateYardKey
  /-- R430: Ozzizo handles the request that runs, a PROTECTED_LOAD. -/
  | protectedLoad
  /-- R433: Ozzizo handles the request that runs, a DEBUG_UNLOCK. -/
  | debugUnlock
  /-- R430: Ozzizo handles the request that runs, a DEBUG_LOCK. -/
  | debugLock
  /-- R445: a place has become free in the error ring and a held entry is posted. -/
  | heldEntryPost
  /-- R446: the entry presented is serviced. -/
  | entryService
  /-- R448: 32 serviced entries or 10 s; whether an hour has passed since the last commit of the per-class counts. -/
  | logCommit (hour : Bool)
  /-- R460: a write of ERR.INJECT with ARM = 1. -/
  | errInjectArm (m : Master) (data : Nat)
  /-- R461: a read of a word of ERR.LOG_ENTRY. -/
  | logEntryCaptureRead (m : Master) (word : Nat)
  /-- R456: a write of BST.CTRL with GO = 1. -/
  | muckOutGo (m : Master) (data : Nat)
  /-- R456 steps 3 to 6: what the sequencer has found: whether the read-back of step 3 passed, the test clock in MHz, the PART
  words as R458 lays them out, and the entries of the repair map. -/
  | muckOutDone (readBack : Bool) (mhz : Nat) (parts repairs : List Nat)
  /-- R471, R488: the rails rise, or one has been below its reset threshold: TEST_EN at its end, and how far a running commit gets. -/
  | powerOnReset (testEn : Bool) (fate : CommitFate)
  /-- R471: PERST# is asserted with all rails valid. -/
  | perstAssert
  /-- R478: a write of GLB.RESET. -/
  | deviceReset (m : Master) (data : Nat)
  /-- R473: the PCI Express link leaves L0. -/
  | linkReset
  /-- R308: the PCI Express link reaches L0. -/
  | pcieLinkUp
  /-- R474: start-up after a reset, as far as the wait for the panel's drivers. -/
  | startUp (x : Start)
  /-- R474 step 6: the wait for the panel's drivers ends. -/
  | panelWaitEnd
  /-- R466: PWRFAIL_N is asserted. -/
  | pwrfailAssert
  /-- R466: the warning has been deasserted for 100 ms. -/
  | pwrfailDeassert
  /-- R465: a rail leaves its tolerance; its voltage in mV. -/
  | railOutOfRange (rail mv : Nat)
  /-- R470: a PLL loses lock. -/
  | pllUnlock (pll : Pll)
  /-- R465, R492: a rail crosses its LOW_WARN level or comes back within tolerance; its voltage in mV. -/
  | railReturnsToTolerance (rail mv : Nat)
deriving DecidableEq, Repr

end Sys2Proof
end

