-- ==== Sys2Proof/Config.lean ====
section
/-! DEFINITION. Config.lean: the values the spec leaves open, as constants with no body: nothing in Lean can evaluate one or
prove a value of it, so a statement holds for every value. Each names the rule that leaves it open and its log entry. -/

namespace Sys2Proof

/-- R9, R387: the value start-up takes from a loft image for the field of a number: the spec gives "L" and the record that
holds it, not the record's layout. Log entry 4. -/
opaque Config.loftField : List (Nat × Byte) → Nat → Nat

/-- A value the spec calls undefined, or states no result for, the n-th time one is taken. Log entry 5. -/
opaque Config.freeValue : Nat → Nat

/-- The bytes of a free value of a given length. Log entry 5. -/
opaque Config.freeBytes : Nat → Nat → List Byte

/-- R372: a byte of the commit buffer that nothing has written since a reset: the reset's number, the offset. Log entry 5. -/
opaque Config.bufByte : Nat → Nat → Byte

/-- R132: is a parameter block within range for a kernel of a package other than the base package? The spec gives such
kernels no fields. Log entry 13. -/
opaque Config.kernelBlockOk : Nat → Nat → List Byte → Bool

/-- R131: the pixels of a kernel of a package other than the base package: slot, kernel, pixel of a
subframe, channel. Log entry 13. -/
opaque Config.kernelPixel : Nat → Nat → Nat → Nat → Nat

/-- R201: the estimate the fusion filter makes of one axis: old position, old velocity and old observation time, the
observation and its time; the position for part 0, the velocity for part 1. The spec gives no filter. Log entry 14. -/
opaque Config.fuseAxis : Int → Int → Int → Int → Int → Nat → Int

/-- R259: the nodes of an overdrive bank that nothing has loaded since reset: bank, node. Log entry 16. -/
opaque Config.ovdNode : Nat → Nat → Nat

/-- R308: the bytes of the device's identity digest: SHA-384 of its identity public key. Log entry 18. -/
opaque Config.identityByte : Nat → Byte

/-- R306: which of the shortest ways to the head Ozzizo chooses for a device in an epoch: epoch, yard number. Log entry 19. -/
opaque Config.treeChoice : Nat → Nat → Nat

/-- R442: the number of the on-die macro that an error injected into a stall cache (1) or a band line buffer (2) meets: the
target, the stall or band. Log entry 26. -/
opaque Config.macroOf : Nat → Nat → Nat

/-- R184 stage 4: the shading gain (4.12) interpolated from the grid's bytes: width, height, Bayer position, column, row. The spec gives
neither the grid's placement nor the interpolation's precision. Log entry 29. -/
opaque Config.shadingGain : List Byte → Nat → Nat → Nat → Nat → Nat → Nat

/-- R184 stage 5: a channel of a pixel from its 5 × 5 window: BAYER × 4 + position, the window by rows, the channel. The spec gives
the kind of the interpolation, not its weights. Log entry 29. -/
opaque Config.demosaic : Nat → List Nat → Nat → Nat

/-- R367: the channels' longest read latency and bandwidth shares, which follow from memory timing: field number, time. Log
entry 31. -/
opaque Config.dramTiming : Nat → Nat → Nat

/-! ### Cryptography (R419 to R433). The spec names the algorithms and gives no values; log entry 20. -/

/-- SHA-384. -/
opaque Config.sha384 : List Byte → List Byte

/-- ECDSA P-384: does a signature of a digest verify with a public key? -/
opaque Config.verifies : List Byte → List Byte → List Byte → Bool

/-- R424: the identity key's signature of a digest, the n-th one made. -/
opaque Config.identitySign : Nat → List Byte → List Byte

/-- R424: the identity public key, an uncompressed P-384 point. -/
opaque Config.identityKey : List Byte

/-- R423: the identity certificate. -/
opaque Config.identityCert : List Byte

/-- R426: the public key of a certificate that chains to a Himiwick key; none of any other. -/
opaque Config.certKey : List Byte → Option (List Byte)

/-- R424: the public point of the n-th ephemeral key made. -/
opaque Config.ephemeralKey : Nat → List Byte

/-- R424: ECDH of the n-th ephemeral key with a public point. -/
opaque Config.ecdh : Nat → List Byte → List Byte

/-- R424: AES-256-GCM sealed under a key, IV and additional data: ciphertext and tag. -/
opaque Config.gcmSeal : List Byte → List Byte → List Byte → List Byte → List Byte

/-- R424: AES-256-GCM opened; none where the tag fails. -/
opaque Config.gcmOpen : List Byte → List Byte → List Byte → List Byte → Option (List Byte)

/-- R419: the fused digest of a Himiwick signing key. -/
opaque Config.fuseDigest : Nat → List Byte

/-- R419: the fused revoke bits of the four signing keys. -/
opaque Config.keysRevoked : Nat

/-- R433: the fuse DEBUG_DISABLE. -/
opaque Config.debugDisable : Bool

/-- R433: does a signature of a digest verify with a Himiwick key? -/
opaque Config.himiwickSigned : List Byte → List Byte → Bool

/-- R430: the address ÷ 64 of the secure region to which Ozzizo copies the n-th protected surface. Log entry 21. -/
opaque Config.protSurface : Nat → Nat

end Sys2Proof
end

