-- ==== Sys2Proof/Machine/Fields.lean ====
section
/-! DEFINITION. Machine/Fields.lean: what a register field is (R4 to R9), the shape of a register row, the page map (R38)
and the fields of the common page header (R40) and of the MSI-X table and pending bits (R48). -/

namespace Sys2Proof.Machine

/-- The access codes of R7. -/
inductive Acc where
  | ro | rw | wo | w1c | w1s | rc | rwl | srw
deriving DecidableEq, Repr

/-- The values of a field that are not reserved (R6). -/
inductive Legal where
  /-- No value is reserved. -/
  | any
  /-- The closed range is defined. -/
  | range (lo hi : Nat)
  /-- Zero and the closed range are defined. -/
  | zeroOr (lo hi : Nat)
  /-- Every value but one is defined. -/
  | but (v : Nat)
  /-- The multiples of four in the range are defined. -/
  | mult4 (lo hi : Nat)
  /-- An auxiliary queue's number (R86): tile and control queues are reserved values of BLT.QUEUE. -/
  | auxQueue
  /-- The capture sources of R343: 0 to 12 and 16 to 31. -/
  | capSource
  /-- A trigger 0 to 15, or 0x1F (R411). -/
  | drumSrc
  /-- A drum speed (R166); the facet count narrows it further, which the write of DRU.REQ judges. -/
  | drumRpm
deriving DecidableEq, Repr

/-- One field of a register: the register's device-local byte address (page times 0x1000 plus offset), the field's lowest
bit within the register, its width, its access code, its reset value, its defined values, whether it is plain (R45), and
whether its reset value is loaded from the loft (R9, "L"). -/
structure Field where
  addr : Nat
  lo : Nat
  w : Nat
  acc : Acc
  rst : Nat
  legal : Legal
  plain : Bool
  ld : Bool
deriving DecidableEq, Repr

/-- A field at an offset of a page. -/
def fld (page off lo w : Nat) (acc : Acc) (rst : Nat) (legal : Legal) (plain ld : Bool) : Field :=
  ⟨page * 0x1000 + off, lo, w, acc, rst, legal, plain, ld⟩

/-- The number under which State holds a field. -/
def Field.key (f : Field) : Nat := f.addr * 512 + f.lo

/-- One register row: the run of pages it stands on, its offset, how many of it there are on a page and at what stride,
its width in bits, and its fields by page within the run and index. -/
structure Reg where
  pLo : Nat
  pHi : Nat
  off : Nat
  n : Nat
  stride : Nat
  bits : Nat
  flds : Nat → Nat → List Field

/-- R38: first page, last page and ordinal of each block. -/
def blockRanges : List (Nat × Nat × Nat) :=
  [(0x000, 0x000, 0), (0x001, 0x00F, 1), (0x010, 0x01F, 2), (0x020, 0x03F, 3), (0x040, 0x04F, 4), (0x050, 0x05F, 5),
   (0x060, 0x06B, 6), (0x070, 0x070, 7), (0x080, 0x08F, 8), (0x090, 0x097, 9), (0x098, 0x099, 10), (0x0A0, 0x0AF, 11),
   (0x0B0, 0x0BF, 12), (0x0C0, 0x0CF, 13), (0x0D0, 0x0DC, 14), (0x0DD, 0x0DE, 15), (0x0F0, 0x0FF, 16),
   (0x100, 0x10F, 17), (0x110, 0x11F, 18), (0x120, 0x130, 19), (0x140, 0x14F, 20), (0x150, 0x15F, 21),
   (0x160, 0x16F, 22), (0x170, 0x17F, 23), (0x180, 0x18F, 24), (0x190, 0x19F, 25), (0x1A0, 0x1AF, 26)]

/-- The block whose range holds a page. -/
def blockOf (page : Nat) : Option (Nat × Nat × Nat) :=
  blockRanges.find? (fun b => decide (b.1 ≤ page) && decide (page ≤ b.2.1))

/-- R49: the reset vector of a page's entry: its block's ordinal, 0 for a page in no block's range. -/
def blockOrdinal (page : Nat) : Nat :=
  match blockOf page with
  | some b => b.2.2
  | none => 0

/-- R38: the pages a block implements, as runs. Pages inside a block's range that hold no register are reserved. -/
def implementedPages : List (Nat × Nat) :=
  [(0x000, 0x002), (0x007, 0x00F), (0x010, 0x010), (0x020, 0x021), (0x030, 0x03F), (0x040, 0x040), (0x050, 0x052),
   (0x060, 0x06B), (0x070, 0x070), (0x080, 0x084), (0x090, 0x099), (0x0A0, 0x0A3), (0x0B0, 0x0B8), (0x0BF, 0x0C0),
   (0x0D0, 0x0DE), (0x0F0, 0x102), (0x110, 0x113), (0x120, 0x130), (0x140, 0x141), (0x150, 0x152), (0x160, 0x163),
   (0x170, 0x171), (0x180, 0x181), (0x190, 0x190), (0x1A0, 0x1A0)]

/-- R38: is a page implemented? -/
def pageImplemented (page : Nat) : Bool :=
  implementedPages.any (fun r => decide (r.1 ≤ page) && decide (page ≤ r.2))

/-- R40: a page opens with the common header, but for the MSI-X table and its pending bits. -/
def pageHasHeader (page : Nat) : Bool := pageImplemented page && !(decide (0x008 ≤ page) && decide (page ≤ 0x00F))

/-- R40: PAGE_CAP.CTRL_PAGE: every page is a control page but GLB, HIF and INT pages (R36). -/
def ctrlPage (page : Nat) : Bool := decide (0x020 ≤ page)

/-- R42: the pages whose PAGE_CAP.HAS_MIRROR is 1. -/
def hasMirror (page : Nat) : Bool := [0x070, 0x080, 0x0A2, 0x0DC, 0x150].contains page

/-- R38, R39: the world the loft's defaults give a page (0 secure, 1 non-secure). -/
def defaultWorld (page : Nat) : Nat :=
  if page = 0x0BF then 0 else
  match blockOf page with
  | some b => if [20, 23, 25, 26].contains b.2.2 then 0 else 1
  | none => 1

/-- R38, R39: the owner the loft's defaults give a page (0 Ozzizo, 1 host). -/
def defaultOwner (page : Nat) : Nat :=
  if page = 0x0BF then 0 else
  match blockOf page with
  | some b => if [0, 1, 2, 3, 4, 5, 7, 11, 12, 13, 14].contains b.2.2 then 1 else 0
  | none => 0

/-- R39, R416: the pages whose world and owner are fixed non-secure and host. -/
def fixedHostPage (page : Nat) : Bool :=
  decide (page = 0x000) || decide (page = 0x002) || (decide (0x007 ≤ page) && decide (page ≤ 0x00F))

/-- R416: the pages whose world and owner are fixed secure and Ozzizo. -/
def fixedSecurePage (page : Nat) : Bool :=
  decide (page = 0x0BF) || (decide (0x140 ≤ page) && decide (page ≤ 0x14F)) ||
  (decide (0x170 ≤ page) && decide (page ≤ 0x17F)) || (decide (0x190 ≤ page) && decide (page ≤ 0x19F)) ||
  (decide (0x1A0 ≤ page) && decide (page ≤ 0x1AF))

/-! The common page header (R40). -/

def F.PAGE_CTRL_IRQ_GATE (pg : Nat) : Field := fld pg 0x008 16 1 .rw 0 .any true false
def F.IRQ_RAW (pg : Nat) : Field := fld pg 0x010 0 32 .ro 0 .any true false
def F.IRQ_EN (pg : Nat) : Field := fld pg 0x014 0 32 .rw 0 .any true false
def F.PAGE_SEC_LOCK (pg : Nat) : Field := fld pg 0x020 1 1 .srw 0 .any false true
def F.PAGE_SEC_WORLD (pg : Nat) : Field := fld pg 0x020 0 1 .srw 0 .any false true
def F.PAGE_OWNER_OWNER (pg : Nat) : Field := fld pg 0x024 0 1 .srw 0 .any false true
def F.ERR_FIRST_VALID (pg : Nat) : Field := fld pg 0x028 31 1 .w1c 0 .any false false
def F.ERR_FIRST_CODE (pg : Nat) : Field := fld pg 0x028 24 7 .ro 0 .any false false
def F.ERR_FIRST_MASTER (pg : Nat) : Field := fld pg 0x028 20 4 .ro 0 .any false false
def F.ERR_FIRST_OFFSET (pg : Nat) : Field := fld pg 0x028 0 12 .ro 0 .any false false
def F.ERR_COUNT (pg : Nat) : Field := fld pg 0x02C 0 16 .rc 0 .any true false
/-- ERR_INFO0 to ERR_INFO3 of a page. -/
def F.ERR_INFO (pg i : Nat) : Field := fld pg (0x030 + 4 * i) 0 32 .ro 0 .any false false
def F.PAGE_EFF_SEQ (pg : Nat) : Field := fld pg 0x040 0 32 .ro 0 .any false false
def F.PAGE_EFF_REASON_WORD (pg : Nat) : Field := fld pg 0x044 24 8 .ro 0 .any false false
def F.PAGE_EFF_REASON_REASON (pg : Nat) : Field := fld pg 0x044 0 4 .ro 0 .any false false

/-! The MSI-X table of 2,048 entries and its pending bits (R48), in the PCI Express layout: PRESUMED, log entry 6. -/

def F.MSIX_ADDR_LO (v : Nat) : Field := ⟨0x8000 + 16 * v, 0, 32, .rw, 0, .any, false, false⟩
def F.MSIX_ADDR_HI (v : Nat) : Field := ⟨0x8000 + 16 * v + 4, 0, 32, .rw, 0, .any, false, false⟩
def F.MSIX_DATA (v : Nat) : Field := ⟨0x8000 + 16 * v + 8, 0, 32, .rw, 0, .any, false, false⟩
def F.MSIX_MASK (v : Nat) : Field := ⟨0x8000 + 16 * v + 12, 0, 1, .rw, 1, .any, false, false⟩
/-- Pending bit of a vector, in the array at offset 0x7100. -/
def F.MSIX_PBA (v : Nat) : Field := ⟨0x7100 + 4 * (v / 32), v % 32, 1, .ro, 0, .any, false, false⟩

/-- R296: which lanes a group has: groups 0 to 11 transmit on 0 to 12 and receive on 16; groups 12 to 15 transmit on
0 to 8 and receive on 16 to 24 (R271). -/
def lanePresent (g lane : Nat) : Nat :=
  if g < 12 then (if lane ≤ 12 ∨ lane = 16 then 1 else 0)
  else (if lane ≤ 8 ∨ (16 ≤ lane ∧ lane ≤ 24) then 1 else 0)

/-- R343: the channel defaults of TIM.CAP_CFG.SOURCE. -/
def capDefaultSource (c : Nat) : Nat := [0, 1, 2, 3, 6, 9, 10, 16].getD c 0

/-- R6: is a value one of the field's defined values? -/
def Legal.ok (l : Legal) (v : Nat) : Bool :=
  match l with
  | .any => true
  | .range lo hi => decide (lo ≤ v) && decide (v ≤ hi)
  | .zeroOr lo hi => decide (v = 0) || (decide (lo ≤ v) && decide (v ≤ hi))
  | .but x => !decide (v = x)
  | .mult4 lo hi => decide (v % 4 = 0) && decide (lo ≤ v) && decide (v ≤ hi)
  | .auxQueue => decide (3601 ≤ v % 4096)
  | .capSource => decide (v ≤ 12) || decide (16 ≤ v)
  | .drumSrc => decide (v ≤ 15) || decide (v = 0x1F)
  | .drumRpm => decide (1200 ≤ v) && decide (v ≤ 4800)

end Sys2Proof.Machine
end

