-- ==== Sys2Proof/Machine/FieldsA.lean ====
section
/-! DEFINITION. The registers of GLB, HIF, INT, QMG, SCD, LAY, RSY, STL, DRU: every field of every register table of the spec under its own name
(its page and offset, its lowest bit, its width, its access code, its reset value, the values R6 lets a write store), and
one row per register. A field argument `p` is the page within the block's run of pages, `i` the index the table gives. -/

set_option linter.unusedVariables false

namespace Sys2Proof.Machine

def F.GLB_DEVICE_ID_PART : Field := fld 0x000 0x100 16 16 .ro 0x6012 .any false false
def F.GLB_DEVICE_ID_GRADE : Field := fld 0x000 0x100 12 4 .ro 0 .any false true
def F.GLB_DEVICE_ID_STEP_MAJOR : Field := fld 0x000 0x100 8 4 .ro 0x1 .any false false
def F.GLB_DEVICE_ID_STEP_MINOR : Field := fld 0x000 0x100 4 4 .ro 0x0 .any false false
/-- R3: `GLB.DEVICE_ID` (page 0x000, offset 0x100, 32 bits). -/
def R.GLB_DEVICE_ID : Reg := ⟨0x000, 0x000, 0x100, 1, 0, 32,
  fun _ _ => [F.GLB_DEVICE_ID_PART, F.GLB_DEVICE_ID_GRADE, F.GLB_DEVICE_ID_STEP_MAJOR, F.GLB_DEVICE_ID_STEP_MINOR]⟩

def F.HIF_BAR4_SLOT_UPPER : Field := fld 0x001 0x100 8 1 .rw 0 .any false false
def F.HIF_BAR4_SLOT_SLOT : Field := fld 0x001 0x100 0 6 .rw 0x00 .any false false
/-- R37: `HIF.BAR4_SLOT` (page 0x001, offset 0x100, 32 bits). -/
def R.HIF_BAR4_SLOT : Reg := ⟨0x001, 0x001, 0x100, 1, 0, 32,
  fun _ _ => [F.HIF_BAR4_SLOT_UPPER, F.HIF_BAR4_SLOT_SLOT]⟩

def F.HIF_FWD_TIMEOUT_MICROSECONDS : Field := fld 0x001 0x104 0 16 .rw 50 (.range 10 1000) false false
/-- R37: `HIF.FWD_TIMEOUT` (page 0x001, offset 0x104, 32 bits). -/
def R.HIF_FWD_TIMEOUT : Reg := ⟨0x001, 0x001, 0x104, 1, 0, 32,
  fun _ _ => [F.HIF_FWD_TIMEOUT_MICROSECONDS]⟩

def F.HIF_ACC_STATUS_VALID : Field := fld 0x001 0x108 31 1 .w1c 0 .any false false
def F.HIF_ACC_STATUS_CODE : Field := fld 0x001 0x108 24 7 .ro 0x00 .any false false
def F.HIF_ACC_STATUS_MASTER : Field := fld 0x001 0x108 20 4 .ro 0x0 .any false false
def F.HIF_ACC_STATUS_PAGE : Field := fld 0x001 0x108 11 9 .ro 0x000 .any false false
def F.HIF_ACC_STATUS_WORD : Field := fld 0x001 0x108 1 10 .ro 0x000 .any false false
/-- R37: `HIF.ACC_STATUS` (page 0x001, offset 0x108, 32 bits). -/
def R.HIF_ACC_STATUS : Reg := ⟨0x001, 0x001, 0x108, 1, 0, 32,
  fun _ _ => [F.HIF_ACC_STATUS_VALID, F.HIF_ACC_STATUS_CODE, F.HIF_ACC_STATUS_MASTER, F.HIF_ACC_STATUS_PAGE, F.HIF_ACC_STATUS_WORD]⟩

def F.HIF_ACC_DROPS_COUNT : Field := fld 0x001 0x10C 0 32 .rc 0 .any false false
/-- R37: `HIF.ACC_DROPS` (page 0x001, offset 0x10C, 32 bits). -/
def R.HIF_ACC_DROPS : Reg := ⟨0x001, 0x001, 0x10C, 1, 0, 32,
  fun _ _ => [F.HIF_ACC_DROPS_COUNT]⟩

def F.HIF_SLOT_PRESENT_SLOTS : Field := fld 0x001 0x110 0 64 .ro 0x1 .any false false
/-- R37: `HIF.SLOT_PRESENT` (page 0x001, offset 0x110, 64 bits). -/
def R.HIF_SLOT_PRESENT : Reg := ⟨0x001, 0x001, 0x110, 1, 0, 64,
  fun _ _ => [F.HIF_SLOT_PRESENT_SLOTS]⟩

def F.HIF_YARD_ROLE_ROLE : Field := fld 0x001 0x118 0 2 .ro 0b00 .any false false
/-- R37: `HIF.YARD_ROLE` (page 0x001, offset 0x118, 32 bits). -/
def R.HIF_YARD_ROLE : Reg := ⟨0x001, 0x001, 0x118, 1, 0, 32,
  fun _ _ => [F.HIF_YARD_ROLE_ROLE]⟩

def F.INT_VEC_EN (i : Nat) : Field := fld 0x010 (0x100 + 4 * i) 15 1 .rw 1 .any true false
def F.INT_VEC_VECTOR (i : Nat) : Field := fld 0x010 (0x100 + 4 * i) 0 11 .rw (blockOrdinal i) .any true false
/-- R49: `INT.VEC` (page 0x010, offset 0x100 and 431 more at stride 4, 32 bits). -/
def R.INT_VEC : Reg := ⟨0x010, 0x010, 0x100, 432, 4, 32,
  fun _ i => [F.INT_VEC_EN i, F.INT_VEC_VECTOR i]⟩

def F.INT_PAGE_PEND_PAGES (i : Nat) : Field := fld 0x010 (0x800 + 4 * i) 0 32 .ro 0x0 .any true false
/-- R49: `INT.PAGE_PEND` (page 0x010, offset 0x800 and 13 more at stride 4, 32 bits). -/
def R.INT_PAGE_PEND : Reg := ⟨0x010, 0x010, 0x800, 14, 4, 32,
  fun _ i => [F.INT_PAGE_PEND_PAGES i]⟩

def F.QMG_CTX_BASE_ADDR : Field := fld 0x020 0x100 23 13 .rwl 0 .any false true
/-- R95: `QMG.CTX_BASE` (page 0x020, offset 0x100, 64 bits). -/
def R.QMG_CTX_BASE : Reg := ⟨0x020, 0x020, 0x100, 1, 0, 64,
  fun _ _ => [F.QMG_CTX_BASE_ADDR]⟩

def F.QMG_CTRL_ENABLE : Field := fld 0x020 0x108 0 1 .rw 0 .any false false
/-- R95: `QMG.CTRL` (page 0x020, offset 0x108, 32 bits). -/
def R.QMG_CTRL : Reg := ⟨0x020, 0x020, 0x108, 1, 0, 32,
  fun _ _ => [F.QMG_CTRL_ENABLE]⟩

def F.QMG_DB_DROPS_COUNT : Field := fld 0x020 0x10C 0 32 .rc 0 .any false false
/-- R95: `QMG.DB_DROPS` (page 0x020, offset 0x10C, 32 bits). -/
def R.QMG_DB_DROPS : Reg := ⟨0x020, 0x020, 0x10C, 1, 0, 32,
  fun _ _ => [F.QMG_DB_DROPS_COUNT]⟩

def F.QMG_CTX_CMD_BUSY : Field := fld 0x021 0x100 31 1 .ro 0 .any false false
def F.QMG_CTX_CMD_OP : Field := fld 0x021 0x100 24 3 .rw 0 .any false false
def F.QMG_CTX_CMD_QUEUE : Field := fld 0x021 0x100 0 18 .rw 0x00000 .any false false
/-- R95: `QMG.CTX_CMD` (page 0x021, offset 0x100, 32 bits). -/
def R.QMG_CTX_CMD : Reg := ⟨0x021, 0x021, 0x100, 1, 0, 32,
  fun _ _ => [F.QMG_CTX_CMD_BUSY, F.QMG_CTX_CMD_OP, F.QMG_CTX_CMD_QUEUE]⟩

def F.QMG_CTX_RESULT_RESULT : Field := fld 0x021 0x104 0 2 .ro 0 .any false false
/-- R95: `QMG.CTX_RESULT` (page 0x021, offset 0x104, 32 bits). -/
def R.QMG_CTX_RESULT : Reg := ⟨0x021, 0x021, 0x104, 1, 0, 32,
  fun _ _ => [F.QMG_CTX_RESULT_RESULT]⟩

def F.QMG_CTX_DATA_DATA (i : Nat) : Field := fld 0x021 (0x120 + 4 * i) 0 32 .rw 0 .any false false
/-- R95: `QMG.CTX_DATA` (page 0x021, offset 0x120 and 7 more at stride 4, 32 bits). -/
def R.QMG_CTX_DATA : Reg := ⟨0x021, 0x021, 0x120, 8, 4, 32,
  fun _ i => [F.QMG_CTX_DATA_DATA i]⟩

def F.QMG_CQ_BASE_ADDR (p : Nat) : Field := fld (0x030 + p) 0x100 6 58 .rw 0 .any false false
def F.QMG_CQ_BASE_HOST (p : Nat) : Field := fld (0x030 + p) 0x100 0 1 .rw 0 .any false false
/-- R102: `QMG.CQ_BASE` (pages 0x030 to 0x03F, offset 0x100, 64 bits). -/
def R.QMG_CQ_BASE : Reg := ⟨0x030, 0x03F, 0x100, 1, 0, 64,
  fun p _ => [F.QMG_CQ_BASE_ADDR p, F.QMG_CQ_BASE_HOST p]⟩

def F.QMG_CQ_SIZE_CQ_LOG2 (p : Nat) : Field := fld (0x030 + p) 0x108 0 5 .rw 0 (.zeroOr 4 16) false false
/-- R102: `QMG.CQ_SIZE` (pages 0x030 to 0x03F, offset 0x108, 32 bits). -/
def R.QMG_CQ_SIZE : Reg := ⟨0x030, 0x03F, 0x108, 1, 0, 32,
  fun p _ => [F.QMG_CQ_SIZE_CQ_LOG2 p]⟩

def F.QMG_CQ_HEAD_HEAD (p : Nat) : Field := fld (0x030 + p) 0x10C 0 32 .rw 0 .any false false
/-- R102: `QMG.CQ_HEAD` (pages 0x030 to 0x03F, offset 0x10C, 32 bits). -/
def R.QMG_CQ_HEAD : Reg := ⟨0x030, 0x03F, 0x10C, 1, 0, 32,
  fun p _ => [F.QMG_CQ_HEAD_HEAD p]⟩

def F.QMG_CQ_TAIL_TAIL (p : Nat) : Field := fld (0x030 + p) 0x110 0 32 .ro 0 .any false false
/-- R102: `QMG.CQ_TAIL` (pages 0x030 to 0x03F, offset 0x110, 32 bits). -/
def R.QMG_CQ_TAIL : Reg := ⟨0x030, 0x03F, 0x110, 1, 0, 32,
  fun p _ => [F.QMG_CQ_TAIL_TAIL p]⟩

def F.QMG_CQ_MOD_MICROSECONDS (p : Nat) : Field := fld (0x030 + p) 0x114 8 16 .rw 0 .any false false
def F.QMG_CQ_MOD_COUNT (p : Nat) : Field := fld (0x030 + p) 0x114 0 8 .rw 1 .any false false
/-- R102: `QMG.CQ_MOD` (pages 0x030 to 0x03F, offset 0x114, 32 bits). -/
def R.QMG_CQ_MOD : Reg := ⟨0x030, 0x03F, 0x114, 1, 0, 32,
  fun p _ => [F.QMG_CQ_MOD_MICROSECONDS p, F.QMG_CQ_MOD_COUNT p]⟩

def F.SCD_STATUS_COUNT_COUNT (i : Nat) : Field := fld 0x040 (0x100 + 4 * i) 0 32 .rc 0 .any false false
/-- R106: `SCD.STATUS_COUNT` (page 0x040, offset 0x100 and 10 more at stride 4, 32 bits). -/
def R.SCD_STATUS_COUNT : Reg := ⟨0x040, 0x040, 0x100, 11, 4, 32,
  fun _ i => [F.SCD_STATUS_COUNT_COUNT i]⟩

def F.SCD_UNITS_HELD : Field := fld 0x040 0x140 8 7 .ro 0 .any false false
def F.SCD_UNITS_BUSY : Field := fld 0x040 0x140 0 6 .ro 0 .any false false
/-- R106: `SCD.UNITS` (page 0x040, offset 0x140, 32 bits). -/
def R.SCD_UNITS : Reg := ⟨0x040, 0x040, 0x140, 1, 0, 32,
  fun _ _ => [F.SCD_UNITS_HELD, F.SCD_UNITS_BUSY]⟩

def F.LAY_TILE_BASE_ADDR : Field := fld 0x050 0x100 12 24 .rwl 0 .any false true
/-- R117: `LAY.TILE_BASE` (page 0x050, offset 0x100, 64 bits). -/
def R.LAY_TILE_BASE : Reg := ⟨0x050, 0x050, 0x100, 1, 0, 64,
  fun _ _ => [F.LAY_TILE_BASE_ADDR]⟩

def F.LAY_RETAIN_BASE_ADDR : Field := fld 0x050 0x108 12 24 .rwl 0 .any false true
def F.LAY_RETAIN_BASE_EN : Field := fld 0x050 0x108 0 1 .rwl 0 .any false true
/-- R117: `LAY.RETAIN_BASE` (page 0x050, offset 0x108, 64 bits). -/
def R.LAY_RETAIN_BASE : Reg := ⟨0x050, 0x050, 0x108, 1, 0, 64,
  fun _ _ => [F.LAY_RETAIN_BASE_ADDR, F.LAY_RETAIN_BASE_EN]⟩

def F.LAY_LATCH_LEAD_MICROSECONDS : Field := fld 0x050 0x110 0 7 .rw 20 (.range 5 100) false false
/-- R117: `LAY.LATCH_LEAD` (page 0x050, offset 0x110, 32 bits). -/
def R.LAY_LATCH_LEAD : Reg := ⟨0x050, 0x050, 0x110, 1, 0, 32,
  fun _ _ => [F.LAY_LATCH_LEAD_MICROSECONDS]⟩

def F.LAY_DISPLAYED_SET : Field := fld 0x050 0x114 0 2 .ro 0 .any false false
/-- R117: `LAY.DISPLAYED` (page 0x050, offset 0x114, 32 bits). -/
def R.LAY_DISPLAYED : Reg := ⟨0x050, 0x050, 0x114, 1, 0, 32,
  fun _ _ => [F.LAY_DISPLAYED_SET]⟩

def F.LAY_SUBFRAME_NUMBER : Field := fld 0x050 0x118 0 64 .ro 0 .any false false
/-- R117: `LAY.SUBFRAME` (page 0x050, offset 0x118, 64 bits). -/
def R.LAY_SUBFRAME : Reg := ⟨0x050, 0x050, 0x118, 1, 0, 64,
  fun _ _ => [F.LAY_SUBFRAME_NUMBER]⟩

def F.LAY_SET_STATUS_COMMIT_SUBFRAME (i : Nat) : Field := fld 0x050 (0x120 + 16 * i) 64 64 .ro 0 .any false false
def F.LAY_SET_STATUS_COMMIT_TAG (i : Nat) : Field := fld 0x050 (0x120 + 16 * i) 32 32 .ro 0 .any false false
def F.LAY_SET_STATUS_READY (i : Nat) : Field := fld 0x050 (0x120 + 16 * i) 17 1 .ro 0 .any false false
def F.LAY_SET_STATUS_WAITING (i : Nat) : Field := fld 0x050 (0x120 + 16 * i) 16 1 .ro 0 .any false false
def F.LAY_SET_STATUS_STREAM_TAG (i : Nat) : Field := fld 0x050 (0x120 + 16 * i) 0 16 .ro 0 .any false false
/-- R117: `LAY.SET_STATUS` (page 0x050, offset 0x120 and 3 more at stride 16, 128 bits). -/
def R.LAY_SET_STATUS : Reg := ⟨0x050, 0x050, 0x120, 4, 16, 128,
  fun _ i => [F.LAY_SET_STATUS_COMMIT_SUBFRAME i, F.LAY_SET_STATUS_COMMIT_TAG i, F.LAY_SET_STATUS_READY i, F.LAY_SET_STATUS_WAITING i, F.LAY_SET_STATUS_STREAM_TAG i]⟩

def F.LAY_ENABLE_FRONT_MASK (i : Nat) : Field := fld 0x050 (0x160 + 8 * i) 0 64 .ro 0 .any false false
/-- R117: `LAY.ENABLE_FRONT` (page 0x050, offset 0x160 and 3 more at stride 8, 64 bits). -/
def R.LAY_ENABLE_FRONT : Reg := ⟨0x050, 0x050, 0x160, 4, 8, 64,
  fun _ i => [F.LAY_ENABLE_FRONT_MASK i]⟩

def F.LAY_ENABLE_BACK_MASK (i : Nat) : Field := fld 0x050 (0x180 + 8 * i) 0 64 .ro 0 .any false false
/-- R117: `LAY.ENABLE_BACK` (page 0x050, offset 0x180 and 3 more at stride 8, 64 bits). -/
def R.LAY_ENABLE_BACK : Reg := ⟨0x050, 0x050, 0x180, 4, 8, 64,
  fun _ i => [F.LAY_ENABLE_BACK_MASK i]⟩

def F.LAY_TILE_QUERY_SET : Field := fld 0x050 0x1A0 18 2 .rw 0 .any false false
def F.LAY_TILE_QUERY_LAYER : Field := fld 0x050 0x1A0 12 6 .rw 0 .any false false
def F.LAY_TILE_QUERY_TILE : Field := fld 0x050 0x1A0 0 12 .rw 0 (.range 0 3599) false false
/-- R117: `LAY.TILE_QUERY` (page 0x050, offset 0x1A0, 32 bits). -/
def R.LAY_TILE_QUERY : Reg := ⟨0x050, 0x050, 0x1A0, 1, 0, 32,
  fun _ _ => [F.LAY_TILE_QUERY_SET, F.LAY_TILE_QUERY_LAYER, F.LAY_TILE_QUERY_TILE]⟩

def F.LAY_TILE_STATE_HELD : Field := fld 0x050 0x1A4 6 1 .ro 0 .any false false
def F.LAY_TILE_STATE_RELEASING : Field := fld 0x050 0x1A4 5 1 .ro 0 .any false false
def F.LAY_TILE_STATE_RETAINED_FRONT : Field := fld 0x050 0x1A4 4 1 .ro 0 .any false false
def F.LAY_TILE_STATE_EMPTY_BACK : Field := fld 0x050 0x1A4 3 1 .ro 1 .any false false
def F.LAY_TILE_STATE_EMPTY_FRONT : Field := fld 0x050 0x1A4 2 1 .ro 1 .any false false
def F.LAY_TILE_STATE_PENDING : Field := fld 0x050 0x1A4 1 1 .ro 0 .any false false
def F.LAY_TILE_STATE_FRONT : Field := fld 0x050 0x1A4 0 1 .ro 0 .any false false
/-- R117: `LAY.TILE_STATE` (page 0x050, offset 0x1A4, 32 bits). -/
def R.LAY_TILE_STATE : Reg := ⟨0x050, 0x050, 0x1A4, 1, 0, 32,
  fun _ _ => [F.LAY_TILE_STATE_HELD, F.LAY_TILE_STATE_RELEASING, F.LAY_TILE_STATE_RETAINED_FRONT, F.LAY_TILE_STATE_EMPTY_BACK, F.LAY_TILE_STATE_EMPTY_FRONT, F.LAY_TILE_STATE_PENDING, F.LAY_TILE_STATE_FRONT]⟩

def F.LAY_FENCE_VALUE (i : Nat) : Field := fld 0x051 (0x100 + 8 * i) 0 64 .rw 0 .any true false
/-- R117: `LAY.FENCE` (page 0x051, offset 0x100 and 255 more at stride 8, 64 bits). -/
def R.LAY_FENCE : Reg := ⟨0x051, 0x051, 0x100, 256, 8, 64,
  fun _ i => [F.LAY_FENCE_VALUE i]⟩

def F.LAY_FENCE_MAX_VALUE (i : Nat) : Field := fld 0x052 (0x100 + 8 * i) 0 64 .wo 0 .any true false
/-- R117: `LAY.FENCE_MAX` (page 0x052, offset 0x100 and 255 more at stride 8, 64 bits). -/
def R.LAY_FENCE_MAX : Reg := ⟨0x052, 0x052, 0x100, 256, 8, 64,
  fun _ i => [F.LAY_FENCE_MAX_VALUE i]⟩

def F.RSY_ALPHA_STOP_LEVEL : Field := fld 0x070 0x100 0 16 .rw 0xFEF9 (.range 0x8000 0xFFFF) false false
/-- R145: `RSY.ALPHA_STOP` (page 0x070, offset 0x100, 32 bits). -/
def R.RSY_ALPHA_STOP : Reg := ⟨0x070, 0x070, 0x100, 1, 0, 32,
  fun _ _ => [F.RSY_ALPHA_STOP_LEVEL]⟩

def F.RSY_KSEL_SLOT : Field := fld 0x070 0x108 16 2 .rw 0 .any false false
def F.RSY_KSEL_KERNEL : Field := fld 0x070 0x108 0 16 .rw 0x0100 .any false false
/-- R145: `RSY.KSEL` (page 0x070, offset 0x108, 32 bits). -/
def R.RSY_KSEL : Reg := ⟨0x070, 0x070, 0x108, 1, 0, 32,
  fun _ _ => [F.RSY_KSEL_SLOT, F.RSY_KSEL_KERNEL]⟩

def F.RSY_KPARAM_ADDR_ADDR : Field := fld 0x070 0x110 6 30 .rw 0 .any false false
/-- R145: `RSY.KPARAM_ADDR` (page 0x070, offset 0x110, 64 bits). -/
def R.RSY_KPARAM_ADDR : Reg := ⟨0x070, 0x070, 0x110, 1, 0, 64,
  fun _ _ => [F.RSY_KPARAM_ADDR_ADDR]⟩

def F.RSY_KSEL_ARM_ARM : Field := fld 0x070 0x118 0 1 .wo 0 .any false false
/-- R145: `RSY.KSEL_ARM` (page 0x070, offset 0x118, 32 bits). -/
def R.RSY_KSEL_ARM : Reg := ⟨0x070, 0x070, 0x118, 1, 0, 32,
  fun _ _ => [F.RSY_KSEL_ARM_ARM]⟩

def F.RSY_KSEL_STATUS_BUSY : Field := fld 0x070 0x11C 31 1 .ro 0 .any false false
def F.RSY_KSEL_STATUS_CODE : Field := fld 0x070 0x11C 0 8 .ro 0x00 .any false false
/-- R145: `RSY.KSEL_STATUS` (page 0x070, offset 0x11C, 32 bits). -/
def R.RSY_KSEL_STATUS : Reg := ⟨0x070, 0x070, 0x11C, 1, 0, 32,
  fun _ _ => [F.RSY_KSEL_STATUS_BUSY, F.RSY_KSEL_STATUS_CODE]⟩

def F.RSY_LDELTA_ADDR_ADDR : Field := fld 0x070 0x120 6 30 .rw 0 .any false false
/-- R145: `RSY.LDELTA_ADDR` (page 0x070, offset 0x120, 64 bits). -/
def R.RSY_LDELTA_ADDR : Reg := ⟨0x070, 0x070, 0x120, 1, 0, 64,
  fun _ _ => [F.RSY_LDELTA_ADDR_ADDR]⟩

def F.RSY_LDELTA_ARM_FIRST_ROW : Field := fld 0x070 0x128 16 10 .wo 0 .any false false
def F.RSY_LDELTA_ARM_ARM : Field := fld 0x070 0x128 0 1 .wo 0 .any false false
/-- R145: `RSY.LDELTA_ARM` (page 0x070, offset 0x128, 32 bits). -/
def R.RSY_LDELTA_ARM : Reg := ⟨0x070, 0x070, 0x128, 1, 0, 32,
  fun _ _ => [F.RSY_LDELTA_ARM_FIRST_ROW, F.RSY_LDELTA_ARM_ARM]⟩

def F.RSY_LDELTA_STATUS_BUSY : Field := fld 0x070 0x12C 31 1 .ro 0 .any false false
def F.RSY_LDELTA_STATUS_PENDING : Field := fld 0x070 0x12C 30 1 .ro 0 .any false false
def F.RSY_LDELTA_STATUS_CODE : Field := fld 0x070 0x12C 0 8 .ro 0x00 .any false false
/-- R145: `RSY.LDELTA_STATUS` (page 0x070, offset 0x12C, 32 bits). -/
def R.RSY_LDELTA_STATUS : Reg := ⟨0x070, 0x070, 0x12C, 1, 0, 32,
  fun _ _ => [F.RSY_LDELTA_STATUS_BUSY, F.RSY_LDELTA_STATUS_PENDING, F.RSY_LDELTA_STATUS_CODE]⟩

def F.RSY_PKG_ADDR_ADDR : Field := fld 0x070 0x130 6 30 .rw 0 .any false false
/-- R145: `RSY.PKG_ADDR` (page 0x070, offset 0x130, 64 bits). -/
def R.RSY_PKG_ADDR : Reg := ⟨0x070, 0x070, 0x130, 1, 0, 64,
  fun _ _ => [F.RSY_PKG_ADDR_ADDR]⟩

def F.RSY_PKG_CMD_BUSY : Field := fld 0x070 0x138 31 1 .ro 0 .any false false
def F.RSY_PKG_CMD_SLOT : Field := fld 0x070 0x138 0 2 .rw 0 .any false false
/-- R145: `RSY.PKG_CMD` (page 0x070, offset 0x138, 32 bits). -/
def R.RSY_PKG_CMD : Reg := ⟨0x070, 0x070, 0x138, 1, 0, 32,
  fun _ _ => [F.RSY_PKG_CMD_BUSY, F.RSY_PKG_CMD_SLOT]⟩

def F.RSY_PKG_STATUS_CODE : Field := fld 0x070 0x13C 0 8 .ro 0x00 .any false false
/-- R145: `RSY.PKG_STATUS` (page 0x070, offset 0x13C, 32 bits). -/
def R.RSY_PKG_STATUS : Reg := ⟨0x070, 0x070, 0x13C, 1, 0, 32,
  fun _ _ => [F.RSY_PKG_STATUS_CODE]⟩

def F.RSY_PKG_INFO_VERSION (i : Nat) : Field := fld 0x070 (0x140 + 8 * i) 32 32 .ro 0 .any false true
def F.RSY_PKG_INFO_VALID (i : Nat) : Field := fld 0x070 (0x140 + 8 * i) 16 1 .ro 0 .any false true
def F.RSY_PKG_INFO_KERNELS (i : Nat) : Field := fld 0x070 (0x140 + 8 * i) 0 16 .ro 0 .any false true
/-- R145: `RSY.PKG_INFO` (page 0x070, offset 0x140 and 3 more at stride 8, 64 bits). -/
def R.RSY_PKG_INFO : Reg := ⟨0x070, 0x070, 0x140, 4, 8, 64,
  fun _ i => [F.RSY_PKG_INFO_VERSION i, F.RSY_PKG_INFO_VALID i, F.RSY_PKG_INFO_KERNELS i]⟩

def F.RSY_TAN_PER_PITCH_VALUE : Field := fld 0x070 0x160 0 24 .ro 0 .any false true
/-- R145: `RSY.TAN_PER_PITCH` (page 0x070, offset 0x160, 32 bits). -/
def R.RSY_TAN_PER_PITCH : Reg := ⟨0x070, 0x070, 0x160, 1, 0, 32,
  fun _ _ => [F.RSY_TAN_PER_PITCH_VALUE]⟩

def F.RSY_FACET_SLOPE_VALUE : Field := fld 0x070 0x164 0 24 .ro 0 .any false true
/-- R145: `RSY.FACET_SLOPE` (page 0x070, offset 0x164, 32 bits). -/
def R.RSY_FACET_SLOPE : Reg := ⟨0x070, 0x070, 0x164, 1, 0, 32,
  fun _ _ => [F.RSY_FACET_SLOPE_VALUE]⟩

def F.RSY_FACET_OFFSET_VALUE (i : Nat) : Field := fld 0x070 (0x170 + 4 * i) 0 24 .ro 0 .any false true
/-- R145: `RSY.FACET_OFFSET` (page 0x070, offset 0x170 and 7 more at stride 4, 32 bits). -/
def R.RSY_FACET_OFFSET : Reg := ⟨0x070, 0x070, 0x170, 8, 4, 32,
  fun _ i => [F.RSY_FACET_OFFSET_VALUE i]⟩

def F.RSY_BAND_KERNEL_SLOT (i : Nat) : Field := fld 0x070 (0x190 + 4 * i) 16 2 .ro 0 .any false false
def F.RSY_BAND_KERNEL_KERNEL (i : Nat) : Field := fld 0x070 (0x190 + 4 * i) 0 16 .ro 0x0100 .any false false
/-- R145: `RSY.BAND_KERNEL` (page 0x070, offset 0x190 and 11 more at stride 4, 32 bits). -/
def R.RSY_BAND_KERNEL : Reg := ⟨0x070, 0x070, 0x190, 12, 4, 32,
  fun _ i => [F.RSY_BAND_KERNEL_SLOT i, F.RSY_BAND_KERNEL_KERNEL i]⟩

def F.RSY_RAY_COUNT_COUNT : Field := fld 0x070 0x1C0 0 64 .rc 0 .any false false
/-- R145: `RSY.RAY_COUNT` (page 0x070, offset 0x1C0, 64 bits). -/
def R.RSY_RAY_COUNT : Reg := ⟨0x070, 0x070, 0x1C0, 1, 0, 64,
  fun _ _ => [F.RSY_RAY_COUNT_COUNT]⟩

def F.RSY_SAMPLE_COUNT_COUNT : Field := fld 0x070 0x1C8 0 64 .rc 0 .any false false
/-- R145: `RSY.SAMPLE_COUNT` (page 0x070, offset 0x1C8, 64 bits). -/
def R.RSY_SAMPLE_COUNT : Reg := ⟨0x070, 0x070, 0x1C8, 1, 0, 64,
  fun _ _ => [F.RSY_SAMPLE_COUNT_COUNT]⟩

def F.STL_STATE_STATE (p : Nat) : Field := fld (0x060 + p) 0x100 30 2 .ro 0 .any false true
def F.STL_STATE_DUTY (p : Nat) : Field := fld (0x060 + p) 0x100 24 4 .ro 0 .any false true
def F.STL_STATE_LANE_CLOCK (p : Nat) : Field := fld (0x060 + p) 0x100 22 2 .ro 0 .any false false
def F.STL_STATE_SPARES (p : Nat) : Field := fld (0x060 + p) 0x100 16 2 .ro 0 .any false true
def F.STL_STATE_ENGINES (p : Nat) : Field := fld (0x060 + p) 0x100 0 16 .ro 0 .any false true
/-- R147: `STL.STATE` (pages 0x060 to 0x06B, offset 0x100, 32 bits). -/
def R.STL_STATE : Reg := ⟨0x060, 0x06B, 0x100, 1, 0, 32,
  fun p _ => [F.STL_STATE_STATE p, F.STL_STATE_DUTY p, F.STL_STATE_LANE_CLOCK p, F.STL_STATE_SPARES p, F.STL_STATE_ENGINES p]⟩

def F.STL_BANDS_TAKE1_HALF (p : Nat) : Field := fld (0x060 + p) 0x104 21 1 .ro 0 .any false false
def F.STL_BANDS_TAKE1_VALID (p : Nat) : Field := fld (0x060 + p) 0x104 20 1 .ro 0 .any false false
def F.STL_BANDS_TAKE1_BAND (p : Nat) : Field := fld (0x060 + p) 0x104 16 4 .ro 0 .any false false
def F.STL_BANDS_TAKE0_HALF (p : Nat) : Field := fld (0x060 + p) 0x104 13 1 .ro 0 .any false false
def F.STL_BANDS_TAKE0_VALID (p : Nat) : Field := fld (0x060 + p) 0x104 12 1 .ro 0 .any false false
def F.STL_BANDS_TAKE0_BAND (p : Nat) : Field := fld (0x060 + p) 0x104 8 4 .ro 0 .any false false
def F.STL_BANDS_OWN_VALID (p : Nat) : Field := fld (0x060 + p) 0x104 4 1 .ro 0 .any false true
def F.STL_BANDS_OWN_BAND (p : Nat) : Field := fld (0x060 + p) 0x104 0 4 .ro p .any false false
/-- R147: `STL.BANDS` (pages 0x060 to 0x06B, offset 0x104, 32 bits). -/
def R.STL_BANDS : Reg := ⟨0x060, 0x06B, 0x104, 1, 0, 32,
  fun p _ => [F.STL_BANDS_TAKE1_HALF p, F.STL_BANDS_TAKE1_VALID p, F.STL_BANDS_TAKE1_BAND p, F.STL_BANDS_TAKE0_HALF p, F.STL_BANDS_TAKE0_VALID p, F.STL_BANDS_TAKE0_BAND p, F.STL_BANDS_OWN_VALID p, F.STL_BANDS_OWN_BAND p]⟩

def F.STL_LOTS_RETIRED_COUNT (p : Nat) : Field := fld (0x060 + p) 0x110 0 32 .rc 0 .any false false
/-- R147: `STL.LOTS_RETIRED` (pages 0x060 to 0x06B, offset 0x110, 32 bits). -/
def R.STL_LOTS_RETIRED : Reg := ⟨0x060, 0x06B, 0x110, 1, 0, 32,
  fun p _ => [F.STL_LOTS_RETIRED_COUNT p]⟩

def F.STL_LOTS_LENT_COUNT (p : Nat) : Field := fld (0x060 + p) 0x114 0 32 .rc 0 .any false false
/-- R147: `STL.LOTS_LENT` (pages 0x060 to 0x06B, offset 0x114, 32 bits). -/
def R.STL_LOTS_LENT : Reg := ⟨0x060, 0x06B, 0x114, 1, 0, 32,
  fun p _ => [F.STL_LOTS_LENT_COUNT p]⟩

def F.STL_LOTS_BORROWED_COUNT (p : Nat) : Field := fld (0x060 + p) 0x118 0 32 .rc 0 .any false false
/-- R147: `STL.LOTS_BORROWED` (pages 0x060 to 0x06B, offset 0x118, 32 bits). -/
def R.STL_LOTS_BORROWED : Reg := ⟨0x060, 0x06B, 0x118, 1, 0, 32,
  fun p _ => [F.STL_LOTS_BORROWED_COUNT p]⟩

def F.STL_REISSUED_COUNT (p : Nat) : Field := fld (0x060 + p) 0x11C 0 32 .rc 0 .any false false
/-- R147: `STL.REISSUED` (pages 0x060 to 0x06B, offset 0x11C, 32 bits). -/
def R.STL_REISSUED : Reg := ⟨0x060, 0x06B, 0x11C, 1, 0, 32,
  fun p _ => [F.STL_REISSUED_COUNT p]⟩

def F.STL_LATE_SPANS_COUNT (p : Nat) : Field := fld (0x060 + p) 0x120 0 32 .rc 0 .any false false
/-- R147: `STL.LATE_SPANS` (pages 0x060 to 0x06B, offset 0x120, 32 bits). -/
def R.STL_LATE_SPANS : Reg := ⟨0x060, 0x06B, 0x120, 1, 0, 32,
  fun p _ => [F.STL_LATE_SPANS_COUNT p]⟩

def F.STL_ABANDONED_COUNT (p : Nat) : Field := fld (0x060 + p) 0x124 0 32 .rc 0 .any false false
/-- R147: `STL.ABANDONED` (pages 0x060 to 0x06B, offset 0x124, 32 bits). -/
def R.STL_ABANDONED : Reg := ⟨0x060, 0x06B, 0x124, 1, 0, 32,
  fun p _ => [F.STL_ABANDONED_COUNT p]⟩

def F.STL_LOT_TIMEOUT_MICROSECONDS (p : Nat) : Field := fld (0x060 + p) 0x130 0 12 .rw 600 (.range 250 4000) false false
/-- R147: `STL.LOT_TIMEOUT` (pages 0x060 to 0x06B, offset 0x130, 32 bits). -/
def R.STL_LOT_TIMEOUT : Reg := ⟨0x060, 0x06B, 0x130, 1, 0, 32,
  fun p _ => [F.STL_LOT_TIMEOUT_MICROSECONDS p]⟩

def F.STL_BUSY_PERCENT (p : Nat) : Field := fld (0x060 + p) 0x134 0 7 .ro 0 .any false false
/-- R147: `STL.BUSY` (pages 0x060 to 0x06B, offset 0x134, 32 bits). -/
def R.STL_BUSY : Reg := ⟨0x060, 0x06B, 0x134, 1, 0, 32,
  fun p _ => [F.STL_BUSY_PERCENT p]⟩

def F.DRU_REQ_MODE : Field := fld 0x080 0x100 16 2 .rw 0 (.range 0 1) true true
def F.DRU_REQ_RPM : Field := fld 0x080 0x100 0 13 .rw 3600 .drumRpm true false
/-- R171: `DRU.REQ` (page 0x080, offset 0x100, 32 bits). -/
def R.DRU_REQ : Reg := ⟨0x080, 0x080, 0x100, 1, 0, 32,
  fun _ _ => [F.DRU_REQ_MODE, F.DRU_REQ_RPM]⟩

def F.DRU_STATE_FACETS : Field := fld 0x080 0x108 16 8 .ro 0 .any false false
def F.DRU_STATE_N_MISMATCH : Field := fld 0x080 0x108 14 1 .ro 0 .any false false
def F.DRU_STATE_LOCK : Field := fld 0x080 0x108 12 2 .ro 0 .any false false
def F.DRU_STATE_POS_UNKNOWN : Field := fld 0x080 0x108 11 1 .ro 0 .any false false
def F.DRU_STATE_PARKED_OUT : Field := fld 0x080 0x108 10 1 .ro 0 .any false false
def F.DRU_STATE_LF_OUT : Field := fld 0x080 0x108 9 1 .ro 0 .any false false
def F.DRU_STATE_PRED_VALID : Field := fld 0x080 0x108 8 1 .ro 0 .any false false
def F.DRU_STATE_STATE : Field := fld 0x080 0x108 0 4 .ro 0 .any false false
/-- R171: `DRU.STATE` (page 0x080, offset 0x108, 32 bits). -/
def R.DRU_STATE : Reg := ⟨0x080, 0x080, 0x108, 1, 0, 32,
  fun _ _ => [F.DRU_STATE_FACETS, F.DRU_STATE_N_MISMATCH, F.DRU_STATE_LOCK, F.DRU_STATE_POS_UNKNOWN, F.DRU_STATE_PARKED_OUT, F.DRU_STATE_LF_OUT, F.DRU_STATE_PRED_VALID, F.DRU_STATE_STATE]⟩

def F.DRU_OMEGA_SPEED : Field := fld 0x080 0x10C 0 32 .ro 0 .any false false
/-- R171: `DRU.OMEGA` (page 0x080, offset 0x10C, 32 bits). -/
def R.DRU_OMEGA : Reg := ⟨0x080, 0x080, 0x10C, 1, 0, 32,
  fun _ _ => [F.DRU_OMEGA_SPEED]⟩

def F.DRU_RPM_RPM : Field := fld 0x080 0x110 0 13 .ro 0 .any false false
/-- R171: `DRU.RPM` (page 0x080, offset 0x110, 32 bits). -/
def R.DRU_RPM : Reg := ⟨0x080, 0x080, 0x110, 1, 0, 32,
  fun _ _ => [F.DRU_RPM_RPM]⟩

def F.DRU_ANGLE_REV : Field := fld 0x080 0x114 20 12 .ro 0 .any false false
def F.DRU_ANGLE_ANGLE : Field := fld 0x080 0x114 0 20 .ro 0 .any false false
/-- R171: `DRU.ANGLE` (page 0x080, offset 0x114, 32 bits). -/
def R.DRU_ANGLE : Reg := ⟨0x080, 0x080, 0x114, 1, 0, 32,
  fun _ _ => [F.DRU_ANGLE_REV, F.DRU_ANGLE_ANGLE]⟩

def F.DRU_PHASE_ERR_ERROR : Field := fld 0x080 0x118 0 32 .ro 0 .any false false
/-- R171: `DRU.PHASE_ERR` (page 0x080, offset 0x118, 32 bits). -/
def R.DRU_PHASE_ERR : Reg := ⟨0x080, 0x080, 0x118, 1, 0, 32,
  fun _ _ => [F.DRU_PHASE_ERR_ERROR]⟩

def F.DRU_GLITCHES_COUNT : Field := fld 0x080 0x120 0 32 .rc 0 .any false false
/-- R171: `DRU.GLITCHES` (page 0x080, offset 0x120, 32 bits). -/
def R.DRU_GLITCHES : Reg := ⟨0x080, 0x080, 0x120, 1, 0, 32,
  fun _ _ => [F.DRU_GLITCHES_COUNT]⟩

def F.DRU_INDEX_SLIPS_COUNT : Field := fld 0x080 0x124 0 32 .rc 0 .any false false
/-- R171: `DRU.INDEX_SLIPS` (page 0x080, offset 0x124, 32 bits). -/
def R.DRU_INDEX_SLIPS : Reg := ⟨0x080, 0x080, 0x124, 1, 0, 32,
  fun _ _ => [F.DRU_INDEX_SLIPS_COUNT]⟩

def F.DRU_STROBE_SKIPS_COUNT : Field := fld 0x080 0x128 0 32 .rc 0 .any false false
/-- R171: `DRU.STROBE_SKIPS` (page 0x080, offset 0x128, 32 bits). -/
def R.DRU_STROBE_SKIPS : Reg := ⟨0x080, 0x080, 0x128, 1, 0, 32,
  fun _ _ => [F.DRU_STROBE_SKIPS_COUNT]⟩

def F.DRU_EDGE_ANGLE_E : Field := fld 0x081 0x100 0 20 .rwl 0 .any false false
/-- R172: `DRU.EDGE_ANGLE` (page 0x081, offset 0x100, 32 bits). -/
def R.DRU_EDGE_ANGLE : Reg := ⟨0x081, 0x081, 0x100, 1, 0, 32,
  fun _ _ => [F.DRU_EDGE_ANGLE_E]⟩

def F.DRU_TIMING_STROBE_LEAD : Field := fld 0x081 0x104 16 6 .rw 18 (.range 0 43) false false
def F.DRU_TIMING_RELEASE_LEAD : Field := fld 0x081 0x104 0 11 .rw 300 (.range 100 1200) false false
/-- R172: `DRU.TIMING` (page 0x081, offset 0x104, 32 bits). -/
def R.DRU_TIMING : Reg := ⟨0x081, 0x081, 0x104, 1, 0, 32,
  fun _ _ => [F.DRU_TIMING_STROBE_LEAD, F.DRU_TIMING_RELEASE_LEAD]⟩

def F.DRU_PREDICT_WINDOW : Field := fld 0x081 0x108 0 8 .rw 64 (.range 16 255) false false
/-- R172: `DRU.PREDICT` (page 0x081, offset 0x108, 32 bits). -/
def R.DRU_PREDICT : Reg := ⟨0x081, 0x081, 0x108, 1, 0, 32,
  fun _ _ => [F.DRU_PREDICT_WINDOW]⟩

def F.DRU_LIMITS_GLITCH_LIMIT : Field := fld 0x081 0x10C 24 8 .rw 16 (.range 1 255) false false
def F.DRU_LIMITS_INDEX_TOL : Field := fld 0x081 0x10C 16 8 .rw 2 (.range 0 16) false false
def F.DRU_LIMITS_COAST_LIMIT : Field := fld 0x081 0x10C 0 12 .rw 200 (.range 20 4000) false false
/-- R172: `DRU.LIMITS` (page 0x081, offset 0x10C, 32 bits). -/
def R.DRU_LIMITS : Reg := ⟨0x081, 0x081, 0x10C, 1, 0, 32,
  fun _ _ => [F.DRU_LIMITS_GLITCH_LIMIT, F.DRU_LIMITS_INDEX_TOL, F.DRU_LIMITS_COAST_LIMIT]⟩

def F.DRU_SLEW_RPM_PER_S : Field := fld 0x081 0x110 0 12 .rw 2400 (.range 100 3600) false false
/-- R172: `DRU.SLEW` (page 0x081, offset 0x110, 32 bits). -/
def R.DRU_SLEW : Reg := ⟨0x081, 0x081, 0x110, 1, 0, 32,
  fun _ _ => [F.DRU_SLEW_RPM_PER_S]⟩

def F.DRU_PLAN_TOL_COUNTS : Field := fld 0x081 0x114 0 12 .rw 22 (.range 1 400) false false
/-- R172: `DRU.PLAN_TOL` (page 0x081, offset 0x114, 32 bits). -/
def R.DRU_PLAN_TOL : Reg := ⟨0x081, 0x081, 0x114, 1, 0, 32,
  fun _ _ => [F.DRU_PLAN_TOL_COUNTS]⟩

def F.DRU_STOP_WAIT_MS : Field := fld 0x081 0x118 0 16 .rw 2000 (.range 500 10000) false false
/-- R172: `DRU.STOP_WAIT` (page 0x081, offset 0x118, 32 bits). -/
def R.DRU_STOP_WAIT : Reg := ⟨0x081, 0x081, 0x118, 1, 0, 32,
  fun _ _ => [F.DRU_STOP_WAIT_MS]⟩

def F.DRU_SCHED_SELECT_PENDING : Field := fld 0x081 0x11C 8 1 .ro 0 .any false false
def F.DRU_SCHED_SELECT_SWAP : Field := fld 0x081 0x11C 4 1 .w1s 0 .any false false
def F.DRU_SCHED_SELECT_ACTIVE : Field := fld 0x081 0x11C 0 1 .ro 0 .any false false
/-- R172: `DRU.SCHED_SELECT` (page 0x081, offset 0x11C, 32 bits). -/
def R.DRU_SCHED_SELECT : Reg := ⟨0x081, 0x081, 0x11C, 1, 0, 32,
  fun _ _ => [F.DRU_SCHED_SELECT_PENDING, F.DRU_SCHED_SELECT_SWAP, F.DRU_SCHED_SELECT_ACTIVE]⟩

def F.DRU_SPEED_CODE_CODE : Field := fld 0x081 0x120 0 16 .rw 0 .any false false
/-- R172: `DRU.SPEED_CODE` (page 0x081, offset 0x120, 32 bits). -/
def R.DRU_SPEED_CODE : Reg := ⟨0x081, 0x081, 0x120, 1, 0, 32,
  fun _ _ => [F.DRU_SPEED_CODE_CODE]⟩

def F.DRU_BRAKE_BRAKE : Field := fld 0x081 0x124 0 1 .rw 1 .any false false
/-- R172: `DRU.BRAKE` (page 0x081, offset 0x124, 32 bits). -/
def R.DRU_BRAKE : Reg := ⟨0x081, 0x081, 0x124, 1, 0, 32,
  fun _ _ => [F.DRU_BRAKE_BRAKE]⟩

def F.DRU_ANGLE_CORR_VALUE (i : Nat) : Field := fld 0x084 (0x100 + 4 * i) 0 16 .rw 0 .any false true
/-- R173: `DRU.ANGLE_CORR` (page 0x084, offset 0x100 and 63 more at stride 4, 32 bits). -/
def R.DRU_ANGLE_CORR : Reg := ⟨0x084, 0x084, 0x100, 64, 4, 32,
  fun _ i => [F.DRU_ANGLE_CORR_VALUE i]⟩

def F.DRU_LOCK_CTRL_WINDOW : Field := fld 0x084 0x200 8 8 .rw 8 (.range 1 128) false false
def F.DRU_LOCK_CTRL_EN : Field := fld 0x084 0x200 0 1 .rw 0 .any false true
/-- R173: `DRU.LOCK_CTRL` (page 0x084, offset 0x200, 32 bits). -/
def R.DRU_LOCK_CTRL : Reg := ⟨0x084, 0x084, 0x200, 1, 0, 32,
  fun _ _ => [F.DRU_LOCK_CTRL_WINDOW, F.DRU_LOCK_CTRL_EN]⟩

def F.DRU_LOCK_PERIOD_T_REV : Field := fld 0x084 0x208 0 64 .ro 0 .any false false
/-- R173: `DRU.LOCK_PERIOD` (page 0x084, offset 0x208, 64 bits). -/
def R.DRU_LOCK_PERIOD : Reg := ⟨0x084, 0x084, 0x208, 1, 0, 64,
  fun _ _ => [F.DRU_LOCK_PERIOD_T_REV]⟩

def F.DRU_LOCK_EPOCH_EPOCH : Field := fld 0x084 0x210 0 64 .ro 0 .any false false
/-- R173: `DRU.LOCK_EPOCH` (page 0x084, offset 0x210, 64 bits). -/
def R.DRU_LOCK_EPOCH : Reg := ⟨0x084, 0x084, 0x210, 1, 0, 64,
  fun _ _ => [F.DRU_LOCK_EPOCH_EPOCH]⟩

def F.HIF_MBX_REQ_ADDR : Field := fld 0x002 0x100 2 62 .rw 0 .any false false
def F.HIF_MBX_REQ_HOST : Field := fld 0x002 0x100 0 1 .rw 0 .any false false
/-- R434: `HIF.MBX_REQ` (page 0x002, offset 0x100, 64 bits). -/
def R.HIF_MBX_REQ : Reg := ⟨0x002, 0x002, 0x100, 1, 0, 64,
  fun _ _ => [F.HIF_MBX_REQ_ADDR, F.HIF_MBX_REQ_HOST]⟩

def F.HIF_MBX_RESP_ADDR : Field := fld 0x002 0x108 6 58 .rw 0 .any false false
def F.HIF_MBX_RESP_HOST : Field := fld 0x002 0x108 0 1 .rw 0 .any false false
/-- R434: `HIF.MBX_RESP` (page 0x002, offset 0x108, 64 bits). -/
def R.HIF_MBX_RESP : Reg := ⟨0x002, 0x002, 0x108, 1, 0, 64,
  fun _ _ => [F.HIF_MBX_RESP_ADDR, F.HIF_MBX_RESP_HOST]⟩

def F.HIF_MBX_CMD_BUSY : Field := fld 0x002 0x110 31 1 .ro 0 .any false false
def F.HIF_MBX_CMD_GO : Field := fld 0x002 0x110 0 1 .wo 0 .any false false
/-- R434: `HIF.MBX_CMD` (page 0x002, offset 0x110, 32 bits). -/
def R.HIF_MBX_CMD : Reg := ⟨0x002, 0x002, 0x110, 1, 0, 32,
  fun _ _ => [F.HIF_MBX_CMD_BUSY, F.HIF_MBX_CMD_GO]⟩

def F.HIF_MBX_STATUS_DONE : Field := fld 0x002 0x114 31 1 .w1c 0 .any false false
def F.HIF_MBX_STATUS_DETAIL : Field := fld 0x002 0x114 8 8 .ro 0 .any false false
def F.HIF_MBX_STATUS_CODE : Field := fld 0x002 0x114 0 8 .ro 0 .any false false
/-- R434: `HIF.MBX_STATUS` (page 0x002, offset 0x114, 32 bits). -/
def R.HIF_MBX_STATUS : Reg := ⟨0x002, 0x002, 0x114, 1, 0, 32,
  fun _ _ => [F.HIF_MBX_STATUS_DONE, F.HIF_MBX_STATUS_DETAIL, F.HIF_MBX_STATUS_CODE]⟩

def F.HIF_MBX_NONCE_NONCE (i : Nat) : Field := fld 0x002 (0x120 + 4 * i) 0 32 .ro 0 .any false false
/-- R434: `HIF.MBX_NONCE` (page 0x002, offset 0x120 and 3 more at stride 4, 32 bits). -/
def R.HIF_MBX_NONCE : Reg := ⟨0x002, 0x002, 0x120, 4, 4, 32,
  fun _ i => [F.HIF_MBX_NONCE_NONCE i]⟩

def F.GLB_RESET_CAUSE_PRIOR_FAILED : Field := fld 0x000 0x104 10 1 .ro 0 .any false false
def F.GLB_RESET_CAUSE_PRIOR_CRITICAL : Field := fld 0x000 0x104 9 1 .ro 0 .any false false
def F.GLB_RESET_CAUSE_PRIOR_WARN : Field := fld 0x000 0x104 8 1 .ro 0 .any false false
def F.GLB_RESET_CAUSE_CAUSE : Field := fld 0x000 0x104 0 4 .ro 0 .any false false
/-- R478: `GLB.RESET_CAUSE` (page 0x000, offset 0x104, 32 bits). -/
def R.GLB_RESET_CAUSE : Reg := ⟨0x000, 0x000, 0x104, 1, 0, 32,
  fun _ _ => [F.GLB_RESET_CAUSE_PRIOR_FAILED, F.GLB_RESET_CAUSE_PRIOR_CRITICAL, F.GLB_RESET_CAUSE_PRIOR_WARN, F.GLB_RESET_CAUSE_CAUSE]⟩

def F.GLB_START_STAGE : Field := fld 0x000 0x108 28 4 .ro 0 .any false false
def F.GLB_START_SELF_TEST : Field := fld 0x000 0x108 0 1 .ro 0 .any false false
/-- R478: `GLB.START` (page 0x000, offset 0x108, 32 bits). -/
def R.GLB_START : Reg := ⟨0x000, 0x000, 0x108, 1, 0, 32,
  fun _ _ => [F.GLB_START_STAGE, F.GLB_START_SELF_TEST]⟩

def F.GLB_START_MS_MS : Field := fld 0x000 0x10C 0 32 .ro 0 .any false false
/-- R478: `GLB.START_MS` (page 0x000, offset 0x10C, 32 bits). -/
def R.GLB_START_MS : Reg := ⟨0x000, 0x000, 0x10C, 1, 0, 32,
  fun _ _ => [F.GLB_START_MS_MS]⟩

def F.GLB_RESET_KEY : Field := fld 0x000 0x110 16 16 .wo 0 .any false false
def F.GLB_RESET_DO : Field := fld 0x000 0x110 0 1 .wo 0 .any false false
/-- R478: `GLB.RESET` (page 0x000, offset 0x110, 32 bits). -/
def R.GLB_RESET : Reg := ⟨0x000, 0x000, 0x110, 1, 0, 32,
  fun _ _ => [F.GLB_RESET_KEY, F.GLB_RESET_DO]⟩

def F.GLB_LINK_RESETS_COUNT : Field := fld 0x000 0x114 0 32 .rc 0 .any false false
/-- R478: `GLB.LINK_RESETS` (page 0x000, offset 0x114, 32 bits). -/
def R.GLB_LINK_RESETS : Reg := ⟨0x000, 0x000, 0x114, 1, 0, 32,
  fun _ _ => [F.GLB_LINK_RESETS_COUNT]⟩

def F.GLB_STRAPS_PKG : Field := fld 0x000 0x118 16 4 .ro 0x1 .any false false
def F.GLB_STRAPS_LINKW : Field := fld 0x000 0x118 0 2 .ro 0 .any false false
/-- R489: `GLB.STRAPS` (page 0x000, offset 0x118, 32 bits). -/
def R.GLB_STRAPS : Reg := ⟨0x000, 0x000, 0x118, 1, 0, 32,
  fun _ _ => [F.GLB_STRAPS_PKG, F.GLB_STRAPS_LINKW]⟩

def F.SCHED_RELEASE_ANGLE (p : Nat) (i : Nat) : Field := fld (0x082 + p) (0x100 + 32 * i) 0 20 .rw 0 .any false false
/-- R161: `SCHED.RELEASE` (pages 0x082 to 0x083, offset 0x100 and 95 more at stride 32, 32 bits). -/
def R.SCHED_RELEASE : Reg := ⟨0x082, 0x083, 0x100, 96, 32, 32,
  fun p i => [F.SCHED_RELEASE_ANGLE p i]⟩

def F.SCHED_WRITE_START_ANGLE (p : Nat) (i : Nat) : Field := fld (0x082 + p) (0x104 + 32 * i) 0 20 .rw 0 .any false false
/-- R161: `SCHED.WRITE_START` (pages 0x082 to 0x083, offset 0x104 and 95 more at stride 32, 32 bits). -/
def R.SCHED_WRITE_START : Reg := ⟨0x082, 0x083, 0x104, 96, 32, 32,
  fun p i => [F.SCHED_WRITE_START_ANGLE p i]⟩

def F.SCHED_WRITE_DEADLINE_ANGLE (p : Nat) (i : Nat) : Field := fld (0x082 + p) (0x108 + 32 * i) 0 20 .rw 0 .any false false
/-- R161: `SCHED.WRITE_DEADLINE` (pages 0x082 to 0x083, offset 0x108 and 95 more at stride 32, 32 bits). -/
def R.SCHED_WRITE_DEADLINE : Reg := ⟨0x082, 0x083, 0x108, 96, 32, 32,
  fun p i => [F.SCHED_WRITE_DEADLINE_ANGLE p i]⟩

def F.SCHED_STROBE_ON_ANGLE (p : Nat) (i : Nat) : Field := fld (0x082 + p) (0x10C + 32 * i) 0 20 .rw 0 .any false false
/-- R161: `SCHED.STROBE_ON` (pages 0x082 to 0x083, offset 0x10C and 95 more at stride 32, 32 bits). -/
def R.SCHED_STROBE_ON : Reg := ⟨0x082, 0x083, 0x10C, 96, 32, 32,
  fun p i => [F.SCHED_STROBE_ON_ANGLE p i]⟩

def F.SCHED_STROBE_OFF_ANGLE (p : Nat) (i : Nat) : Field := fld (0x082 + p) (0x110 + 32 * i) 0 20 .rw 0 .any false false
/-- R161: `SCHED.STROBE_OFF` (pages 0x082 to 0x083, offset 0x110 and 95 more at stride 32, 32 bits). -/
def R.SCHED_STROBE_OFF : Reg := ⟨0x082, 0x083, 0x110, 96, 32, 32,
  fun p i => [F.SCHED_STROBE_OFF_ANGLE p i]⟩

def F.SCHED_CTRL_VALID (p : Nat) (i : Nat) : Field := fld (0x082 + p) (0x114 + 32 * i) 31 1 .rw 0 .any false false
def F.SCHED_CTRL_ZONE_EN (p : Nat) (i : Nat) : Field := fld (0x082 + p) (0x114 + 32 * i) 0 2 .rw 0 .any false false
/-- R161: `SCHED.CTRL` (pages 0x082 to 0x083, offset 0x114 and 95 more at stride 32, 32 bits). -/
def R.SCHED_CTRL : Reg := ⟨0x082, 0x083, 0x114, 96, 32, 32,
  fun p i => [F.SCHED_CTRL_VALID p i, F.SCHED_CTRL_ZONE_EN p i]⟩

def F.RSY_ALPHA_STOP_EFF_LEVEL : Field := fld 0x070 0x900 0 16 .ro 0xFEF9 .any false false
/-- R42: `RSY.ALPHA_STOP_EFF` (page 0x070, offset 0x900, 32 bits). -/
def R.RSY_ALPHA_STOP_EFF : Reg := ⟨0x070, 0x070, 0x900, 1, 0, 32,
  fun _ _ => [F.RSY_ALPHA_STOP_EFF_LEVEL]⟩

def F.RSY_KSEL_EFF_SLOT : Field := fld 0x070 0x908 16 2 .ro 0 .any false false
def F.RSY_KSEL_EFF_KERNEL : Field := fld 0x070 0x908 0 16 .ro 0x0100 .any false false
/-- R42: `RSY.KSEL_EFF` (page 0x070, offset 0x908, 32 bits). -/
def R.RSY_KSEL_EFF : Reg := ⟨0x070, 0x070, 0x908, 1, 0, 32,
  fun _ _ => [F.RSY_KSEL_EFF_SLOT, F.RSY_KSEL_EFF_KERNEL]⟩

def F.RSY_KPARAM_ADDR_EFF_ADDR : Field := fld 0x070 0x910 6 30 .ro 0 .any false false
/-- R42: `RSY.KPARAM_ADDR_EFF` (page 0x070, offset 0x910, 64 bits). -/
def R.RSY_KPARAM_ADDR_EFF : Reg := ⟨0x070, 0x070, 0x910, 1, 0, 64,
  fun _ _ => [F.RSY_KPARAM_ADDR_EFF_ADDR]⟩

def F.DRU_REQ_EFF_MODE : Field := fld 0x080 0x900 16 2 .ro 0 .any true true
def F.DRU_REQ_EFF_RPM : Field := fld 0x080 0x900 0 13 .ro 3600 .any true false
/-- R42: `DRU.REQ_EFF` (page 0x080, offset 0x900, 32 bits). -/
def R.DRU_REQ_EFF : Reg := ⟨0x080, 0x080, 0x900, 1, 0, 32,
  fun _ _ => [F.DRU_REQ_EFF_MODE, F.DRU_REQ_EFF_RPM]⟩

/-- Rows 0 of this file's register tables. -/
def R.tableA0 : List Reg :=
  [R.GLB_DEVICE_ID, R.HIF_BAR4_SLOT, R.HIF_FWD_TIMEOUT, R.HIF_ACC_STATUS, R.HIF_ACC_DROPS, R.HIF_SLOT_PRESENT, R.HIF_YARD_ROLE, R.INT_VEC, R.INT_PAGE_PEND, R.QMG_CTX_BASE, R.QMG_CTRL, R.QMG_DB_DROPS, R.QMG_CTX_CMD, R.QMG_CTX_RESULT, R.QMG_CTX_DATA, R.QMG_CQ_BASE, R.QMG_CQ_SIZE, R.QMG_CQ_HEAD, R.QMG_CQ_TAIL, R.QMG_CQ_MOD]

/-- Rows 1 of this file's register tables. -/
def R.tableA1 : List Reg :=
  [R.SCD_STATUS_COUNT, R.SCD_UNITS, R.LAY_TILE_BASE, R.LAY_RETAIN_BASE, R.LAY_LATCH_LEAD, R.LAY_DISPLAYED, R.LAY_SUBFRAME, R.LAY_SET_STATUS, R.LAY_ENABLE_FRONT, R.LAY_ENABLE_BACK, R.LAY_TILE_QUERY, R.LAY_TILE_STATE, R.LAY_FENCE, R.LAY_FENCE_MAX, R.RSY_ALPHA_STOP, R.RSY_KSEL, R.RSY_KPARAM_ADDR, R.RSY_KSEL_ARM, R.RSY_KSEL_STATUS, R.RSY_LDELTA_ADDR]

/-- Rows 2 of this file's register tables. -/
def R.tableA2 : List Reg :=
  [R.RSY_LDELTA_ARM, R.RSY_LDELTA_STATUS, R.RSY_PKG_ADDR, R.RSY_PKG_CMD, R.RSY_PKG_STATUS, R.RSY_PKG_INFO, R.RSY_TAN_PER_PITCH, R.RSY_FACET_SLOPE, R.RSY_FACET_OFFSET, R.RSY_BAND_KERNEL, R.RSY_RAY_COUNT, R.RSY_SAMPLE_COUNT, R.STL_STATE, R.STL_BANDS, R.STL_LOTS_RETIRED, R.STL_LOTS_LENT, R.STL_LOTS_BORROWED, R.STL_REISSUED, R.STL_LATE_SPANS, R.STL_ABANDONED]

/-- Rows 3 of this file's register tables. -/
def R.tableA3 : List Reg :=
  [R.STL_LOT_TIMEOUT, R.STL_BUSY, R.DRU_REQ, R.DRU_STATE, R.DRU_OMEGA, R.DRU_RPM, R.DRU_ANGLE, R.DRU_PHASE_ERR, R.DRU_GLITCHES, R.DRU_INDEX_SLIPS, R.DRU_STROBE_SKIPS, R.DRU_EDGE_ANGLE, R.DRU_TIMING, R.DRU_PREDICT, R.DRU_LIMITS, R.DRU_SLEW, R.DRU_PLAN_TOL, R.DRU_STOP_WAIT, R.DRU_SCHED_SELECT, R.DRU_SPEED_CODE]

/-- Rows 4 of this file's register tables. -/
def R.tableA4 : List Reg :=
  [R.DRU_BRAKE, R.DRU_ANGLE_CORR, R.DRU_LOCK_CTRL, R.DRU_LOCK_PERIOD, R.DRU_LOCK_EPOCH, R.HIF_MBX_REQ, R.HIF_MBX_RESP, R.HIF_MBX_CMD, R.HIF_MBX_STATUS, R.HIF_MBX_NONCE, R.GLB_RESET_CAUSE, R.GLB_START, R.GLB_START_MS, R.GLB_RESET, R.GLB_LINK_RESETS, R.GLB_STRAPS, R.SCHED_RELEASE, R.SCHED_WRITE_START, R.SCHED_WRITE_DEADLINE, R.SCHED_STROBE_ON]

/-- Rows 5 of this file's register tables. -/
def R.tableA5 : List Reg :=
  [R.SCHED_STROBE_OFF, R.SCHED_CTRL, R.RSY_ALPHA_STOP_EFF, R.RSY_KSEL_EFF, R.RSY_KPARAM_ADDR_EFF, R.DRU_REQ_EFF]

/-- Every register row of this file. -/
def R.tableA : List Reg := R.tableA0 ++ R.tableA1 ++ R.tableA2 ++ R.tableA3 ++ R.tableA4 ++ R.tableA5

end Sys2Proof.Machine
end

