-- ==== Sys2Proof/Machine/FieldsB.lean ====
section
/-! DEFINITION. The registers of CAM, IPP, VWB, CMP, BLT: every field of every register table of the spec under its own name
(its page and offset, its lowest bit, its width, its access code, its reset value, the values R6 lets a write store), and
one row per register. A field argument `p` is the page within the block's run of pages, `i` the index the table gives. -/

set_option linter.unusedVariables false

namespace Sys2Proof.Machine

def F.CAM_CFG_ENABLE (p : Nat) : Field := fld (0x090 + p) 0x100 31 1 .rw 0 .any false false
def F.CAM_CFG_LANES (p : Nat) : Field := fld (0x090 + p) 0x100 29 2 .rw 0 (.range 0 2) false true
def F.CAM_CFG_VC (p : Nat) : Field := fld (0x090 + p) 0x100 27 2 .rw 0 .any false true
def F.CAM_CFG_FORMAT (p : Nat) : Field := fld (0x090 + p) 0x100 25 2 .rw 0 (.range 0 2) false true
def F.CAM_CFG_COLOUR (p : Nat) : Field := fld (0x090 + p) 0x100 24 1 .rw 0 .any false true
def F.CAM_CFG_BAYER (p : Nat) : Field := fld (0x090 + p) 0x100 22 2 .rw 0 .any false true
def F.CAM_CFG_PIPE (p : Nat) : Field := fld (0x090 + p) 0x100 21 1 .rw 0 .any false true
def F.CAM_CFG_CLASS (p : Nat) : Field := fld (0x090 + p) 0x100 20 1 .rw 0 .any false true
def F.CAM_CFG_EXP_LATENCY (p : Nat) : Field := fld (0x090 + p) 0x100 18 2 .rw 2 (.range 1 3) false false
def F.CAM_CFG_TRIGGERED (p : Nat) : Field := fld (0x090 + p) 0x100 17 1 .rw 0 .any false true
def F.CAM_CFG_FSYNC_TRIG (p : Nat) : Field := fld (0x090 + p) 0x100 13 4 .rw 0 .any false true
def F.CAM_CFG_SENSOR_RST (p : Nat) : Field := fld (0x090 + p) 0x100 12 1 .rw 1 .any false false
/-- R195: `CAM.CFG` (pages 0x090 to 0x097, offset 0x100, 32 bits). -/
def R.CAM_CFG : Reg := ⟨0x090, 0x097, 0x100, 1, 0, 32,
  fun p _ => [F.CAM_CFG_ENABLE p, F.CAM_CFG_LANES p, F.CAM_CFG_VC p, F.CAM_CFG_FORMAT p, F.CAM_CFG_COLOUR p, F.CAM_CFG_BAYER p, F.CAM_CFG_PIPE p, F.CAM_CFG_CLASS p, F.CAM_CFG_EXP_LATENCY p, F.CAM_CFG_TRIGGERED p, F.CAM_CFG_FSYNC_TRIG p, F.CAM_CFG_SENSOR_RST p]⟩

def F.CAM_GEOM_HEIGHT (p : Nat) : Field := fld (0x090 + p) 0x104 16 16 .rw 0 (.range 1 4096) false true
def F.CAM_GEOM_WIDTH (p : Nat) : Field := fld (0x090 + p) 0x104 0 16 .rw 0 (.mult4 16 4096) false true
/-- R195: `CAM.GEOM` (pages 0x090 to 0x097, offset 0x104, 32 bits). -/
def R.CAM_GEOM : Reg := ⟨0x090, 0x097, 0x104, 1, 0, 32,
  fun p _ => [F.CAM_GEOM_HEIGHT p, F.CAM_GEOM_WIDTH p]⟩

def F.CAM_PHY_RATE (p : Nat) : Field := fld (0x090 + p) 0x108 20 12 .rw 0 (.range 80 2500) false true
def F.CAM_PHY_LANE_MAP (p : Nat) : Field := fld (0x090 + p) 0x108 12 8 .rw 0xE4 .any false false
def F.CAM_PHY_DATA_POL (p : Nat) : Field := fld (0x090 + p) 0x108 8 4 .rw 0x0 .any false false
def F.CAM_PHY_CLK_POL (p : Nat) : Field := fld (0x090 + p) 0x108 7 1 .rw 0 .any false false
/-- R195: `CAM.PHY` (pages 0x090 to 0x097, offset 0x108, 32 bits). -/
def R.CAM_PHY : Reg := ⟨0x090, 0x097, 0x108, 1, 0, 32,
  fun p _ => [F.CAM_PHY_RATE p, F.CAM_PHY_LANE_MAP p, F.CAM_PHY_DATA_POL p, F.CAM_PHY_CLK_POL p]⟩

def F.CAM_TIMEOUT_FRAME_US (p : Nat) : Field := fld (0x090 + p) 0x10C 16 16 .rw 500 (.range 100 60000) false false
def F.CAM_TIMEOUT_LINE_US (p : Nat) : Field := fld (0x090 + p) 0x10C 0 16 .rw 100 (.range 10 10000) false false
/-- R195: `CAM.TIMEOUT` (pages 0x090 to 0x097, offset 0x10C, 32 bits). -/
def R.CAM_TIMEOUT : Reg := ⟨0x090, 0x097, 0x10C, 1, 0, 32,
  fun p _ => [F.CAM_TIMEOUT_FRAME_US p, F.CAM_TIMEOUT_LINE_US p]⟩

def F.CAM_EXP_SET_GAIN (p : Nat) : Field := fld (0x090 + p) 0x110 32 16 .rw 0x1000 (.range 0x1000 0xFFFF) false false
def F.CAM_EXP_SET_EXPOSURE (p : Nat) : Field := fld (0x090 + p) 0x110 8 24 .rw 0 .any false true
def F.CAM_EXP_SET_ID (p : Nat) : Field := fld (0x090 + p) 0x110 0 8 .rw 0xFF (.range 0 254) false false
/-- R195: `CAM.EXP_SET` (pages 0x090 to 0x097, offset 0x110, 64 bits). -/
def R.CAM_EXP_SET : Reg := ⟨0x090, 0x097, 0x110, 1, 0, 64,
  fun p _ => [F.CAM_EXP_SET_GAIN p, F.CAM_EXP_SET_EXPOSURE p, F.CAM_EXP_SET_ID p]⟩

def F.CAM_EXP_STATE_IN_FORCE (p : Nat) : Field := fld (0x090 + p) 0x118 24 8 .ro 0xFF .any false false
def F.CAM_EXP_STATE_LATCHED (p : Nat) : Field := fld (0x090 + p) 0x118 16 8 .ro 0xFF .any false false
def F.CAM_EXP_STATE_POSTED (p : Nat) : Field := fld (0x090 + p) 0x118 8 8 .ro 0xFF .any false false
def F.CAM_EXP_STATE_WRITING (p : Nat) : Field := fld (0x090 + p) 0x118 0 1 .ro 0 .any false false
/-- R195: `CAM.EXP_STATE` (pages 0x090 to 0x097, offset 0x118, 32 bits). -/
def R.CAM_EXP_STATE : Reg := ⟨0x090, 0x097, 0x118, 1, 0, 32,
  fun p _ => [F.CAM_EXP_STATE_IN_FORCE p, F.CAM_EXP_STATE_LATCHED p, F.CAM_EXP_STATE_POSTED p, F.CAM_EXP_STATE_WRITING p]⟩

def F.CAM_EXP_MAP_REG (p : Nat) (i : Nat) : Field := fld (0x090 + p) (0x120 + 4 * i) 16 16 .rw 0 .any false true
def F.CAM_EXP_MAP_SOURCE (p : Nat) (i : Nat) : Field := fld (0x090 + p) (0x120 + 4 * i) 14 2 .rw 0 .any false true
def F.CAM_EXP_MAP_WIDTH16 (p : Nat) (i : Nat) : Field := fld (0x090 + p) (0x120 + 4 * i) 13 1 .rw 0 .any false true
def F.CAM_EXP_MAP_SHIFT (p : Nat) (i : Nat) : Field := fld (0x090 + p) (0x120 + 4 * i) 8 5 .rw 0 .any false true
def F.CAM_EXP_MAP_CONST (p : Nat) (i : Nat) : Field := fld (0x090 + p) (0x120 + 4 * i) 0 8 .rw 0 .any false true
/-- R195: `CAM.EXP_MAP` (pages 0x090 to 0x097, offset 0x120 and 7 more at stride 4, 32 bits). -/
def R.CAM_EXP_MAP : Reg := ⟨0x090, 0x097, 0x120, 8, 4, 32,
  fun p i => [F.CAM_EXP_MAP_REG p i, F.CAM_EXP_MAP_SOURCE p i, F.CAM_EXP_MAP_WIDTH16 p i, F.CAM_EXP_MAP_SHIFT p i, F.CAM_EXP_MAP_CONST p i]⟩

def F.CAM_I2C_ADDR_REG16 (p : Nat) : Field := fld (0x090 + p) 0x140 8 1 .rw 0 .any false true
def F.CAM_I2C_ADDR_ADDR (p : Nat) : Field := fld (0x090 + p) 0x140 0 7 .rw 0 .any false true
/-- R195: `CAM.I2C_ADDR` (pages 0x090 to 0x097, offset 0x140, 32 bits). -/
def R.CAM_I2C_ADDR : Reg := ⟨0x090, 0x097, 0x140, 1, 0, 32,
  fun p _ => [F.CAM_I2C_ADDR_REG16 p, F.CAM_I2C_ADDR_ADDR p]⟩

def F.CAM_LINE_NS_NS (p : Nat) : Field := fld (0x090 + p) 0x144 0 16 .rw 0 (.range 1000 65535) false true
/-- R195: `CAM.LINE_NS` (pages 0x090 to 0x097, offset 0x144, 32 bits). -/
def R.CAM_LINE_NS : Reg := ⟨0x090, 0x097, 0x144, 1, 0, 32,
  fun p _ => [F.CAM_LINE_NS_NS p]⟩

def F.CAM_BLACK_LEVEL (p : Nat) (i : Nat) : Field := fld (0x090 + p) (0x150 + 4 * i) 0 12 .rw 0 .any false true
/-- R195: `CAM.BLACK` (pages 0x090 to 0x097, offset 0x150 and 3 more at stride 4, 32 bits). -/
def R.CAM_BLACK : Reg := ⟨0x090, 0x097, 0x150, 4, 4, 32,
  fun p i => [F.CAM_BLACK_LEVEL p i]⟩

def F.CAM_DEFECT_ADDR_COUNT (p : Nat) : Field := fld (0x090 + p) 0x160 52 12 .rw 0 .any false true
def F.CAM_DEFECT_ADDR_ADDR (p : Nat) : Field := fld (0x090 + p) 0x160 2 34 .rw 0 .any false true
/-- R195: `CAM.DEFECT_ADDR` (pages 0x090 to 0x097, offset 0x160, 64 bits). -/
def R.CAM_DEFECT_ADDR : Reg := ⟨0x090, 0x097, 0x160, 1, 0, 64,
  fun p _ => [F.CAM_DEFECT_ADDR_COUNT p, F.CAM_DEFECT_ADDR_ADDR p]⟩

def F.CAM_DEFECT_CFG_THRESHOLD (p : Nat) : Field := fld (0x090 + p) 0x168 0 12 .rw 0 .any false true
/-- R195: `CAM.DEFECT_CFG` (pages 0x090 to 0x097, offset 0x168, 32 bits). -/
def R.CAM_DEFECT_CFG : Reg := ⟨0x090, 0x097, 0x168, 1, 0, 32,
  fun p _ => [F.CAM_DEFECT_CFG_THRESHOLD p]⟩

def F.CAM_SHADING_ADDR_ADDR (p : Nat) : Field := fld (0x090 + p) 0x170 6 30 .rw 0 .any false true
/-- R195: `CAM.SHADING_ADDR` (pages 0x090 to 0x097, offset 0x170, 64 bits). -/
def R.CAM_SHADING_ADDR : Reg := ⟨0x090, 0x097, 0x170, 1, 0, 64,
  fun p _ => [F.CAM_SHADING_ADDR_ADDR p]⟩

def F.CAM_CCM_COEFF (p : Nat) (i : Nat) : Field := fld (0x090 + p) (0x180 + 4 * i) 0 16 .rw 0 .any false true
/-- R195: `CAM.CCM` (pages 0x090 to 0x097, offset 0x180 and 8 more at stride 4, 32 bits). -/
def R.CAM_CCM : Reg := ⟨0x090, 0x097, 0x180, 9, 4, 32,
  fun p i => [F.CAM_CCM_COEFF p i]⟩

def F.CAM_OUT_WIDTH16 (p : Nat) : Field := fld (0x090 + p) 0x1B0 16 1 .rw 0 .any false true
def F.CAM_OUT_PITCH (p : Nat) : Field := fld (0x090 + p) 0x1B0 0 16 .rw 0 .any false true
/-- R195: `CAM.OUT` (pages 0x090 to 0x097, offset 0x1B0, 32 bits). -/
def R.CAM_OUT : Reg := ⟨0x090, 0x097, 0x1B0, 1, 0, 32,
  fun p _ => [F.CAM_OUT_WIDTH16 p, F.CAM_OUT_PITCH p]⟩

def F.CAM_RING_BASE_ADDR (p : Nat) : Field := fld (0x090 + p) 0x1B8 16 20 .rw 0 .any false true
/-- R195: `CAM.RING_BASE` (pages 0x090 to 0x097, offset 0x1B8, 64 bits). -/
def R.CAM_RING_BASE : Reg := ⟨0x090, 0x097, 0x1B8, 1, 0, 64,
  fun p _ => [F.CAM_RING_BASE_ADDR p]⟩

def F.CAM_RING_CFG_SLOT_SIZE (p : Nat) : Field := fld (0x090 + p) 0x1C0 8 16 .rw 0 .any false true
def F.CAM_RING_CFG_SLOTS (p : Nat) : Field := fld (0x090 + p) 0x1C0 0 4 .rw 0 (.range 1 15) false true
/-- R195: `CAM.RING_CFG` (pages 0x090 to 0x097, offset 0x1C0, 32 bits). -/
def R.CAM_RING_CFG : Reg := ⟨0x090, 0x097, 0x1C0, 1, 0, 32,
  fun p _ => [F.CAM_RING_CFG_SLOT_SIZE p, F.CAM_RING_CFG_SLOTS p]⟩

def F.CAM_RING_FULL_SLOT (p : Nat) : Field := fld (0x090 + p) 0x1C4 0 16 .w1c 0 .any true false
/-- R195: `CAM.RING_FULL` (pages 0x090 to 0x097, offset 0x1C4, 32 bits). -/
def R.CAM_RING_FULL : Reg := ⟨0x090, 0x097, 0x1C4, 1, 0, 32,
  fun p _ => [F.CAM_RING_FULL_SLOT p]⟩

def F.CAM_TAP_DECIM (p : Nat) : Field := fld (0x090 + p) 0x1C8 8 8 .rw 1 (.range 1 255) false false
def F.CAM_TAP_SLOTS (p : Nat) : Field := fld (0x090 + p) 0x1C8 4 4 .rw 0 .any false false
def F.CAM_TAP_MODE (p : Nat) : Field := fld (0x090 + p) 0x1C8 0 2 .rw 0 (.range 0 2) false false
/-- R195: `CAM.TAP` (pages 0x090 to 0x097, offset 0x1C8, 32 bits). -/
def R.CAM_TAP : Reg := ⟨0x090, 0x097, 0x1C8, 1, 0, 32,
  fun p _ => [F.CAM_TAP_DECIM p, F.CAM_TAP_SLOTS p, F.CAM_TAP_MODE p]⟩

def F.CAM_TAP_BASE_ADDR (p : Nat) : Field := fld (0x090 + p) 0x1D0 16 20 .rw 0 .any false false
/-- R195: `CAM.TAP_BASE` (pages 0x090 to 0x097, offset 0x1D0, 64 bits). -/
def R.CAM_TAP_BASE : Reg := ⟨0x090, 0x097, 0x1D0, 1, 0, 64,
  fun p _ => [F.CAM_TAP_BASE_ADDR p]⟩

def F.CAM_TEST_VALUE (p : Nat) : Field := fld (0x090 + p) 0x1D8 20 12 .rw 0 .any false false
def F.CAM_TEST_CRC_ERR (p : Nat) : Field := fld (0x090 + p) 0x1D8 5 1 .rw 0 .any false false
def F.CAM_TEST_ECC_1BIT (p : Nat) : Field := fld (0x090 + p) 0x1D8 4 1 .rw 0 .any false false
def F.CAM_TEST_PATTERN (p : Nat) : Field := fld (0x090 + p) 0x1D8 0 2 .rw 0 .any false false
/-- R195: `CAM.TEST` (pages 0x090 to 0x097, offset 0x1D8, 32 bits). -/
def R.CAM_TEST : Reg := ⟨0x090, 0x097, 0x1D8, 1, 0, 32,
  fun p _ => [F.CAM_TEST_VALUE p, F.CAM_TEST_CRC_ERR p, F.CAM_TEST_ECC_1BIT p, F.CAM_TEST_PATTERN p]⟩

def F.CAM_LAST_GENERIC_DT (p : Nat) : Field := fld (0x090 + p) 0x1DC 16 6 .ro 0 .any false false
def F.CAM_LAST_GENERIC_VALUE (p : Nat) : Field := fld (0x090 + p) 0x1DC 0 16 .ro 0 .any false false
/-- R195: `CAM.LAST_GENERIC` (pages 0x090 to 0x097, offset 0x1DC, 32 bits). -/
def R.CAM_LAST_GENERIC : Reg := ⟨0x090, 0x097, 0x1DC, 1, 0, 32,
  fun p _ => [F.CAM_LAST_GENERIC_DT p, F.CAM_LAST_GENERIC_VALUE p]⟩

def F.CAM_STATS_FRAME_FRAME (p : Nat) : Field := fld (0x090 + p) 0x1E0 0 32 .ro 0 .any false false
/-- R195: `CAM.STATS_FRAME` (pages 0x090 to 0x097, offset 0x1E0, 32 bits). -/
def R.CAM_STATS_FRAME : Reg := ⟨0x090, 0x097, 0x1E0, 1, 0, 32,
  fun p _ => [F.CAM_STATS_FRAME_FRAME p]⟩

def F.CAM_STATS_MEAN_SET_ID (p : Nat) : Field := fld (0x090 + p) 0x1E4 16 8 .ro 0xFF .any false false
def F.CAM_STATS_MEAN_MEAN (p : Nat) : Field := fld (0x090 + p) 0x1E4 0 16 .ro 0 .any false false
/-- R195: `CAM.STATS_MEAN` (pages 0x090 to 0x097, offset 0x1E4, 32 bits). -/
def R.CAM_STATS_MEAN : Reg := ⟨0x090, 0x097, 0x1E4, 1, 0, 32,
  fun p _ => [F.CAM_STATS_MEAN_SET_ID p, F.CAM_STATS_MEAN_MEAN p]⟩

def F.CAM_STATS_SAT_COUNT (p : Nat) : Field := fld (0x090 + p) 0x1E8 0 32 .ro 0 .any false false
/-- R195: `CAM.STATS_SAT` (pages 0x090 to 0x097, offset 0x1E8, 32 bits). -/
def R.CAM_STATS_SAT : Reg := ⟨0x090, 0x097, 0x1E8, 1, 0, 32,
  fun p _ => [F.CAM_STATS_SAT_COUNT p]⟩

def F.CAM_COUNT_COUNT (p : Nat) (i : Nat) : Field := fld (0x090 + p) (0x300 + 4 * i) 0 32 .rc 0 .any false false
/-- R195: `CAM.COUNT` (pages 0x090 to 0x097, offset 0x300 and 14 more at stride 4, 32 bits). -/
def R.CAM_COUNT : Reg := ⟨0x090, 0x097, 0x300, 15, 4, 32,
  fun p i => [F.CAM_COUNT_COUNT p i]⟩

def F.CAM_I2C_CFG_STRETCH_MS (p : Nat) : Field := fld (0x090 + p) 0x200 8 8 .rw 10 (.range 1 255) false false
def F.CAM_I2C_CFG_SPEED (p : Nat) : Field := fld (0x090 + p) 0x200 0 2 .rw 0 (.range 0 2) false true
/-- R196: `CAM.I2C_CFG` (pages 0x090 to 0x097, offset 0x200, 32 bits). -/
def R.CAM_I2C_CFG : Reg := ⟨0x090, 0x097, 0x200, 1, 0, 32,
  fun p _ => [F.CAM_I2C_CFG_STRETCH_MS p, F.CAM_I2C_CFG_SPEED p]⟩

def F.CAM_I2C_CMD_BUSY (p : Nat) : Field := fld (0x090 + p) 0x204 31 1 .ro 0 .any false false
def F.CAM_I2C_CMD_BUS (p : Nat) : Field := fld (0x090 + p) 0x204 24 1 .rw 0 .any false false
def F.CAM_I2C_CMD_ADDR (p : Nat) : Field := fld (0x090 + p) 0x204 17 7 .rw 0 .any false false
def F.CAM_I2C_CMD_WLEN (p : Nat) : Field := fld (0x090 + p) 0x204 12 4 .rw 0 (.range 0 8) false false
def F.CAM_I2C_CMD_RLEN (p : Nat) : Field := fld (0x090 + p) 0x204 8 4 .rw 0 (.range 0 8) false false
/-- R196: `CAM.I2C_CMD` (pages 0x090 to 0x097, offset 0x204, 32 bits). -/
def R.CAM_I2C_CMD : Reg := ⟨0x090, 0x097, 0x204, 1, 0, 32,
  fun p _ => [F.CAM_I2C_CMD_BUSY p, F.CAM_I2C_CMD_BUS p, F.CAM_I2C_CMD_ADDR p, F.CAM_I2C_CMD_WLEN p, F.CAM_I2C_CMD_RLEN p]⟩

def F.CAM_I2C_DATA_DATA (p : Nat) : Field := fld (0x090 + p) 0x208 0 64 .rw 0 .any false false
/-- R196: `CAM.I2C_DATA` (pages 0x090 to 0x097, offset 0x208, 64 bits). -/
def R.CAM_I2C_DATA : Reg := ⟨0x090, 0x097, 0x208, 1, 0, 64,
  fun p _ => [F.CAM_I2C_DATA_DATA p]⟩

def F.CAM_I2C_STATUS_CODE (p : Nat) : Field := fld (0x090 + p) 0x210 0 3 .ro 0 .any false false
/-- R196: `CAM.I2C_STATUS` (pages 0x090 to 0x097, offset 0x210, 32 bits). -/
def R.CAM_I2C_STATUS : Reg := ⟨0x090, 0x097, 0x210, 1, 0, 32,
  fun p _ => [F.CAM_I2C_STATUS_CODE p]⟩

def F.IPP_MODE_MODE (p : Nat) : Field := fld (0x098 + p) 0x100 4 2 .rw 2 (.range 0 2) false false
def F.IPP_MODE_PORT (p : Nat) : Field := fld (0x098 + p) 0x100 0 3 .rw 0 .any false false
/-- R197: `IPP.MODE` (pages 0x098 to 0x099, offset 0x100, 32 bits). -/
def R.IPP_MODE : Reg := ⟨0x098, 0x099, 0x100, 1, 0, 32,
  fun p _ => [F.IPP_MODE_MODE p, F.IPP_MODE_PORT p]⟩

def F.IPP_STATUS_BUSY (p : Nat) : Field := fld (0x098 + p) 0x104 31 1 .ro 0 .any false false
def F.IPP_STATUS_PORT (p : Nat) : Field := fld (0x098 + p) 0x104 16 3 .ro 0 .any false false
def F.IPP_STATUS_MODE (p : Nat) : Field := fld (0x098 + p) 0x104 4 2 .ro 2 .any false false
/-- R197: `IPP.STATUS` (pages 0x098 to 0x099, offset 0x104, 32 bits). -/
def R.IPP_STATUS : Reg := ⟨0x098, 0x099, 0x104, 1, 0, 32,
  fun p _ => [F.IPP_STATUS_BUSY p, F.IPP_STATUS_PORT p, F.IPP_STATUS_MODE p]⟩

def F.IPP_STRIPES_COUNT (p : Nat) : Field := fld (0x098 + p) 0x110 0 32 .rc 0 .any false false
/-- R197: `IPP.STRIPES` (pages 0x098 to 0x099, offset 0x110, 32 bits). -/
def R.IPP_STRIPES : Reg := ⟨0x098, 0x099, 0x110, 1, 0, 32,
  fun p _ => [F.IPP_STRIPES_COUNT p]⟩

def F.IPP_SWITCHES_COUNT (p : Nat) : Field := fld (0x098 + p) 0x114 0 32 .rc 0 .any false false
/-- R197: `IPP.SWITCHES` (pages 0x098 to 0x099, offset 0x114, 32 bits). -/
def R.IPP_SWITCHES : Reg := ⟨0x098, 0x099, 0x114, 1, 0, 32,
  fun p _ => [F.IPP_SWITCHES_COUNT p]⟩

def F.IPP_LOAD_PERCENT (p : Nat) : Field := fld (0x098 + p) 0x118 0 7 .ro 0 .any false false
/-- R197: `IPP.LOAD` (pages 0x098 to 0x099, offset 0x118, 32 bits). -/
def R.IPP_LOAD : Reg := ⟨0x098, 0x099, 0x118, 1, 0, 32,
  fun p _ => [F.IPP_LOAD_PERCENT p]⟩

def F.IPP_WAIT_MAX_NS (p : Nat) : Field := fld (0x098 + p) 0x11C 0 32 .rc 0 .any false false
/-- R197: `IPP.WAIT_MAX` (pages 0x098 to 0x099, offset 0x11C, 32 bits). -/
def R.IPP_WAIT_MAX : Reg := ⟨0x098, 0x099, 0x11C, 1, 0, 32,
  fun p _ => [F.IPP_WAIT_MAX_NS p]⟩

def F.VWB_STATUS_TRACKING : Field := fld 0x0A0 0x100 30 2 .ro 0 .any false false
def F.VWB_STATUS_KEEPER : Field := fld 0x0A0 0x100 29 1 .ro 0 .any false false
def F.VWB_STATUS_OVERFLOW : Field := fld 0x0A0 0x100 16 8 .ro 0 .any false false
def F.VWB_STATUS_CANDIDATES : Field := fld 0x0A0 0x100 8 8 .ro 0 .any false false
def F.VWB_STATUS_VIEWERS : Field := fld 0x0A0 0x100 0 6 .ro 0 .any false false
/-- R216: `VWB.STATUS` (page 0x0A0, offset 0x100, 32 bits). -/
def R.VWB_STATUS : Reg := ⟨0x0A0, 0x0A0, 0x100, 1, 0, 32,
  fun _ _ => [F.VWB_STATUS_TRACKING, F.VWB_STATUS_KEEPER, F.VWB_STATUS_OVERFLOW, F.VWB_STATUS_CANDIDATES, F.VWB_STATUS_VIEWERS]⟩

def F.VWB_EDITION_COUNT : Field := fld 0x0A0 0x104 0 32 .ro 0 .any false false
/-- R216: `VWB.EDITION` (page 0x0A0, offset 0x104, 32 bits). -/
def R.VWB_EDITION : Reg := ⟨0x0A0, 0x0A0, 0x104, 1, 0, 32,
  fun _ _ => [F.VWB_EDITION_COUNT]⟩

def F.VWB_ROSTER_GEN_GEN : Field := fld 0x0A0 0x108 0 32 .ro 0 .any false false
/-- R216: `VWB.ROSTER_GEN` (page 0x0A0, offset 0x108, 32 bits). -/
def R.VWB_ROSTER_GEN : Reg := ⟨0x0A0, 0x0A0, 0x108, 1, 0, 32,
  fun _ _ => [F.VWB_ROSTER_GEN_GEN]⟩

def F.VWB_COUNT_COUNT (i : Nat) : Field := fld 0x0A0 (0x140 + 4 * i) 0 32 .rc 0 .any false false
/-- R216: `VWB.COUNT` (page 0x0A0, offset 0x140 and 6 more at stride 4, 32 bits). -/
def R.VWB_COUNT : Reg := ⟨0x0A0, 0x0A0, 0x140, 7, 4, 32,
  fun _ i => [F.VWB_COUNT_COUNT i]⟩

def F.VWB_ZONE_OBSERVED (i : Nat) : Field := fld 0x0A0 (0x180 + 4 * i) 16 1 .ro 1 .any false false
def F.VWB_ZONE_FACTOR (i : Nat) : Field := fld 0x0A0 (0x180 + 4 * i) 0 9 .ro 256 .any false false
/-- R216: `VWB.ZONE` (page 0x0A0, offset 0x180 and 23 more at stride 4, 32 bits). -/
def R.VWB_ZONE : Reg := ⟨0x0A0, 0x0A0, 0x180, 24, 4, 32,
  fun _ i => [F.VWB_ZONE_OBSERVED i, F.VWB_ZONE_FACTOR i]⟩

def F.VWB_TILE_ORIGIN_VALUE (i : Nat) : Field := fld 0x0A1 (0x100 + 4 * i) 0 32 .rw 0 .any false false
/-- R217: `VWB.TILE_ORIGIN` (page 0x0A1, offset 0x100 and 2 more at stride 4, 32 bits). -/
def R.VWB_TILE_ORIGIN : Reg := ⟨0x0A1, 0x0A1, 0x100, 3, 4, 32,
  fun _ i => [F.VWB_TILE_ORIGIN_VALUE i]⟩

def F.VWB_RANGE_MAX_MM : Field := fld 0x0A1 0x10C 16 16 .rw 10000 (.range 1000 20000) false false
def F.VWB_RANGE_MIN_MM : Field := fld 0x0A1 0x10C 0 16 .rw 400 (.range 200 2000) false false
/-- R217: `VWB.RANGE` (page 0x0A1, offset 0x10C, 32 bits). -/
def R.VWB_RANGE : Reg := ⟨0x0A1, 0x0A1, 0x10C, 1, 0, 32,
  fun _ _ => [F.VWB_RANGE_MAX_MM, F.VWB_RANGE_MIN_MM]⟩

def F.VWB_TRACK_CFG_COAST : Field := fld 0x0A1 0x110 16 8 .rw 25 (.range 1 255) false false
def F.VWB_TRACK_CFG_CONFIRM : Field := fld 0x0A1 0x110 12 4 .rw 3 (.range 1 8) false false
def F.VWB_TRACK_CFG_PRED_MAX : Field := fld 0x0A1 0x110 0 8 .rw 12 (.range 0 50) false false
/-- R217: `VWB.TRACK_CFG` (page 0x0A1, offset 0x110, 32 bits). -/
def R.VWB_TRACK_CFG : Reg := ⟨0x0A1, 0x0A1, 0x110, 1, 0, 32,
  fun _ _ => [F.VWB_TRACK_CFG_COAST, F.VWB_TRACK_CFG_CONFIRM, F.VWB_TRACK_CFG_PRED_MAX]⟩

def F.VWB_FAN_FAN_V : Field := fld 0x0A1 0x114 16 16 .ro 0 .any false true
def F.VWB_FAN_FAN_H : Field := fld 0x0A1 0x114 0 16 .ro 0 .any false true
/-- R217: `VWB.FAN` (page 0x0A1, offset 0x114, 32 bits). -/
def R.VWB_FAN : Reg := ⟨0x0A1, 0x0A1, 0x114, 1, 0, 32,
  fun _ _ => [F.VWB_FAN_FAN_V, F.VWB_FAN_FAN_H]⟩

def F.VWB_REQ_TRACK_PREDICT : Field := fld 0x0A2 0x100 1 1 .rw 1 .any false false
def F.VWB_REQ_TRACK_EN : Field := fld 0x0A2 0x100 0 1 .rw 1 .any false false
/-- R218: `VWB.REQ_TRACK` (page 0x0A2, offset 0x100, 32 bits). -/
def R.VWB_REQ_TRACK : Reg := ⟨0x0A2, 0x0A2, 0x100, 1, 0, 32,
  fun _ _ => [F.VWB_REQ_TRACK_PREDICT, F.VWB_REQ_TRACK_EN]⟩

def F.VWB_REQ_CONE_GROW_MM : Field := fld 0x0A2 0x108 8 8 .rw 2 (.range 0 10) false false
def F.VWB_REQ_CONE_HALF_MM : Field := fld 0x0A2 0x108 0 8 .rw 6 (.range 1 25) false false
/-- R218: `VWB.REQ_CONE` (page 0x0A2, offset 0x108, 32 bits). -/
def R.VWB_REQ_CONE : Reg := ⟨0x0A2, 0x0A2, 0x108, 1, 0, 32,
  fun _ _ => [F.VWB_REQ_CONE_GROW_MM, F.VWB_REQ_CONE_HALF_MM]⟩

def F.VWB_REQ_SS_DEFAULT_N : Field := fld 0x0A2 0x140 4 2 .rw 0 (.range 0 2) false false
def F.VWB_REQ_SS_EYE_N : Field := fld 0x0A2 0x140 0 2 .rw 1 (.range 0 2) false false
/-- R218: `VWB.REQ_SS` (page 0x0A2, offset 0x140, 32 bits). -/
def R.VWB_REQ_SS : Reg := ⟨0x0A2, 0x0A2, 0x140, 1, 0, 32,
  fun _ _ => [F.VWB_REQ_SS_DEFAULT_N, F.VWB_REQ_SS_EYE_N]⟩

def F.VWB_REQ_W_EYE_W : Field := fld 0x0A2 0x148 0 24 .rw 0x000800 (.range 0 0x040000) false false
/-- R218: `VWB.REQ_W_EYE` (page 0x0A2, offset 0x148, 32 bits). -/
def R.VWB_REQ_W_EYE : Reg := ⟨0x0A2, 0x0A2, 0x148, 1, 0, 32,
  fun _ _ => [F.VWB_REQ_W_EYE_W]⟩

def F.VWB_REQ_W_DEFAULT_W : Field := fld 0x0A2 0x150 0 24 .rw 0x0038E4 (.range 0 0x040000) false false
/-- R218: `VWB.REQ_W_DEFAULT` (page 0x0A2, offset 0x150, 32 bits). -/
def R.VWB_REQ_W_DEFAULT : Reg := ⟨0x0A2, 0x0A2, 0x150, 1, 0, 32,
  fun _ _ => [F.VWB_REQ_W_DEFAULT_W]⟩

def F.VWB_REQ_LOAD_LIMIT : Field := fld 0x0A2 0x160 0 7 .rw 55 (.range 30 70) false false
/-- R218: `VWB.REQ_LOAD` (page 0x0A2, offset 0x160, 32 bits). -/
def R.VWB_REQ_LOAD : Reg := ⟨0x0A2, 0x0A2, 0x160, 1, 0, 32,
  fun _ _ => [F.VWB_REQ_LOAD_LIMIT]⟩

def F.VWB_REQ_DIM_EN : Field := fld 0x0A2 0x180 31 1 .rw 0 .any false false
def F.VWB_REQ_DIM_LEVEL : Field := fld 0x0A2 0x180 16 8 .rw 128 .any false false
def F.VWB_REQ_DIM_HOLD_MS : Field := fld 0x0A2 0x180 0 16 .rw 2000 (.range 100 60000) false false
/-- R218: `VWB.REQ_DIM` (page 0x0A2, offset 0x180, 32 bits). -/
def R.VWB_REQ_DIM : Reg := ⟨0x0A2, 0x0A2, 0x180, 1, 0, 32,
  fun _ _ => [F.VWB_REQ_DIM_EN, F.VWB_REQ_DIM_LEVEL, F.VWB_REQ_DIM_HOLD_MS]⟩

def F.VWB_ROSTER_CAPTURE_GEN : Field := fld 0x0A3 0x100 0 32 .ro 0 .any false false
/-- R219: `VWB.ROSTER_CAPTURE` (page 0x0A3, offset 0x100, 32 bits). -/
def R.VWB_ROSTER_CAPTURE : Reg := ⟨0x0A3, 0x0A3, 0x100, 1, 0, 32,
  fun _ _ => [F.VWB_ROSTER_CAPTURE_GEN]⟩

def F.VWB_ROSTER0_ID (i : Nat) : Field := fld 0x0A3 (0x200 + 32 * i) 0 32 .ro 0 .any false false
/-- R219: `VWB.ROSTER0` (page 0x0A3, offset 0x200 and 31 more at stride 32, 32 bits). -/
def R.VWB_ROSTER0 : Reg := ⟨0x0A3, 0x0A3, 0x200, 32, 32, 32,
  fun _ i => [F.VWB_ROSTER0_ID i]⟩

def F.VWB_ROSTER1_STATE (i : Nat) : Field := fld 0x0A3 (0x204 + 32 * i) 30 2 .ro 0 .any false false
def F.VWB_ROSTER1_OWNER (i : Nat) : Field := fld 0x0A3 (0x204 + 32 * i) 24 6 .ro 0 .any false false
def F.VWB_ROSTER1_AGE_MS (i : Nat) : Field := fld 0x0A3 (0x204 + 32 * i) 16 8 .ro 0 .any false false
def F.VWB_ROSTER1_EYES (i : Nat) : Field := fld 0x0A3 (0x204 + 32 * i) 0 2 .ro 0 .any false false
/-- R219: `VWB.ROSTER1` (page 0x0A3, offset 0x204 and 31 more at stride 32, 32 bits). -/
def R.VWB_ROSTER1 : Reg := ⟨0x0A3, 0x0A3, 0x204, 32, 32, 32,
  fun _ i => [F.VWB_ROSTER1_STATE i, F.VWB_ROSTER1_OWNER i, F.VWB_ROSTER1_AGE_MS i, F.VWB_ROSTER1_EYES i]⟩

def F.VWB_ROSTER_LEFT_X_VALUE (i : Nat) : Field := fld 0x0A3 (0x208 + 32 * i) 0 32 .ro 0 .any false false
/-- R219: `VWB.ROSTER_LEFT_X` (page 0x0A3, offset 0x208 and 31 more at stride 32, 32 bits). -/
def R.VWB_ROSTER_LEFT_X : Reg := ⟨0x0A3, 0x0A3, 0x208, 32, 32, 32,
  fun _ i => [F.VWB_ROSTER_LEFT_X_VALUE i]⟩

def F.VWB_ROSTER_LEFT_Y_VALUE (i : Nat) : Field := fld 0x0A3 (0x20C + 32 * i) 0 32 .ro 0 .any false false
/-- R219: `VWB.ROSTER_LEFT_Y` (page 0x0A3, offset 0x20C and 31 more at stride 32, 32 bits). -/
def R.VWB_ROSTER_LEFT_Y : Reg := ⟨0x0A3, 0x0A3, 0x20C, 32, 32, 32,
  fun _ i => [F.VWB_ROSTER_LEFT_Y_VALUE i]⟩

def F.VWB_ROSTER_LEFT_Z_VALUE (i : Nat) : Field := fld 0x0A3 (0x210 + 32 * i) 0 32 .ro 0 .any false false
/-- R219: `VWB.ROSTER_LEFT_Z` (page 0x0A3, offset 0x210 and 31 more at stride 32, 32 bits). -/
def R.VWB_ROSTER_LEFT_Z : Reg := ⟨0x0A3, 0x0A3, 0x210, 32, 32, 32,
  fun _ i => [F.VWB_ROSTER_LEFT_Z_VALUE i]⟩

def F.VWB_ROSTER_RIGHT_X_VALUE (i : Nat) : Field := fld 0x0A3 (0x214 + 32 * i) 0 32 .ro 0 .any false false
/-- R219: `VWB.ROSTER_RIGHT_X` (page 0x0A3, offset 0x214 and 31 more at stride 32, 32 bits). -/
def R.VWB_ROSTER_RIGHT_X : Reg := ⟨0x0A3, 0x0A3, 0x214, 32, 32, 32,
  fun _ i => [F.VWB_ROSTER_RIGHT_X_VALUE i]⟩

def F.VWB_ROSTER_RIGHT_Y_VALUE (i : Nat) : Field := fld 0x0A3 (0x218 + 32 * i) 0 32 .ro 0 .any false false
/-- R219: `VWB.ROSTER_RIGHT_Y` (page 0x0A3, offset 0x218 and 31 more at stride 32, 32 bits). -/
def R.VWB_ROSTER_RIGHT_Y : Reg := ⟨0x0A3, 0x0A3, 0x218, 32, 32, 32,
  fun _ i => [F.VWB_ROSTER_RIGHT_Y_VALUE i]⟩

def F.VWB_ROSTER_RIGHT_Z_VALUE (i : Nat) : Field := fld 0x0A3 (0x21C + 32 * i) 0 32 .ro 0 .any false false
/-- R219: `VWB.ROSTER_RIGHT_Z` (page 0x0A3, offset 0x21C and 31 more at stride 32, 32 bits). -/
def R.VWB_ROSTER_RIGHT_Z : Reg := ⟨0x0A3, 0x0A3, 0x21C, 32, 32, 32,
  fun _ i => [F.VWB_ROSTER_RIGHT_Z_VALUE i]⟩

def F.CMP_CTRL_DITHER_EN : Field := fld 0x0B0 0x100 1 1 .rw 1 .any false false
def F.CMP_CTRL_OVL_EN : Field := fld 0x0B0 0x100 0 1 .rw 1 .any false false
/-- R240: `CMP.CTRL` (page 0x0B0, offset 0x100, 32 bits). -/
def R.CMP_CTRL : Reg := ⟨0x0B0, 0x0B0, 0x100, 1, 0, 32,
  fun _ _ => [F.CMP_CTRL_DITHER_EN, F.CMP_CTRL_OVL_EN]⟩

def F.CMP_STATUS_PROT_ACTIVE : Field := fld 0x0B0 0x104 31 1 .ro 0 .any false false
def F.CMP_STATUS_BLACK_UNDER : Field := fld 0x0B0 0x104 16 12 .ro 0 .any false false
def F.CMP_STATUS_LUT_BANK : Field := fld 0x0B0 0x104 8 1 .ro 0 .any false false
def F.CMP_STATUS_ARMED : Field := fld 0x0B0 0x104 0 4 .ro 0 .any false false
/-- R240: `CMP.STATUS` (page 0x0B0, offset 0x104, 32 bits). -/
def R.CMP_STATUS : Reg := ⟨0x0B0, 0x0B0, 0x104, 1, 0, 32,
  fun _ _ => [F.CMP_STATUS_PROT_ACTIVE, F.CMP_STATUS_BLACK_UNDER, F.CMP_STATUS_LUT_BANK, F.CMP_STATUS_ARMED]⟩

def F.CMP_LUT_ADDR_ADDR : Field := fld 0x0B0 0x110 6 30 .rw 0 .any false false
/-- R240: `CMP.LUT_ADDR` (page 0x0B0, offset 0x110, 64 bits). -/
def R.CMP_LUT_ADDR : Reg := ⟨0x0B0, 0x0B0, 0x110, 1, 0, 64,
  fun _ _ => [F.CMP_LUT_ADDR_ADDR]⟩

def F.CMP_LUT_LOAD_BUSY : Field := fld 0x0B0 0x118 31 1 .ro 0 .any false false
def F.CMP_LUT_LOAD_BANK : Field := fld 0x0B0 0x118 0 1 .rw 0 .any false false
/-- R240: `CMP.LUT_LOAD` (page 0x0B0, offset 0x118, 32 bits). -/
def R.CMP_LUT_LOAD : Reg := ⟨0x0B0, 0x0B0, 0x118, 1, 0, 32,
  fun _ _ => [F.CMP_LUT_LOAD_BUSY, F.CMP_LUT_LOAD_BANK]⟩

def F.CMP_LUT_STATUS_CODE : Field := fld 0x0B0 0x11C 0 3 .ro 0 .any false false
/-- R240: `CMP.LUT_STATUS` (page 0x0B0, offset 0x11C, 32 bits). -/
def R.CMP_LUT_STATUS : Reg := ⟨0x0B0, 0x0B0, 0x11C, 1, 0, 32,
  fun _ _ => [F.CMP_LUT_STATUS_CODE]⟩

def F.CMP_FLIP_CTRL_ARMED (i : Nat) : Field := fld 0x0B0 (0x140 + 32 * i) 31 1 .ro 0 .any false false
def F.CMP_FLIP_CTRL_READY (i : Nat) : Field := fld 0x0B0 (0x140 + 32 * i) 30 1 .ro 0 .any false false
def F.CMP_FLIP_CTRL_CANCEL (i : Nat) : Field := fld 0x0B0 (0x140 + 32 * i) 29 1 .wo 0 .any false false
def F.CMP_FLIP_CTRL_ARM (i : Nat) : Field := fld 0x0B0 (0x140 + 32 * i) 28 1 .wo 0 .any false false
def F.CMP_FLIP_CTRL_WAIT_FENCE (i : Nat) : Field := fld 0x0B0 (0x140 + 32 * i) 24 1 .rw 0 .any false false
def F.CMP_FLIP_CTRL_FENCE_INDEX (i : Nat) : Field := fld 0x0B0 (0x140 + 32 * i) 16 8 .rw 0 .any false false
def F.CMP_FLIP_CTRL_RESULT (i : Nat) : Field := fld 0x0B0 (0x140 + 32 * i) 12 2 .ro 0 .any false false
def F.CMP_FLIP_CTRL_LUT_SEL (i : Nat) : Field := fld 0x0B0 (0x140 + 32 * i) 8 2 .rw 0 (.but 1) false false
def F.CMP_FLIP_CTRL_PLANES (i : Nat) : Field := fld 0x0B0 (0x140 + 32 * i) 0 8 .rw 0 .any false false
/-- R240: `CMP.FLIP_CTRL` (page 0x0B0, offset 0x140 and 3 more at stride 32, 32 bits). -/
def R.CMP_FLIP_CTRL : Reg := ⟨0x0B0, 0x0B0, 0x140, 4, 32, 32,
  fun _ i => [F.CMP_FLIP_CTRL_ARMED i, F.CMP_FLIP_CTRL_READY i, F.CMP_FLIP_CTRL_CANCEL i, F.CMP_FLIP_CTRL_ARM i, F.CMP_FLIP_CTRL_WAIT_FENCE i, F.CMP_FLIP_CTRL_FENCE_INDEX i, F.CMP_FLIP_CTRL_RESULT i, F.CMP_FLIP_CTRL_LUT_SEL i, F.CMP_FLIP_CTRL_PLANES i]⟩

def F.CMP_FLIP_VALUE_VALUE (i : Nat) : Field := fld 0x0B0 (0x148 + 32 * i) 0 64 .rw 0 .any false false
/-- R240: `CMP.FLIP_VALUE` (page 0x0B0, offset 0x148 and 3 more at stride 32, 64 bits). -/
def R.CMP_FLIP_VALUE : Reg := ⟨0x0B0, 0x0B0, 0x148, 4, 32, 64,
  fun _ i => [F.CMP_FLIP_VALUE_VALUE i]⟩

def F.CMP_FLIP_TAG_TAG (i : Nat) : Field := fld 0x0B0 (0x150 + 32 * i) 0 32 .rw 0 .any false false
/-- R240: `CMP.FLIP_TAG` (page 0x0B0, offset 0x150 and 3 more at stride 32, 32 bits). -/
def R.CMP_FLIP_TAG : Reg := ⟨0x0B0, 0x0B0, 0x150, 4, 32, 32,
  fun _ i => [F.CMP_FLIP_TAG_TAG i]⟩

def F.CMP_FLIP_DONE_TAG_TAG (i : Nat) : Field := fld 0x0B0 (0x154 + 32 * i) 0 32 .ro 0 .any false false
/-- R240: `CMP.FLIP_DONE_TAG` (page 0x0B0, offset 0x154 and 3 more at stride 32, 32 bits). -/
def R.CMP_FLIP_DONE_TAG : Reg := ⟨0x0B0, 0x0B0, 0x154, 4, 32, 32,
  fun _ i => [F.CMP_FLIP_DONE_TAG_TAG i]⟩

def F.CMP_FLIP_DONE_SUBFRAME_NUMBER (i : Nat) : Field := fld 0x0B0 (0x158 + 32 * i) 0 64 .ro 0 .any false false
/-- R240: `CMP.FLIP_DONE_SUBFRAME` (page 0x0B0, offset 0x158 and 3 more at stride 32, 64 bits). -/
def R.CMP_FLIP_DONE_SUBFRAME : Reg := ⟨0x0B0, 0x0B0, 0x158, 4, 32, 64,
  fun _ i => [F.CMP_FLIP_DONE_SUBFRAME_NUMBER i]⟩

def F.CMP_STRIPE_BASE_ADDR : Field := fld 0x0B0 0x1C0 16 20 .rw 0 .any false true
/-- R240: `CMP.STRIPE_BASE` (page 0x0B0, offset 0x1C0, 64 bits). -/
def R.CMP_STRIPE_BASE : Reg := ⟨0x0B0, 0x0B0, 0x1C0, 1, 0, 64,
  fun _ _ => [F.CMP_STRIPE_BASE_ADDR]⟩

def F.CMP_YARD_TIMEOUT_MS : Field := fld 0x0B0 0x1C8 0 8 .rw 20 (.range 2 200) false false
/-- R240: `CMP.YARD_TIMEOUT` (page 0x0B0, offset 0x1C8, 32 bits). -/
def R.CMP_YARD_TIMEOUT : Reg := ⟨0x0B0, 0x0B0, 0x1C8, 1, 0, 32,
  fun _ _ => [F.CMP_YARD_TIMEOUT_MS]⟩

def F.CMP_YARD_EXCLUDED_COUNT : Field := fld 0x0B0 0x1CC 0 32 .rc 0 .any false false
/-- R240: `CMP.YARD_EXCLUDED` (page 0x0B0, offset 0x1CC, 32 bits). -/
def R.CMP_YARD_EXCLUDED : Reg := ⟨0x0B0, 0x0B0, 0x1CC, 1, 0, 32,
  fun _ _ => [F.CMP_YARD_EXCLUDED_COUNT]⟩

def F.CMP_PL_ADDR_ADDR (p : Nat) : Field := fld (0x0B1 + p) 0x100 6 30 .rw 0 .any false false
/-- R241: `CMP.PL_ADDR` (pages 0x0B1 to 0x0B8, offset 0x100, 64 bits). -/
def R.CMP_PL_ADDR : Reg := ⟨0x0B1, 0x0B8, 0x100, 1, 0, 64,
  fun p _ => [F.CMP_PL_ADDR_ADDR p]⟩

def F.CMP_PL_FMT_EN (p : Nat) : Field := fld (0x0B1 + p) 0x108 31 1 .rw 0 .any false false
def F.CMP_PL_FMT_ALPHA_MODE (p : Nat) : Field := fld (0x0B1 + p) 0x108 24 2 .rw 0 (.range 0 1) false false
def F.CMP_PL_FMT_PLANE_ALPHA (p : Nat) : Field := fld (0x0B1 + p) 0x108 16 8 .rw 255 .any false false
def F.CMP_PL_FMT_FORMAT (p : Nat) : Field := fld (0x0B1 + p) 0x108 0 8 .rw 0x02 .any false false
/-- R241: `CMP.PL_FMT` (pages 0x0B1 to 0x0B8, offset 0x108, 32 bits). -/
def R.CMP_PL_FMT : Reg := ⟨0x0B1, 0x0B8, 0x108, 1, 0, 32,
  fun p _ => [F.CMP_PL_FMT_EN p, F.CMP_PL_FMT_ALPHA_MODE p, F.CMP_PL_FMT_PLANE_ALPHA p, F.CMP_PL_FMT_FORMAT p]⟩

def F.CMP_PL_PITCH_BYTES (p : Nat) : Field := fld (0x0B1 + p) 0x10C 0 21 .rw 0 .any false false
/-- R241: `CMP.PL_PITCH` (pages 0x0B1 to 0x0B8, offset 0x10C, 32 bits). -/
def R.CMP_PL_PITCH : Reg := ⟨0x0B1, 0x0B8, 0x10C, 1, 0, 32,
  fun p _ => [F.CMP_PL_PITCH_BYTES p]⟩

def F.CMP_PL_SRC_SRC_Y (p : Nat) : Field := fld (0x0B1 + p) 0x110 16 16 .rw 0 .any false false
def F.CMP_PL_SRC_SRC_X (p : Nat) : Field := fld (0x0B1 + p) 0x110 0 16 .rw 0 .any false false
/-- R241: `CMP.PL_SRC` (pages 0x0B1 to 0x0B8, offset 0x110, 32 bits). -/
def R.CMP_PL_SRC : Reg := ⟨0x0B1, 0x0B8, 0x110, 1, 0, 32,
  fun p _ => [F.CMP_PL_SRC_SRC_Y p, F.CMP_PL_SRC_SRC_X p]⟩

def F.CMP_PL_SIZE_H (p : Nat) : Field := fld (0x0B1 + p) 0x114 16 16 .rw 0 .any false false
def F.CMP_PL_SIZE_W (p : Nat) : Field := fld (0x0B1 + p) 0x114 0 16 .rw 0 .any false false
/-- R241: `CMP.PL_SIZE` (pages 0x0B1 to 0x0B8, offset 0x114, 32 bits). -/
def R.CMP_PL_SIZE : Reg := ⟨0x0B1, 0x0B8, 0x114, 1, 0, 32,
  fun p _ => [F.CMP_PL_SIZE_H p, F.CMP_PL_SIZE_W p]⟩

def F.CMP_PL_DST_DST_Y (p : Nat) : Field := fld (0x0B1 + p) 0x118 16 16 .rw 0 .any false false
def F.CMP_PL_DST_DST_X (p : Nat) : Field := fld (0x0B1 + p) 0x118 0 16 .rw 0 .any false false
/-- R241: `CMP.PL_DST` (pages 0x0B1 to 0x0B8, offset 0x118, 32 bits). -/
def R.CMP_PL_DST : Reg := ⟨0x0B1, 0x0B8, 0x118, 1, 0, 32,
  fun p _ => [F.CMP_PL_DST_DST_Y p, F.CMP_PL_DST_DST_X p]⟩

def F.CMP_PL_CHROMA_ADDR (p : Nat) : Field := fld (0x0B1 + p) 0x120 6 30 .rw 0 .any false false
/-- R241: `CMP.PL_CHROMA` (pages 0x0B1 to 0x0B8, offset 0x120, 64 bits). -/
def R.CMP_PL_CHROMA : Reg := ⟨0x0B1, 0x0B8, 0x120, 1, 0, 64,
  fun p _ => [F.CMP_PL_CHROMA_ADDR p]⟩

def F.CMP_PROT_CTRL_REARM : Field := fld 0x0BF 0x100 2 1 .srw 0 .any false false
def F.CMP_PROT_CTRL_SWAP : Field := fld 0x0BF 0x100 1 1 .srw 0 .any false false
def F.CMP_PROT_CTRL_EN : Field := fld 0x0BF 0x100 0 1 .srw 0 .any false false
/-- R242: `CMP.PROT_CTRL` (page 0x0BF, offset 0x100, 32 bits). -/
def R.CMP_PROT_CTRL : Reg := ⟨0x0BF, 0x0BF, 0x100, 1, 0, 32,
  fun _ _ => [F.CMP_PROT_CTRL_REARM, F.CMP_PROT_CTRL_SWAP, F.CMP_PROT_CTRL_EN]⟩

def F.CMP_PROT_ADDR_ADDR : Field := fld 0x0BF 0x108 6 30 .srw 0 .any false false
/-- R242: `CMP.PROT_ADDR` (page 0x0BF, offset 0x108, 64 bits). -/
def R.CMP_PROT_ADDR : Reg := ⟨0x0BF, 0x0BF, 0x108, 1, 0, 64,
  fun _ _ => [F.CMP_PROT_ADDR_ADDR]⟩

def F.CMP_PROT_PITCH_BYTES : Field := fld 0x0BF 0x110 0 21 .srw 0 .any false false
/-- R242: `CMP.PROT_PITCH` (page 0x0BF, offset 0x110, 32 bits). -/
def R.CMP_PROT_PITCH : Reg := ⟨0x0BF, 0x0BF, 0x110, 1, 0, 32,
  fun _ _ => [F.CMP_PROT_PITCH_BYTES]⟩

def F.CMP_PROT_DST_DST_Y : Field := fld 0x0BF 0x114 16 16 .srw 0 .any false false
def F.CMP_PROT_DST_DST_X : Field := fld 0x0BF 0x114 0 16 .srw 0 .any false false
/-- R242: `CMP.PROT_DST` (page 0x0BF, offset 0x114, 32 bits). -/
def R.CMP_PROT_DST : Reg := ⟨0x0BF, 0x0BF, 0x114, 1, 0, 32,
  fun _ _ => [F.CMP_PROT_DST_DST_Y, F.CMP_PROT_DST_DST_X]⟩

def F.CMP_PROT_SIZE_H : Field := fld 0x0BF 0x118 16 16 .srw 0 .any false false
def F.CMP_PROT_SIZE_W : Field := fld 0x0BF 0x118 0 16 .srw 0 .any false false
/-- R242: `CMP.PROT_SIZE` (page 0x0BF, offset 0x118, 32 bits). -/
def R.CMP_PROT_SIZE : Reg := ⟨0x0BF, 0x0BF, 0x118, 1, 0, 32,
  fun _ _ => [F.CMP_PROT_SIZE_H, F.CMP_PROT_SIZE_W]⟩

def F.CMP_PROT_CRC_REF_CRC (i : Nat) : Field := fld 0x0BF (0x140 + 4 * i) 0 32 .srw 0 .any false false
/-- R242: `CMP.PROT_CRC_REF` (page 0x0BF, offset 0x140 and 11 more at stride 4, 32 bits). -/
def R.CMP_PROT_CRC_REF : Reg := ⟨0x0BF, 0x0BF, 0x140, 12, 4, 32,
  fun _ i => [F.CMP_PROT_CRC_REF_CRC i]⟩

def F.CMP_PROT_CRC_LAST_CRC (i : Nat) : Field := fld 0x0BF (0x180 + 4 * i) 0 32 .ro 0 .any false false
/-- R242: `CMP.PROT_CRC_LAST` (page 0x0BF, offset 0x180 and 11 more at stride 4, 32 bits). -/
def R.CMP_PROT_CRC_LAST : Reg := ⟨0x0BF, 0x0BF, 0x180, 12, 4, 32,
  fun _ i => [F.CMP_PROT_CRC_LAST_CRC i]⟩

def F.CMP_PROT_MISMATCH_COUNT : Field := fld 0x0BF 0x1C0 0 32 .rc 0 .any false false
/-- R242: `CMP.PROT_MISMATCH` (page 0x0BF, offset 0x1C0, 32 bits). -/
def R.CMP_PROT_MISMATCH : Reg := ⟨0x0BF, 0x0BF, 0x1C0, 1, 0, 32,
  fun _ _ => [F.CMP_PROT_MISMATCH_COUNT]⟩

def F.BLT_QUEUE_EN : Field := fld 0x0C0 0x100 31 1 .rw 0 .any false false
def F.BLT_QUEUE_QUEUE : Field := fld 0x0C0 0x100 0 18 .rw 0 .auxQueue false false
/-- R243: `BLT.QUEUE` (page 0x0C0, offset 0x100, 32 bits). -/
def R.BLT_QUEUE : Reg := ⟨0x0C0, 0x0C0, 0x100, 1, 0, 32,
  fun _ _ => [F.BLT_QUEUE_EN, F.BLT_QUEUE_QUEUE]⟩

def F.BLT_LIST_STATUS_BUSY : Field := fld 0x0C0 0x104 31 1 .ro 0 .any false false
def F.BLT_LIST_STATUS_CODE : Field := fld 0x0C0 0x104 0 8 .ro 0 .any false false
/-- R243: `BLT.LIST_STATUS` (page 0x0C0, offset 0x104, 32 bits). -/
def R.BLT_LIST_STATUS : Reg := ⟨0x0C0, 0x0C0, 0x104, 1, 0, 32,
  fun _ _ => [F.BLT_LIST_STATUS_BUSY, F.BLT_LIST_STATUS_CODE]⟩

def F.BLT_LIST_OFFSET_OFFSET : Field := fld 0x0C0 0x108 0 32 .ro 0 .any false false
/-- R243: `BLT.LIST_OFFSET` (page 0x0C0, offset 0x108, 32 bits). -/
def R.BLT_LIST_OFFSET : Reg := ⟨0x0C0, 0x0C0, 0x108, 1, 0, 32,
  fun _ _ => [F.BLT_LIST_OFFSET_OFFSET]⟩

def F.BLT_LIST_SEQ_SEQ : Field := fld 0x0C0 0x10C 0 32 .ro 0 .any false false
/-- R243: `BLT.LIST_SEQ` (page 0x0C0, offset 0x10C, 32 bits). -/
def R.BLT_LIST_SEQ : Reg := ⟨0x0C0, 0x0C0, 0x10C, 1, 0, 32,
  fun _ _ => [F.BLT_LIST_SEQ_SEQ]⟩

def F.BLT_TAG_TAG : Field := fld 0x0C0 0x110 0 16 .ro 0 .any false false
/-- R243: `BLT.TAG` (page 0x0C0, offset 0x110, 32 bits). -/
def R.BLT_TAG : Reg := ⟨0x0C0, 0x0C0, 0x110, 1, 0, 32,
  fun _ _ => [F.BLT_TAG_TAG]⟩

def F.BLT_WATERMARK_EN (i : Nat) : Field := fld 0x0C0 (0x140 + 4 * i) 31 1 .rw 0 .any false false
def F.BLT_WATERMARK_LINE (i : Nat) : Field := fld 0x0C0 (0x140 + 4 * i) 0 10 .rw 0 (.range 0 539) false false
/-- R243: `BLT.WATERMARK` (page 0x0C0, offset 0x140 and 11 more at stride 4, 32 bits). -/
def R.BLT_WATERMARK : Reg := ⟨0x0C0, 0x0C0, 0x140, 12, 4, 32,
  fun _ i => [F.BLT_WATERMARK_EN i, F.BLT_WATERMARK_LINE i]⟩

def F.BLT_COMMANDS_COUNT : Field := fld 0x0C0 0x180 0 32 .rc 0 .any false false
/-- R243: `BLT.COMMANDS` (page 0x0C0, offset 0x180, 32 bits). -/
def R.BLT_COMMANDS : Reg := ⟨0x0C0, 0x0C0, 0x180, 1, 0, 32,
  fun _ _ => [F.BLT_COMMANDS_COUNT]⟩

def F.VWB_REQ_TRACK_EFF_PREDICT : Field := fld 0x0A2 0x900 1 1 .ro 1 .any false false
def F.VWB_REQ_TRACK_EFF_EN : Field := fld 0x0A2 0x900 0 1 .ro 1 .any false false
/-- R42: `VWB.REQ_TRACK_EFF` (page 0x0A2, offset 0x900, 32 bits). -/
def R.VWB_REQ_TRACK_EFF : Reg := ⟨0x0A2, 0x0A2, 0x900, 1, 0, 32,
  fun _ _ => [F.VWB_REQ_TRACK_EFF_PREDICT, F.VWB_REQ_TRACK_EFF_EN]⟩

def F.VWB_REQ_CONE_EFF_GROW_MM : Field := fld 0x0A2 0x908 8 8 .ro 2 .any false false
def F.VWB_REQ_CONE_EFF_HALF_MM : Field := fld 0x0A2 0x908 0 8 .ro 6 .any false false
/-- R42: `VWB.REQ_CONE_EFF` (page 0x0A2, offset 0x908, 32 bits). -/
def R.VWB_REQ_CONE_EFF : Reg := ⟨0x0A2, 0x0A2, 0x908, 1, 0, 32,
  fun _ _ => [F.VWB_REQ_CONE_EFF_GROW_MM, F.VWB_REQ_CONE_EFF_HALF_MM]⟩

def F.VWB_REQ_SS_EFF_DEFAULT_N : Field := fld 0x0A2 0x940 4 2 .ro 0 .any false false
def F.VWB_REQ_SS_EFF_EYE_N : Field := fld 0x0A2 0x940 0 2 .ro 1 .any false false
/-- R42: `VWB.REQ_SS_EFF` (page 0x0A2, offset 0x940, 32 bits). -/
def R.VWB_REQ_SS_EFF : Reg := ⟨0x0A2, 0x0A2, 0x940, 1, 0, 32,
  fun _ _ => [F.VWB_REQ_SS_EFF_DEFAULT_N, F.VWB_REQ_SS_EFF_EYE_N]⟩

def F.VWB_REQ_W_EYE_EFF_W : Field := fld 0x0A2 0x948 0 24 .ro 0x000800 .any false false
/-- R42: `VWB.REQ_W_EYE_EFF` (page 0x0A2, offset 0x948, 32 bits). -/
def R.VWB_REQ_W_EYE_EFF : Reg := ⟨0x0A2, 0x0A2, 0x948, 1, 0, 32,
  fun _ _ => [F.VWB_REQ_W_EYE_EFF_W]⟩

def F.VWB_REQ_W_DEFAULT_EFF_W : Field := fld 0x0A2 0x950 0 24 .ro 0x0038E4 .any false false
/-- R42: `VWB.REQ_W_DEFAULT_EFF` (page 0x0A2, offset 0x950, 32 bits). -/
def R.VWB_REQ_W_DEFAULT_EFF : Reg := ⟨0x0A2, 0x0A2, 0x950, 1, 0, 32,
  fun _ _ => [F.VWB_REQ_W_DEFAULT_EFF_W]⟩

def F.VWB_REQ_LOAD_EFF_LIMIT : Field := fld 0x0A2 0x960 0 7 .ro 55 .any false false
/-- R42: `VWB.REQ_LOAD_EFF` (page 0x0A2, offset 0x960, 32 bits). -/
def R.VWB_REQ_LOAD_EFF : Reg := ⟨0x0A2, 0x0A2, 0x960, 1, 0, 32,
  fun _ _ => [F.VWB_REQ_LOAD_EFF_LIMIT]⟩

def F.VWB_REQ_DIM_EFF_EN : Field := fld 0x0A2 0x980 31 1 .ro 0 .any false false
def F.VWB_REQ_DIM_EFF_LEVEL : Field := fld 0x0A2 0x980 16 8 .ro 128 .any false false
def F.VWB_REQ_DIM_EFF_HOLD_MS : Field := fld 0x0A2 0x980 0 16 .ro 2000 .any false false
/-- R42: `VWB.REQ_DIM_EFF` (page 0x0A2, offset 0x980, 32 bits). -/
def R.VWB_REQ_DIM_EFF : Reg := ⟨0x0A2, 0x0A2, 0x980, 1, 0, 32,
  fun _ _ => [F.VWB_REQ_DIM_EFF_EN, F.VWB_REQ_DIM_EFF_LEVEL, F.VWB_REQ_DIM_EFF_HOLD_MS]⟩

def F.CMP_PL_ADDR_FRONT_ADDR (p : Nat) : Field := fld (0x0B1 + p) 0x200 6 30 .ro 0 .any false false
/-- R241: `CMP.PL_ADDR_FRONT` (pages 0x0B1 to 0x0B8, offset 0x200, 64 bits). -/
def R.CMP_PL_ADDR_FRONT : Reg := ⟨0x0B1, 0x0B8, 0x200, 1, 0, 64,
  fun p _ => [F.CMP_PL_ADDR_FRONT_ADDR p]⟩

def F.CMP_PL_FMT_FRONT_EN (p : Nat) : Field := fld (0x0B1 + p) 0x208 31 1 .ro 0 .any false false
def F.CMP_PL_FMT_FRONT_ALPHA_MODE (p : Nat) : Field := fld (0x0B1 + p) 0x208 24 2 .ro 0 .any false false
def F.CMP_PL_FMT_FRONT_PLANE_ALPHA (p : Nat) : Field := fld (0x0B1 + p) 0x208 16 8 .ro 0 .any false false
def F.CMP_PL_FMT_FRONT_FORMAT (p : Nat) : Field := fld (0x0B1 + p) 0x208 0 8 .ro 0 .any false false
/-- R241: `CMP.PL_FMT_FRONT` (pages 0x0B1 to 0x0B8, offset 0x208, 32 bits). -/
def R.CMP_PL_FMT_FRONT : Reg := ⟨0x0B1, 0x0B8, 0x208, 1, 0, 32,
  fun p _ => [F.CMP_PL_FMT_FRONT_EN p, F.CMP_PL_FMT_FRONT_ALPHA_MODE p, F.CMP_PL_FMT_FRONT_PLANE_ALPHA p, F.CMP_PL_FMT_FRONT_FORMAT p]⟩

def F.CMP_PL_PITCH_FRONT_BYTES (p : Nat) : Field := fld (0x0B1 + p) 0x20C 0 21 .ro 0 .any false false
/-- R241: `CMP.PL_PITCH_FRONT` (pages 0x0B1 to 0x0B8, offset 0x20C, 32 bits). -/
def R.CMP_PL_PITCH_FRONT : Reg := ⟨0x0B1, 0x0B8, 0x20C, 1, 0, 32,
  fun p _ => [F.CMP_PL_PITCH_FRONT_BYTES p]⟩

def F.CMP_PL_SRC_FRONT_SRC_Y (p : Nat) : Field := fld (0x0B1 + p) 0x210 16 16 .ro 0 .any false false
def F.CMP_PL_SRC_FRONT_SRC_X (p : Nat) : Field := fld (0x0B1 + p) 0x210 0 16 .ro 0 .any false false
/-- R241: `CMP.PL_SRC_FRONT` (pages 0x0B1 to 0x0B8, offset 0x210, 32 bits). -/
def R.CMP_PL_SRC_FRONT : Reg := ⟨0x0B1, 0x0B8, 0x210, 1, 0, 32,
  fun p _ => [F.CMP_PL_SRC_FRONT_SRC_Y p, F.CMP_PL_SRC_FRONT_SRC_X p]⟩

def F.CMP_PL_SIZE_FRONT_H (p : Nat) : Field := fld (0x0B1 + p) 0x214 16 16 .ro 0 .any false false
def F.CMP_PL_SIZE_FRONT_W (p : Nat) : Field := fld (0x0B1 + p) 0x214 0 16 .ro 0 .any false false
/-- R241: `CMP.PL_SIZE_FRONT` (pages 0x0B1 to 0x0B8, offset 0x214, 32 bits). -/
def R.CMP_PL_SIZE_FRONT : Reg := ⟨0x0B1, 0x0B8, 0x214, 1, 0, 32,
  fun p _ => [F.CMP_PL_SIZE_FRONT_H p, F.CMP_PL_SIZE_FRONT_W p]⟩

def F.CMP_PL_DST_FRONT_DST_Y (p : Nat) : Field := fld (0x0B1 + p) 0x218 16 16 .ro 0 .any false false
def F.CMP_PL_DST_FRONT_DST_X (p : Nat) : Field := fld (0x0B1 + p) 0x218 0 16 .ro 0 .any false false
/-- R241: `CMP.PL_DST_FRONT` (pages 0x0B1 to 0x0B8, offset 0x218, 32 bits). -/
def R.CMP_PL_DST_FRONT : Reg := ⟨0x0B1, 0x0B8, 0x218, 1, 0, 32,
  fun p _ => [F.CMP_PL_DST_FRONT_DST_Y p, F.CMP_PL_DST_FRONT_DST_X p]⟩

def F.CMP_PL_CHROMA_FRONT_ADDR (p : Nat) : Field := fld (0x0B1 + p) 0x220 6 30 .ro 0 .any false false
/-- R241: `CMP.PL_CHROMA_FRONT` (pages 0x0B1 to 0x0B8, offset 0x220, 64 bits). -/
def R.CMP_PL_CHROMA_FRONT : Reg := ⟨0x0B1, 0x0B8, 0x220, 1, 0, 64,
  fun p _ => [F.CMP_PL_CHROMA_FRONT_ADDR p]⟩

/-- Rows 0 of this file's register tables. -/
def R.tableB0 : List Reg :=
  [R.CAM_CFG, R.CAM_GEOM, R.CAM_PHY, R.CAM_TIMEOUT, R.CAM_EXP_SET, R.CAM_EXP_STATE, R.CAM_EXP_MAP, R.CAM_I2C_ADDR, R.CAM_LINE_NS, R.CAM_BLACK, R.CAM_DEFECT_ADDR, R.CAM_DEFECT_CFG, R.CAM_SHADING_ADDR, R.CAM_CCM, R.CAM_OUT, R.CAM_RING_BASE, R.CAM_RING_CFG, R.CAM_RING_FULL, R.CAM_TAP, R.CAM_TAP_BASE]

/-- Rows 1 of this file's register tables. -/
def R.tableB1 : List Reg :=
  [R.CAM_TEST, R.CAM_LAST_GENERIC, R.CAM_STATS_FRAME, R.CAM_STATS_MEAN, R.CAM_STATS_SAT, R.CAM_COUNT, R.CAM_I2C_CFG, R.CAM_I2C_CMD, R.CAM_I2C_DATA, R.CAM_I2C_STATUS, R.IPP_MODE, R.IPP_STATUS, R.IPP_STRIPES, R.IPP_SWITCHES, R.IPP_LOAD, R.IPP_WAIT_MAX, R.VWB_STATUS, R.VWB_EDITION, R.VWB_ROSTER_GEN, R.VWB_COUNT]

/-- Rows 2 of this file's register tables. -/
def R.tableB2 : List Reg :=
  [R.VWB_ZONE, R.VWB_TILE_ORIGIN, R.VWB_RANGE, R.VWB_TRACK_CFG, R.VWB_FAN, R.VWB_REQ_TRACK, R.VWB_REQ_CONE, R.VWB_REQ_SS, R.VWB_REQ_W_EYE, R.VWB_REQ_W_DEFAULT, R.VWB_REQ_LOAD, R.VWB_REQ_DIM, R.VWB_ROSTER_CAPTURE, R.VWB_ROSTER0, R.VWB_ROSTER1, R.VWB_ROSTER_LEFT_X, R.VWB_ROSTER_LEFT_Y, R.VWB_ROSTER_LEFT_Z, R.VWB_ROSTER_RIGHT_X, R.VWB_ROSTER_RIGHT_Y]

/-- Rows 3 of this file's register tables. -/
def R.tableB3 : List Reg :=
  [R.VWB_ROSTER_RIGHT_Z, R.CMP_CTRL, R.CMP_STATUS, R.CMP_LUT_ADDR, R.CMP_LUT_LOAD, R.CMP_LUT_STATUS, R.CMP_FLIP_CTRL, R.CMP_FLIP_VALUE, R.CMP_FLIP_TAG, R.CMP_FLIP_DONE_TAG, R.CMP_FLIP_DONE_SUBFRAME, R.CMP_STRIPE_BASE, R.CMP_YARD_TIMEOUT, R.CMP_YARD_EXCLUDED, R.CMP_PL_ADDR, R.CMP_PL_FMT, R.CMP_PL_PITCH, R.CMP_PL_SRC, R.CMP_PL_SIZE, R.CMP_PL_DST]

/-- Rows 4 of this file's register tables. -/
def R.tableB4 : List Reg :=
  [R.CMP_PL_CHROMA, R.CMP_PROT_CTRL, R.CMP_PROT_ADDR, R.CMP_PROT_PITCH, R.CMP_PROT_DST, R.CMP_PROT_SIZE, R.CMP_PROT_CRC_REF, R.CMP_PROT_CRC_LAST, R.CMP_PROT_MISMATCH, R.BLT_QUEUE, R.BLT_LIST_STATUS, R.BLT_LIST_OFFSET, R.BLT_LIST_SEQ, R.BLT_TAG, R.BLT_WATERMARK, R.BLT_COMMANDS, R.VWB_REQ_TRACK_EFF, R.VWB_REQ_CONE_EFF, R.VWB_REQ_SS_EFF, R.VWB_REQ_W_EYE_EFF]

/-- Rows 5 of this file's register tables. -/
def R.tableB5 : List Reg :=
  [R.VWB_REQ_W_DEFAULT_EFF, R.VWB_REQ_LOAD_EFF, R.VWB_REQ_DIM_EFF, R.CMP_PL_ADDR_FRONT, R.CMP_PL_FMT_FRONT, R.CMP_PL_PITCH_FRONT, R.CMP_PL_SRC_FRONT, R.CMP_PL_SIZE_FRONT, R.CMP_PL_DST_FRONT, R.CMP_PL_CHROMA_FRONT]

/-- Every register row of this file. -/
def R.tableB : List Reg := R.tableB0 ++ R.tableB1 ++ R.tableB2 ++ R.tableB3 ++ R.tableB4 ++ R.tableB5

end Sys2Proof.Machine
end

