-- ==== Sys2Proof/Machine/FieldsC.lean ====
section
/-! DEFINITION. The registers of PNL, OVD, SER, XSH, TIM, DMC: every field of every register table of the spec under its own name
(its page and offset, its lowest bit, its width, its access code, its reset value, the values R6 lets a write store), and
one row per register. A field argument `p` is the page within the block's run of pages, `i` the index the table gives. -/

set_option linter.unusedVariables false

namespace Sys2Proof.Machine

def F.PNL_PORT_STATE_STATE (p : Nat) : Field := fld (0x0D0 + p) 0x100 28 4 .ro 0 .any false false
def F.PNL_PORT_STATE_REASON (p : Nat) : Field := fld (0x0D0 + p) 0x100 24 4 .ro 0 .any false false
def F.PNL_PORT_STATE_DRV_BAND (p : Nat) : Field := fld (0x0D0 + p) 0x100 16 4 .ro 0 .any false false
def F.PNL_PORT_STATE_SPARE_IN_USE (p : Nat) : Field := fld (0x0D0 + p) 0x100 12 1 .ro 0 .any false false
def F.PNL_PORT_STATE_SENSORS (p : Nat) : Field := fld (0x0D0 + p) 0x100 8 2 .ro 0 .any false false
/-- R268: `PNL.PORT_STATE` (pages 0x0D0 to 0x0DB, offset 0x100, 32 bits). -/
def R.PNL_PORT_STATE : Reg := ⟨0x0D0, 0x0DB, 0x100, 1, 0, 32,
  fun p _ => [F.PNL_PORT_STATE_STATE p, F.PNL_PORT_STATE_REASON p, F.PNL_PORT_STATE_DRV_BAND p, F.PNL_PORT_STATE_SPARE_IN_USE p, F.PNL_PORT_STATE_SENSORS p]⟩

def F.PNL_UNDERRUN_LINES_COUNT (p : Nat) : Field := fld (0x0D0 + p) 0x110 0 32 .rc 0 .any false false
/-- R268: `PNL.UNDERRUN_LINES` (pages 0x0D0 to 0x0DB, offset 0x110, 32 bits). -/
def R.PNL_UNDERRUN_LINES : Reg := ⟨0x0D0, 0x0DB, 0x110, 1, 0, 32,
  fun p _ => [F.PNL_UNDERRUN_LINES_COUNT p]⟩

def F.PNL_UNDERRUN_PIXELS_COUNT (p : Nat) : Field := fld (0x0D0 + p) 0x114 0 32 .rc 0 .any false false
/-- R268: `PNL.UNDERRUN_PIXELS` (pages 0x0D0 to 0x0DB, offset 0x114, 32 bits). -/
def R.PNL_UNDERRUN_PIXELS : Reg := ⟨0x0D0, 0x0DB, 0x114, 1, 0, 32,
  fun p _ => [F.PNL_UNDERRUN_PIXELS_COUNT p]⟩

def F.PNL_SEG_ERRORS_COUNT (p : Nat) : Field := fld (0x0D0 + p) 0x118 0 32 .rc 0 .any false false
/-- R268: `PNL.SEG_ERRORS` (pages 0x0D0 to 0x0DB, offset 0x118, 32 bits). -/
def R.PNL_SEG_ERRORS : Reg := ⟨0x0D0, 0x0DB, 0x118, 1, 0, 32,
  fun p _ => [F.PNL_SEG_ERRORS_COUNT p]⟩

def F.PNL_CTRL_RETRIES_COUNT (p : Nat) : Field := fld (0x0D0 + p) 0x11C 0 32 .rc 0 .any false false
/-- R268: `PNL.CTRL_RETRIES` (pages 0x0D0 to 0x0DB, offset 0x11C, 32 bits). -/
def R.PNL_CTRL_RETRIES : Reg := ⟨0x0D0, 0x0DB, 0x11C, 1, 0, 32,
  fun p _ => [F.PNL_CTRL_RETRIES_COUNT p]⟩

def F.PNL_HDR_MISMATCH_COUNT (p : Nat) : Field := fld (0x0D0 + p) 0x120 0 32 .rc 0 .any false false
/-- R268: `PNL.HDR_MISMATCH` (pages 0x0D0 to 0x0DB, offset 0x120, 32 bits). -/
def R.PNL_HDR_MISMATCH : Reg := ⟨0x0D0, 0x0DB, 0x120, 1, 0, 32,
  fun p _ => [F.PNL_HDR_MISMATCH_COUNT p]⟩

def F.PNL_LANE_ERR_COUNT (p : Nat) (i : Nat) : Field := fld (0x0D0 + p) (0x140 + 4 * i) 0 32 .rc 0 .any false false
/-- R268: `PNL.LANE_ERR` (pages 0x0D0 to 0x0DB, offset 0x140 and 11 more at stride 4, 32 bits). -/
def R.PNL_LANE_ERR : Reg := ⟨0x0D0, 0x0DB, 0x140, 12, 4, 32,
  fun p i => [F.PNL_LANE_ERR_COUNT p i]⟩

def F.PNL_DRV_CMD_BUSY (p : Nat) : Field := fld (0x0D0 + p) 0x180 31 1 .ro 0 .any false false
def F.PNL_DRV_CMD_OP (p : Nat) : Field := fld (0x0D0 + p) 0x180 24 1 .rw 0 .any false false
def F.PNL_DRV_CMD_ADDR (p : Nat) : Field := fld (0x0D0 + p) 0x180 0 16 .rw 0 .any false false
/-- R268: `PNL.DRV_CMD` (pages 0x0D0 to 0x0DB, offset 0x180, 32 bits). -/
def R.PNL_DRV_CMD : Reg := ⟨0x0D0, 0x0DB, 0x180, 1, 0, 32,
  fun p _ => [F.PNL_DRV_CMD_BUSY p, F.PNL_DRV_CMD_OP p, F.PNL_DRV_CMD_ADDR p]⟩

def F.PNL_DRV_DATA_DATA (p : Nat) : Field := fld (0x0D0 + p) 0x184 0 32 .rw 0 .any false false
/-- R268: `PNL.DRV_DATA` (pages 0x0D0 to 0x0DB, offset 0x184, 32 bits). -/
def R.PNL_DRV_DATA : Reg := ⟨0x0D0, 0x0DB, 0x184, 1, 0, 32,
  fun p _ => [F.PNL_DRV_DATA_DATA p]⟩

def F.PNL_DRV_STATUS_CODE (p : Nat) : Field := fld (0x0D0 + p) 0x188 0 3 .ro 0 .any false false
/-- R268: `PNL.DRV_STATUS` (pages 0x0D0 to 0x0DB, offset 0x188, 32 bits). -/
def R.PNL_DRV_STATUS : Reg := ⟨0x0D0, 0x0DB, 0x188, 1, 0, 32,
  fun p _ => [F.PNL_DRV_STATUS_CODE p]⟩

def F.PNL_SENSOR_VALID (p : Nat) (i : Nat) : Field := fld (0x0D0 + p) (0x190 + 4 * i) 31 1 .ro 0 .any false false
def F.PNL_SENSOR_TEMP (p : Nat) (i : Nat) : Field := fld (0x0D0 + p) (0x190 + 4 * i) 0 16 .ro 0 .any false false
/-- R268: `PNL.SENSOR` (pages 0x0D0 to 0x0DB, offset 0x190 and 1 more at stride 4, 32 bits). -/
def R.PNL_SENSOR : Reg := ⟨0x0D0, 0x0DB, 0x190, 2, 4, 32,
  fun p i => [F.PNL_SENSOR_VALID p i, F.PNL_SENSOR_TEMP p i]⟩

def F.PNL_DRV_EVENT_COUNT (p : Nat) : Field := fld (0x0D0 + p) 0x198 16 16 .rc 0 .any false false
def F.PNL_DRV_EVENT_LAST (p : Nat) : Field := fld (0x0D0 + p) 0x198 0 8 .ro 0 .any false false
/-- R268: `PNL.DRV_EVENT` (pages 0x0D0 to 0x0DB, offset 0x198, 32 bits). -/
def R.PNL_DRV_EVENT : Reg := ⟨0x0D0, 0x0DB, 0x198, 1, 0, 32,
  fun p _ => [F.PNL_DRV_EVENT_COUNT p, F.PNL_DRV_EVENT_LAST p]⟩

def F.PNL_BRIGHTNESS_LEVEL : Field := fld 0x0DC 0x100 0 11 .rw 1024 (.range 0 1024) false false
/-- R269: `PNL.BRIGHTNESS` (page 0x0DC, offset 0x100, 32 bits). -/
def R.PNL_BRIGHTNESS : Reg := ⟨0x0DC, 0x0DC, 0x100, 1, 0, 32,
  fun _ _ => [F.PNL_BRIGHTNESS_LEVEL]⟩

def F.PNL_LR_CTRL_EN : Field := fld 0x0DC 0x108 31 1 .rw 1 .any false false
def F.PNL_LR_CTRL_MIN_HZ : Field := fld 0x0DC 0x108 16 8 .rw 1 (.range 1 60) false false
def F.PNL_LR_CTRL_DWELL_MS : Field := fld 0x0DC 0x108 0 16 .rw 2000 (.range 100 60000) false false
/-- R269: `PNL.LR_CTRL` (page 0x0DC, offset 0x108, 32 bits). -/
def R.PNL_LR_CTRL : Reg := ⟨0x0DC, 0x0DC, 0x108, 1, 0, 32,
  fun _ _ => [F.PNL_LR_CTRL_EN, F.PNL_LR_CTRL_MIN_HZ, F.PNL_LR_CTRL_DWELL_MS]⟩

def F.PNL_LR_KICK_KICK : Field := fld 0x0DC 0x10C 0 1 .wo 0 .any false false
/-- R269: `PNL.LR_KICK` (page 0x0DC, offset 0x10C, 32 bits). -/
def R.PNL_LR_KICK : Reg := ⟨0x0DC, 0x0DC, 0x10C, 1, 0, 32,
  fun _ _ => [F.PNL_LR_KICK_KICK]⟩

def F.PNL_LR_STATE_DIVISOR : Field := fld 0x0DC 0x110 8 8 .ro 0 .any false false
def F.PNL_LR_STATE_HZ : Field := fld 0x0DC 0x110 0 8 .ro 0 .any false false
/-- R269: `PNL.LR_STATE` (page 0x0DC, offset 0x110, 32 bits). -/
def R.PNL_LR_STATE : Reg := ⟨0x0DC, 0x0DC, 0x110, 1, 0, 32,
  fun _ _ => [F.PNL_LR_STATE_DIVISOR, F.PNL_LR_STATE_HZ]⟩

def F.PNL_POWER_CMD_OFF : Field := fld 0x0DC 0x118 0 1 .wo 0 .any false false
/-- R269: `PNL.POWER_CMD` (page 0x0DC, offset 0x118, 32 bits). -/
def R.PNL_POWER_CMD : Reg := ⟨0x0DC, 0x0DC, 0x118, 1, 0, 32,
  fun _ _ => [F.PNL_POWER_CMD_OFF]⟩

def F.PNL_SEQ_STATE_STATE : Field := fld 0x0DC 0x11C 0 3 .ro 0 .any false false
/-- R269: `PNL.SEQ_STATE` (page 0x0DC, offset 0x11C, 32 bits). -/
def R.PNL_SEQ_STATE : Reg := ⟨0x0DC, 0x0DC, 0x11C, 1, 0, 32,
  fun _ _ => [F.PNL_SEQ_STATE_STATE]⟩

def F.PNL_PANEL_SERIAL_SERIAL : Field := fld 0x0DC 0x120 0 64 .ro 0 .any false true
/-- R269: `PNL.PANEL_SERIAL` (page 0x0DC, offset 0x120, 64 bits). -/
def R.PNL_PANEL_SERIAL : Reg := ⟨0x0DC, 0x0DC, 0x120, 1, 0, 64,
  fun _ _ => [F.PNL_PANEL_SERIAL_SERIAL]⟩

def F.PNL_MODEL_VERSION_VERSION : Field := fld 0x0DC 0x128 0 32 .ro 0 .any false true
/-- R269: `PNL.MODEL_VERSION` (page 0x0DC, offset 0x128, 32 bits). -/
def R.PNL_MODEL_VERSION : Reg := ⟨0x0DC, 0x0DC, 0x128, 1, 0, 32,
  fun _ _ => [F.PNL_MODEL_VERSION_VERSION]⟩

def F.PNL_NEUTRAL_MIN_REFRESH : Field := fld 0x0DC 0x12C 8 8 .ro 0 .any false true
def F.PNL_NEUTRAL_LEVEL : Field := fld 0x0DC 0x12C 0 8 .ro 0 .any false true
/-- R269: `PNL.NEUTRAL` (page 0x0DC, offset 0x12C, 32 bits). -/
def R.PNL_NEUTRAL : Reg := ⟨0x0DC, 0x0DC, 0x12C, 1, 0, 32,
  fun _ _ => [F.PNL_NEUTRAL_MIN_REFRESH, F.PNL_NEUTRAL_LEVEL]⟩

def F.PNL_ZONE_CAL_CODE (i : Nat) : Field := fld 0x0DC (0x140 + 4 * i) 0 12 .ro 0 .any false true
/-- R269: `PNL.ZONE_CAL` (page 0x0DC, offset 0x140 and 23 more at stride 4, 32 bits). -/
def R.PNL_ZONE_CAL : Reg := ⟨0x0DC, 0x0DC, 0x140, 24, 4, 32,
  fun _ i => [F.PNL_ZONE_CAL_CODE i]⟩

def F.PNL_ZONE_CODE_STROBING (i : Nat) : Field := fld 0x0DC (0x1A0 + 4 * i) 16 1 .ro 0 .any false false
def F.PNL_ZONE_CODE_CODE (i : Nat) : Field := fld 0x0DC (0x1A0 + 4 * i) 0 12 .ro 0 .any false false
/-- R269: `PNL.ZONE_CODE` (page 0x0DC, offset 0x1A0 and 23 more at stride 4, 32 bits). -/
def R.PNL_ZONE_CODE : Reg := ⟨0x0DC, 0x0DC, 0x1A0, 24, 4, 32,
  fun _ i => [F.PNL_ZONE_CODE_STROBING i, F.PNL_ZONE_CODE_CODE i]⟩

def F.OVD_CTRL_HIST_RESET : Field := fld 0x0DD 0x100 1 1 .w1s 0 .any false false
def F.OVD_CTRL_EN : Field := fld 0x0DD 0x100 0 1 .rw 1 .any false false
/-- R270: `OVD.CTRL` (page 0x0DD, offset 0x100, 32 bits). -/
def R.OVD_CTRL : Reg := ⟨0x0DD, 0x0DD, 0x100, 1, 0, 32,
  fun _ _ => [F.OVD_CTRL_HIST_RESET, F.OVD_CTRL_EN]⟩

def F.OVD_HIST_BASE_ADDR : Field := fld 0x0DD 0x108 12 24 .rwl 0 .any false true
/-- R270: `OVD.HIST_BASE` (page 0x0DD, offset 0x108, 64 bits). -/
def R.OVD_HIST_BASE : Reg := ⟨0x0DD, 0x0DD, 0x108, 1, 0, 64,
  fun _ _ => [F.OVD_HIST_BASE_ADDR]⟩

def F.OVD_TEMP_T_PANEL : Field := fld 0x0DD 0x110 16 16 .ro 0 .any false false
def F.OVD_TEMP_NO_SENSOR : Field := fld 0x0DD 0x110 8 1 .ro 1 .any false false
def F.OVD_TEMP_TBAND : Field := fld 0x0DD 0x110 0 3 .ro 0 .any false true
/-- R270: `OVD.TEMP` (page 0x0DD, offset 0x110, 32 bits). -/
def R.OVD_TEMP : Reg := ⟨0x0DD, 0x0DD, 0x110, 1, 0, 32,
  fun _ _ => [F.OVD_TEMP_T_PANEL, F.OVD_TEMP_NO_SENSOR, F.OVD_TEMP_TBAND]⟩

def F.OVD_BAND_STATE_BANK (i : Nat) : Field := fld 0x0DD (0x140 + 4 * i) 4 1 .ro 0 .any false false
def F.OVD_BAND_STATE_TBAND (i : Nat) : Field := fld 0x0DD (0x140 + 4 * i) 0 3 .ro 0 .any false false
/-- R270: `OVD.BAND_STATE` (page 0x0DD, offset 0x140 and 11 more at stride 4, 32 bits). -/
def R.OVD_BAND_STATE : Reg := ⟨0x0DD, 0x0DD, 0x140, 12, 4, 32,
  fun _ i => [F.OVD_BAND_STATE_BANK i, F.OVD_BAND_STATE_TBAND i]⟩

def F.OVD_HIST_VOID_COUNT : Field := fld 0x0DD 0x180 0 32 .rc 0 .any false false
/-- R270: `OVD.HIST_VOID` (page 0x0DD, offset 0x180, 32 bits). -/
def R.OVD_HIST_VOID : Reg := ⟨0x0DD, 0x0DD, 0x180, 1, 0, 32,
  fun _ _ => [F.OVD_HIST_VOID_COUNT]⟩

def F.OVD_HIST_ERR_COUNT : Field := fld 0x0DD 0x184 0 32 .rc 0 .any false false
/-- R270: `OVD.HIST_ERR` (page 0x0DD, offset 0x184, 32 bits). -/
def R.OVD_HIST_ERR : Reg := ⟨0x0DD, 0x0DD, 0x184, 1, 0, 32,
  fun _ _ => [F.OVD_HIST_ERR_COUNT]⟩

def F.OVD_TBAND_CHANGES_COUNT : Field := fld 0x0DD 0x188 0 32 .rc 0 .any false false
/-- R270: `OVD.TBAND_CHANGES` (page 0x0DD, offset 0x188, 32 bits). -/
def R.OVD_TBAND_CHANGES : Reg := ⟨0x0DD, 0x0DD, 0x188, 1, 0, 32,
  fun _ _ => [F.OVD_TBAND_CHANGES_COUNT]⟩

def F.OVD_TBAND_EDGE_EDGE (i : Nat) : Field := fld 0x0DE (0x100 + 4 * i) 0 16 .rw 0 .any false true
/-- R270: `OVD.TBAND_EDGE` (page 0x0DE, offset 0x100 and 6 more at stride 4, 32 bits). -/
def R.OVD_TBAND_EDGE : Reg := ⟨0x0DE, 0x0DE, 0x100, 7, 4, 32,
  fun _ i => [F.OVD_TBAND_EDGE_EDGE i]⟩

def F.OVD_TBAND_DEFAULT_TBAND : Field := fld 0x0DE 0x120 0 3 .rw 0 .any false true
/-- R270: `OVD.TBAND_DEFAULT` (page 0x0DE, offset 0x120, 32 bits). -/
def R.OVD_TBAND_DEFAULT : Reg := ⟨0x0DE, 0x0DE, 0x120, 1, 0, 32,
  fun _ _ => [F.OVD_TBAND_DEFAULT_TBAND]⟩

def F.OVD_TABLE_ADDR_ADDR : Field := fld 0x0DE 0x128 6 30 .rw 0 .any false false
/-- R270: `OVD.TABLE_ADDR` (page 0x0DE, offset 0x128, 64 bits). -/
def R.OVD_TABLE_ADDR : Reg := ⟨0x0DE, 0x0DE, 0x128, 1, 0, 64,
  fun _ _ => [F.OVD_TABLE_ADDR_ADDR]⟩

def F.OVD_TABLE_LOAD_BUSY : Field := fld 0x0DE 0x130 31 1 .ro 0 .any false false
def F.OVD_TABLE_LOAD_BANK : Field := fld 0x0DE 0x130 0 1 .rw 0 .any false false
/-- R270: `OVD.TABLE_LOAD` (page 0x0DE, offset 0x130, 32 bits). -/
def R.OVD_TABLE_LOAD : Reg := ⟨0x0DE, 0x0DE, 0x130, 1, 0, 32,
  fun _ _ => [F.OVD_TABLE_LOAD_BUSY, F.OVD_TABLE_LOAD_BANK]⟩

def F.OVD_TABLE_SWAP_ACTIVE : Field := fld 0x0DE 0x134 16 1 .ro 0 .any false false
def F.OVD_TABLE_SWAP_PENDING : Field := fld 0x0DE 0x134 8 1 .ro 0 .any false false
def F.OVD_TABLE_SWAP_SWAP : Field := fld 0x0DE 0x134 0 1 .w1s 0 .any false false
/-- R270: `OVD.TABLE_SWAP` (page 0x0DE, offset 0x134, 32 bits). -/
def R.OVD_TABLE_SWAP : Reg := ⟨0x0DE, 0x0DE, 0x134, 1, 0, 32,
  fun _ _ => [F.OVD_TABLE_SWAP_ACTIVE, F.OVD_TABLE_SWAP_PENDING, F.OVD_TABLE_SWAP_SWAP]⟩

def F.OVD_TABLE_STATUS_CODE : Field := fld 0x0DE 0x138 0 3 .ro 0 .any false false
/-- R270: `OVD.TABLE_STATUS` (page 0x0DE, offset 0x138, 32 bits). -/
def R.OVD_TABLE_STATUS : Reg := ⟨0x0DE, 0x0DE, 0x138, 1, 0, 32,
  fun _ _ => [F.OVD_TABLE_STATUS_CODE]⟩

def F.SER_GROUP_STATE_STATE (p : Nat) : Field := fld (0x0F0 + p) 0x100 28 4 .ro 0 .any false false
def F.SER_GROUP_STATE_REASON (p : Nat) : Field := fld (0x0F0 + p) 0x100 24 4 .ro 0 .any false false
def F.SER_GROUP_STATE_ATTEMPT (p : Nat) : Field := fld (0x0F0 + p) 0x100 22 2 .ro 0 .any false false
def F.SER_GROUP_STATE_REVERSED (p : Nat) : Field := fld (0x0F0 + p) 0x100 21 1 .ro 0 .any false false
def F.SER_GROUP_STATE_SPARE (p : Nat) : Field := fld (0x0F0 + p) 0x100 18 2 .ro 0 .any false false
def F.SER_GROUP_STATE_SPARE_FOR (p : Nat) : Field := fld (0x0F0 + p) 0x100 12 4 .ro 0xF .any false false
/-- R296: `SER.GROUP_STATE` (pages 0x0F0 to 0x0FF, offset 0x100, 32 bits). -/
def R.SER_GROUP_STATE : Reg := ⟨0x0F0, 0x0FF, 0x100, 1, 0, 32,
  fun p _ => [F.SER_GROUP_STATE_STATE p, F.SER_GROUP_STATE_REASON p, F.SER_GROUP_STATE_ATTEMPT p, F.SER_GROUP_STATE_REVERSED p, F.SER_GROUP_STATE_SPARE p, F.SER_GROUP_STATE_SPARE_FOR p]⟩

def F.SER_CTRL_RETRAIN_LANE (p : Nat) : Field := fld (0x0F0 + p) 0x104 8 5 .rw 0 .any false false
def F.SER_CTRL_RETRAIN (p : Nat) : Field := fld (0x0F0 + p) 0x104 2 1 .wo 0 .any false false
def F.SER_CTRL_TRAIN (p : Nat) : Field := fld (0x0F0 + p) 0x104 1 1 .w1s 0 .any false false
def F.SER_CTRL_ENABLE (p : Nat) : Field := fld (0x0F0 + p) 0x104 0 1 .rw 0 .any false false
/-- R296: `SER.CTRL` (pages 0x0F0 to 0x0FF, offset 0x104, 32 bits). -/
def R.SER_CTRL : Reg := ⟨0x0F0, 0x0FF, 0x104, 1, 0, 32,
  fun p _ => [F.SER_CTRL_RETRAIN_LANE p, F.SER_CTRL_RETRAIN p, F.SER_CTRL_TRAIN p, F.SER_CTRL_ENABLE p]⟩

def F.SER_TX_MAP_MAP (p : Nat) : Field := fld (0x0F0 + p) 0x108 0 52 .ro 0xCBA9876543210 .any false false
/-- R296: `SER.TX_MAP` (pages 0x0F0 to 0x0FF, offset 0x108, 64 bits). -/
def R.SER_TX_MAP : Reg := ⟨0x0F0, 0x0FF, 0x108, 1, 0, 64,
  fun p _ => [F.SER_TX_MAP_MAP p]⟩

def F.SER_RX_MAP_MAP (p : Nat) : Field := fld (0x0F0 + p) 0x110 0 36 .ro 0x876543210 .any false false
/-- R296: `SER.RX_MAP` (pages 0x0F0 to 0x0FF, offset 0x110, 64 bits). -/
def R.SER_RX_MAP : Reg := ⟨0x0F0, 0x0FF, 0x110, 1, 0, 64,
  fun p _ => [F.SER_RX_MAP_MAP p]⟩

def F.SER_SUB_CMD_BUSY (p : Nat) : Field := fld (0x0F0 + p) 0x118 31 1 .ro 0 .any false false
def F.SER_SUB_CMD_RESULT (p : Nat) : Field := fld (0x0F0 + p) 0x118 28 3 .ro 0 .any false false
def F.SER_SUB_CMD_DIR (p : Nat) : Field := fld (0x0F0 + p) 0x118 8 1 .rw 0 .any false false
def F.SER_SUB_CMD_LOGICAL (p : Nat) : Field := fld (0x0F0 + p) 0x118 0 4 .rw 0 .any false false
/-- R296: `SER.SUB_CMD` (pages 0x0F0 to 0x0FF, offset 0x118, 32 bits). -/
def R.SER_SUB_CMD : Reg := ⟨0x0F0, 0x0FF, 0x118, 1, 0, 32,
  fun p _ => [F.SER_SUB_CMD_BUSY p, F.SER_SUB_CMD_RESULT p, F.SER_SUB_CMD_DIR p, F.SER_SUB_CMD_LOGICAL p]⟩

def F.SER_SUB_CFG_AUTO (p : Nat) : Field := fld (0x0F0 + p) 0x11C 31 1 .rw 0 .any false true
def F.SER_SUB_CFG_WINDOW_MS (p : Nat) : Field := fld (0x0F0 + p) 0x11C 16 8 .rw 100 (.range 1 255) false false
def F.SER_SUB_CFG_THRESH (p : Nat) : Field := fld (0x0F0 + p) 0x11C 0 16 .rw 64 (.range 1 65535) false false
/-- R296: `SER.SUB_CFG` (pages 0x0F0 to 0x0FF, offset 0x11C, 32 bits). -/
def R.SER_SUB_CFG : Reg := ⟨0x0F0, 0x0FF, 0x11C, 1, 0, 32,
  fun p _ => [F.SER_SUB_CFG_AUTO p, F.SER_SUB_CFG_WINDOW_MS p, F.SER_SUB_CFG_THRESH p]⟩

def F.SER_TRAINS_COUNT (p : Nat) : Field := fld (0x0F0 + p) 0x120 0 32 .rc 0 .any false false
/-- R296: `SER.TRAINS` (pages 0x0F0 to 0x0FF, offset 0x120, 32 bits). -/
def R.SER_TRAINS : Reg := ⟨0x0F0, 0x0FF, 0x120, 1, 0, 32,
  fun p _ => [F.SER_TRAINS_COUNT p]⟩

def F.SER_SUBS_COUNT (p : Nat) : Field := fld (0x0F0 + p) 0x124 0 32 .rc 0 .any false false
/-- R296: `SER.SUBS` (pages 0x0F0 to 0x0FF, offset 0x124, 32 bits). -/
def R.SER_SUBS : Reg := ⟨0x0F0, 0x0FF, 0x124, 1, 0, 32,
  fun p _ => [F.SER_SUBS_COUNT p]⟩

def F.SER_RELOCKS_COUNT (p : Nat) : Field := fld (0x0F0 + p) 0x128 0 32 .rc 0 .any false false
/-- R296: `SER.RELOCKS` (pages 0x0F0 to 0x0FF, offset 0x128, 32 bits). -/
def R.SER_RELOCKS : Reg := ⟨0x0F0, 0x0FF, 0x128, 1, 0, 32,
  fun p _ => [F.SER_RELOCKS_COUNT p]⟩

def F.SER_LANE_PRESENT (p : Nat) (i : Nat) : Field := fld (0x0F0 + p) (0x140 + 4 * i) 31 1 .ro (lanePresent p i) .any false false
def F.SER_LANE_IN_SERVICE (p : Nat) (i : Nat) : Field := fld (0x0F0 + p) (0x140 + 4 * i) 30 1 .ro 0 .any false false
def F.SER_LANE_FAILED (p : Nat) (i : Nat) : Field := fld (0x0F0 + p) (0x140 + 4 * i) 29 1 .ro 0 .any false false
def F.SER_LANE_POL_INV (p : Nat) (i : Nat) : Field := fld (0x0F0 + p) (0x140 + 4 * i) 28 1 .ro 0 .any false false
def F.SER_LANE_LOGICAL (p : Nat) (i : Nat) : Field := fld (0x0F0 + p) (0x140 + 4 * i) 24 4 .ro 0xF .any false false
def F.SER_LANE_C_POST (p : Nat) (i : Nat) : Field := fld (0x0F0 + p) (0x140 + 4 * i) 16 5 .ro 0 .any false false
def F.SER_LANE_C_PRE (p : Nat) (i : Nat) : Field := fld (0x0F0 + p) (0x140 + 4 * i) 8 4 .ro 0 .any false false
/-- R296: `SER.LANE` (pages 0x0F0 to 0x0FF, offset 0x140 and 24 more at stride 4, 32 bits). -/
def R.SER_LANE : Reg := ⟨0x0F0, 0x0FF, 0x140, 25, 4, 32,
  fun p i => [F.SER_LANE_PRESENT p i, F.SER_LANE_IN_SERVICE p i, F.SER_LANE_FAILED p i, F.SER_LANE_POL_INV p i, F.SER_LANE_LOGICAL p i, F.SER_LANE_C_POST p i, F.SER_LANE_C_PRE p i]⟩

def F.SER_SYM_ERR_COUNT (p : Nat) (i : Nat) : Field := fld (0x0F0 + p) (0x200 + 4 * i) 0 32 .rc 0 .any false false
/-- R296: `SER.SYM_ERR` (pages 0x0F0 to 0x0FF, offset 0x200 and 8 more at stride 4, 32 bits). -/
def R.SER_SYM_ERR : Reg := ⟨0x0F0, 0x0FF, 0x200, 9, 4, 32,
  fun p i => [F.SER_SYM_ERR_COUNT p i]⟩

def F.SER_TX_PRESET_C_POST (p : Nat) (i : Nat) : Field := fld (0x0F0 + p) (0x240 + 4 * i) 16 5 .rw 0 .any false true
def F.SER_TX_PRESET_C_PRE (p : Nat) (i : Nat) : Field := fld (0x0F0 + p) (0x240 + 4 * i) 8 4 .rw 0 .any false true
/-- R296: `SER.TX_PRESET` (pages 0x0F0 to 0x0FF, offset 0x240 and 12 more at stride 4, 32 bits). -/
def R.SER_TX_PRESET : Reg := ⟨0x0F0, 0x0FF, 0x240, 13, 4, 32,
  fun p i => [F.SER_TX_PRESET_C_POST p i, F.SER_TX_PRESET_C_PRE p i]⟩

def F.SER_EYE_CTRL_START (p : Nat) : Field := fld (0x0F0 + p) 0x300 31 1 .wo 0 .any false false
def F.SER_EYE_CTRL_BUSY (p : Nat) : Field := fld (0x0F0 + p) 0x300 30 1 .ro 0 .any false false
def F.SER_EYE_CTRL_ABORTED (p : Nat) : Field := fld (0x0F0 + p) 0x300 29 1 .ro 0 .any false false
def F.SER_EYE_CTRL_DWELL (p : Nat) : Field := fld (0x0F0 + p) 0x300 24 4 .rw 0 .any false false
def F.SER_EYE_CTRL_VOLT (p : Nat) : Field := fld (0x0F0 + p) 0x300 16 8 .rw 0 (.but 0x80) false false
def F.SER_EYE_CTRL_PHASE (p : Nat) : Field := fld (0x0F0 + p) 0x300 8 6 .rw 0 .any false false
def F.SER_EYE_CTRL_LANE (p : Nat) : Field := fld (0x0F0 + p) 0x300 0 5 .rw 16 (.range 16 24) false false
/-- R296: `SER.EYE_CTRL` (pages 0x0F0 to 0x0FF, offset 0x300, 32 bits). -/
def R.SER_EYE_CTRL : Reg := ⟨0x0F0, 0x0FF, 0x300, 1, 0, 32,
  fun p _ => [F.SER_EYE_CTRL_START p, F.SER_EYE_CTRL_BUSY p, F.SER_EYE_CTRL_ABORTED p, F.SER_EYE_CTRL_DWELL p, F.SER_EYE_CTRL_VOLT p, F.SER_EYE_CTRL_PHASE p, F.SER_EYE_CTRL_LANE p]⟩

def F.SER_EYE_ERRORS_COUNT (p : Nat) : Field := fld (0x0F0 + p) 0x304 0 32 .ro 0 .any false false
/-- R296: `SER.EYE_ERRORS` (pages 0x0F0 to 0x0FF, offset 0x304, 32 bits). -/
def R.SER_EYE_ERRORS : Reg := ⟨0x0F0, 0x0FF, 0x304, 1, 0, 32,
  fun p _ => [F.SER_EYE_ERRORS_COUNT p]⟩

def F.SER_LOOP_LANE (p : Nat) : Field := fld (0x0F0 + p) 0x310 8 5 .rw 0 .any false false
def F.SER_LOOP_MODE (p : Nat) : Field := fld (0x0F0 + p) 0x310 0 3 .rw 0 (.range 0 4) false false
/-- R296: `SER.LOOP` (pages 0x0F0 to 0x0FF, offset 0x310, 32 bits). -/
def R.SER_LOOP : Reg := ⟨0x0F0, 0x0FF, 0x310, 1, 0, 32,
  fun p _ => [F.SER_LOOP_LANE p, F.SER_LOOP_MODE p]⟩

def F.SER_PAT_CTRL_CHK_LANE (p : Nat) : Field := fld (0x0F0 + p) 0x314 16 5 .rw 16 .any false false
def F.SER_PAT_CTRL_CHK_EN (p : Nat) : Field := fld (0x0F0 + p) 0x314 8 1 .rw 0 .any false false
def F.SER_PAT_CTRL_GEN (p : Nat) : Field := fld (0x0F0 + p) 0x314 0 3 .rw 0 (.range 0 5) false false
/-- R296: `SER.PAT_CTRL` (pages 0x0F0 to 0x0FF, offset 0x314, 32 bits). -/
def R.SER_PAT_CTRL : Reg := ⟨0x0F0, 0x0FF, 0x314, 1, 0, 32,
  fun p _ => [F.SER_PAT_CTRL_CHK_LANE p, F.SER_PAT_CTRL_CHK_EN p, F.SER_PAT_CTRL_GEN p]⟩

def F.SER_PAT_ERR_COUNT (p : Nat) : Field := fld (0x0F0 + p) 0x318 0 32 .rc 0 .any false false
/-- R296: `SER.PAT_ERR` (pages 0x0F0 to 0x0FF, offset 0x318, 32 bits). -/
def R.SER_PAT_ERR : Reg := ⟨0x0F0, 0x0FF, 0x318, 1, 0, 32,
  fun p _ => [F.SER_PAT_ERR_COUNT p]⟩

def F.SER_PAT_BITS_COUNT (p : Nat) : Field := fld (0x0F0 + p) 0x31C 0 32 .rc 0 .any false false
/-- R296: `SER.PAT_BITS` (pages 0x0F0 to 0x0FF, offset 0x31C, 32 bits). -/
def R.SER_PAT_BITS : Reg := ⟨0x0F0, 0x0FF, 0x31C, 1, 0, 32,
  fun p _ => [F.SER_PAT_BITS_COUNT p]⟩

def F.XSH_ROLE_ROLE : Field := fld 0x100 0x100 30 2 .ro 0 .any false false
def F.XSH_ROLE_NUMBER : Field := fld 0x100 0x100 24 6 .ro 0 .any false false
def F.XSH_ROLE_X : Field := fld 0x100 0x100 20 4 .ro 0 .any false false
def F.XSH_ROLE_Y : Field := fld 0x100 0x100 16 4 .ro 0 .any false false
def F.XSH_ROLE_HEAD_PRIO : Field := fld 0x100 0x100 8 8 .rwl 0 .any false true
/-- R322: `XSH.ROLE` (page 0x100, offset 0x100, 32 bits). -/
def R.XSH_ROLE : Reg := ⟨0x100, 0x100, 0x100, 1, 0, 32,
  fun _ _ => [F.XSH_ROLE_ROLE, F.XSH_ROLE_NUMBER, F.XSH_ROLE_X, F.XSH_ROLE_Y, F.XSH_ROLE_HEAD_PRIO]⟩

def F.XSH_YARD_ID_ID : Field := fld 0x100 0x104 0 32 .ro 0 .any false false
/-- R322: `XSH.YARD_ID` (page 0x100, offset 0x104, 32 bits). -/
def R.XSH_YARD_ID : Reg := ⟨0x100, 0x100, 0x104, 1, 0, 32,
  fun _ _ => [F.XSH_YARD_ID_ID]⟩

def F.XSH_GEN_YARD_GEN : Field := fld 0x100 0x108 24 8 .ro 0 .any false false
def F.XSH_GEN_EPOCH : Field := fld 0x100 0x108 12 12 .ro 0 .any false false
def F.XSH_GEN_MEMBERSHIP : Field := fld 0x100 0x108 0 12 .ro 0 .any false false
/-- R322: `XSH.GEN` (page 0x100, offset 0x108, 32 bits). -/
def R.XSH_GEN : Reg := ⟨0x100, 0x100, 0x108, 1, 0, 32,
  fun _ _ => [F.XSH_GEN_YARD_GEN, F.XSH_GEN_EPOCH, F.XSH_GEN_MEMBERSHIP]⟩

def F.XSH_CTRL_ORPHAN_MS : Field := fld 0x100 0x10C 16 16 .rw 100 (.range 10 10000) false false
def F.XSH_CTRL_STRANGER_ADMIT : Field := fld 0x100 0x10C 2 1 .rw 0 .any false true
def F.XSH_CTRL_DOR_EN : Field := fld 0x100 0x10C 1 1 .rw 1 .any false false
def F.XSH_CTRL_EN : Field := fld 0x100 0x10C 0 1 .rw 0 .any false true
/-- R322: `XSH.CTRL` (page 0x100, offset 0x10C, 32 bits). -/
def R.XSH_CTRL : Reg := ⟨0x100, 0x100, 0x10C, 1, 0, 32,
  fun _ _ => [F.XSH_CTRL_ORPHAN_MS, F.XSH_CTRL_STRANGER_ADMIT, F.XSH_CTRL_DOR_EN, F.XSH_CTRL_EN]⟩

def F.XSH_PORT_STATE (i : Nat) : Field := fld 0x100 (0x120 + 4 * i) 28 4 .ro 0 .any false false
def F.XSH_PORT_PEER_PORT (i : Nat) : Field := fld 0x100 (0x120 + 4 * i) 26 2 .ro 0 .any false false
def F.XSH_PORT_PEER_NUMBER (i : Nat) : Field := fld 0x100 (0x120 + 4 * i) 18 6 .ro 0 .any false false
def F.XSH_PORT_PARENT (i : Nat) : Field := fld 0x100 (0x120 + 4 * i) 17 1 .ro 0 .any false false
def F.XSH_PORT_CHILD (i : Nat) : Field := fld 0x100 (0x120 + 4 * i) 16 1 .ro 0 .any false false
/-- R322: `XSH.PORT` (page 0x100, offset 0x120 and 3 more at stride 4, 32 bits). -/
def R.XSH_PORT : Reg := ⟨0x100, 0x100, 0x120, 4, 4, 32,
  fun _ i => [F.XSH_PORT_STATE i, F.XSH_PORT_PEER_PORT i, F.XSH_PORT_PEER_NUMBER i, F.XSH_PORT_PARENT i, F.XSH_PORT_CHILD i]⟩

def F.XSH_COUNT0_COUNT (i : Nat) : Field := fld 0x100 (0x140 + 32 * i) 0 32 .rc 0 .any false false
/-- R322: `XSH.COUNT0` (page 0x100, offset 0x140 and 3 more at stride 32, 32 bits). -/
def R.XSH_COUNT0 : Reg := ⟨0x100, 0x100, 0x140, 4, 32, 32,
  fun _ i => [F.XSH_COUNT0_COUNT i]⟩

def F.XSH_COUNT1_COUNT (i : Nat) : Field := fld 0x100 (0x144 + 32 * i) 0 32 .rc 0 .any false false
/-- R322: `XSH.COUNT1` (page 0x100, offset 0x144 and 3 more at stride 32, 32 bits). -/
def R.XSH_COUNT1 : Reg := ⟨0x100, 0x100, 0x144, 4, 32, 32,
  fun _ i => [F.XSH_COUNT1_COUNT i]⟩

def F.XSH_COUNT2_COUNT (i : Nat) : Field := fld 0x100 (0x148 + 32 * i) 0 32 .rc 0 .any false false
/-- R322: `XSH.COUNT2` (page 0x100, offset 0x148 and 3 more at stride 32, 32 bits). -/
def R.XSH_COUNT2 : Reg := ⟨0x100, 0x100, 0x148, 4, 32, 32,
  fun _ i => [F.XSH_COUNT2_COUNT i]⟩

def F.XSH_COUNT3_COUNT (i : Nat) : Field := fld 0x100 (0x14C + 32 * i) 0 32 .rc 0 .any false false
/-- R322: `XSH.COUNT3` (page 0x100, offset 0x14C and 3 more at stride 32, 32 bits). -/
def R.XSH_COUNT3 : Reg := ⟨0x100, 0x100, 0x14C, 4, 32, 32,
  fun _ i => [F.XSH_COUNT3_COUNT i]⟩

def F.XSH_COUNT4_COUNT (i : Nat) : Field := fld 0x100 (0x150 + 32 * i) 0 32 .rc 0 .any false false
/-- R322: `XSH.COUNT4` (page 0x100, offset 0x150 and 3 more at stride 32, 32 bits). -/
def R.XSH_COUNT4 : Reg := ⟨0x100, 0x100, 0x150, 4, 32, 32,
  fun _ i => [F.XSH_COUNT4_COUNT i]⟩

def F.XSH_DROPS_COUNT (i : Nat) : Field := fld 0x100 (0x1C0 + 4 * i) 0 32 .rc 0 .any false false
/-- R322: `XSH.DROPS` (page 0x100, offset 0x1C0 and 3 more at stride 4, 32 bits). -/
def R.XSH_DROPS : Reg := ⟨0x100, 0x100, 0x1C0, 4, 4, 32,
  fun _ i => [F.XSH_DROPS_COUNT i]⟩

def F.XSH_MEMBER0_STATE (i : Nat) : Field := fld 0x101 (0x100 + 16 * i) 29 3 .ro 0 .any false false
def F.XSH_MEMBER0_REFUSAL (i : Nat) : Field := fld 0x101 (0x100 + 16 * i) 26 3 .ro 0 .any false false
def F.XSH_MEMBER0_X (i : Nat) : Field := fld 0x101 (0x100 + 16 * i) 20 4 .ro 0 .any false false
def F.XSH_MEMBER0_Y (i : Nat) : Field := fld 0x101 (0x100 + 16 * i) 16 4 .ro 0 .any false false
def F.XSH_MEMBER0_FACETS (i : Nat) : Field := fld 0x101 (0x100 + 16 * i) 8 8 .ro 0 .any false false
def F.XSH_MEMBER0_HOPS (i : Nat) : Field := fld 0x101 (0x100 + 16 * i) 0 8 .ro 0 .any false false
/-- R323: `XSH.MEMBER0` (page 0x101, offset 0x100 and 63 more at stride 16, 32 bits). -/
def R.XSH_MEMBER0 : Reg := ⟨0x101, 0x101, 0x100, 64, 16, 32,
  fun _ i => [F.XSH_MEMBER0_STATE i, F.XSH_MEMBER0_REFUSAL i, F.XSH_MEMBER0_X i, F.XSH_MEMBER0_Y i, F.XSH_MEMBER0_FACETS i, F.XSH_MEMBER0_HOPS i]⟩

def F.XSH_MEMBER1_DIGEST (i : Nat) : Field := fld 0x101 (0x104 + 16 * i) 0 64 .ro 0 .any false false
/-- R323: `XSH.MEMBER1` (page 0x101, offset 0x104 and 63 more at stride 16, 64 bits). -/
def R.XSH_MEMBER1 : Reg := ⟨0x101, 0x101, 0x104, 64, 16, 64,
  fun _ i => [F.XSH_MEMBER1_DIGEST i]⟩

def F.XSH_MEMBER3_JOINED (i : Nat) : Field := fld 0x101 (0x10C + 16 * i) 0 12 .ro 0 .any false false
/-- R323: `XSH.MEMBER3` (page 0x101, offset 0x10C and 63 more at stride 16, 32 bits). -/
def R.XSH_MEMBER3 : Reg := ⟨0x101, 0x101, 0x10C, 64, 16, 32,
  fun _ i => [F.XSH_MEMBER3_JOINED i]⟩

def F.XSH_STRANGER_VALID : Field := fld 0x102 0x100 31 1 .w1c 0 .any false false
def F.XSH_STRANGER_NUMBER : Field := fld 0x102 0x100 0 6 .ro 0 .any false false
/-- R324: `XSH.STRANGER` (page 0x102, offset 0x100, 32 bits). -/
def R.XSH_STRANGER : Reg := ⟨0x102, 0x102, 0x100, 1, 0, 32,
  fun _ _ => [F.XSH_STRANGER_VALID, F.XSH_STRANGER_NUMBER]⟩

def F.XSH_STRANGER_DIGEST_BYTES (i : Nat) : Field := fld 0x102 (0x110 + 4 * i) 0 32 .ro 0 .any false false
/-- R324: `XSH.STRANGER_DIGEST` (page 0x102, offset 0x110 and 11 more at stride 4, 32 bits). -/
def R.XSH_STRANGER_DIGEST : Reg := ⟨0x102, 0x102, 0x110, 12, 4, 32,
  fun _ i => [F.XSH_STRANGER_DIGEST_BYTES i]⟩

def F.TIM_TIME_NS : Field := fld 0x110 0x100 0 64 .ro 0 .any false false
/-- R340: `TIM.TIME` (page 0x110, offset 0x100, 64 bits). -/
def R.TIM_TIME : Reg := ⟨0x110, 0x110, 0x100, 1, 0, 64,
  fun _ _ => [F.TIM_TIME_NS]⟩

def F.TIM_FRAC_FRAC : Field := fld 0x110 0x108 0 32 .ro 0 .any false false
/-- R340: `TIM.FRAC` (page 0x110, offset 0x108, 32 bits). -/
def R.TIM_FRAC : Reg := ⟨0x110, 0x110, 0x108, 1, 0, 32,
  fun _ _ => [F.TIM_FRAC_FRAC]⟩

def F.TIM_INCREMENT_INC : Field := fld 0x110 0x110 0 36 .rw 0x200000000 (.range 0x1FF7CED91 0x20083126F) false false
/-- R340: `TIM.INCREMENT` (page 0x110, offset 0x110, 64 bits). -/
def R.TIM_INCREMENT : Reg := ⟨0x110, 0x110, 0x110, 1, 0, 64,
  fun _ _ => [F.TIM_INCREMENT_INC]⟩

def F.TIM_STEP_NS : Field := fld 0x110 0x118 0 64 .wo 0 .any false false
/-- R340: `TIM.STEP` (page 0x110, offset 0x118, 64 bits). -/
def R.TIM_STEP : Reg := ⟨0x110, 0x110, 0x118, 1, 0, 64,
  fun _ _ => [F.TIM_STEP_NS]⟩

def F.TIM_STEPS_COUNT : Field := fld 0x110 0x120 0 32 .ro 0 .any false false
/-- R340: `TIM.STEPS` (page 0x110, offset 0x120, 32 bits). -/
def R.TIM_STEPS : Reg := ⟨0x110, 0x110, 0x120, 1, 0, 32,
  fun _ _ => [F.TIM_STEPS_COUNT]⟩

def F.TIM_SERVO_STATE : Field := fld 0x110 0x124 28 4 .ro 0 .any false false
def F.TIM_SERVO_PARENT : Field := fld 0x110 0x124 26 2 .ro 0 .any false false
def F.TIM_SERVO_PPS : Field := fld 0x110 0x124 0 1 .rw 0 .any false false
/-- R340: `TIM.SERVO` (page 0x110, offset 0x124, 32 bits). -/
def R.TIM_SERVO : Reg := ⟨0x110, 0x110, 0x124, 1, 0, 32,
  fun _ _ => [F.TIM_SERVO_STATE, F.TIM_SERVO_PARENT, F.TIM_SERVO_PPS]⟩

def F.TIM_OFFSET_NS : Field := fld 0x110 0x128 0 32 .ro 0 .any false false
/-- R340: `TIM.OFFSET` (page 0x110, offset 0x128, 32 bits). -/
def R.TIM_OFFSET : Reg := ⟨0x110, 0x110, 0x128, 1, 0, 32,
  fun _ _ => [F.TIM_OFFSET_NS]⟩

def F.TIM_PTP_BAD_COUNT : Field := fld 0x110 0x12C 0 32 .rc 0 .any false false
/-- R340: `TIM.PTP_BAD` (page 0x110, offset 0x12C, 32 bits). -/
def R.TIM_PTP_BAD : Reg := ⟨0x110, 0x110, 0x12C, 1, 0, 32,
  fun _ _ => [F.TIM_PTP_BAD_COUNT]⟩

def F.TIM_SYNC_OUT_EN : Field := fld 0x110 0x130 4 1 .rw 0 .any false false
def F.TIM_SYNC_OUT_SEL : Field := fld 0x110 0x130 0 4 .rw 0 .any false false
/-- R340: `TIM.SYNC_OUT` (page 0x110, offset 0x130, 32 bits). -/
def R.TIM_SYNC_OUT : Reg := ⟨0x110, 0x110, 0x130, 1, 0, 32,
  fun _ _ => [F.TIM_SYNC_OUT_EN, F.TIM_SYNC_OUT_SEL]⟩

def F.TIM_ASYM_A (i : Nat) : Field := fld 0x111 (0x100 + 64 * i) 0 32 .rw 0 .any false true
/-- R341: `TIM.ASYM` (page 0x111, offset 0x100 and 3 more at stride 64, 32 bits). -/
def R.TIM_ASYM : Reg := ⟨0x111, 0x111, 0x100, 4, 64, 32,
  fun _ i => [F.TIM_ASYM_A i]⟩

def F.TIM_TX_LAT_LAT (i : Nat) : Field := fld 0x111 (0x104 + 64 * i) 0 32 .rw 0 .any false true
/-- R341: `TIM.TX_LAT` (page 0x111, offset 0x104 and 3 more at stride 64, 32 bits). -/
def R.TIM_TX_LAT : Reg := ⟨0x111, 0x111, 0x104, 4, 64, 32,
  fun _ i => [F.TIM_TX_LAT_LAT i]⟩

def F.TIM_RX_LAT_LAT (i : Nat) : Field := fld 0x111 (0x108 + 64 * i) 0 32 .rw 0 .any false true
/-- R341: `TIM.RX_LAT` (page 0x111, offset 0x108 and 3 more at stride 64, 32 bits). -/
def R.TIM_RX_LAT : Reg := ⟨0x111, 0x111, 0x108, 4, 64, 32,
  fun _ i => [F.TIM_RX_LAT_LAT i]⟩

def F.TIM_MEAN_DELAY_D (i : Nat) : Field := fld 0x111 (0x10C + 64 * i) 0 32 .rw 0 .any false false
/-- R341: `TIM.MEAN_DELAY` (page 0x111, offset 0x10C and 3 more at stride 64, 32 bits). -/
def R.TIM_MEAN_DELAY : Reg := ⟨0x111, 0x111, 0x10C, 4, 64, 32,
  fun _ i => [F.TIM_MEAN_DELAY_D i]⟩

def F.TIM_TXQ_STAT_OVERFLOW (i : Nat) : Field := fld 0x111 (0x110 + 64 * i) 16 16 .rc 0 .any false false
def F.TIM_TXQ_STAT_AGED (i : Nat) : Field := fld 0x111 (0x110 + 64 * i) 8 8 .rc 0 .any false false
def F.TIM_TXQ_STAT_COUNT (i : Nat) : Field := fld 0x111 (0x110 + 64 * i) 0 5 .ro 0 .any false false
/-- R341: `TIM.TXQ_STAT` (page 0x111, offset 0x110 and 3 more at stride 64, 32 bits). -/
def R.TIM_TXQ_STAT : Reg := ⟨0x111, 0x111, 0x110, 4, 64, 32,
  fun _ i => [F.TIM_TXQ_STAT_OVERFLOW i, F.TIM_TXQ_STAT_AGED i, F.TIM_TXQ_STAT_COUNT i]⟩

def F.TIM_TXQ_FIND_TYPE (i : Nat) : Field := fld 0x111 (0x114 + 64 * i) 24 4 .wo 0 .any false false
def F.TIM_TXQ_FIND_SEQ (i : Nat) : Field := fld 0x111 (0x114 + 64 * i) 0 16 .wo 0 .any false false
/-- R341: `TIM.TXQ_FIND` (page 0x111, offset 0x114 and 3 more at stride 64, 32 bits). -/
def R.TIM_TXQ_FIND : Reg := ⟨0x111, 0x111, 0x114, 4, 64, 32,
  fun _ i => [F.TIM_TXQ_FIND_TYPE i, F.TIM_TXQ_FIND_SEQ i]⟩

def F.TIM_TXQ_ENTRY_NS (i : Nat) : Field := fld 0x111 (0x120 + 64 * i) 64 64 .ro 0 .any false false
def F.TIM_TXQ_ENTRY_FRAC (i : Nat) : Field := fld 0x111 (0x120 + 64 * i) 48 16 .ro 0 .any false false
def F.TIM_TXQ_ENTRY_STEP_GEN (i : Nat) : Field := fld 0x111 (0x120 + 64 * i) 44 4 .ro 0 .any false false
def F.TIM_TXQ_ENTRY_REPLAYED (i : Nat) : Field := fld 0x111 (0x120 + 64 * i) 40 1 .ro 0 .any false false
def F.TIM_TXQ_ENTRY_FOUND (i : Nat) : Field := fld 0x111 (0x120 + 64 * i) 32 1 .ro 0 .any false false
/-- R341: `TIM.TXQ_ENTRY` (page 0x111, offset 0x120 and 3 more at stride 64, 128 bits). -/
def R.TIM_TXQ_ENTRY : Reg := ⟨0x111, 0x111, 0x120, 4, 64, 128,
  fun _ i => [F.TIM_TXQ_ENTRY_NS i, F.TIM_TXQ_ENTRY_FRAC i, F.TIM_TXQ_ENTRY_STEP_GEN i, F.TIM_TXQ_ENTRY_REPLAYED i, F.TIM_TXQ_ENTRY_FOUND i]⟩

def F.TIM_TRIG_START_NS (i : Nat) : Field := fld 0x112 (0x100 + 32 * i) 0 64 .rw 0 .any true false
/-- R342: `TIM.TRIG_START` (page 0x112, offset 0x100 and 15 more at stride 32, 64 bits). -/
def R.TIM_TRIG_START : Reg := ⟨0x112, 0x112, 0x100, 16, 32, 64,
  fun _ i => [F.TIM_TRIG_START_NS i]⟩

def F.TIM_TRIG_PERIOD_PERIOD (i : Nat) : Field := fld 0x112 (0x108 + 32 * i) 0 64 .rw 0 .any true false
/-- R342: `TIM.TRIG_PERIOD` (page 0x112, offset 0x108 and 15 more at stride 32, 64 bits). -/
def R.TIM_TRIG_PERIOD : Reg := ⟨0x112, 0x112, 0x108, 16, 32, 64,
  fun _ i => [F.TIM_TRIG_PERIOD_PERIOD i]⟩

def F.TIM_TRIG_WIDTH_NS (i : Nat) : Field := fld 0x112 (0x110 + 32 * i) 0 32 .rw 0 .any true false
/-- R342: `TIM.TRIG_WIDTH` (page 0x112, offset 0x110 and 15 more at stride 32, 32 bits). -/
def R.TIM_TRIG_WIDTH : Reg := ⟨0x112, 0x112, 0x110, 16, 32, 32,
  fun _ i => [F.TIM_TRIG_WIDTH_NS i]⟩

def F.TIM_TRIG_COUNT_COUNT (i : Nat) : Field := fld 0x112 (0x114 + 32 * i) 0 32 .rw 0 .any true false
/-- R342: `TIM.TRIG_COUNT` (page 0x112, offset 0x114 and 15 more at stride 32, 32 bits). -/
def R.TIM_TRIG_COUNT : Reg := ⟨0x112, 0x112, 0x114, 16, 32, 32,
  fun _ i => [F.TIM_TRIG_COUNT_COUNT i]⟩

def F.TIM_TRIG_CTRL_LEVEL (i : Nat) : Field := fld 0x112 (0x118 + 32 * i) 31 1 .ro 0 .any true false
def F.TIM_TRIG_CTRL_UPDATE (i : Nat) : Field := fld 0x112 (0x118 + 32 * i) 1 1 .w1s 0 .any true false
def F.TIM_TRIG_CTRL_EN (i : Nat) : Field := fld 0x112 (0x118 + 32 * i) 0 1 .rw 0 .any true false
/-- R342: `TIM.TRIG_CTRL` (page 0x112, offset 0x118 and 15 more at stride 32, 32 bits). -/
def R.TIM_TRIG_CTRL : Reg := ⟨0x112, 0x112, 0x118, 16, 32, 32,
  fun _ i => [F.TIM_TRIG_CTRL_LEVEL i, F.TIM_TRIG_CTRL_UPDATE i, F.TIM_TRIG_CTRL_EN i]⟩

def F.TIM_CAP_CFG_OVERFLOW (i : Nat) : Field := fld 0x113 (0x100 + 32 * i) 16 16 .rc 0 .any true false
def F.TIM_CAP_CFG_EDGE (i : Nat) : Field := fld 0x113 (0x100 + 32 * i) 8 2 .rw 1 .any true false
def F.TIM_CAP_CFG_SOURCE (i : Nat) : Field := fld 0x113 (0x100 + 32 * i) 0 5 .rw (capDefaultSource i) .capSource true false
/-- R343: `TIM.CAP_CFG` (page 0x113, offset 0x100 and 7 more at stride 32, 32 bits). -/
def R.TIM_CAP_CFG : Reg := ⟨0x113, 0x113, 0x100, 8, 32, 32,
  fun _ i => [F.TIM_CAP_CFG_OVERFLOW i, F.TIM_CAP_CFG_EDGE i, F.TIM_CAP_CFG_SOURCE i]⟩

def F.TIM_CAP_POP_POP (i : Nat) : Field := fld 0x113 (0x104 + 32 * i) 0 1 .wo 0 .any true false
/-- R343: `TIM.CAP_POP` (page 0x113, offset 0x104 and 7 more at stride 32, 32 bits). -/
def R.TIM_CAP_POP : Reg := ⟨0x113, 0x113, 0x104, 8, 32, 32,
  fun _ i => [F.TIM_CAP_POP_POP i]⟩

def F.TIM_CAP_ENTRY_NS (i : Nat) : Field := fld 0x113 (0x110 + 32 * i) 64 64 .ro 0 .any true false
def F.TIM_CAP_ENTRY_STEP_GEN (i : Nat) : Field := fld 0x113 (0x110 + 32 * i) 44 4 .ro 0 .any true false
def F.TIM_CAP_ENTRY_FALLING (i : Nat) : Field := fld 0x113 (0x110 + 32 * i) 40 1 .ro 0 .any true false
def F.TIM_CAP_ENTRY_VALID (i : Nat) : Field := fld 0x113 (0x110 + 32 * i) 32 1 .ro 0 .any true false
def F.TIM_CAP_ENTRY_COUNT (i : Nat) : Field := fld 0x113 (0x110 + 32 * i) 0 5 .ro 0 .any true false
/-- R343: `TIM.CAP_ENTRY` (page 0x113, offset 0x110 and 7 more at stride 32, 128 bits). -/
def R.TIM_CAP_ENTRY : Reg := ⟨0x113, 0x113, 0x110, 8, 32, 128,
  fun _ i => [F.TIM_CAP_ENTRY_NS i, F.TIM_CAP_ENTRY_STEP_GEN i, F.TIM_CAP_ENTRY_FALLING i, F.TIM_CAP_ENTRY_VALID i, F.TIM_CAP_ENTRY_COUNT i]⟩

def F.DMC_STATE_DEGRADED : Field := fld 0x130 0x100 31 1 .ro 0 .any false false
def F.DMC_STATE_MIGRATING : Field := fld 0x130 0x100 30 1 .ro 0 .any false false
def F.DMC_STATE_GO_REFUSED : Field := fld 0x130 0x100 29 1 .ro 0 .any false false
def F.DMC_STATE_SPARES_LEFT : Field := fld 0x130 0x100 0 4 .ro 0 .any false true
/-- R366: `DMC.STATE` (page 0x130, offset 0x100, 32 bits). -/
def R.DMC_STATE : Reg := ⟨0x130, 0x130, 0x100, 1, 0, 32,
  fun _ _ => [F.DMC_STATE_DEGRADED, F.DMC_STATE_MIGRATING, F.DMC_STATE_GO_REFUSED, F.DMC_STATE_SPARES_LEFT]⟩

def F.DMC_ISET_EN (i : Nat) : Field := fld 0x130 (0x110 + 4 * i) 31 1 .rwl 0 .any false true
def F.DMC_ISET_BASE (i : Nat) : Field := fld 0x130 (0x110 + 4 * i) 16 6 .rwl 0 (.range 0 47) false true
def F.DMC_ISET_RANK (i : Nat) : Field := fld 0x130 (0x110 + 4 * i) 12 2 .rwl 0 (.range 0 2) false true
def F.DMC_ISET_CH_BASE (i : Nat) : Field := fld 0x130 (0x110 + 4 * i) 8 4 .rwl 0 .any false true
def F.DMC_ISET_WAYS_LOG2 (i : Nat) : Field := fld 0x130 (0x110 + 4 * i) 0 3 .rwl 0 (.range 0 4) false true
/-- R366: `DMC.ISET` (page 0x130, offset 0x110 and 7 more at stride 4, 32 bits). -/
def R.DMC_ISET : Reg := ⟨0x130, 0x130, 0x110, 8, 4, 32,
  fun _ i => [F.DMC_ISET_EN i, F.DMC_ISET_BASE i, F.DMC_ISET_RANK i, F.DMC_ISET_CH_BASE i, F.DMC_ISET_WAYS_LOG2 i]⟩

def F.DMC_CH_MASK_MASK (i : Nat) : Field := fld 0x130 (0x140 + 8 * i) 0 40 .rwl 0 .any false true
/-- R366: `DMC.CH_MASK` (page 0x130, offset 0x140 and 3 more at stride 8, 64 bits). -/
def R.DMC_CH_MASK : Reg := ⟨0x130, 0x130, 0x140, 4, 8, 64,
  fun _ i => [F.DMC_CH_MASK_MASK i]⟩

def F.DMC_BK_MASK_MASK (i : Nat) : Field := fld 0x130 (0x160 + 8 * i) 0 40 .rwl 0 .any false true
/-- R366: `DMC.BK_MASK` (page 0x130, offset 0x160 and 3 more at stride 8, 64 bits). -/
def R.DMC_BK_MASK : Reg := ⟨0x130, 0x130, 0x160, 4, 8, 64,
  fun _ i => [F.DMC_BK_MASK_MASK i]⟩

def F.DMC_REMAP_POINTER (i : Nat) : Field := fld 0x130 (0x180 + 8 * i) 32 15 .ro 0 .any false true
def F.DMC_REMAP_STATE (i : Nat) : Field := fld 0x130 (0x180 + 8 * i) 30 2 .rw 0 .any false true
def F.DMC_REMAP_FROM_RANK (i : Nat) : Field := fld 0x130 (0x180 + 8 * i) 24 2 .rw 0 .any false true
def F.DMC_REMAP_FROM_CH (i : Nat) : Field := fld 0x130 (0x180 + 8 * i) 20 4 .rw 0 .any false true
def F.DMC_REMAP_TO_RANK (i : Nat) : Field := fld 0x130 (0x180 + 8 * i) 16 2 .rw 0 .any false true
def F.DMC_REMAP_TO_CH (i : Nat) : Field := fld 0x130 (0x180 + 8 * i) 12 4 .rw 0 .any false true
/-- R366: `DMC.REMAP` (page 0x130, offset 0x180 and 3 more at stride 8, 64 bits). -/
def R.DMC_REMAP : Reg := ⟨0x130, 0x130, 0x180, 4, 8, 64,
  fun _ i => [F.DMC_REMAP_POINTER i, F.DMC_REMAP_STATE i, F.DMC_REMAP_FROM_RANK i, F.DMC_REMAP_FROM_CH i, F.DMC_REMAP_TO_RANK i, F.DMC_REMAP_TO_CH i]⟩

def F.DMC_SPARE_SET_RANKS : Field := fld 0x130 0x1A0 0 48 .rw 0 .any false true
/-- R366: `DMC.SPARE_SET` (page 0x130, offset 0x1A0, 64 bits). -/
def R.DMC_SPARE_SET : Reg := ⟨0x130, 0x130, 0x1A0, 1, 0, 64,
  fun _ _ => [F.DMC_SPARE_SET_RANKS]⟩

def F.DMC_SPARE_CFG_CE_LIMIT : Field := fld 0x130 0x1A8 16 16 .rw 1000 (.range 1 65535) false false
def F.DMC_SPARE_CFG_MIG_GBPS : Field := fld 0x130 0x1A8 0 8 .rw 16 (.range 1 64) false false
/-- R366: `DMC.SPARE_CFG` (page 0x130, offset 0x1A8, 32 bits). -/
def R.DMC_SPARE_CFG : Reg := ⟨0x130, 0x130, 0x1A8, 1, 0, 32,
  fun _ _ => [F.DMC_SPARE_CFG_CE_LIMIT, F.DMC_SPARE_CFG_MIG_GBPS]⟩

def F.DMC_SPEED_GO : Field := fld 0x130 0x1B0 31 1 .wo 0 .any false false
def F.DMC_SPEED_BUSY : Field := fld 0x130 0x1B0 30 1 .ro 0 .any false false
def F.DMC_SPEED_ACTIVE : Field := fld 0x130 0x1B0 0 1 .ro 0 .any false false
/-- R366: `DMC.SPEED` (page 0x130, offset 0x1B0, 32 bits). -/
def R.DMC_SPEED : Reg := ⟨0x130, 0x130, 0x1B0, 1, 0, 32,
  fun _ _ => [F.DMC_SPEED_GO, F.DMC_SPEED_BUSY, F.DMC_SPEED_ACTIVE]⟩

def F.DMC_TSET_RATE (i : Nat) : Field := fld 0x130 (0x1C0 + 16 * i) 112 16 .rw 0 .any false true
def F.DMC_TSET_REFI (i : Nat) : Field := fld 0x130 (0x1C0 + 16 * i) 96 16 .rw 3906 .any false false
def F.DMC_TSET_XS (i : Nat) : Field := fld 0x130 (0x1C0 + 16 * i) 80 16 .rw 0 .any false true
def F.DMC_TSET_MRSC (i : Nat) : Field := fld 0x130 (0x1C0 + 16 * i) 64 8 .rw 6 .any false false
def F.DMC_TSET_WTR (i : Nat) : Field := fld 0x130 (0x1C0 + 16 * i) 56 8 .rw 0 .any false true
def F.DMC_TSET_RTW (i : Nat) : Field := fld 0x130 (0x1C0 + 16 * i) 48 8 .rw 0 .any false true
def F.DMC_TSET_RFC (i : Nat) : Field := fld 0x130 (0x1C0 + 16 * i) 24 8 .rw 0 .any false true
def F.DMC_TSET_RC (i : Nat) : Field := fld 0x130 (0x1C0 + 16 * i) 16 8 .rw 0 .any false true
def F.DMC_TSET_WL (i : Nat) : Field := fld 0x130 (0x1C0 + 16 * i) 8 8 .rw 0 .any false true
def F.DMC_TSET_RL (i : Nat) : Field := fld 0x130 (0x1C0 + 16 * i) 0 8 .rw 0 .any false true
/-- R366: `DMC.TSET` (page 0x130, offset 0x1C0 and 1 more at stride 16, 128 bits). -/
def R.DMC_TSET : Reg := ⟨0x130, 0x130, 0x1C0, 2, 16, 128,
  fun _ i => [F.DMC_TSET_RATE i, F.DMC_TSET_REFI i, F.DMC_TSET_XS i, F.DMC_TSET_MRSC i, F.DMC_TSET_WTR i, F.DMC_TSET_RTW i, F.DMC_TSET_RFC i, F.DMC_TSET_RC i, F.DMC_TSET_WL i, F.DMC_TSET_RL i]⟩

def F.DMC_SCRUB_HOURS : Field := fld 0x130 0x1E0 0 16 .rw 8 (.range 1 720) false false
/-- R366: `DMC.SCRUB` (page 0x130, offset 0x1E0, 32 bits). -/
def R.DMC_SCRUB : Reg := ⟨0x130, 0x130, 0x1E0, 1, 0, 32,
  fun _ _ => [F.DMC_SCRUB_HOURS]⟩

def F.DMC_CH_STATE_STATE (p : Nat) : Field := fld (0x120 + p) 0x100 28 4 .ro 0 .any false false
def F.DMC_CH_STATE_RANK_FAILED (p : Nat) : Field := fld (0x120 + p) 0x100 16 3 .ro 0 .any false false
def F.DMC_CH_STATE_RANK_SPARE (p : Nat) : Field := fld (0x120 + p) 0x100 12 3 .ro 0 .any false true
def F.DMC_CH_STATE_RANK_PRESENT (p : Nat) : Field := fld (0x120 + p) 0x100 8 3 .ro 0 .any false true
/-- R367: `DMC.CH_STATE` (pages 0x120 to 0x12F, offset 0x100, 32 bits). -/
def R.DMC_CH_STATE : Reg := ⟨0x120, 0x12F, 0x100, 1, 0, 32,
  fun p _ => [F.DMC_CH_STATE_STATE p, F.DMC_CH_STATE_RANK_FAILED p, F.DMC_CH_STATE_RANK_SPARE p, F.DMC_CH_STATE_RANK_PRESENT p]⟩

def F.DMC_CE_COUNT_COUNT (p : Nat) (i : Nat) : Field := fld (0x120 + p) (0x110 + 4 * i) 0 32 .rc 0 .any false false
/-- R367: `DMC.CE_COUNT` (pages 0x120 to 0x12F, offset 0x110 and 2 more at stride 4, 32 bits). -/
def R.DMC_CE_COUNT : Reg := ⟨0x120, 0x12F, 0x110, 3, 4, 32,
  fun p i => [F.DMC_CE_COUNT_COUNT p i]⟩

def F.DMC_UE_COUNT_COUNT (p : Nat) (i : Nat) : Field := fld (0x120 + p) (0x120 + 4 * i) 0 32 .rc 0 .any false false
/-- R367: `DMC.UE_COUNT` (pages 0x120 to 0x12F, offset 0x120 and 2 more at stride 4, 32 bits). -/
def R.DMC_UE_COUNT : Reg := ⟨0x120, 0x12F, 0x120, 3, 4, 32,
  fun p i => [F.DMC_UE_COUNT_COUNT p i]⟩

def F.DMC_REF_FORCED_COUNT (p : Nat) : Field := fld (0x120 + p) 0x130 0 32 .rc 0 .any false false
/-- R367: `DMC.REF_FORCED` (pages 0x120 to 0x12F, offset 0x130, 32 bits). -/
def R.DMC_REF_FORCED : Reg := ⟨0x120, 0x12F, 0x130, 1, 0, 32,
  fun p _ => [F.DMC_REF_FORCED_COUNT p]⟩

def F.DMC_REF_DEBT_MAX_DEBT (p : Nat) : Field := fld (0x120 + p) 0x134 0 4 .rc 0 .any false false
/-- R367: `DMC.REF_DEBT_MAX` (pages 0x120 to 0x12F, offset 0x134, 32 bits). -/
def R.DMC_REF_DEBT_MAX : Reg := ⟨0x120, 0x12F, 0x134, 1, 0, 32,
  fun p _ => [F.DMC_REF_DEBT_MAX_DEBT p]⟩

def F.DMC_RT_WAIT_MAX_NS (p : Nat) : Field := fld (0x120 + p) 0x138 0 32 .rc 0 .any false false
/-- R367: `DMC.RT_WAIT_MAX` (pages 0x120 to 0x12F, offset 0x138, 32 bits). -/
def R.DMC_RT_WAIT_MAX : Reg := ⟨0x120, 0x12F, 0x138, 1, 0, 32,
  fun p _ => [F.DMC_RT_WAIT_MAX_NS p]⟩

def F.DMC_BW_BE (p : Nat) : Field := fld (0x120 + p) 0x13C 8 8 .ro 0 .any false false
def F.DMC_BW_RT (p : Nat) : Field := fld (0x120 + p) 0x13C 0 8 .ro 0 .any false false
/-- R367: `DMC.BW` (pages 0x120 to 0x12F, offset 0x13C, 32 bits). -/
def R.DMC_BW : Reg := ⟨0x120, 0x12F, 0x13C, 1, 0, 32,
  fun p _ => [F.DMC_BW_BE p, F.DMC_BW_RT p]⟩

def F.DMC_LOOP_START (p : Nat) : Field := fld (0x120 + p) 0x140 31 1 .wo 0 .any false false
def F.DMC_LOOP_BUSY (p : Nat) : Field := fld (0x120 + p) 0x140 30 1 .ro 0 .any false false
def F.DMC_LOOP_PATTERN (p : Nat) : Field := fld (0x120 + p) 0x140 28 2 .rw 0 (.range 0 2) false false
def F.DMC_LOOP_RANK (p : Nat) : Field := fld (0x120 + p) 0x140 16 2 .rw 0 .any false false
def F.DMC_LOOP_MIB (p : Nat) : Field := fld (0x120 + p) 0x140 0 10 .rw 64 (.range 1 1024) false false
/-- R367: `DMC.LOOP` (pages 0x120 to 0x12F, offset 0x140, 32 bits). -/
def R.DMC_LOOP : Reg := ⟨0x120, 0x12F, 0x140, 1, 0, 32,
  fun p _ => [F.DMC_LOOP_START p, F.DMC_LOOP_BUSY p, F.DMC_LOOP_PATTERN p, F.DMC_LOOP_RANK p, F.DMC_LOOP_MIB p]⟩

def F.DMC_LOOP_ERR_COUNT (p : Nat) : Field := fld (0x120 + p) 0x144 0 32 .ro 0 .any false false
/-- R367: `DMC.LOOP_ERR` (pages 0x120 to 0x12F, offset 0x144, 32 bits). -/
def R.DMC_LOOP_ERR : Reg := ⟨0x120, 0x12F, 0x144, 1, 0, 32,
  fun p _ => [F.DMC_LOOP_ERR_COUNT p]⟩

def F.DMC_LOOP_LANE_WORST_LANE (p : Nat) : Field := fld (0x120 + p) 0x148 0 7 .ro 0 .any false false
/-- R367: `DMC.LOOP_LANE` (pages 0x120 to 0x12F, offset 0x148, 32 bits). -/
def R.DMC_LOOP_LANE : Reg := ⟨0x120, 0x12F, 0x148, 1, 0, 32,
  fun p _ => [F.DMC_LOOP_LANE_WORST_LANE p]⟩

def F.PNL_BRIGHTNESS_EFF_LEVEL : Field := fld 0x0DC 0x900 0 11 .ro 1024 .any false false
/-- R42: `PNL.BRIGHTNESS_EFF` (page 0x0DC, offset 0x900, 32 bits). -/
def R.PNL_BRIGHTNESS_EFF : Reg := ⟨0x0DC, 0x0DC, 0x900, 1, 0, 32,
  fun _ _ => [F.PNL_BRIGHTNESS_EFF_LEVEL]⟩

/-- Rows 0 of this file's register tables. -/
def R.tableC0 : List Reg :=
  [R.PNL_PORT_STATE, R.PNL_UNDERRUN_LINES, R.PNL_UNDERRUN_PIXELS, R.PNL_SEG_ERRORS, R.PNL_CTRL_RETRIES, R.PNL_HDR_MISMATCH, R.PNL_LANE_ERR, R.PNL_DRV_CMD, R.PNL_DRV_DATA, R.PNL_DRV_STATUS, R.PNL_SENSOR, R.PNL_DRV_EVENT, R.PNL_BRIGHTNESS, R.PNL_LR_CTRL, R.PNL_LR_KICK, R.PNL_LR_STATE, R.PNL_POWER_CMD, R.PNL_SEQ_STATE, R.PNL_PANEL_SERIAL, R.PNL_MODEL_VERSION]

/-- Rows 1 of this file's register tables. -/
def R.tableC1 : List Reg :=
  [R.PNL_NEUTRAL, R.PNL_ZONE_CAL, R.PNL_ZONE_CODE, R.OVD_CTRL, R.OVD_HIST_BASE, R.OVD_TEMP, R.OVD_BAND_STATE, R.OVD_HIST_VOID, R.OVD_HIST_ERR, R.OVD_TBAND_CHANGES, R.OVD_TBAND_EDGE, R.OVD_TBAND_DEFAULT, R.OVD_TABLE_ADDR, R.OVD_TABLE_LOAD, R.OVD_TABLE_SWAP, R.OVD_TABLE_STATUS, R.SER_GROUP_STATE, R.SER_CTRL, R.SER_TX_MAP, R.SER_RX_MAP]

/-- Rows 2 of this file's register tables. -/
def R.tableC2 : List Reg :=
  [R.SER_SUB_CMD, R.SER_SUB_CFG, R.SER_TRAINS, R.SER_SUBS, R.SER_RELOCKS, R.SER_LANE, R.SER_SYM_ERR, R.SER_TX_PRESET, R.SER_EYE_CTRL, R.SER_EYE_ERRORS, R.SER_LOOP, R.SER_PAT_CTRL, R.SER_PAT_ERR, R.SER_PAT_BITS, R.XSH_ROLE, R.XSH_YARD_ID, R.XSH_GEN, R.XSH_CTRL, R.XSH_PORT, R.XSH_COUNT0]

/-- Rows 3 of this file's register tables. -/
def R.tableC3 : List Reg :=
  [R.XSH_COUNT1, R.XSH_COUNT2, R.XSH_COUNT3, R.XSH_COUNT4, R.XSH_DROPS, R.XSH_MEMBER0, R.XSH_MEMBER1, R.XSH_MEMBER3, R.XSH_STRANGER, R.XSH_STRANGER_DIGEST, R.TIM_TIME, R.TIM_FRAC, R.TIM_INCREMENT, R.TIM_STEP, R.TIM_STEPS, R.TIM_SERVO, R.TIM_OFFSET, R.TIM_PTP_BAD, R.TIM_SYNC_OUT, R.TIM_ASYM]

/-- Rows 4 of this file's register tables. -/
def R.tableC4 : List Reg :=
  [R.TIM_TX_LAT, R.TIM_RX_LAT, R.TIM_MEAN_DELAY, R.TIM_TXQ_STAT, R.TIM_TXQ_FIND, R.TIM_TXQ_ENTRY, R.TIM_TRIG_START, R.TIM_TRIG_PERIOD, R.TIM_TRIG_WIDTH, R.TIM_TRIG_COUNT, R.TIM_TRIG_CTRL, R.TIM_CAP_CFG, R.TIM_CAP_POP, R.TIM_CAP_ENTRY, R.DMC_STATE, R.DMC_ISET, R.DMC_CH_MASK, R.DMC_BK_MASK, R.DMC_REMAP, R.DMC_SPARE_SET]

/-- Rows 5 of this file's register tables. -/
def R.tableC5 : List Reg :=
  [R.DMC_SPARE_CFG, R.DMC_SPEED, R.DMC_TSET, R.DMC_SCRUB, R.DMC_CH_STATE, R.DMC_CE_COUNT, R.DMC_UE_COUNT, R.DMC_REF_FORCED, R.DMC_REF_DEBT_MAX, R.DMC_RT_WAIT_MAX, R.DMC_BW, R.DMC_LOOP, R.DMC_LOOP_ERR, R.DMC_LOOP_LANE, R.PNL_BRIGHTNESS_EFF]

/-- Every register row of this file. -/
def R.tableC : List Reg := R.tableC0 ++ R.tableC1 ++ R.tableC2 ++ R.tableC3 ++ R.tableC4 ++ R.tableC5

end Sys2Proof.Machine
end

