-- ==== Sys2Proof/Machine/FieldsD.lean ====
section
/-! DEFINITION. The registers of LFT, CAL, THM, SEC, ERR, BST, CKP: every field of every register table of the spec under its own name
(its page and offset, its lowest bit, its width, its access code, its reset value, the values R6 lets a write store), and
one row per register. A field argument `p` is the page within the block's run of pages, `i` the index the table gives. -/

set_option linter.unusedVariables false

namespace Sys2Proof.Machine

def F.LFT_CTRL_CHARGE_EN : Field := fld 0x140 0x100 8 1 .rw 1 .any false false
def F.LFT_CTRL_BP : Field := fld 0x140 0x100 0 2 .rwl 0 .any false false
/-- R388: `LFT.CTRL` (page 0x140, offset 0x100, 32 bits). -/
def R.LFT_CTRL : Reg := ⟨0x140, 0x140, 0x100, 1, 0, 32,
  fun _ _ => [F.LFT_CTRL_CHARGE_EN, F.LFT_CTRL_BP]⟩

def F.LFT_STATUS_POWER_DOWN : Field := fld 0x140 0x104 31 1 .ro 0 .any false false
def F.LFT_STATUS_TEMP_OK : Field := fld 0x140 0x104 30 1 .ro 0 .any false false
def F.LFT_STATUS_CHARGING : Field := fld 0x140 0x104 29 1 .ro 0 .any false false
def F.LFT_STATUS_SHADOW_STALE : Field := fld 0x140 0x104 28 1 .ro 0 .any false false
def F.LFT_STATUS_JOURNAL : Field := fld 0x140 0x104 24 2 .ro 0 .any false false
/-- R388: `LFT.STATUS` (page 0x140, offset 0x104, 32 bits). -/
def R.LFT_STATUS : Reg := ⟨0x140, 0x140, 0x104, 1, 0, 32,
  fun _ _ => [F.LFT_STATUS_POWER_DOWN, F.LFT_STATUS_TEMP_OK, F.LFT_STATUS_CHARGING, F.LFT_STATUS_SHADOW_STALE, F.LFT_STATUS_JOURNAL]⟩

def F.LFT_BUF_CLAIM_CLAIM : Field := fld 0x140 0x108 31 1 .wo 0 .any false false
def F.LFT_BUF_CLAIM_RELEASE : Field := fld 0x140 0x108 30 1 .wo 0 .any false false
def F.LFT_BUF_CLAIM_HOLDER : Field := fld 0x140 0x108 0 4 .ro 0xF .any false false
/-- R388: `LFT.BUF_CLAIM` (page 0x140, offset 0x108, 32 bits). -/
def R.LFT_BUF_CLAIM : Reg := ⟨0x140, 0x140, 0x108, 1, 0, 32,
  fun _ _ => [F.LFT_BUF_CLAIM_CLAIM, F.LFT_BUF_CLAIM_RELEASE, F.LFT_BUF_CLAIM_HOLDER]⟩

def F.LFT_BUF_PTR_OFFSET : Field := fld 0x140 0x10C 3 13 .rw 0 .any false false
/-- R388: `LFT.BUF_PTR` (page 0x140, offset 0x10C, 32 bits). -/
def R.LFT_BUF_PTR : Reg := ⟨0x140, 0x140, 0x10C, 1, 0, 32,
  fun _ _ => [F.LFT_BUF_PTR_OFFSET]⟩

def F.LFT_BUF_DATA_DATA : Field := fld 0x140 0x110 0 64 .rw 0 .any false false
/-- R388: `LFT.BUF_DATA` (page 0x140, offset 0x110, 64 bits). -/
def R.LFT_BUF_DATA : Reg := ⟨0x140, 0x140, 0x110, 1, 0, 64,
  fun _ _ => [F.LFT_BUF_DATA_DATA]⟩

def F.LFT_BUF_FILL_BUSY : Field := fld 0x140 0x118 63 1 .ro 0 .any false false
def F.LFT_BUF_FILL_KIB : Field := fld 0x140 0x118 48 7 .rw 0 (.range 1 64) false false
def F.LFT_BUF_FILL_ADDR : Field := fld 0x140 0x118 6 30 .rw 0 .any false false
/-- R388: `LFT.BUF_FILL` (page 0x140, offset 0x118, 64 bits). -/
def R.LFT_BUF_FILL : Reg := ⟨0x140, 0x140, 0x118, 1, 0, 64,
  fun _ _ => [F.LFT_BUF_FILL_BUSY, F.LFT_BUF_FILL_KIB, F.LFT_BUF_FILL_ADDR]⟩

def F.LFT_STORE_ADDR_ADDR : Field := fld 0x140 0x120 0 24 .rw 0 .any false false
/-- R388: `LFT.STORE_ADDR` (page 0x140, offset 0x120, 32 bits). -/
def R.LFT_STORE_ADDR : Reg := ⟨0x140, 0x140, 0x120, 1, 0, 32,
  fun _ _ => [F.LFT_STORE_ADDR_ADDR]⟩

def F.LFT_STORE_LEN_LENGTH : Field := fld 0x140 0x124 0 17 .rw 0 .any false false
/-- R388: `LFT.STORE_LEN` (page 0x140, offset 0x124, 32 bits). -/
def R.LFT_STORE_LEN : Reg := ⟨0x140, 0x140, 0x124, 1, 0, 32,
  fun _ _ => [F.LFT_STORE_LEN_LENGTH]⟩

def F.LFT_CMD_STATUS_BUSY : Field := fld 0x140 0x128 31 1 .ro 0 .any false false
def F.LFT_CMD_STATUS_COMMITTED : Field := fld 0x140 0x128 30 1 .ro 0 .any false false
def F.LFT_CMD_STATUS_CODE : Field := fld 0x140 0x128 0 4 .ro 0 .any false false
/-- R388: `LFT.CMD_STATUS` (page 0x140, offset 0x128, 32 bits). -/
def R.LFT_CMD_STATUS : Reg := ⟨0x140, 0x140, 0x128, 1, 0, 32,
  fun _ _ => [F.LFT_CMD_STATUS_BUSY, F.LFT_CMD_STATUS_COMMITTED, F.LFT_CMD_STATUS_CODE]⟩

def F.LFT_COMMIT_SEQ_SEQ : Field := fld 0x140 0x12C 0 32 .ro 0 .any false true
/-- R388: `LFT.COMMIT_SEQ` (page 0x140, offset 0x12C, 32 bits). -/
def R.LFT_COMMIT_SEQ : Reg := ⟨0x140, 0x140, 0x12C, 1, 0, 32,
  fun _ _ => [F.LFT_COMMIT_SEQ_SEQ]⟩

def F.LFT_RESERVE_UJ : Field := fld 0x140 0x130 0 32 .ro 0 .any false false
/-- R388: `LFT.RESERVE` (page 0x140, offset 0x130, 32 bits). -/
def R.LFT_RESERVE : Reg := ⟨0x140, 0x140, 0x130, 1, 0, 32,
  fun _ _ => [F.LFT_RESERVE_UJ]⟩

def F.LFT_HOLDUP_CFG_CAP_UF : Field := fld 0x140 0x134 16 16 .rwl 0 (.range 100 47000) false true
def F.LFT_HOLDUP_CFG_V_MV : Field := fld 0x140 0x134 0 16 .ro 0 .any false false
/-- R388: `LFT.HOLDUP_CFG` (page 0x140, offset 0x134, 32 bits). -/
def R.LFT_HOLDUP_CFG : Reg := ⟨0x140, 0x140, 0x134, 1, 0, 32,
  fun _ _ => [F.LFT_HOLDUP_CFG_CAP_UF, F.LFT_HOLDUP_CFG_V_MV]⟩

def F.LFT_RD_ADDR_WORD : Field := fld 0x140 0x140 3 21 .rw 0 .any false false
/-- R388: `LFT.RD_ADDR` (page 0x140, offset 0x140, 32 bits). -/
def R.LFT_RD_ADDR : Reg := ⟨0x140, 0x140, 0x140, 1, 0, 32,
  fun _ _ => [F.LFT_RD_ADDR_WORD]⟩

def F.LFT_RD_DATA_DATA : Field := fld 0x140 0x148 0 64 .ro 0 .any false false
/-- R388: `LFT.RD_DATA` (page 0x140, offset 0x148, 64 bits). -/
def R.LFT_RD_DATA : Reg := ⟨0x140, 0x140, 0x148, 1, 0, 64,
  fun _ _ => [F.LFT_RD_DATA_DATA]⟩

def F.LFT_COUNT_COUNT (i : Nat) : Field := fld 0x141 (0x100 + 4 * i) 0 32 .rc 0 .any false false
/-- R389: `LFT.COUNT` (page 0x141, offset 0x100 and 8 more at stride 4, 32 bits). -/
def R.LFT_COUNT : Reg := ⟨0x141, 0x141, 0x100, 9, 4, 32,
  fun _ i => [F.LFT_COUNT_COUNT i]⟩

def F.CAL_REQ_MODE : Field := fld 0x150 0x100 16 2 .rw 0 (.range 0 2) true true
def F.CAL_REQ_INTERVAL_H : Field := fld 0x150 0x100 8 8 .rw 24 (.range 1 255) true false
def F.CAL_REQ_ALLOW_VIEWERS : Field := fld 0x150 0x100 6 1 .rw 0 .any true false
def F.CAL_REQ_NOW : Field := fld 0x150 0x100 4 1 .w1s 0 .any true false
/-- R411: `CAL.REQ` (page 0x150, offset 0x100, 32 bits). -/
def R.CAL_REQ : Reg := ⟨0x150, 0x150, 0x100, 1, 0, 32,
  fun _ _ => [F.CAL_REQ_MODE, F.CAL_REQ_INTERVAL_H, F.CAL_REQ_ALLOW_VIEWERS, F.CAL_REQ_NOW]⟩

def F.CAL_STATE_STATE : Field := fld 0x150 0x108 28 4 .ro 0 .any false false
def F.CAL_STATE_BAND : Field := fld 0x150 0x108 24 4 .ro 0 .any false false
def F.CAL_STATE_SUBFRAME : Field := fld 0x150 0x108 16 6 .ro 0 .any false false
def F.CAL_STATE_RESULT : Field := fld 0x150 0x108 8 2 .ro 0 .any false false
def F.CAL_STATE_ABANDON : Field := fld 0x150 0x108 0 4 .ro 0 .any false false
/-- R411: `CAL.STATE` (page 0x150, offset 0x108, 32 bits). -/
def R.CAL_STATE : Reg := ⟨0x150, 0x150, 0x108, 1, 0, 32,
  fun _ _ => [F.CAL_STATE_STATE, F.CAL_STATE_BAND, F.CAL_STATE_SUBFRAME, F.CAL_STATE_RESULT, F.CAL_STATE_ABANDON]⟩

def F.CAL_GEN_COUNT : Field := fld 0x150 0x10C 0 32 .ro 0 .any false false
/-- R411: `CAL.GEN` (page 0x150, offset 0x10C, 32 bits). -/
def R.CAL_GEN : Reg := ⟨0x150, 0x150, 0x10C, 1, 0, 32,
  fun _ _ => [F.CAL_GEN_COUNT]⟩

def F.CAL_LAST_APPLY_SUBFRAME : Field := fld 0x150 0x110 0 64 .ro 0 .any false false
/-- R411: `CAL.LAST_APPLY` (page 0x150, offset 0x110, 64 bits). -/
def R.CAL_LAST_APPLY : Reg := ⟨0x150, 0x150, 0x110, 1, 0, 64,
  fun _ _ => [F.CAL_LAST_APPLY_SUBFRAME]⟩

def F.CAL_LAST_PASS_NS : Field := fld 0x150 0x118 0 64 .ro 0 .any false true
/-- R411: `CAL.LAST_PASS` (page 0x150, offset 0x118, 64 bits). -/
def R.CAL_LAST_PASS : Reg := ⟨0x150, 0x150, 0x118, 1, 0, 64,
  fun _ _ => [F.CAL_LAST_PASS_NS]⟩

def F.CAL_COUNT_COUNT (i : Nat) : Field := fld 0x150 (0x140 + 4 * i) 0 32 .rc 0 .any false false
/-- R411: `CAL.COUNT` (page 0x150, offset 0x140 and 4 more at stride 4, 32 bits). -/
def R.CAL_COUNT : Reg := ⟨0x150, 0x150, 0x140, 5, 4, 32,
  fun _ i => [F.CAL_COUNT_COUNT i]⟩

def F.CAL_REF_SOURCE : Field := fld 0x150 0x180 30 2 .ro 0 .any false false
def F.CAL_REF_EXT : Field := fld 0x150 0x180 28 2 .ro 0 .any false false
def F.CAL_REF_XTAL_BAD : Field := fld 0x150 0x180 27 1 .ro 0 .any false false
def F.CAL_REF_OFFSET : Field := fld 0x150 0x180 0 16 .ro 0 .any false false
/-- R411: `CAL.REF` (page 0x150, offset 0x180, 32 bits). -/
def R.CAL_REF : Reg := ⟨0x150, 0x150, 0x180, 1, 0, 32,
  fun _ _ => [F.CAL_REF_SOURCE, F.CAL_REF_EXT, F.CAL_REF_XTAL_BAD, F.CAL_REF_OFFSET]⟩

def F.CAL_TRIG_DRUM_SRC : Field := fld 0x150 0x190 8 5 .rw 0x1F .drumSrc false false
def F.CAL_TRIG_AIN_SRC : Field := fld 0x150 0x190 0 5 .rw 0x1F .drumSrc false false
/-- R411: `CAL.TRIG` (page 0x150, offset 0x190, 32 bits). -/
def R.CAL_TRIG : Reg := ⟨0x150, 0x150, 0x190, 1, 0, 32,
  fun _ _ => [F.CAL_TRIG_DRUM_SRC, F.CAL_TRIG_AIN_SRC]⟩

def F.CAL_APPLY_PENDING : Field := fld 0x151 0x100 31 1 .ro 0 .any false false
def F.CAL_APPLY_ARM : Field := fld 0x151 0x100 8 1 .w1s 0 .any false false
def F.CAL_APPLY_OVD : Field := fld 0x151 0x100 2 1 .rw 0 .any false false
def F.CAL_APPLY_LENSLET : Field := fld 0x151 0x100 1 1 .rw 0 .any false false
/-- R412: `CAL.APPLY` (page 0x151, offset 0x100, 32 bits). -/
def R.CAL_APPLY : Reg := ⟨0x151, 0x151, 0x100, 1, 0, 32,
  fun _ _ => [F.CAL_APPLY_PENDING, F.CAL_APPLY_ARM, F.CAL_APPLY_OVD, F.CAL_APPLY_LENSLET]⟩

def F.CAL_STAGE_ZONE_CODE (i : Nat) : Field := fld 0x151 (0x140 + 4 * i) 0 12 .rw 0 .any false true
/-- R412: `CAL.STAGE_ZONE` (page 0x151, offset 0x140 and 23 more at stride 4, 32 bits). -/
def R.CAL_STAGE_ZONE : Reg := ⟨0x151, 0x151, 0x140, 24, 4, 32,
  fun _ i => [F.CAL_STAGE_ZONE_CODE i]⟩

def F.CAL_STAGE_ANGLE_VALUE (i : Nat) : Field := fld 0x151 (0x200 + 4 * i) 0 16 .rw 0 .any false true
/-- R412: `CAL.STAGE_ANGLE` (page 0x151, offset 0x200 and 63 more at stride 4, 32 bits). -/
def R.CAL_STAGE_ANGLE : Reg := ⟨0x151, 0x151, 0x200, 64, 4, 32,
  fun _ i => [F.CAL_STAGE_ANGLE_VALUE i]⟩

def F.CAL_STAGE_TRIM_GAIN (i : Nat) : Field := fld 0x151 (0x300 + 4 * i) 16 16 .rw 0 .any false true
def F.CAL_STAGE_TRIM_OFFSET (i : Nat) : Field := fld 0x151 (0x300 + 4 * i) 0 16 .rw 0 .any false true
/-- R412: `CAL.STAGE_TRIM` (page 0x151, offset 0x300 and 29 more at stride 4, 32 bits). -/
def R.CAL_STAGE_TRIM : Reg := ⟨0x151, 0x151, 0x300, 30, 4, 32,
  fun _ i => [F.CAL_STAGE_TRIM_GAIN i, F.CAL_STAGE_TRIM_OFFSET i]⟩

def F.THM_STATE_STEP : Field := fld 0x160 0x100 30 2 .ro 0 .any false false
def F.THM_STATE_WARN : Field := fld 0x160 0x100 29 1 .ro 0 .any false false
def F.THM_STATE_CRITICAL : Field := fld 0x160 0x100 28 1 .ro 0 .any false false
def F.THM_STATE_LANE_CLOCK : Field := fld 0x160 0x100 24 2 .ro 0 .any false false
def F.THM_STATE_T_HOT : Field := fld 0x160 0x100 0 16 .ro 0 .any false false
/-- R413: `THM.STATE` (page 0x160, offset 0x100, 32 bits). -/
def R.THM_STATE : Reg := ⟨0x160, 0x160, 0x100, 1, 0, 32,
  fun _ _ => [F.THM_STATE_STEP, F.THM_STATE_WARN, F.THM_STATE_CRITICAL, F.THM_STATE_LANE_CLOCK, F.THM_STATE_T_HOT]⟩

def F.THM_DIE_TEMP_TEMP (i : Nat) : Field := fld 0x160 (0x108 + 4 * i) 0 16 .ro 0 .any false false
/-- R413: `THM.DIE_TEMP` (page 0x160, offset 0x108 and 2 more at stride 4, 32 bits). -/
def R.THM_DIE_TEMP : Reg := ⟨0x160, 0x160, 0x108, 3, 4, 32,
  fun _ i => [F.THM_DIE_TEMP_TEMP i]⟩

def F.THM_PANEL_TEMP_TEMP : Field := fld 0x160 0x118 0 16 .ro 0 .any false false
/-- R413: `THM.PANEL_TEMP` (page 0x160, offset 0x118, 32 bits). -/
def R.THM_PANEL_TEMP : Reg := ⟨0x160, 0x160, 0x118, 1, 0, 32,
  fun _ _ => [F.THM_PANEL_TEMP_TEMP]⟩

def F.THM_PANEL_RATE_HZ : Field := fld 0x160 0x11C 0 7 .rw 10 (.range 1 100) false false
/-- R413: `THM.PANEL_RATE` (page 0x160, offset 0x11C, 32 bits). -/
def R.THM_PANEL_RATE : Reg := ⟨0x160, 0x160, 0x11C, 1, 0, 32,
  fun _ _ => [F.THM_PANEL_RATE_HZ]⟩

def F.THM_COUNT_COUNT (i : Nat) : Field := fld 0x160 (0x140 + 4 * i) 0 32 .rc 0 .any false false
/-- R413: `THM.COUNT` (page 0x160, offset 0x140 and 4 more at stride 4, 32 bits). -/
def R.THM_COUNT : Reg := ⟨0x160, 0x160, 0x140, 5, 4, 32,
  fun _ i => [F.THM_COUNT_COUNT i]⟩

def F.THM_SENSOR_STATE (i : Nat) : Field := fld 0x161 (0x100 + 4 * i) 30 2 .ro 3 .any false false
def F.THM_SENSOR_FAST (i : Nat) : Field := fld 0x161 (0x100 + 4 * i) 29 1 .ro 0 .any false false
def F.THM_SENSOR_UNCHECKED (i : Nat) : Field := fld 0x161 (0x100 + 4 * i) 28 1 .ro 0 .any false false
def F.THM_SENSOR_TEMP (i : Nat) : Field := fld 0x161 (0x100 + 4 * i) 0 16 .ro 0 .any false false
/-- R414: `THM.SENSOR` (page 0x161, offset 0x100 and 79 more at stride 4, 32 bits). -/
def R.THM_SENSOR : Reg := ⟨0x161, 0x161, 0x100, 80, 4, 32,
  fun _ i => [F.THM_SENSOR_STATE i, F.THM_SENSOR_FAST i, F.THM_SENSOR_UNCHECKED i, F.THM_SENSOR_TEMP i]⟩

def F.THM_RAW_TEMP (i : Nat) : Field := fld 0x161 (0x300 + 4 * i) 0 16 .ro 0 .any false false
/-- R414: `THM.RAW` (page 0x161, offset 0x300 and 79 more at stride 4, 32 bits). -/
def R.THM_RAW : Reg := ⟨0x161, 0x161, 0x300, 80, 4, 32,
  fun _ i => [F.THM_RAW_TEMP i]⟩

def F.THM_NBR_NBR0 (i : Nat) : Field := fld 0x162 (0x100 + 4 * i) 0 8 .rw 0 .any false true
def F.THM_NBR_NBR1 (i : Nat) : Field := fld 0x162 (0x100 + 4 * i) 8 8 .rw 0 .any false true
def F.THM_NBR_NBR2 (i : Nat) : Field := fld 0x162 (0x100 + 4 * i) 16 8 .rw 0 .any false true
def F.THM_NBR_NBR3 (i : Nat) : Field := fld 0x162 (0x100 + 4 * i) 24 8 .rw 0 .any false true
/-- R414: `THM.NBR` (page 0x162, offset 0x100 and 79 more at stride 4, 32 bits). -/
def R.THM_NBR : Reg := ⟨0x162, 0x162, 0x100, 80, 4, 32,
  fun _ i => [F.THM_NBR_NBR0 i, F.THM_NBR_NBR1 i, F.THM_NBR_NBR2 i, F.THM_NBR_NBR3 i]⟩

def F.THM_AIN_CFG_SCALE (i : Nat) : Field := fld 0x163 (0x100 + 16 * i) 96 32 .rw 0 .any false true
def F.THM_AIN_CFG_OFFSET (i : Nat) : Field := fld 0x163 (0x100 + 16 * i) 64 16 .rw 0 .any false true
def F.THM_AIN_CFG_WARN (i : Nat) : Field := fld 0x163 (0x100 + 16 * i) 48 16 .rw 0 .any false true
def F.THM_AIN_CFG_CRIT (i : Nat) : Field := fld 0x163 (0x100 + 16 * i) 32 16 .rw 0 .any false true
def F.THM_AIN_CFG_CRIT_EN (i : Nat) : Field := fld 0x163 (0x100 + 16 * i) 0 1 .rw 0 .any false true
/-- R414: `THM.AIN_CFG` (page 0x163, offset 0x100 and 7 more at stride 16, 128 bits). -/
def R.THM_AIN_CFG : Reg := ⟨0x163, 0x163, 0x100, 8, 16, 128,
  fun _ i => [F.THM_AIN_CFG_SCALE i, F.THM_AIN_CFG_OFFSET i, F.THM_AIN_CFG_WARN i, F.THM_AIN_CFG_CRIT i, F.THM_AIN_CFG_CRIT_EN i]⟩

def F.SEC_STATE_BOOT : Field := fld 0x170 0x100 30 2 .ro 0 .any false false
def F.SEC_STATE_OWNED : Field := fld 0x170 0x100 29 1 .ro 0 .any false true
def F.SEC_STATE_DEBUG_UNLOCKED : Field := fld 0x170 0x100 28 1 .ro 0 .any false false
def F.SEC_STATE_DEBUG_DISABLED : Field := fld 0x170 0x100 27 1 .ro 0 .any false true
def F.SEC_STATE_STAGED : Field := fld 0x170 0x100 26 1 .ro 0 .any false true
def F.SEC_STATE_IDENTITY_OK : Field := fld 0x170 0x100 25 1 .ro 0 .any false true
def F.SEC_STATE_KEYS_REVOKED : Field := fld 0x170 0x100 0 4 .ro 0 .any false true
/-- R435: `SEC.STATE` (page 0x170, offset 0x100, 32 bits). -/
def R.SEC_STATE : Reg := ⟨0x170, 0x170, 0x100, 1, 0, 32,
  fun _ _ => [F.SEC_STATE_BOOT, F.SEC_STATE_OWNED, F.SEC_STATE_DEBUG_UNLOCKED, F.SEC_STATE_DEBUG_DISABLED, F.SEC_STATE_STAGED, F.SEC_STATE_IDENTITY_OK, F.SEC_STATE_KEYS_REVOKED]⟩

def F.SEC_FW_VERSION_VERSION : Field := fld 0x170 0x104 0 32 .ro 0 .any false true
/-- R435: `SEC.FW_VERSION` (page 0x170, offset 0x104, 32 bits). -/
def R.SEC_FW_VERSION : Reg := ⟨0x170, 0x170, 0x104, 1, 0, 32,
  fun _ _ => [F.SEC_FW_VERSION_VERSION]⟩

def F.SEC_MIN_ROLLBACK_LEVEL : Field := fld 0x170 0x108 0 32 .ro 0 .any false true
/-- R435: `SEC.MIN_ROLLBACK` (page 0x170, offset 0x108, 32 bits). -/
def R.SEC_MIN_ROLLBACK : Reg := ⟨0x170, 0x170, 0x108, 1, 0, 32,
  fun _ _ => [F.SEC_MIN_ROLLBACK_LEVEL]⟩

def F.SEC_YARD_KEY_GEN_GEN : Field := fld 0x170 0x10C 0 32 .ro 0 .any false false
/-- R435: `SEC.YARD_KEY_GEN` (page 0x170, offset 0x10C, 32 bits). -/
def R.SEC_YARD_KEY_GEN : Reg := ⟨0x170, 0x170, 0x10C, 1, 0, 32,
  fun _ _ => [F.SEC_YARD_KEY_GEN_GEN]⟩

def F.SEC_DENIED_COUNT : Field := fld 0x170 0x110 0 32 .rc 0 .any false false
/-- R435: `SEC.DENIED` (page 0x170, offset 0x110, 32 bits). -/
def R.SEC_DENIED : Reg := ⟨0x170, 0x170, 0x110, 1, 0, 32,
  fun _ _ => [F.SEC_DENIED_COUNT]⟩

def F.SEC_REGION_EN (i : Nat) : Field := fld 0x171 (0x100 + 8 * i) 63 1 .srw 0 .any false true
def F.SEC_REGION_WORLD (i : Nat) : Field := fld 0x171 (0x100 + 8 * i) 62 1 .srw 0 .any false true
def F.SEC_REGION_LOCK (i : Nat) : Field := fld 0x171 (0x100 + 8 * i) 61 1 .srw 0 .any false true
def F.SEC_REGION_LIMIT (i : Nat) : Field := fld 0x171 (0x100 + 8 * i) 32 16 .srw 0 .any false true
def F.SEC_REGION_BASE (i : Nat) : Field := fld 0x171 (0x100 + 8 * i) 0 16 .srw 0 .any false true
/-- R436: `SEC.REGION` (page 0x171, offset 0x100 and 63 more at stride 8, 64 bits). -/
def R.SEC_REGION : Reg := ⟨0x171, 0x171, 0x100, 64, 8, 64,
  fun _ i => [F.SEC_REGION_EN i, F.SEC_REGION_WORLD i, F.SEC_REGION_LOCK i, F.SEC_REGION_LIMIT i, F.SEC_REGION_BASE i]⟩

def F.ERR_STATE_FAILED : Field := fld 0x180 0x100 31 1 .ro 0 .any false false
def F.ERR_STATE_DEGRADED : Field := fld 0x180 0x100 30 1 .ro 0 .any false false
def F.ERR_STATE_RING_OVF : Field := fld 0x180 0x100 29 1 .w1c 0 .any false false
def F.ERR_STATE_DEG_WHY : Field := fld 0x180 0x100 24 3 .ro 0 .any false false
def F.ERR_STATE_FAIL_CODE : Field := fld 0x180 0x100 16 8 .ro 0 .any false false
/-- R460: `ERR.STATE` (page 0x180, offset 0x100, 32 bits). -/
def R.ERR_STATE : Reg := ⟨0x180, 0x180, 0x100, 1, 0, 32,
  fun _ _ => [F.ERR_STATE_FAILED, F.ERR_STATE_DEGRADED, F.ERR_STATE_RING_OVF, F.ERR_STATE_DEG_WHY, F.ERR_STATE_FAIL_CODE]⟩

def F.ERR_RING_OCCUPIED : Field := fld 0x180 0x104 16 7 .ro 0 .any false false
def F.ERR_RING_HELD : Field := fld 0x180 0x104 8 7 .ro 0 .any false false
/-- R460: `ERR.RING` (page 0x180, offset 0x104, 32 bits). -/
def R.ERR_RING : Reg := ⟨0x180, 0x180, 0x104, 1, 0, 32,
  fun _ _ => [F.ERR_RING_OCCUPIED, F.ERR_RING_HELD]⟩

def F.ERR_DROPPED_COUNT : Field := fld 0x180 0x108 0 32 .rc 0 .any false false
/-- R460: `ERR.DROPPED` (page 0x180, offset 0x108, 32 bits). -/
def R.ERR_DROPPED : Reg := ⟨0x180, 0x180, 0x108, 1, 0, 32,
  fun _ _ => [F.ERR_DROPPED_COUNT]⟩

def F.ERR_SEQ_SEQ : Field := fld 0x180 0x10C 0 32 .ro 0 .any false false
/-- R460: `ERR.SEQ` (page 0x180, offset 0x10C, 32 bits). -/
def R.ERR_SEQ : Reg := ⟨0x180, 0x180, 0x10C, 1, 0, 32,
  fun _ _ => [F.ERR_SEQ_SEQ]⟩

def F.ERR_CFG_IRQ_LEVEL : Field := fld 0x180 0x110 0 3 .rw 2 (.range 0 4) true false
/-- R460: `ERR.CFG` (page 0x180, offset 0x110, 32 bits). -/
def R.ERR_CFG : Reg := ⟨0x180, 0x180, 0x110, 1, 0, 32,
  fun _ _ => [F.ERR_CFG_IRQ_LEVEL]⟩

def F.ERR_CLASS_COUNT_COUNT (i : Nat) : Field := fld 0x180 (0x144 + 4 * i) 0 32 .rc 0 .any false false
/-- R460: `ERR.CLASS_COUNT` (page 0x180, offset 0x144 and 19 more at stride 4, 32 bits). -/
def R.ERR_CLASS_COUNT : Reg := ⟨0x180, 0x180, 0x144, 20, 4, 32,
  fun _ i => [F.ERR_CLASS_COUNT_COUNT i]⟩

def F.ERR_SEV_COUNT_COUNT (i : Nat) : Field := fld 0x180 (0x1A0 + 4 * i) 0 32 .rc 0 .any false false
/-- R460: `ERR.SEV_COUNT` (page 0x180, offset 0x1A0 and 4 more at stride 4, 32 bits). -/
def R.ERR_SEV_COUNT : Reg := ⟨0x180, 0x180, 0x1A0, 5, 4, 32,
  fun _ i => [F.ERR_SEV_COUNT_COUNT i]⟩

def F.ERR_MUCK_RESULT : Field := fld 0x180 0x1C0 29 3 .ro 0 .any false true
def F.ERR_MUCK_UNTESTED : Field := fld 0x180 0x1C0 24 5 .ro 0 .any false true
def F.ERR_MUCK_FAILED : Field := fld 0x180 0x1C0 16 5 .ro 0 .any false true
def F.ERR_MUCK_MAPPED : Field := fld 0x180 0x1C0 0 8 .ro 0 .any false true
/-- R460: `ERR.MUCK` (page 0x180, offset 0x1C0, 32 bits). -/
def R.ERR_MUCK : Reg := ⟨0x180, 0x180, 0x1C0, 1, 0, 32,
  fun _ _ => [F.ERR_MUCK_RESULT, F.ERR_MUCK_UNTESTED, F.ERR_MUCK_FAILED, F.ERR_MUCK_MAPPED]⟩

def F.ERR_INJECT_ARM : Field := fld 0x180 0x1D0 31 1 .w1s 0 .any false false
def F.ERR_INJECT_DONE : Field := fld 0x180 0x1D0 30 1 .ro 0 .any false false
def F.ERR_INJECT_KIND : Field := fld 0x180 0x1D0 28 2 .rw 0 .any false false
def F.ERR_INJECT_TARGET : Field := fld 0x180 0x1D0 24 3 .rw 0 (.range 0 3) false false
def F.ERR_INJECT_BIT : Field := fld 0x180 0x1D0 16 8 .rw 0 (.range 0 71) false false
def F.ERR_INJECT_UNIT : Field := fld 0x180 0x1D0 0 12 .rw 0 .any false false
/-- R460: `ERR.INJECT` (page 0x180, offset 0x1D0, 32 bits). -/
def R.ERR_INJECT : Reg := ⟨0x180, 0x180, 0x1D0, 1, 0, 32,
  fun _ _ => [F.ERR_INJECT_ARM, F.ERR_INJECT_DONE, F.ERR_INJECT_KIND, F.ERR_INJECT_TARGET, F.ERR_INJECT_BIT, F.ERR_INJECT_UNIT]⟩

def F.ERR_INJECT_ADDR_ADDR : Field := fld 0x180 0x1D8 3 33 .rw 0 .any false false
/-- R460: `ERR.INJECT_ADDR` (page 0x180, offset 0x1D8, 64 bits). -/
def R.ERR_INJECT_ADDR : Reg := ⟨0x180, 0x180, 0x1D8, 1, 0, 64,
  fun _ _ => [F.ERR_INJECT_ADDR_ADDR]⟩

def F.ERR_LOG_COUNT_COUNT : Field := fld 0x181 0x100 0 32 .ro 0 .any false false
/-- R461: `ERR.LOG_COUNT` (page 0x181, offset 0x100, 32 bits). -/
def R.ERR_LOG_COUNT : Reg := ⟨0x181, 0x181, 0x100, 1, 0, 32,
  fun _ _ => [F.ERR_LOG_COUNT_COUNT]⟩

def F.ERR_LOG_LOST_COUNT : Field := fld 0x181 0x104 0 32 .rc 0 .any false false
/-- R461: `ERR.LOG_LOST` (page 0x181, offset 0x104, 32 bits). -/
def R.ERR_LOG_LOST : Reg := ⟨0x181, 0x181, 0x104, 1, 0, 32,
  fun _ _ => [F.ERR_LOG_LOST_COUNT]⟩

def F.ERR_LOG_INDEX_INDEX : Field := fld 0x181 0x108 0 8 .rw 0 .any true false
/-- R461: `ERR.LOG_INDEX` (page 0x181, offset 0x108, 32 bits). -/
def R.ERR_LOG_INDEX : Reg := ⟨0x181, 0x181, 0x108, 1, 0, 32,
  fun _ _ => [F.ERR_LOG_INDEX_INDEX]⟩

def F.ERR_LOG_ENTRY_WORD (i : Nat) : Field := fld 0x181 (0x120 + 4 * i) 0 32 .ro 0 .any false false
/-- R461: `ERR.LOG_ENTRY` (page 0x181, offset 0x120 and 7 more at stride 4, 32 bits). -/
def R.ERR_LOG_ENTRY : Reg := ⟨0x181, 0x181, 0x120, 8, 4, 32,
  fun _ i => [F.ERR_LOG_ENTRY_WORD i]⟩

def F.BST_CTRL_GO : Field := fld 0x190 0x100 31 1 .wo 0 .any false false
def F.BST_CTRL_MUCK_EN : Field := fld 0x190 0x100 0 1 .rw 0 .any false true
/-- R462: `BST.CTRL` (page 0x190, offset 0x100, 32 bits). -/
def R.BST_CTRL : Reg := ⟨0x190, 0x190, 0x100, 1, 0, 32,
  fun _ _ => [F.BST_CTRL_GO, F.BST_CTRL_MUCK_EN]⟩

def F.BST_STATE_STATE : Field := fld 0x190 0x104 28 4 .ro 0 .any false false
def F.BST_STATE_PARTITION : Field := fld 0x190 0x104 16 5 .ro 0 .any false false
def F.BST_STATE_TEST_MHZ : Field := fld 0x190 0x104 0 16 .ro 0 .any false false
/-- R462: `BST.STATE` (page 0x190, offset 0x104, 32 bits). -/
def R.BST_STATE : Reg := ⟨0x190, 0x190, 0x104, 1, 0, 32,
  fun _ _ => [F.BST_STATE_STATE, F.BST_STATE_PARTITION, F.BST_STATE_TEST_MHZ]⟩

def F.BST_PART_RESULT (i : Nat) : Field := fld 0x190 (0x140 + 4 * i) 0 32 .ro 0 .any false true
/-- R462: `BST.PART` (page 0x190, offset 0x140 and 23 more at stride 4, 32 bits). -/
def R.BST_PART : Reg := ⟨0x190, 0x190, 0x140, 24, 4, 32,
  fun _ i => [F.BST_PART_RESULT i]⟩

def F.CKP_RAIL_STATE (i : Nat) : Field := fld 0x1A0 (0x100 + 4 * i) 30 2 .ro 0 .any false false
def F.CKP_RAIL_MV (i : Nat) : Field := fld 0x1A0 (0x100 + 4 * i) 0 16 .ro 0 .any false false
/-- R479: `CKP.RAIL` (page 0x1A0, offset 0x100 and 8 more at stride 4, 32 bits). -/
def R.CKP_RAIL : Reg := ⟨0x1A0, 0x1A0, 0x100, 9, 4, 32,
  fun _ i => [F.CKP_RAIL_STATE i, F.CKP_RAIL_MV i]⟩

def F.CKP_DOMAIN_RUNNING (i : Nat) : Field := fld 0x1A0 (0x140 + 4 * i) 31 1 .ro 0 .any false false
def F.CKP_DOMAIN_GATED (i : Nat) : Field := fld 0x1A0 (0x140 + 4 * i) 30 1 .ro 0 .any false false
def F.CKP_DOMAIN_LOCKED (i : Nat) : Field := fld 0x1A0 (0x140 + 4 * i) 29 1 .ro 0 .any false false
def F.CKP_DOMAIN_MHZ (i : Nat) : Field := fld 0x1A0 (0x140 + 4 * i) 0 16 .ro 0 .any false false
/-- R479: `CKP.DOMAIN` (page 0x1A0, offset 0x140 and 47 more at stride 4, 32 bits). -/
def R.CKP_DOMAIN : Reg := ⟨0x1A0, 0x1A0, 0x140, 48, 4, 32,
  fun _ i => [F.CKP_DOMAIN_RUNNING i, F.CKP_DOMAIN_GATED i, F.CKP_DOMAIN_LOCKED i, F.CKP_DOMAIN_MHZ i]⟩

def F.CKP_PNL_PWR_WARN : Field := fld 0x1A0 0x200 31 1 .ro 0 .any false false
def F.CKP_PNL_PWR_EN : Field := fld 0x1A0 0x200 0 1 .rw 0 .any false false
/-- R479: `CKP.PNL_PWR` (page 0x1A0, offset 0x200, 32 bits). -/
def R.CKP_PNL_PWR : Reg := ⟨0x1A0, 0x1A0, 0x200, 1, 0, 32,
  fun _ _ => [F.CKP_PNL_PWR_WARN, F.CKP_PNL_PWR_EN]⟩

def F.CAL_TRIM_GAIN (i : Nat) : Field := fld 0x152 (0x100 + 4 * i) 16 16 .ro 0 .any false true
def F.CAL_TRIM_OFFSET (i : Nat) : Field := fld 0x152 (0x100 + 4 * i) 0 16 .ro 0 .any false true
/-- R393: `CAL.TRIM` (page 0x152, offset 0x100 and 29 more at stride 4, 32 bits). -/
def R.CAL_TRIM : Reg := ⟨0x152, 0x152, 0x100, 30, 4, 32,
  fun _ i => [F.CAL_TRIM_GAIN i, F.CAL_TRIM_OFFSET i]⟩

def F.CAL_REQ_EFF_MODE : Field := fld 0x150 0x900 16 2 .ro 0 .any true true
def F.CAL_REQ_EFF_INTERVAL_H : Field := fld 0x150 0x900 8 8 .ro 24 .any true false
def F.CAL_REQ_EFF_ALLOW_VIEWERS : Field := fld 0x150 0x900 6 1 .ro 0 .any true false
def F.CAL_REQ_EFF_NOW : Field := fld 0x150 0x900 4 1 .ro 0 .any true false
/-- R42: `CAL.REQ_EFF` (page 0x150, offset 0x900, 32 bits). -/
def R.CAL_REQ_EFF : Reg := ⟨0x150, 0x150, 0x900, 1, 0, 32,
  fun _ _ => [F.CAL_REQ_EFF_MODE, F.CAL_REQ_EFF_INTERVAL_H, F.CAL_REQ_EFF_ALLOW_VIEWERS, F.CAL_REQ_EFF_NOW]⟩

/-- Rows 0 of this file's register tables. -/
def R.tableD0 : List Reg :=
  [R.LFT_CTRL, R.LFT_STATUS, R.LFT_BUF_CLAIM, R.LFT_BUF_PTR, R.LFT_BUF_DATA, R.LFT_BUF_FILL, R.LFT_STORE_ADDR, R.LFT_STORE_LEN, R.LFT_CMD_STATUS, R.LFT_COMMIT_SEQ, R.LFT_RESERVE, R.LFT_HOLDUP_CFG, R.LFT_RD_ADDR, R.LFT_RD_DATA, R.LFT_COUNT, R.CAL_REQ, R.CAL_STATE, R.CAL_GEN, R.CAL_LAST_APPLY, R.CAL_LAST_PASS]

/-- Rows 1 of this file's register tables. -/
def R.tableD1 : List Reg :=
  [R.CAL_COUNT, R.CAL_REF, R.CAL_TRIG, R.CAL_APPLY, R.CAL_STAGE_ZONE, R.CAL_STAGE_ANGLE, R.CAL_STAGE_TRIM, R.THM_STATE, R.THM_DIE_TEMP, R.THM_PANEL_TEMP, R.THM_PANEL_RATE, R.THM_COUNT, R.THM_SENSOR, R.THM_RAW, R.THM_NBR, R.THM_AIN_CFG, R.SEC_STATE, R.SEC_FW_VERSION, R.SEC_MIN_ROLLBACK, R.SEC_YARD_KEY_GEN]

/-- Rows 2 of this file's register tables. -/
def R.tableD2 : List Reg :=
  [R.SEC_DENIED, R.SEC_REGION, R.ERR_STATE, R.ERR_RING, R.ERR_DROPPED, R.ERR_SEQ, R.ERR_CFG, R.ERR_CLASS_COUNT, R.ERR_SEV_COUNT, R.ERR_MUCK, R.ERR_INJECT, R.ERR_INJECT_ADDR, R.ERR_LOG_COUNT, R.ERR_LOG_LOST, R.ERR_LOG_INDEX, R.ERR_LOG_ENTRY, R.BST_CTRL, R.BST_STATE, R.BST_PART, R.CKP_RAIL]

/-- Rows 3 of this file's register tables. -/
def R.tableD3 : List Reg :=
  [R.CKP_DOMAIN, R.CKP_PNL_PWR, R.CAL_TRIM, R.CAL_REQ_EFF]

/-- Every register row of this file. -/
def R.tableD : List Reg := R.tableD0 ++ R.tableD1 ++ R.tableD2 ++ R.tableD3

end Sys2Proof.Machine
end

