-- ==== Sys2Proof/Machine/State.lean ====
section
/-! DEFINITION. Machine/State.lean: everything the spec gives the machine, as plain data. Registers stand in one sorted list
keyed by field (Machine/Fields*.lean names every field of every register table, with its width and reset value): a field
that the list does not name reads as its reset value. What the spec describes and no register shows stands in the block
structures below. -/

namespace Sys2Proof.Machine

/-- The model meets no behaviour at which the spec gives a command no effect, so nothing raises a fault. -/
inductive Fault where
  /-- No command raises this. It keeps the type inhabited; safe, since nothing is stopped by it. -/
  | none
deriving DecidableEq, Repr

/-- Why a command has no meaning in the model. -/
inductive Refusal where
  /-- Raised by a dispatch arm whose command has no meaning yet, under its mnemonic; safe, since the machine stops. -/
  | notModelled (mnemonic : String)
deriving DecidableEq, Repr

/-- Field and counter values by number, strictly rising. -/
abbrev Map := List (Nat × Nat)

/-- A MIPI, Folov, Xiesh, PCI Express or pin event that leaves the chip, oldest first in `State.out`. -/
inductive Output where
  /-- R50: an MSI-X message: vector, address and data of its table entry. -/
  | msix (vector addr data : Nat)
  /-- R45: an error response on the management port, for an access to a page and offset. -/
  | errorResponse (m : Master) (page off : Nat)
  /-- The completion of a register read: master, address, value. -/
  | readData (m : Master) (addr value : Nat)
  /-- The completion of a host read forwarded to a slot or of a BAR4 read: tag and data. -/
  | hostData (tag : Nat) (bytes : List Byte)
  /-- A Xiesh frame handed to a port's transmitter (R298). -/
  | xiesh (port : Nat) (f : Frame)
  /-- A LINK frame on a port: acknowledgement, NAK, and the four credit counters (R303, R319). -/
  | link (port ack : Nat) (nak : Bool) (credits : List Nat)
  /-- Any other Folov packet on a panel port: its header bytes (R246, R248). -/
  | folov (port : Nat) (header : List Byte)
  /-- A LINE packet on a panel port: its header bytes and its pixels' drive words (R245, R246, R248). -/
  | folovLine (port : Nat) (header : List Byte) (drive : List Nat)
  /-- An ordered set on a lane group: its kind and parameters (R276, R278, R286, R293). -/
  | ordered (group kind : Nat) (params : List Nat)
  /-- An I2C transaction begun on a bus: 7-bit address, bytes written, bytes to read (R179). -/
  | i2c (controller bus addr : Nat) (wr : List Nat) (rlen : Nat)
  /-- An output pin or strobe takes a level: pin group (Machine/Operands.lean names them), index, level. -/
  | pin (group index level : Nat)
  /-- An IEEE 1588 message sent on a Xiesh port: message type, sequence, correction, time fields (R329, R333). -/
  | ptp (port typ seq : Nat) (fields : List Nat)
deriving DecidableEq, Repr

/-- Byte memories: device DRAM, host memory and the loft array, each in the canonical form of Machine/Ops.lean, and the
DRAM and loft words that hold an uncorrectable, a poisoned or (weakDram) a correctable codeword (by byte address of the
word, rising). -/
structure Mem where
  dram : List Host.Cell
  host : List Host.Cell
  loft : List Host.Cell
  badDram : List Nat
  poisonDram : List Nat
  weakDram : List Nat
  badLoft : List Nat
deriving DecidableEq, Repr

/-- Register mechanics that no register shows: the second copies of RC counters and interrupt latches (R52), each master's
captures and held pieces (R5, by master code times 2^40 plus address), evaluated effective values awaiting their version
point (R43, by mirror field: value and reason), the world and owner of pages that record 0 provisions (R39, R432: page,
world, owner), and the loft image that start-up loaded the "L" fields from (R9; none before). -/
structure RegMech where
  second : Map
  captures : Map
  holds : Map
  evaluated : List (Nat × Nat × Nat)
  pages : List (Nat × Nat × Nat)
  loaded : Option (List Host.Cell)
deriving DecidableEq, Repr

/-- R19, R20: the management processors: those restarting and those out of service, the time (ns) of each one's last
watchdog expiry. -/
structure Mgmt where
  restarting : List Nat
  outOfService : List Nat
  lastExpiry : List (Nat × Nat)
deriving DecidableEq, Repr

/-- R443: an error entry. -/
structure ErrEntry where
  seq : Nat
  cls : Nat
  sev : Nat
  code : Nat
  time : Nat
  unit : Nat
  rep : Nat
  action : Nat
  serviced : Bool
  escalated : Bool
  afterDrop : Bool
  injected : Bool
  folded : Bool
  info : Nat
deriving DecidableEq, Repr

/-- R444 to R448: the error manager: the ring awaiting service, the entries that sources hold while it is full (by source
page), the host log (oldest first, at most 256), the serviced entries awaiting the loft log, the per-class counts of severity 0 entries awaiting
their hourly commit, whether the next entry admitted follows a drop, and
whether what is being reported was injected (R460). -/
structure ErrMgr where
  ring : List ErrEntry
  held : List (Nat × ErrEntry)
  hostLog : List ErrEntry
  toLoft : List ErrEntry
  sev0 : Map
  dropPending : Bool
  injecting : Bool
deriving DecidableEq, Repr

/-- Memories with nothing listed. -/
def Mem.reset : Mem := ⟨[], [], [], [], [], [], []⟩

/-- No second copy set, nothing captured or held, nothing loaded. -/
def RegMech.reset : RegMech := ⟨[], [], [], [], [], none⟩

/-- All four processors in service. -/
def Mgmt.reset : Mgmt := ⟨[], [], []⟩

/-- An empty ring and log. -/
def ErrMgr.reset : ErrMgr := ⟨[], [], [], [], [], false, false⟩

/-- R30, R48, R473: the PCI Express port: whether the link is at L0, and the MSI-X function mask of configuration space. -/
structure Pcie where
  linkUp : Bool
  functionMask : Bool
deriving DecidableEq, Repr

/-- The link down, the function not masked. -/
def Pcie.reset : Pcie := ⟨false, false⟩

/-- R93: a queue's context; its STATE follows from the queue's started and marked descriptors (queueState). -/
structure QCtx where
  ringBase : Nat
  ringLog2 : Nat
  cq : Nat
  enable : Bool
  ringHost : Bool
  quiet : Bool
  head : Nat
  tail : Nat
  lastSeq : Nat
  chain : Nat
deriving DecidableEq, Repr

/-- A context of zeros, as DRAM initialisation leaves the array (R474 step 5). -/
def QCtx.zero : QCtx := ⟨0, 0, 0, false, false, false, 0, 0, 0, 0⟩

/-- R88: a descriptor as read from its ring. -/
structure Desc where
  src : Nat
  length : Nat
  kind : Nat
  flags : Nat
  fenceIndex : Nat
  seq : Nat
  fenceValue : Nat
deriving DecidableEq, Repr

/-- Where a started descriptor stands (R508, R109, R112). -/
inductive Stage where
  /-- Its block is being read. -/
  | reading
  /-- Checks 1 to 5 have passed and it is being decoded. -/
  | decoding
  /-- Its decoded tile or description waits to be written. -/
  | held
  /-- It is a command list that waits for or runs on the 2-D engine (R235). -/
  | listing
  /-- It is a commit, waiting, ready or taken. -/
  | committing
  /-- Its status is known and it waits to retire. -/
  | finished
deriving DecidableEq, Repr

/-- A started descriptor: its queue and ring index, its descriptor, its stage, its block, whether it occupies a decode unit
or a hold buffer, the order in which it began to wait, what it has decoded to, and the completion entry's contents. -/
structure Run where
  queue : Nat
  index : Nat
  desc : Desc
  stage : Stage
  block : List Byte
  inUnit : Bool
  inHold : Bool
  waitNo : Nat
  decoded : List Byte
  wasHeld : Bool
  status : Nat
  object : Nat
  info : Nat
deriving DecidableEq, Repr

/-- R112: a commit that has entered waiting: its control queue, SEQ, set, layer mask, fence wait, WITH_SELECT, tag, its
waiting set (queue and ring index), the enable snapshot once the set has emptied, and whether a latch has taken it. -/
structure Commit where
  queue : Nat
  seq : Nat
  set : Nat
  mask : Nat
  waitFence : Bool
  fenceIndex : Nat
  fenceValue : Nat
  withSelect : Bool
  tag : Nat
  waiting : List (Nat × Nat)
  snapshot : Option Nat
  taken : Bool
deriving DecidableEq, Repr

/-- R80: a selection that has retired and waits for a latch or its boundary. -/
structure Selection where
  set : Nat
  waitFence : Bool
  fenceIndex : Nat
  fenceValue : Nat
  taken : Bool
deriving DecidableEq, Repr

/-- R108: a tile's state: FRONT, PENDING, the boundary since which it is RELEASING, and for slots A and B whether all bytes
are zero, all colour bytes are zero, and a retained copy stands. -/
structure Tile where
  front : Nat
  pending : Bool
  releasing : Option Nat
  zeroA : Bool
  zeroB : Bool
  rgbZeroA : Bool
  rgbZeroB : Bool
  retainedA : Bool
  retainedB : Bool
deriving DecidableEq, Repr

/-- R108: a tile after reset. -/
def Tile.reset : Tile := ⟨0, false, none, true, true, true, true, false, false⟩

/-- R62: a layer's description. -/
structure Layer where
  depth : Int
  format : Nat
  blend : Nat
  opacity : Nat
  edge : Nat
  m00 : Int
  m01 : Int
  m10 : Int
  m11 : Int
  offU : Int
  offV : Int
deriving DecidableEq, Repr

/-- R62: the description a layer has after reset. -/
def Layer.reset : Layer := ⟨0, 0, 0, 255, 0, 0x0038E38E, 0, 0, 0x0038E38E, 0, 0⟩

/-- The queue manager, the scene codec and layer control. Tiles are numbered (set times 64 + layer) times 3,600 + tile,
layers set times 64 + layer. -/
structure Scene where
  ctxs : List (Nat × QCtx)
  runs : List Run
  skipped : List (Nat × Nat)
  aborted : List (Nat × Nat)
  /-- R98: the queue served last. -/
  lastServed : Nat
  /-- R103: how many tiles have begun to wait. -/
  waitCount : Nat
  /-- R102: queues whose retirement a full ring delays, in retirement order. -/
  delayed : List Nat
  /-- R94: the result the running context command will report. -/
  ctxResult : Nat
  commits : List Commit
  selections : List Selection
  tiles : List (Nat × Tile)
  backLayers : List (Nat × Layer)
  frontLayers : List (Nat × Layer)
  /-- R114: layers a LAYER block has written since their last commit. -/
  layersWritten : List Nat
  /-- R61: STREAM_ID and PRODUCER recorded for each set. -/
  streams : List (Nat × (Nat × Nat))
deriving DecidableEq, Repr

/-- Every context zero, every tile empty, nothing started. -/
def Scene.reset : Scene where
  ctxs := []
  runs := []
  skipped := []
  aborted := []
  lastServed := 0
  waitCount := 0
  delayed := []
  ctxResult := 0
  commits := []
  selections := []
  tiles := []
  backLayers := []
  frontLayers := []
  layersWritten := []
  streams := []

/-- R120, R121: a lenslet record: its twelve numeric fields in the order of R122, and FLAGS. -/
structure LensRec where
  vals : List Int
  flags : Nat
deriving DecidableEq, Repr

/-- R121, R122: a delta to a lenslet record: twelve differences, FLAGS bits to set and to clear. -/
structure LensDelta where
  vals : List Int
  setBits : Nat
  clearBits : Nat
deriving DecidableEq, Repr

/-- R123, R402: what a build will put into force: the groom and host deltas, and the RSY values and drum correction that
accompany a correction set. -/
structure LensBuild where
  fromHost : Bool
  groom : List (Nat × LensDelta)
  host : List (Nat × LensDelta)
  optics : Option (List Int)
  complete : Bool
deriving DecidableEq, Repr

/-- The lenslet tables: the factory records as read from the panel, the deltas in force, the build that runs, a host request
held behind Ozzizo's build, and a groom build waiting behind a host build. -/
structure Lens where
  factory : List (Nat × LensRec)
  groom : List (Nat × LensDelta)
  host : List (Nat × LensDelta)
  build : Option LensBuild
  heldHost : Option (List (Nat × LensDelta))
  heldGroom : Option LensBuild
deriving DecidableEq, Repr

/-- No records and no deltas. -/
def Lens.reset : Lens := ⟨[], [], [], none, none, none⟩

/-- R131, R132: a kernel with its slot, the address its parameter block came from (÷ 64) and the block copied into the
parameter store (empty: the defaults). -/
structure Kernel where
  slot : Nat
  id : Nat
  addr : Nat
  block : List Byte
deriving DecidableEq, Repr

/-- The kernel after reset: LAYERED of slot 0 with the default parameters. -/
def Kernel.reset : Kernel := ⟨0, 0x0100, 0, []⟩

/-- R125: an eye entry of a roster snapshot. -/
structure EyeEntry where
  ex : Int
  ey : Int
  ez : Int
  rz : Int
  c : Int
  n : Nat
  w : Int
deriving DecidableEq, Repr

/-- R125: a roster snapshot. -/
structure Snapshot where
  eyes : List EyeEntry
  n0 : Nat
  w0 : Int
deriving DecidableEq, Repr

/-- R23: what a lot of a subframe reads, as it was in force at the subframe's boundary. `optics` is TAN_PER_PITCH,
FACET_SLOPE and the eight FACET_OFFSETs; `kernels` the kernel of each band; `measured` the band given to a groom pass, with
its window and pattern number (R397). -/
structure Version where
  subframe : Nat
  facet : Nat
  parked : Bool
  set : Nat
  enable : Nat
  tiles : List (Nat × Tile)
  layers : List (Nat × Layer)
  groom : List (Nat × LensDelta)
  host : List (Nat × LensDelta)
  optics : List Int
  kernels : List Kernel
  alphaStop : Nat
  measured : Option (Nat × Nat × Nat)
deriving DecidableEq, Repr

/-- R136: where a lot stands. A retired lot stays until its lines have left the assembly area. -/
inductive LotPhase where
  | released
  | lent
  | running
  | retired
deriving DecidableEq, Repr

/-- R134, R136, R137: a lot: its identity, snapshot, φ and first due time; the stall that holds or runs it, the stall it was
released to, the engine; the next span to compute, the spans in the assembly area by number, and the lines that have
left it; when its engine took it (ns). -/
structure Lot where
  band : Nat
  facet : Nat
  subframe : Nat
  index : Nat
  snap : Snapshot
  phi : Int
  due : Int
  phase : LotPhase
  stall : Nat
  home : Nat
  engine : Nat
  next : Nat
  spans : List (Nat × List (Nat × Nat × Nat))
  moved : Nat
  began : Nat
deriving DecidableEq, Repr

/-- R140 to R144: a stall's engines: those that render, the spares left in the order they are used, the engine that carries
the service duty, and whether that duty has passed to render engine 13. -/
structure StallEng where
  render : List Nat
  spares : List Nat
  dutyEngine : Option Nat
  dutyMoved : Bool
deriving DecidableEq, Repr

/-- R141: a stall's engines as delivered: 0 to 13 render, 14 is the spare, 15 the service engine, in stalls 8 to 11 a second
spare. -/
def StallEng.reset (stall : Nat) : StallEng :=
  ⟨List.range 14, if stall < 8 then [14] else [14, 15], if stall < 8 then some 15 else none, false⟩

/-- R449: a unit under repair: an engine whose lot (band, subframe, index) another engine runs; a stall, with the boundaries
left; a barn, with the boundaries left. -/
inductive Repair where
  | engine (stall engine band subframe index : Nat)
  | stall (stall left : Nat)
  | barn (barn left : Nat)
deriving DecidableEq, Repr

/-- Ray synthesis: kernels (in force, being loaded, loaded and awaiting a boundary), the kernels each package slot holds
with whether the host may select them, the versions of the subframes in flight, the lots, the stalls' engines, and the
stall and engine that carry each of the duties 0 to 7 (none: lapsed), the units under repair, and whether the kernel that
awaits a boundary replaces one of a lost slot (R451); the render-engine time (ns) spent by each stall since the boundary at
`since` (R147, STL.BUSY). -/
structure Rsy where
  lens : Lens
  kernel : Kernel
  loading : Option Kernel
  loaded : Option Kernel
  packages : List (Nat × List (Nat × Bool))
  installing : Option Nat
  versions : List Version
  lots : List Lot
  stalls : List StallEng
  duties : List (Nat × Option (Nat × Nat))
  repairs : List Repair
  slotLost : Bool
  busy : Map
  since : Nat
deriving DecidableEq, Repr

/-- R131: the kernels of the base package, and whether the host may select each. -/
def basePackage : List (Nat × Bool) := [(0x0100, true), (0x0200, false), (0x0300, true), (0x0301, true)]

/-- Nothing in flight, every stall whole. -/
def Rsy.reset : Rsy where
  lens := Lens.reset
  kernel := Kernel.reset
  loading := none
  loaded := none
  packages := [(0, basePackage)]
  installing := none
  versions := []
  lots := []
  stalls := (List.range 12).map StallEng.reset
  duties := (List.range 8).map (fun d => (d, some (d, 15)))
  repairs := []
  slotLost := false
  busy := []
  since := 0

/-- R164: a band's plan: the times of its points (ns), the line period, φ, the zones that strobe, the extended angles of its
points; the lots released, the lines taken into the band line buffer and its spans (by line times 16 plus span), the lines
fallen due, the lines that await their slots as pairs of previous level plus one (zero: none) and target, the last pixel
of the line last due, the header's MODE (0 light-field, 1 parked, 2 neutral), the line slots begun; whether writing has
started and the deadline has passed; and its strobe (0 not begun, 1 lit, 2 over or suppressed). -/
structure Plan where
  band : Nat
  facet : Nat
  subframe : Nat
  tStart : Int
  tDeadline : Int
  tOn : Int
  tOff : Int
  period : Int
  phi : Int
  zoneEn : Nat
  xRelease : Int
  xStart : Int
  xDeadline : Int
  xOn : Int
  xOff : Int
  released : Nat
  moved : Nat
  buffer : List (Nat × List (Nat × Nat × Nat))
  due : Nat
  ready : List (Nat × List (Nat × Nat))
  tail : Nat × Nat × Nat
  mode : Nat
  sent : Nat
  started : Bool
  closed : Bool
  strobe : Nat
deriving DecidableEq, Repr

/-- The drum: the quadrature state and the count it stands for, the valid edges kept (newest first: extended count, time),
the predictor's values (R152), the valid edges and the index since the last start, whether it coasts and keeps its speed
(R155), the glitches of this revolution, the count at the last index and the indexes missing since; the correction table
in force (R153); each band's next facet and the extended angle after which its WRITE_START lies (R163), the plans in flight,
the subframe and facet last begun; whether light-field output begins or ends at the next boundary (R167); the repeats of
parking (R168), the revolutions counted for locking and unlocking (R170), whether DRUM_FAULT_N is asserted, and whether RUN
has been written anew since the drum was lost (R158). -/
structure Drum where
  quad : Nat
  quadOff : Nat
  cnt : Int
  hist : List (Int × Int)
  omega : Int
  omegaE : Int
  alpha : Int
  ce : Int
  te : Int
  warm : Nat
  indexSeen : Bool
  coasting : Bool
  keep : Bool
  glitches : Nat
  lastIndex : Int
  missed : Nat
  corr : List Int
  bands : List (Nat × Int)
  plans : List Plan
  subframe : Nat
  facet : Nat
  lightNext : Option Bool
  parkTries : Nat
  lockRevs : Nat
  unlockRevs : Nat
  faultPin : Bool
  rerun : Bool
deriving DecidableEq, Repr

/-- The drum at rest. -/
def Drum.reset : Drum where
  quad := 0
  quadOff := 0
  cnt := 0
  hist := []
  omega := 0
  omegaE := 0
  alpha := 0
  ce := 0
  te := 0
  warm := 0
  indexSeen := false
  coasting := false
  keep := false
  glitches := 0
  lastIndex := 0
  missed := 0
  corr := List.replicate 64 0
  bands := []
  plans := []
  subframe := 0
  facet := 0
  lightNext := none
  parkTries := 0
  lockRevs := 0
  unlockRevs := 0
  faultPin := false
  rerun := false

/-- R181: an exposure set: identifier, exposure, gain, the frame at which it was latched, its I²C transactions still to end, and
whether the frame that it comes into force for carries EXP_UNCERTAIN (R183). -/
structure ExpSet where
  id : Nat
  exposure : Nat
  gain : Nat
  frame : Nat
  writes : Nat
  uncertain : Bool
deriving DecidableEq, Repr

/-- R177, R178, R189 to R191: a frame from its opening until its record is complete: its number, slot, CSI-2 frame number field,
pipeline, width and height, times (ns), the set in force, flags (as the record's), the lines stored with whether each is
damaged, the lines that have arrived, the lines processed, whether it has closed, its embedded bytes, its statistics (the
lines counted, the damaged lines, the histogram, the zones' sums by zone × 4 + channel and counts, the saturated pixels), whether it is tapped,
and when each of its stripes became ready. -/
structure CamFrame where
  number : Nat
  slot : Nat
  csi : Nat
  pipe : Nat
  width : Nat
  height : Nat
  trigger : Nat
  sof : Nat
  eof : Nat
  set : ExpSet
  flags : Nat
  lines : List (List Nat × Bool)
  arrived : Nat
  done : Nat
  closed : Bool
  embed : List Byte
  statsLines : Nat
  badLines : Nat
  hist : Map
  sums : Map
  counts : Map
  sat : Nat
  tap : Bool
  readyAt : List (Nat × Nat)
deriving DecidableEq, Repr

/-- A camera port: its next frame number, the triggers that await a frame start (number, time, the set in force
for it), whether packets are dropped up
to the next frame end, its frames (oldest first), the posted set, the sets latched and not yet in force, the set in force
and the one before it, whether the next frame delivered carries EXP_UNCERTAIN, the slot last claimed, the tap slot to be
written next, and the pattern generator's frame number, line and shift register. -/
structure Cam where
  next : Nat
  waiting : List (Nat × Nat × ExpSet)
  skip : Bool
  frames : List CamFrame
  posted : Option ExpSet
  latched : List ExpSet
  force : ExpSet
  before : ExpSet
  markNext : Bool
  lastSlot : Option Nat
  tapSlot : Nat
  gen : Option (Nat × Nat × Nat)
deriving DecidableEq, Repr

/-- R179, R180: an I²C transaction: its bus, the port and frame of the exposure set it belongs to (none: a command), device
address, bytes written and bytes to read. -/
structure I2cJob where
  bus : Nat
  set : Option (Nat × Nat)
  addr : Nat
  wr : List Nat
  rlen : Nat
deriving DecidableEq, Repr

/-- R180: an I²C controller: its transaction in progress, the exposure writes pending and the command queued. -/
structure I2c where
  running : Option I2cJob
  exposure : List I2cJob
  command : Option I2cJob
deriving DecidableEq, Repr

/-- R185, R187: an image pipeline: the stripe in progress (port, frame, stripe, start), the port of its last stripe, the frame that
SHARED_FRAME keeps to (port, frame), the port served in DEDICATED, and its busy times (ns) of the last 100 ms. -/
structure Ipp where
  running : Option (Nat × Nat × Nat × Nat)
  last : Option Nat
  hold : Option (Nat × Nat)
  port : Nat
  busy : List (Nat × Nat)
deriving DecidableEq, Repr

/-- The cameras: ports, I²C controllers, pipelines. -/
structure Cams where
  ports : List Cam
  i2c : List I2c
  pipes : List Ipp
deriving DecidableEq, Repr

/-- No set. -/
def ExpSet.none : ExpSet := ⟨0xFF, 0, 0, 0, 0, false⟩

/-- A port that has never run. -/
def Cam.reset : Cam := ⟨0, [], false, [], none, [], ExpSet.none, ExpSet.none, false, none, 0, none⟩

/-- Nothing received, queued or in progress. -/
def Cams.reset : Cams :=
  ⟨List.replicate 8 Cam.reset, List.replicate 4 ⟨none, [], none⟩, List.replicate 2 ⟨none, none, none, 0, []⟩⟩

/-- R201: an eye's estimate: yard position in 1/16 pitch, velocity in 1/16 pitch per ms, and its observation time (ns). -/
structure EyeEst where
  x : Int
  y : Int
  z : Int
  vx : Int
  vy : Int
  vz : Int
  te : Int
deriving DecidableEq, Repr

/-- R202, R203: a viewer: its slot, identifier, owner, whether it coasts, its eyes, and the time of its last detection. -/
structure Viewer where
  slot : Nat
  id : Nat
  owner : Nat
  coasting : Bool
  left : Option EyeEst
  right : Option EyeEst
  last : Int
deriving DecidableEq, Repr

/-- R202, R204: a candidate or an overflow viewer: its eyes, the consecutive frames in which it was triangulated, and the
trigger time of the last. -/
structure Person where
  left : Option EyeEst
  right : Option EyeEst
  frames : Nat
  last : Int
deriving DecidableEq, Repr

/-- Viewer tracking: viewers, candidates and overflow viewers; the edition in force (R207); the last identifier given
(R203); whether a member has received a full roster (R206); each master's captured edition (R219, by master code); the
tracking ports that delivered a used frame within the last 3 frame periods (R214); the detections handed to fusion; the
load guard's step-downs in force, its runs of boundaries above and below, the boundaries since its last step-down, and
the late spans it last read (R211); and when each zone was last seen to become observed (R213). -/
structure Roster where
  viewers : List Viewer
  candidates : List Person
  overflow : List Person
  edition : List Viewer
  lastId : Nat
  full : Bool
  captures : List (Nat × List Viewer)
  used : List Nat
  guardSteps : Nat
  guardOver : Nat
  guardUnder : Nat
  guardSince : Nat
  guardLate : List Nat
  seenAt : Map
deriving DecidableEq, Repr

/-- No viewer. -/
def Roster.reset : Roster where
  viewers := []
  candidates := []
  overflow := []
  edition := []
  lastId := 0
  full := false
  captures := []
  used := []
  guardSteps := 0
  guardOver := 0
  guardUnder := 0
  guardSince := 36
  guardLate := List.replicate 12 0
  seenAt := []

/-- R221, R241: what a plane's registers say: whether it is shown, ALPHA_MODE, PLANE_ALPHA, FORMAT, the surface's and the
chroma plane's addresses, PITCH, the first surface column and row, the size shown, and where it lies in lenslets. -/
structure Plane where
  en : Bool
  mode : Nat
  alpha : Nat
  format : Nat
  addr : Nat
  chroma : Nat
  pitch : Nat
  srcX : Nat
  srcY : Nat
  w : Nat
  h : Nat
  dstX : Int
  dstY : Int
deriving DecidableEq, Repr

/-- R23, R226, R229: what composition of a subframe reads, as it was in force at the subframe's boundary: the planes, the
colour bank, the protected layer with its CRC references, and the dither phase. -/
structure CmpVersion where
  subframe : Nat
  planes : List Plane
  bank : Nat
  prot : Option (Plane × List Nat)
  phase : Nat
deriving DecidableEq, Repr

/-- R222: a plane's row as read for a subframe: the plane (8 for the protected layer), the lenslet row, and the bytes of
its luma or packed pixels and of its chroma, from the first column over the panel on. -/
structure OverlayRow where
  subframe : Nat
  plane : Nat
  row : Nat
  luma : List Byte
  chroma : List Byte
deriving DecidableEq, Repr

/-- R226: a group taken at a latch and not yet applied: its number, LUT_SEL and TAG. -/
structure FlipTaken where
  group : Nat
  lutSel : Nat
  tag : Nat
deriving DecidableEq, Repr

/-- R235, R236: the command list that runs: its queue and descriptor, its place in the chain, its length, the offset of the
next command, and the band and line it waits for, with the length of the command that waits. -/
structure BltList where
  queue : Nat
  seq : Nat
  chain : Nat
  base : Nat
  len : Nat
  offset : Nat
  waiting : Option (Nat × Nat × Nat)
deriving DecidableEq, Repr

/-- The compositor and the 2-D engine: the bytes loaded into each colour bank (none: the identity mapping), the banks loaded
since reset, the load that runs (bank, address), the groups taken and not applied, the versions of the subframes in flight,
the protected layer that a latch has taken and the one in force, the CRC of each band as it runs, the bands black under the
layer (band, first subframe, end if rearmed), the times of the last rearms and whether they are used up (R231), the rows
read; on a head (R228, by group and member) the copies to be made, the acknowledgements awaited, those that have come, and
the stripe slot each member shows of a plane (by member times 8 plus plane; slot plus one); in a member the planes whose
back registers the head has written since the last FLIP_PREP, the flips prepared (group, TAG, planes) and those told
(planes, TAG, group, yard time); and the list that runs. -/
structure Cmp where
  luts : List (List Byte)
  lutReady : List Nat
  lutLoad : Option (Nat × Nat)
  taken : List FlipTaken
  versions : List CmpVersion
  protTaken : Option (Option (Plane × List Nat))
  prot : Option (Plane × List Nat)
  crc : Map
  black : List (Nat × Nat × Option Nat)
  rearms : List Nat
  rearmsUsed : Bool
  rows : List OverlayRow
  copies : List (Nat × Nat)
  acks : List (Nat × Nat)
  acked : List (Nat × Nat)
  slots : Map
  striped : Nat
  prepared : List (Nat × Nat × Nat)
  told : List (Nat × Nat × Nat × Nat)
  list : Option BltList
deriving DecidableEq, Repr

/-- Identity mappings, no overlay, no list. -/
def Cmp.reset : Cmp where
  luts := [[], []]
  lutReady := []
  lutLoad := none
  taken := []
  versions := []
  protTaken := none
  prot := none
  crc := []
  black := []
  rearms := []
  rearmsUsed := false
  rows := []
  copies := []
  acks := []
  acked := []
  slots := []
  striped := 0
  prepared := []
  told := []
  list := none

/-- R246, R250: a control packet that awaits its answer: port, SEQ, TYPE, ARG and the retransmissions made. -/
structure Ctrl where
  port : Nat
  seq : Nat
  typ : Nat
  arg : Nat
  tries : Nat
deriving DecidableEq, Repr

/-- Panel drive: the last SEQ of each port, the control packets outstanding, the descriptors received by port, the ports that
passed R254, the model chunks still to be asked for (port, offset), the readings of each chunk that failed (by port times
2^32 plus offset), the chunks of the overdrive tables received; the bytes of each overdrive bank (none: not loaded), the
load that runs (bank, address), the bands that have taken ACTIVE since the last swap, whether a temperature band has been
taken since reset, the subframe whose previous levels are withheld (R260); for low refresh (R264) whether something has
changed since the last refresh, the time since which every tick has been static, the ticks since the last refresh and the
edition that it showed; the step of R265 or R266 that runs (10 plus its number, 20 plus its number), the neutral windows
left by port, the ports whose DISCHARGE_DONE is awaited, and the majority descriptor (R254). -/
structure Pnl where
  seqs : Map
  ctrl : List Ctrl
  descs : List (Nat × List Byte)
  passed : List Nat
  toRead : List (Nat × Nat)
  failed : Map
  odChunks : List (Nat × List Byte)
  banks : List (List Byte)
  load : Option (Nat × Nat)
  swapped : List Nat
  tbandTaken : Bool
  histReset : Option Nat
  changed : Bool
  staticSince : Option Nat
  skipped : Nat
  shown : List Viewer
  step : Nat
  windows : Map
  discharging : List Nat
  model : List Byte
deriving DecidableEq, Repr

/-- No panel yet. -/
def Pnl.reset : Pnl where
  seqs := []
  ctrl := []
  descs := []
  passed := []
  toRead := []
  failed := []
  odChunks := []
  banks := [[], []]
  load := none
  swapped := []
  tbandTaken := false
  histReset := none
  changed := false
  staticSince := none
  skipped := 0
  shown := []
  step := 0
  windows := []
  discharging := []
  model := []

/-- R285 to R287: a substitution that runs: whether of a transmit lane, and the logical lane. -/
structure Sub where
  transmit : Bool
  logical : Nat
deriving DecidableEq, Repr

/-- A lane group beyond its registers: the stage the peer last showed, whether its DONE has come and whether own DONE has been
sent, the TOGGLE last seen and last sent, the physical receive lane that is spare and its state (as GROUP_STATE.SPARE), the
substitution that runs, whether the back-channel is being relocked, the loop this group is in as a peer (0 none), the
bits compared beyond PAT_BITS, and the failed segments or frame parts of the last WINDOW_MS (logical lane, time in ns). -/
structure LaneGroup where
  peerStage : Nat
  peerDone : Bool
  ownDone : Bool
  toggleSeen : Bool
  toggleSent : Bool
  rxSpare : Nat
  rxSpareState : Nat
  sub : Option Sub
  relocking : Bool
  peerLoop : Nat
  bits : Nat
  errs : List (Nat × Nat)
deriving DecidableEq, Repr

/-- A group after reset: the spares of R271, on standby. -/
def LaneGroup.reset : LaneGroup := ⟨0, false, false, false, false, 8, 0, none, false, 0, 0, []⟩

/-- R302, R303: a Xiesh port's link layer: the next sequence number to send, the replay buffer (oldest first), the frames
waiting for credits (oldest first), the next number expected, the credits freed to the peer and by the peer since training
and those used (VC0 to VC3, modulo 4,096), whether VC3 goes next when VC1 and VC3 both wait, the replays of the oldest
frame without progress, the sequence of the last frame accepted, and whether a NAK is due. -/
structure XPort where
  txNext : Nat
  unacked : List Frame
  waiting : List Frame
  rxExpect : Nat
  rxFreed : List Nat
  peerFreed : List Nat
  used : List Nat
  vc3Next : Bool
  replays : Nat
  nakDue : Bool
deriving DecidableEq, Repr

/-- R306, R319: a route table: its epoch, mode, tree parent (7 on the head), tree children and DOWN_IN bits, and for each
yard number the UP, DOWN and VC1 output ports (0 to 3, 4 this device, 7 no route). -/
structure RouteTable where
  epoch : Nat
  mode : Nat
  parent : Nat
  children : Nat
  downIn : Nat
  ports : List (Nat × Nat × Nat)
deriving DecidableEq, Repr

/-- R34, R313: a read the head has forwarded: its host tag, slot, address and length, and the pieces that have come. -/
structure FwdRead where
  tag : Nat
  slot : Nat
  addr : Nat
  len : Nat
  parts : List (Nat × List Byte)
deriving DecidableEq, Repr

/-- R310: a device the head has enumerated: yard number, coordinates (a DXY byte), identity digest, facets, whether known. -/
structure YardMember where
  number : Nat
  xy : Nat
  digest : List Byte
  facets : Nat
  known : Bool
deriving DecidableEq, Repr

/-- R314: an entry of the identity roster: digest, yard number, ENROLLED, last coordinates (a DXY byte). -/
structure IdEntry where
  digest : List Byte
  number : Nat
  enrolled : Bool
  xy : Nat
deriving DecidableEq, Repr

/-- R310: the enumeration a device follows: YARD_ID, YARD_GEN, HEAD_PRIO and the digest's first 8 bytes as ENUM gave them, the
port it came on and its hop count. -/
structure EnumHeard where
  id : Nat
  gen : Nat
  prio : Nat
  digest : Nat
  port : Nat
  hops : Nat
deriving DecidableEq, Repr

/-- Xiesh yard operation (R297 to R320). -/
structure Yard where
  ports : List XPort
  cur : RouteTable
  prev : RouteTable
  enum : Option EnumHeard
  /-- R308: has this candidate flooded ENUM? -/
  enumSent : Bool
  /-- R319: the port on which each device's ENUM_REPLY came, by coordinates. -/
  replyPorts : List (Nat × Nat)
  members : List YardMember
  /-- R314: the identity roster, kept in the head's loft. -/
  idRoster : List IdEntry
  /-- R307: the links reported down: yard number and port. -/
  downLinks : List (Nat × Nat)
  /-- R312: coordinates reported by devices that were refused. -/
  refused : List (Nat × Nat)
  sseqTx : Map
  sseqRx : Option Nat
  /-- R307 step 1: the destinations held and the frames kept for them, in order. -/
  heldDests : List Nat
  heldFrames : List Frame
  /-- R307: the devices whose ROUTE_ACK is awaited; whether an epoch change runs; whether another has been asked for. -/
  epochRunning : Bool
  ackAwait : List Nat
  epochAgain : Bool
  /-- R316: members to seat at the epoch that runs. -/
  joining : List Nat
  reads : List FwdRead
  /-- R313: a member's own reads of host memory: tag, address and length. -/
  hostReads : List (Nat × Nat × Nat)
  /-- R318: the entries of the ROSTER_CHANGE frames of one generation received so far. -/
  rosterGen : Nat
  rosterParts : List Byte
  /-- R169, R318: the head's settings a member last heard: effective target, facets, lock enable, TRACK, CONE. -/
  heard : Option (Nat × Nat × Nat × Nat × Nat)
deriving DecidableEq, Repr

/-- A port right after training: all numbers from 0, all credits with the peer. -/
def XPort.reset : XPort := ⟨0, [], [], 0, [0, 0, 0, 0], [0, 0, 0, 0], [0, 0, 0, 0], false, 0, false⟩

/-- A table with no route. -/
def RouteTable.reset : RouteTable := ⟨0, 0, 7, 0, 0, []⟩

/-- A controller alone. -/
def Yard.reset : Yard where
  ports := [XPort.reset, XPort.reset, XPort.reset, XPort.reset]
  cur := RouteTable.reset
  prev := RouteTable.reset
  enum := none
  enumSent := false
  replyPorts := []
  members := []
  idRoster := []
  downLinks := []
  refused := []
  sseqTx := []
  sseqRx := none
  heldDests := []
  heldFrames := []
  epochRunning := false
  ackAwait := []
  epochAgain := false
  joining := []
  reads := []
  hostReads := []
  rosterGen := 0
  rosterParts := []
  heard := none

/-- R336, R337: a trigger: START, PERIOD (32.32), WIDTH and COUNT in force, the next pulse's number, the pulses made, and, while
its output is high, when the pulse ends (2^-32 ns). -/
structure Trig where
  start : Nat
  period : Nat
  width : Nat
  count : Nat
  next : Nat
  made : Nat
  fall : Option Int
deriving DecidableEq, Repr

/-- R328, R331: the transmit stamp of an event message: port, messageType, sequenceId, stamp (1/65,536 ns), STEP_GEN, and whether
its frame was sent more than once. -/
structure TxStamp where
  port : Nat
  typ : Nat
  seq : Nat
  stamp : Nat
  stepGen : Nat
  replayed : Bool
deriving DecidableEq, Repr

/-- R339: a capture: channel, time (ns), STEP_GEN, whether the edge fell. -/
structure Capture where
  channel : Nat
  ns : Nat
  stepGen : Nat
  falling : Bool
deriving DecidableEq, Repr

/-- R333: a delay exchange that a port has begun: t1, then the response's clockIdentity with t2 and t4, then t3, and the STEP_GEN
at its start. -/
structure DelayExchange where
  port : Nat
  seq : Nat
  t1 : Option Nat
  resp : Option (Nat × Nat × Nat)
  t3 : Option Nat
  stepGen : Nat
deriving DecidableEq, Repr

/-- R333: a Sync received: sequenceId, clockIdentity, receive stamp and correction (1/65,536 ns), STEP_GEN. -/
structure SyncSeen where
  seq : Nat
  clock : Nat
  stamp : Nat
  corr : Int
  stepGen : Nat
deriving DecidableEq, Repr

/-- Yard time: the counter's fraction (R325), the triggers, the captures waiting (oldest first), the stamps of event messages
sent and not yet acknowledged, the transmit stamp queues (oldest first), the sequenceIds last used for Sync and Pdelay_Req by
port, the exchanges begun, the Pdelay_Req messages answered and awaiting their follow-up (port, sequenceId, the requester's
clockIdentity and portNumber), each port's last delays, the Syncs awaiting their Follow_Up, and the servo: whether this acquisition has stepped, the consecutive Syncs
within 100 ns and beyond 1 µs, the increments of the last second (newest first), the locked mean and the yard whose head it
follows. -/
structure Tim where
  frac : Nat
  trigs : List Trig
  caps : List Capture
  sent : List TxStamp
  txq : List TxStamp
  syncSeq : Map
  reqSeq : Map
  exchanges : List DelayExchange
  answers : List (Nat × Nat × Nat × Nat)
  delays : List (Nat × Int)
  syncs : List SyncSeen
  stepped : Bool
  good : Nat
  bad : Nat
  incs : List Nat
  lockedMean : Nat
  head : Nat
deriving DecidableEq, Repr

/-- A trigger that nothing has set. -/
def Trig.reset : Trig := ⟨0, 0, 0, 0, 0, 0, none⟩

/-- The counter at zero and at its nominal rate. -/
def Tim.reset : Tim where
  frac := 0
  trigs := List.replicate 16 Trig.reset
  caps := []
  sent := []
  txq := []
  syncSeq := []
  reqSeq := []
  exchanges := []
  answers := []
  delays := []
  syncs := []
  stepped := false
  good := 0
  bad := 0
  incs := []
  lockedMean := 0x200000000
  head := 0

/-- The DRAM controller: the rebuild list (R360, device addresses), the sparing requests waiting (channel times 4 + rank), the
lenslets whose record in the table in force cannot be read until rebuilt (R361, R362), the refresh debt of each bank in
debt (by channel times 48 + rank times 16 + bank, R354), the adjustments of read centring in 1/64 UI (by rank, R350), the
correctable errors of the last 24 h (rank, time in ns; R358), the sparing event that runs (the failed rank, and the remap
entries still to be copied, the one that is copied first; R363), the words that hold an injected error (R460), and the
camera ports whose model is lost and not yet reloaded (R451). -/
structure Dmc where
  rebuild : List Nat
  requests : List Nat
  badLens : List Nat
  debts : Map
  centring : List (Nat × Int)
  ceTimes : List (Nat × Nat)
  event : Option (Nat × List Nat)
  injected : List Nat
  lostModels : List Nat
deriving DecidableEq, Repr

/-- Nothing to rebuild or spare. -/
def Dmc.reset : Dmc where
  rebuild := []
  requests := []
  badLens := []
  debts := []
  centring := []
  ceTimes := []
  event := none
  injected := []
  lostModels := []

/-- R380: what the shadow block holds beside the log entries that ErrMgr keeps, the loft's counters and the migration
pointers, which registers show: powered-on seconds up to the last start, start-ups, power-fail warnings, the correctable
errors of each rank (by channel times 4 + rank) over the last 24 h, and a BP value awaiting its commit to record 9. -/
structure Shadow where
  seconds : Nat
  starts : Nat
  warnings : Nat
  rankCe : Map
  bp : Option Nat
deriving DecidableEq, Repr

/-- R380: a saved copy of the shadow block: its sequence, the block, the log entries not yet committed, the per-class counts of
severity 0, the loft's counters, and the migration pointers by remap entry. -/
structure ShadowCopy where
  seq : Nat
  block : Shadow
  entries : List ErrEntry
  sev0 : Map
  counters : List Nat
  migrations : Map
deriving DecidableEq, Repr

/-- The loft's controller: the commit buffer as far as it has been written, by byte offset (the rest holds free bytes of a
seed that each reset changes, R372, or zeros once a muck-out has cleared the buffer, R456), its uncorrectable words, a release that waits for a commit, the commit that runs
(address, data), the fill that runs (address, length), the journal whose replay is held (R383: address, data) and whether the journal holds a commit without its record, the words
of the array found correctable and not yet rewritten (R369), the loft sensor's judged temperature in 1/16 °C (R377;
none before the first sample), whether the hold-up charger has started (R467), the shadow block, and a shadow save due
after the commit that runs (R379). -/
structure Loft where
  buf : Map
  seed : Nat
  zeroBuf : Bool
  badBuf : List Nat
  releaseWait : Bool
  commit : Option (Nat × List Byte)
  fill : Option (Nat × Nat)
  journal : Option (Nat × List Byte)
  torn : Bool
  weak : List Nat
  temp : Option Int
  charger : Bool
  shadow : Shadow
  saveDue : Bool
deriving DecidableEq, Repr

/-- A block of zeros. -/
def Shadow.reset : Shadow := ⟨0, 0, 0, [], none⟩

/-- A free buffer, no commit. -/
def Loft.reset : Loft where
  buf := []
  seed := 0
  zeroBuf := false
  badBuf := []
  releaseWait := false
  commit := none
  fill := none
  journal := none
  torn := false
  weak := []
  temp := none
  charger := false
  shadow := Shadow.reset
  saveDue := false

/-- R394, R397, R400: a groom pass: whether it is full, its number p, the bands still to be measured after the present one, the
present band and the subframes of it begun, the bands marked to be measured again, whether that has begun, and the bands
measured. -/
structure Pass where
  full : Bool
  number : Nat
  left : List Nat
  band : Nat
  sub : Nat
  again : List Nat
  rerun : Bool
  measured : List Nat
deriving DecidableEq, Repr

/-- Calibration: the pass that runs; a pass whose last band has been measured (full, bands, yard time of its end) and the set
that follows it (full, end); the passes begun; the time (ns) of the last band pass and the band that is next; the drum's
target speed as last seen and the time since which it has held; the zone references that subframes before a number still
use (R402); and the external reference detector's frequency and consecutive windows (R390). -/
structure Cal where
  pass : Option Pass
  ended : Option (Bool × List Nat × Nat)
  applying : Option (Bool × Nat)
  passes : Nat
  lastBand : Nat
  nextBand : Nat
  target : Nat × Nat
  zonesBefore : Option (Nat × List Nat)
  refFreq : Nat
  refRun : Nat
deriving DecidableEq, Repr

/-- Thermal management (R405, R408, R409): by input, the consecutive samples more than 8 °C from the median, and those within 4 °C
while SUSPECT; the consecutive samples at which a die input, and at which an analogue input, was critical; the analogue
inputs at or above WARN; the time (ns) of the last change of step, and since when T_hot has stayed below 95 °C. -/
structure Therm where
  far : Map
  near : Map
  dieCrit : Nat
  ainCrit : Nat
  ainWarn : List Nat
  changed : Nat
  cool : Option Nat
  blind : List Nat
deriving DecidableEq, Repr

/-- No pass. -/
def Cal.reset : Cal where
  pass := none
  ended := none
  applying := none
  passes := 0
  lastBand := 0
  nextBand := 0
  target := (0, 0)
  zonesBefore := none
  refFreq := 0
  refRun := 0

/-- Nothing sampled. -/
def Therm.reset : Therm := ⟨[], [], 0, 0, [], 0, none, []⟩

/-- R424, R425: an attestation exchange: its nonce, the number of the ephemeral key made for it, the peer's ephemeral key, and the
fragments of the message that is arriving (message, count, fragments by index). -/
structure Exchange where
  nonce : List Byte
  ephemeral : Nat
  peerKey : List Byte
  message : Nat
  count : Nat
  parts : List (Nat × List Byte)
deriving DecidableEq, Repr

/-- Security: whether the key registers hold the identity key (R423), the owner's public key (entry 2) and the yard key as
unsealed, the ROLLBACK of the running image (R420), the mailbox request that runs (R429), the exchange as an attested
device, and the exchanges of a head by yard number. -/
structure Sec where
  keys : Bool
  owner : Option (List Byte)
  yardKey : Option (List Byte)
  rollback : Nat
  request : Option (List Byte)
  device : Option Exchange
  heads : List (Nat × Exchange)
deriving DecidableEq, Repr

/-- Nothing unsealed, nothing running. -/
def Sec.reset : Sec := ⟨false, none, none, 0, none, none, []⟩

/-- R458: a muck-out's record: MUCK_SEQ, RESULT, WHY, CLOCK_MHZ, ON_SECONDS, the 24 PART words, and the in-service losses of
engines (192), stalls (12) and barns (4). -/
structure MuckRec where
  seq : Nat
  result : Nat
  why : Nat
  mhz : Nat
  seconds : Nat
  parts : List Nat
  engineFails : List Nat
  stallFails : List Nat
  barnFails : List Nat
deriving DecidableEq, Repr

/-- R471: a reset. -/
inductive Cause where
  | powerOn
  | perst
  | device
  | warnRecovered
deriving DecidableEq, Repr

/-- What started the power-off sequence (R454, R466, R471): a write of POWER_CMD.OFF, the power-fail warning, the critical
sequence, a device failure, a reset. -/
inductive OffCause where
  | command
  | warning
  | critical
  | failure
  | reset
deriving DecidableEq, Repr

/-- Power and reset: the time (ns) at which start-up began, the reset that waits for the panel to be dark, what started the
power-off sequence, whether a power-fail warning has been taken since the last reset, whether the critical sequence has
begun, whether the controller holds (R409, R453), whether the muck-out has stopped the clocks (R456 step 7), the WHY that
an event has given the muck-out that runs (R457; 0 none), the losses
in service not yet committed to record 4 (engine stall × 16 + engine, 192 + stall, 204 + barn), the number of resets,
whether THERM_TRIP_N is asserted (R409), whether PERST# is, the clock domains whose PLL has lost lock (R470), and whether TEST_EN was high at the end of the last power-on reset (R488). -/
structure Power where
  t0 : Nat
  waiting : Option Cause
  off : OffCause
  warned : Bool
  critical : Bool
  held : Bool
  stopped : Bool
  muckWhy : Nat
  losses : Map
  resets : Nat
  trip : Bool
  perst : Bool
  unlocked : List Nat
  test : Bool
deriving DecidableEq, Repr

/-- Right after a reset. -/
def Power.reset : Power where
  t0 := 0
  waiting := none
  off := .command
  warned := false
  critical := false
  held := false
  stopped := false
  muckWhy := 0
  losses := []
  resets := 0
  trip := false
  perst := false
  unlocked := []
  test := false

/-- What the loft holds for Ozzizo beside the array of Mem.loft: the two copies of the shadow block (R380), and the contents
of the records whose layout the spec does not give: record 0's worlds and owners (R39), the identity roster of record 1
(R314), BP of record 9 (R371), the groom deltas and the entries of the log ring of
partition 3 (R370, R448, oldest first), with the hourly per-class counts; the remap table (state, source rank, target rank,
pointer) and the sparing event of record 2 (R358, R360); the owner key of tack room entry 2 (R423),
MIN_ROLLBACK of entry 3, and the length of the staged image that record 10 marks (R422). -/
structure Nv where
  copyA : Option ShadowCopy
  copyB : Option ShadowCopy
  pages : List (Nat × Nat × Nat)
  ids : List IdEntry
  bp : Nat
  groom : List (Nat × LensDelta)
  log : List ErrEntry
  counts : Map
  remap : List (Nat × Nat × Nat × Nat)
  sparing : Option (Nat × List Nat)
  owner : Option (List Byte)
  minRollback : Nat
  staged : Option Nat
deriving DecidableEq, Repr

/-- The loft as shipped: BP 1 (R371), nothing else recorded. -/
def Nv.reset : Nv where
  copyA := none
  copyB := none
  pages := []
  ids := []
  bp := 1
  groom := []
  log := []
  counts := []
  remap := []
  sparing := none
  owner := none
  minRollback := 0
  staged := none

/-- The machine. -/
structure State where
  /-- Commands waiting, first in, first out: the model's own queue. -/
  pending : List Instr
  regs : Map
  mech : RegMech
  mem : Mem
  /-- What has left the chip, oldest first: the model's own record. -/
  out : List Output
  /-- Free values taken so far: the model's own counter. -/
  free : Nat
  mgmt : Mgmt
  err : ErrMgr
  pcie : Pcie
  scene : Scene
  rsy : Rsy
  drum : Drum
  cams : Cams
  roster : Roster
  cmp : Cmp
  pnl : Pnl
  ser : List LaneGroup
  yard : Yard
  tim : Tim
  dmc : Dmc
  loft : Loft
  cal : Cal
  therm : Therm
  sec : Sec
  power : Power
  nv : Nv
deriving DecidableEq, Repr

/-- The machine right after reset: every register field at its reset value, every queue and engine empty. -/
def State.reset : State where
  pending := []
  regs := []
  mech := RegMech.reset
  mem := Mem.reset
  out := []
  free := 0
  mgmt := Mgmt.reset
  err := ErrMgr.reset
  pcie := Pcie.reset
  scene := Scene.reset
  rsy := Rsy.reset
  drum := Drum.reset
  cams := Cams.reset
  roster := Roster.reset
  cmp := Cmp.reset
  pnl := Pnl.reset
  ser := List.replicate 16 LaneGroup.reset
  yard := Yard.reset
  tim := Tim.reset
  dmc := Dmc.reset
  loft := Loft.reset
  cal := Cal.reset
  therm := Therm.reset
  sec := Sec.reset
  power := Power.reset
  nv := Nv.reset

end Sys2Proof.Machine
end

