-- ==== Sys2Proof/Machine/Operands.lean ====
section
/-! DEFINITION. Machine/Operands.lean: the number formats, byte layouts and check codes the spec's rules share: bit ranges and
two's complement ("Numbers and units"), little-endian fields (R4), sorted maps and memories, CRC-32C (R56), CRC-16 (R247)
and the Hsiao code (R437 to R440). Everything here is a function on plain data. -/

namespace Sys2Proof.Machine

/-! ### Bits and integers -/

/-- Bits [lo + w - 1 : lo] of a value. -/
def bitsOf (v lo w : Nat) : Nat := (v / 2 ^ lo) % 2 ^ w

/-- Bit `i` of a value. -/
def bitOf (v i : Nat) : Nat := (v / 2 ^ i) % 2

/-- Is bit `i` of a value set? -/
def hasBit (v i : Nat) : Bool := decide ((v / 2 ^ i) % 2 = 1)

/-- A value with bit `i` set. -/
def withBit (v i : Nat) : Nat := if hasBit v i then v else v + 2 ^ i

/-- A value with bit `i` clear. -/
def withoutBit (v i : Nat) : Nat := if hasBit v i then v - 2 ^ i else v

/-- A value with bits [lo + w - 1 : lo] replaced. -/
def withBits (v lo w x : Nat) : Nat :=
  v / 2 ^ (lo + w) * 2 ^ (lo + w) + (x % 2 ^ w) * 2 ^ lo + v % 2 ^ lo

/-- The bits of `v` that `mask` does not name. -/
def andNot (v mask : Nat) : Nat := v - Nat.land v mask

/-- A w-bit two's complement value as an integer. -/
def toSigned (v w : Nat) : Int :=
  let x := v % 2 ^ w
  if 2 * x < 2 ^ w then (x : Int) else (x : Int) - (2 ^ w : Nat)

/-- An integer as a w-bit two's complement value. -/
def ofSigned (x : Int) (w : Nat) : Nat := (x % ((2 ^ w : Nat) : Int)).toNat

/-- `clamp(x, lo, hi)` of the spec's pseudocode. -/
def clampInt (x lo hi : Int) : Int := if x < lo then lo else if hi < x then hi else x

/-- `>>`: an arithmetic shift right, rounding toward minus infinity. -/
def sar (x : Int) (n : Nat) : Int := Int.fdiv x ((2 ^ n : Nat) : Int)

/-- `/` of the spec's pseudocode: division truncating toward zero. -/
def truncDiv (a b : Int) : Int := Int.tdiv a b

/-- Absolute difference. -/
def absDiff (a b : Nat) : Nat := if a ≤ b then b - a else a - b

/-- The bit number of each set bit below `n`, rising. -/
def setBits (v n : Nat) : List Nat := (List.range n).filter (fun i => hasBit v i)

/-- Exclusive-or of all bits of a value below bit `n`. -/
def parity (v n : Nat) : Nat := (setBits v n).length % 2

/-- One per true. -/
def b2n (b : Bool) : Nat := if b then 1 else 0

/-! ### Little-endian bytes -/

/-- The `n` low bytes of a value, least significant first. -/
def leBytes : Nat → Nat → List Byte
  | 0, _ => []
  | n + 1, v => BitVec.ofNat 8 v :: leBytes n (v / 256)

/-- The value of little-endian bytes. -/
def leNat : List Byte → Nat
  | [] => 0
  | b :: bs => b.toNat + 256 * leNat bs

/-- The little-endian field of `n` bytes at an offset of a byte list; bytes past its end read zero. -/
def leAt (bs : List Byte) (off n : Nat) : Nat := leNat ((bs.drop off).take n)

/-- The `n` low bytes of a value, most significant first. -/
def beBytes (n v : Nat) : List Byte := (leBytes n v).reverse

/-- The big-endian field of `n` bytes at an offset of a byte list. -/
def beAt (bs : List Byte) (off n : Nat) : Nat := leNat ((bs.drop off).take n).reverse

/-! ### Sorted maps -/

/-- The value of a key, if the map names it. -/
def mapGet : Map → Nat → Option Nat
  | [], _ => none
  | (k, v) :: m, x => if x = k then some v else mapGet m x

/-- The map with a key's value set, in rising order of keys. -/
def mapPut : Map → Nat → Nat → Map
  | [], x, v => [(x, v)]
  | (k, u) :: m, x, v => if x = k then (x, v) :: m else if x < k then (x, v) :: (k, u) :: m else (k, u) :: mapPut m x v

/-- The map without a key. -/
def mapDel (m : Map) (x : Nat) : Map := m.filter (fun p => !decide (p.1 = x))

/-- The value of a key, zero if the map does not name it. -/
def mapVal (m : Map) (x : Nat) : Nat := (mapGet m x).getD 0

/-- The first pair of an association list whose key matches. -/
def assoc {α : Type} (l : List (Nat × α)) (k : Nat) : Option α := (l.find? (fun p => decide (p.1 = k))).map Prod.snd

/-- An association list with a key's pair replaced, or appended. -/
def assocPut {α : Type} (l : List (Nat × α)) (k : Nat) (v : α) : List (Nat × α) :=
  if l.any (fun p => decide (p.1 = k)) then l.map (fun p => if p.1 = k then (k, v) else p) else l ++ [(k, v)]

/-- A list with its `i`-th element changed. -/
def modifyAt {α : Type} (l : List α) (i : Nat) (f : α → α) : List α := l.modify i f

/-- A number added to a rising list without repeats. -/
def insertNat : List Nat → Nat → List Nat
  | [], x => [x]
  | y :: ys, x => if x = y then y :: ys else if x < y then x :: y :: ys else y :: insertNat ys x

/-! ### Byte memories -/

/-- The byte at an address: an address the list does not name reads zero (log entry 3). -/
def memGet : List Host.Cell → Nat → Byte
  | [], _ => 0
  | (k, b) :: m, a => if a = k then b else memGet m a

/-- The canonical memory with a byte written: writing zero removes the entry. -/
def memPut : List Host.Cell → Nat → Byte → List Host.Cell
  | [], a, b => if b = 0 then [] else [(a, b)]
  | (k, c) :: m, a, b =>
    if a = k then (if b = 0 then m else (a, b) :: m)
    else if a < k then (if b = 0 then (k, c) :: m else (a, b) :: (k, c) :: m)
    else (k, c) :: memPut m a b

/-- `n` bytes from an address on. -/
def memRead (m : List Host.Cell) (a n : Nat) : List Byte := (List.range n).map (fun i => memGet m (a + i))

/-- Bytes written from an address on. -/
def memWrite : List Host.Cell → Nat → List Byte → List Host.Cell
  | m, _, [] => m
  | m, a, b :: bs => memWrite (memPut m a b) (a + 1) bs

/-- Bytes of one value written from an address on. -/
def memFill (m : List Host.Cell) (a n : Nat) (b : Byte) : List Host.Cell := memWrite m a (List.replicate n b)

/-- The canonical form of a memory: addresses strictly rising and no entry zero. -/
def Memory.wf : List Host.Cell → Bool
  | [] => true
  | [(_, b)] => !decide (b = 0)
  | (a, b) :: (k, c) :: m => !decide (b = 0) && decide (a < k) && Memory.wf ((k, c) :: m)

/-! ### Cyclic codes -/

/-- One bit of CRC-32C in its reflected form (polynomial 0x82F6_3B78, R56). -/
def crc32cBit (c : Nat) : Nat := if c % 2 = 1 then Nat.xor (c / 2) 0x82F63B78 else c / 2

/-- One byte of CRC-32C. -/
def crc32cByte (c : Nat) (b : Byte) : Nat :=
  crc32cBit (crc32cBit (crc32cBit (crc32cBit (crc32cBit (crc32cBit (crc32cBit (crc32cBit (Nat.xor c b.toNat))))))))

/-- CRC-32C of bytes (R56): reflected, initial value and final exclusive-or 0xFFFF_FFFF. -/
def crc32c (bs : List Byte) : Nat := Nat.xor (bs.foldl crc32cByte 0xFFFFFFFF) 0xFFFFFFFF

/-! ### The check code of stored words -/

/-- R438: the column of each data bit. -/
def eccColumns : List Nat :=
  [0x07, 0x0B, 0x0D, 0x0E, 0x13, 0x15, 0x16, 0x19, 0x1A, 0x1C, 0x23, 0x25, 0x26, 0x29, 0x2A, 0x2C,
   0x31, 0x32, 0x34, 0x38, 0x43, 0x45, 0x46, 0x49, 0x4A, 0x4C, 0x51, 0x52, 0x54, 0x58, 0x61, 0x62] ++
  [0x64, 0x68, 0x70, 0x83, 0x85, 0x86, 0x89, 0x8A, 0x8C, 0x91, 0x92, 0x94, 0x98, 0xA1, 0xA2, 0xA4,
   0xA8, 0xB0, 0xC1, 0xC2, 0xC4, 0xC8, 0xD0, 0xE0, 0xF4, 0xE9, 0xD3, 0xA7, 0x4F, 0x9E, 0x3D, 0x7A]

/-- R437, R440: the check byte of a data word. -/
def eccCheck (d : Nat) : Nat :=
  (List.range 64).foldl (fun c i => if hasBit d i then Nat.xor c (eccColumns.getD i 0) else c) 0

/-- What a read of a stored word finds (R439, R440). -/
inductive EccResult where
  | clean (d : Nat)
  | corrected (d : Nat)
  | poison
  | uncorrectable
deriving DecidableEq, Repr

/-- R440: the poison pattern. -/
def poisonPattern : Nat := 0xC3C3C3C3C3C3C3C3

/-- The set bits of a value below 64. -/
def weight64 (v : Nat) : Nat := (setBits v 64).length

/-- R439, R440: a stored codeword decoded, the poison test first. -/
def eccDecode (d chk : Nat) : EccResult :=
  let s := Nat.xor chk (eccCheck d)
  if s = 0 then .clean d
  else if s = 0xFF then .poison
  else if weight64 (Nat.xor d poisonPattern) ≤ 2 then .poison
  else if (setBits s 8).length = 1 then .corrected d
  else match eccColumns.findIdx? (fun c => decide (c = s)) with
    | some i => .corrected (Nat.xor d (2 ^ i))
    | none => .uncorrectable

end Sys2Proof.Machine

/-! ### Masters -/

/-- R41: the code of a master. -/
def Sys2Proof.Master.code : Sys2Proof.Master → Nat
  | .pcie => 0
  | .xiesh => 1
  | .mp i => 2 + i % 4
  | .jtag => 6
  | .hw => 7

/-- R415: the masters of the secure world. An internal hardware agent ranks with them (R415's engines and rings). -/
def Sys2Proof.Master.secure : Sys2Proof.Master → Bool
  | .pcie => false
  | .xiesh => false
  | .mp _ => true
  | .jtag => true
  | .hw => true

/-- R45: JTAG ranks as Ozzizo. -/
def Sys2Proof.Master.ozzizo : Sys2Proof.Master → Bool
  | .pcie => false
  | .xiesh => false
  | .mp _ => true
  | .jtag => true
  | .hw => true

/-- Is the master a host port? -/
def Sys2Proof.Master.host : Sys2Proof.Master → Bool
  | .pcie => true
  | .xiesh => true
  | .mp _ => false
  | .jtag => false
  | .hw => false
end

