-- ==== Sys2Proof/Machine/Ops.lean ====
section
/-! DEFINITION. Machine/Ops.lean: the named operations over registers and memories. Every read and write of a register field
goes through `get` and `set`, every counter through `bump`, every byte of DRAM, host memory and the loft through the
operations below. -/

namespace Sys2Proof.Machine

/-! ### A command's outcome -/

/-- R456 step 7: what a command comes to. With the clocks stopped by the muck-out it has no effect; only POWER_ON_RESET and PERST_ASSERT
do not go through here. -/
def live (s t : State) : Host.Outcome State Fault Refusal := .next (if s.power.stopped then s else t)

/-! ### Register fields -/

/-- R9: what a field reads when nothing has set it since reset: its reset value, or, for a field marked "L", zero until
start-up has loaded it. -/
def fieldDefault (loaded : Option (List Host.Cell)) (f : Field) : Nat :=
  if f.ld then
    match loaded with
    | none => f.rst
    | some image => Config.loftField image f.key % 2 ^ f.w
  else f.rst

/-- What stands under a field's number: the value last set, else its default. -/
def State.raw (s : State) (f : Field) : Nat :=
  match mapGet s.regs f.key with
  | some v => v
  | none => fieldDefault s.mech.loaded f

/-- The value of a field, in its width. -/
def State.get (s : State) (f : Field) : Nat := s.raw f % 2 ^ f.w

/-- The state with a field set; bits beyond the field's width are dropped. -/
def State.set (s : State) (f : Field) (v : Nat) : State := { s with regs := mapPut s.regs f.key (v % 2 ^ f.w) }

/-- The state with several fields set, in order. -/
def State.setAll (s : State) (l : List (Field × Nat)) : State :=
  { s with regs := l.foldl (fun r p => mapPut r p.1.key (p.2 % 2 ^ p.1.w)) s.regs }

/-- Is a field non-zero? -/
def State.on (s : State) (f : Field) : Bool := !decide (s.get f = 0)

/-- The signed value of a two's complement field. -/
def State.getInt (s : State) (f : Field) : Int := toSigned (s.get f) f.w

/-- The state with a two's complement field set. -/
def State.setInt (s : State) (f : Field) (v : Int) : State := s.set f (ofSigned v f.w)

/-- A saturating sum for a field of `w` bits: the spec's counters saturate. -/
def satAdd (w v n : Nat) : Nat := Nat.min (v + n) (2 ^ w - 1)

/-- A counter field raised by `n`, saturating, and with it the second copy that the secure route reads (R52). -/
def State.bumpBy (s : State) (f : Field) (n : Nat) : State :=
  { s with regs := mapPut s.regs f.key (satAdd f.w (s.get f) n),
           mech := { s.mech with second := mapPut s.mech.second f.key (satAdd f.w (mapVal s.mech.second f.key) n) } }

/-- A counter field raised by one. -/
def State.bump (s : State) (f : Field) : State := s.bumpBy f 1

/-- A "worst since read" field raised to at least `n`, in both copies. -/
def State.raiseTo (s : State) (f : Field) (n : Nat) : State :=
  { s with regs := mapPut s.regs f.key (Nat.max (s.get f) (n % 2 ^ f.w)),
           mech := { s.mech with second := mapPut s.mech.second f.key (Nat.max (mapVal s.mech.second f.key) (n % 2 ^ f.w)) } }

/-- A field stepped by one, wrapping at its width. -/
def State.step1 (s : State) (f : Field) : State := s.set f (s.get f + 1)

/-- The time counter's nanoseconds (R325). -/
def State.now (s : State) : Nat := s.get F.TIM_TIME_NS

/-- R39, R416: the world of a page (0 secure, 1 non-secure): fixed, or as last written by a secure master, or as record 0
and the loft's defaults give it once start-up has loaded them; secure before. -/
def State.pageWorld (s : State) (page : Nat) : Nat :=
  if fixedHostPage page then 1
  else if fixedSecurePage page then 0
  else match mapGet s.regs (F.PAGE_SEC_WORLD page).key with
    | some v => v
    | none =>
      match s.mech.loaded with
      | none => 0
      | some _ => match s.mech.pages.find? (fun e => decide (e.1 = page)) with
        | some e => e.2.1
        | none => defaultWorld page

/-- R39, R416: the owner of a page (0 Ozzizo, 1 host). -/
def State.pageOwner (s : State) (page : Nat) : Nat :=
  if fixedHostPage page then 1
  else if fixedSecurePage page then 0
  else match mapGet s.regs (F.PAGE_OWNER_OWNER page).key with
    | some v => v
    | none =>
      match s.mech.loaded with
      | none => 0
      | some _ => match s.mech.pages.find? (fun e => decide (e.1 = page)) with
        | some e => e.2.2
        | none => defaultOwner page

/-- R40: is a page locked? -/
def State.pageLocked (s : State) (page : Nat) : Bool := s.on (F.PAGE_SEC_LOCK page)

/-- Something leaves the chip. -/
def State.emit (s : State) (o : Output) : State := { s with out := s.out ++ [o] }

/-- A free value of `w` bits, and the counter advanced. -/
def State.freeOf (s : State) (w : Nat) : Nat := Config.freeValue s.free % 2 ^ w

/-- The counter of free values advanced by one. -/
def State.tookFree (s : State) : State := { s with free := s.free + 1 }

/-- A field takes a free value. -/
def State.setFree (s : State) (f : Field) : State := (s.set f (Config.freeValue s.free)).tookFree

/-! ### Roles -/

/-- R308: standalone 0, head 1, member 2, orphan 3. -/
def State.role (s : State) : Nat := s.get F.XSH_ROLE_ROLE

/-- R309: an orphan keeps its member restrictions. -/
def State.isMember (s : State) : Bool := decide (2 ≤ s.role)

/-- Is the controller a yard head? -/
def State.isHead (s : State) : Bool := decide (s.role = 1)

/-! ### Device DRAM -/

/-- R347: the interleave set that holds a device address. -/
def dramSet (s : State) (a : Nat) : Option Nat :=
  (List.range 8).find? (fun i =>
    s.on (F.DMC_ISET_EN i) && decide (s.get (F.DMC_ISET_BASE i) * 2 ^ 30 ≤ a) &&
    decide (a < (s.get (F.DMC_ISET_BASE i) + 2 ^ s.get (F.DMC_ISET_WAYS_LOG2 i)) * 2 ^ 30))

/-- R348: where a device address lies: channel, rank, bank, row, column, byte. -/
structure DramPlace where
  ch : Nat
  rank : Nat
  bank : Nat
  row : Nat
  col : Nat
  byte : Nat
deriving DecidableEq, Repr

/-- R348: the decode of a device address, none where there is no DRAM behind it. -/
def dramDecode (s : State) (a : Nat) : Option DramPlace :=
  match dramSet s a with
  | none => none
  | some i =>
    let k := s.get (F.DMC_ISET_WAYS_LOG2 i)
    let o := a - s.get (F.DMC_ISET_BASE i) * 2 ^ 30
    let ch := (List.range k).foldl
      (fun c j => c + parity (Nat.land o (s.get (F.DMC_CH_MASK_MASK j))) 40 * 2 ^ j) (s.get (F.DMC_ISET_CH_BASE i))
    let r := o / 2 ^ (8 + k) * 2 ^ 8 + o % 2 ^ 8
    let bank := (List.range 4).foldl
      (fun b j => b + parity (Nat.land r (s.get (F.DMC_BK_MASK_MASK j))) 40 * 2 ^ j) 0
    some ⟨ch, s.get (F.DMC_ISET_RANK i), bank, r / 2 ^ 15, r / 2 ^ 6 % 32, r % 64⟩

/-- R33: is there DRAM behind every byte of a range? Sets are whole numbers of GiB, so the range's first byte and the start of
each further GiB it reaches decide. -/
def dramBehind (s : State) (a n : Nat) : Bool :=
  (dramSet s a).isSome &&
    (List.range ((a + (n - 1)) / 2 ^ 30 - a / 2 ^ 30)).all (fun i => (dramSet s ((a / 2 ^ 30 + i + 1) * 2 ^ 30)).isSome)

/-- R417: the regions that cover a byte of device memory, by number. -/
def regionsAt (s : State) (a : Nat) : List Nat :=
  (List.range 64).filter (fun r =>
    s.on (F.SEC_REGION_EN r) && decide (s.get (F.SEC_REGION_BASE r) ≤ a / 2 ^ 20) &&
    decide (a / 2 ^ 20 ≤ s.get (F.SEC_REGION_LIMIT r)))

/-- R417: is a byte secure? -/
def byteSecure (s : State) (a : Nat) : Bool :=
  let rs := regionsAt s a
  rs.isEmpty || rs.any (fun r => decide (s.get (F.SEC_REGION_WORLD r) = 0))

/-- The addresses at which a range of bytes meets each 1 MiB unit. -/
def mibPoints (a n : Nat) : List Nat :=
  if n = 0 then [] else a :: (List.range ((a + n - 1) / 2 ^ 20 - a / 2 ^ 20)).map (fun i => (a / 2 ^ 20 + i + 1) * 2 ^ 20)

/-- R417: is any byte of a range secure? -/
def rangeSecure (s : State) (a n : Nat) : Bool := (mibPoints a n).any (byteSecure s)

/-- R509: the unit of a refusal: the lowest-numbered secure region covering a byte of the access, 64 when none does. -/
def deniedUnit (s : State) (a n : Nat) : Nat :=
  (((List.range 64).find? (fun r => decide (s.get (F.SEC_REGION_WORLD r) = 0) &&
    (mibPoints a n).any (fun x => (regionsAt s x).contains r)))).getD 64

/-- The 8-byte words a byte range touches. -/
def wordsOf (a n : Nat) : List Nat := if n = 0 then [] else (List.range ((a + n - 1) / 8 - a / 8 + 1)).map (fun i => (a / 8 + i) * 8)

/-- R362, R440: does a range touch a word whose codeword is uncorrectable or poisoned? -/
def dramBad (s : State) (a n : Nat) : Bool :=
  (wordsOf a n).any (fun w => s.mem.badDram.contains w || s.mem.poisonDram.contains w)

/-- Bytes of device memory. -/
def dramRead (s : State) (a n : Nat) : List Byte := memRead s.mem.dram a n

/-- R437, R439, R440: a word stored by an injection with some codeword bits inverted (none: stored poisoned), and what a read
of it finds. -/
def injectedRead (d : Nat) (flips : Option (List Nat)) : EccResult :=
  match flips with
  | none => .poison
  | some l =>
    let c := l.foldl (fun x i => Nat.xor x (2 ^ i)) (d + eccCheck d * 2 ^ 64)
    eccDecode (c % 2 ^ 64) (c / 2 ^ 64)

/-- R460: the codeword bits that ERR.INJECT inverts. -/
def injectFlips (s : State) : Option (List Nat) :=
  let b := s.get F.ERR_INJECT_BIT
  if s.get F.ERR_INJECT_KIND = 0 then some [b]
  else if s.get F.ERR_INJECT_KIND = 1 then some [b, (b + 1) % 72]
  else none

/-- R460: an injection armed for device memory is made at the next write of its word. -/
def injectDram (s : State) (ws : List Nat) : State :=
  let w := s.get F.ERR_INJECT_ADDR_ADDR * 8
  if s.on F.ERR_INJECT_ARM && decide (s.get F.ERR_INJECT_TARGET = 0) && decide (s.get F.ERR_INJECT_KIND ≤ 2) && ws.contains w then
    let m := match injectedRead (leNat (memRead s.mem.dram w 8)) (injectFlips s) with
      | .clean _ => s.mem
      | .corrected _ => { s.mem with weakDram := insertNat s.mem.weakDram w }
      | .poison => { s.mem with poisonDram := insertNat s.mem.poisonDram w }
      | .uncorrectable => { s.mem with badDram := insertNat s.mem.badDram w }
    { s.setAll [(F.ERR_INJECT_ARM, 0), (F.ERR_INJECT_DONE, 1)] with
        mem := m, dmc := { s.dmc with injected := insertNat s.dmc.injected w } }
  else s

/-- Bytes written to device memory. A word written whole, or merged by a read-modify-write, is stored with a valid check. -/
def dramWrite (s : State) (a : Nat) (bs : List Byte) : State :=
  let ws := wordsOf a bs.length
  let t : State := { s with
    mem := { s.mem with
      dram := memWrite s.mem.dram a bs
      badDram := s.mem.badDram.filter (fun w => !ws.contains w)
      poisonDram := s.mem.poisonDram.filter (fun w => !ws.contains w)
      weakDram := s.mem.weakDram.filter (fun w => !ws.contains w) }
    dmc := { s.dmc with injected := s.dmc.injected.filter (fun w => !ws.contains w) } }
  injectDram t ws

/-! ### Host memory -/

/-- Bytes of host memory. -/
def hostRead (s : State) (a n : Nat) : List Byte := memRead s.mem.host a n

/-- R473: a write to host memory; it is discarded while the PCI Express link is not at L0. -/
def hostWrite (s : State) (a : Nat) (bs : List Byte) : State :=
  if s.pcie.linkUp then { s with mem := { s.mem with host := memWrite s.mem.host a bs } } else s

end Sys2Proof.Machine
end

