-- ==== Sys2Proof/Machine/Link.lean ====
section
/-! DEFINITION. Machine/Link.lean: the Xiesh link layer that every frame goes through: credits and service order (R303),
sequence numbers and the replay buffer (R302), routes (R306, R319) and the sending of a frame. -/

namespace Sys2Proof.Machine

/-- R303: the credits of 64 bytes in a port's receive buffer, by virtual channel. -/
def vcCredits (vc : Nat) : Nat := if vc = 1 then 256 else 128

/-- R303: the credits a frame uses. -/
def frameCredits (f : Frame) : Nat := (32 + f.payload.length + 63) / 64

/-- R300: a frame of a type on a virtual channel, with no sequence number yet. -/
def mkFrame (typ vc dst src dxy arg addr tag : Nat) (payload : List Byte) : Frame :=
  ⟨typ, vc, 0, false, 0, dst, src, dxy, 0, 0, arg, addr, tag, payload⟩

/-- A port of the yard. -/
def State.xport (s : State) (k : Nat) : XPort := s.yard.ports.getD k XPort.reset

/-- The state with a port changed. -/
def State.setXport (s : State) (k : Nat) (f : XPort → XPort) : State :=
  { s with yard := { s.yard with ports := modifyAt s.yard.ports k f } }

/-- R297, R312: a port carries traffic when its group is ACTIVE and the link is not miscabled or refused. -/
def portUp (s : State) (k : Nat) : Bool := decide (s.get (F.XSH_PORT_STATE k) = 2)

/-- R303: the credits a port's transmitter holds on a virtual channel. -/
def creditsHeld (p : XPort) (vc : Nat) : Nat :=
  vcCredits vc - (p.used.getD vc 0 + 4096 - p.peerFreed.getD vc 0) % 4096

/-- R302: the bytes a port's replay buffer holds. -/
def replayBytes (p : XPort) : Nat := (p.unacked.map (fun f => 32 + f.payload.length)).foldl (· + ·) 0

/-- R302, R303: may a waiting frame start? -/
def mayStart (p : XPort) (f : Frame) : Bool :=
  decide (frameCredits f ≤ creditsHeld p f.vc) && decide (replayBytes p + 32 + f.payload.length ≤ 131072)

/-- R303: the virtual channels in the order a port serves them. -/
def serviceOrder (p : XPort) : List Nat := if p.vc3Next then [0, 2, 3, 1] else [0, 2, 1, 3]

/-- R303: the frame a port starts next: the oldest of the first virtual channel whose oldest frame may start. -/
def nextFrame (p : XPort) : Option Frame :=
  (serviceOrder p).findSome? (fun vc =>
    match p.waiting.find? (fun f => decide (f.vc = vc)) with
    | some f => if mayStart p f then some f else none
    | none => none)

/-- R302: a port starts a frame: it takes the next sequence number, enters the replay buffer and uses its credits. -/
def startFrame (p : XPort) (f : Frame) : XPort × Frame :=
  let g := { f with lseq := p.txNext }
  ({ p with
      txNext := (p.txNext + 1) % 4096
      unacked := p.unacked ++ [g]
      waiting := p.waiting.erase f
      used := p.used.modify f.vc (fun u => (u + frameCredits f) % 4096)
      vc3Next := if f.vc = 1 then true else if f.vc = 3 then false else p.vc3Next }, g)

/-- R325: the time counter with its fraction, in 2^-32 ns. -/
def timeFrac (s : State) : Nat := s.now * 2 ^ 32 + s.tim.frac

/-- Yard time changed. -/
def State.setTim (s : State) (f : Tim → Tim) : State := { s with tim := f s.tim }

/-- R328, R331: the stamp of an event message whose TIME frame leaves a port now; a second copy takes the stamp's place. -/
def stampTx (s : State) (k : Nat) (f : Frame) : State :=
  let typ := beAt f.payload 0 1 % 16
  let seq := beAt f.payload 30 2
  if f.typ = 0x40 ∧ (typ = 0 ∨ typ = 2 ∨ typ = 3) then
    let mine (e : TxStamp) : Bool := decide (e.port = k ∧ e.typ = typ ∧ e.seq = seq)
    let e : TxStamp := ⟨k, typ, seq, timeFrac s / 2 ^ 16 + s.get (F.TIM_TX_LAT_LAT k), s.get F.TIM_STEPS_COUNT % 16, s.tim.sent.any mine⟩
    s.setTim (fun x => { x with sent := x.sent.filter (fun q => !mine q) ++ [e] })
  else s

/-- R303: a port starts the frames it may, up to a number. -/
def pumpPort : Nat → Nat → State → State
  | 0, _, s => s
  | n + 1, k, s =>
    match nextFrame (s.xport k) with
    | none => s
    | some f =>
      let r := startFrame (s.xport k) f
      pumpPort n k ((stampTx ((s.setXport k (fun _ => r.1)).bump (F.XSH_COUNT0_COUNT k)) k r.2).emit (.xiesh k r.2))

/-- A frame is given to a port's transmitter. -/
def sendOn (s : State) (k : Nat) (f : Frame) : State :=
  pumpPort ((s.xport k).waiting.length + 1) k (s.setXport k (fun p => { p with waiting := p.waiting ++ [f] }))

/-- R319: a LINK frame on a port: the acknowledgement of the last frame accepted, a NAK where one is due, and the credits
freed. -/
def sendLink (s : State) (k : Nat) : State :=
  let p := s.xport k
  (s.setXport k (fun q => { q with nakDue := false })).emit
    (.link k ((p.rxExpect + 4095) % 4096) p.nakDue p.rxFreed)

/-- R306, R319: the output port the table names for a destination: the VC1 port, or the UP or DOWN port by whether the frame
came in on a port that it reaches over a down link. -/
def tablePort (t : RouteTable) (vc dst : Nat) (inPort : Option Nat) : Nat :=
  let e := t.ports.getD dst (7, 7, 7)
  if vc = 1 then e.2.2
  else match inPort with
    | some k => if hasBit t.downIn k then e.2.1 else e.1
    | none => e.1

/-- R319: the output a table gives a frame: VC3 frames and frames to the head leave by the tree parent. -/
def tableOut (t : RouteTable) (f : Frame) (inPort : Option Nat) : Nat :=
  if f.vc = 3 ∨ f.dst = 0 then t.parent else tablePort t f.vc f.dst inPort

/-- R306: the table of a frame's epoch, the current one where that epoch is older or names a port that is down. -/
def routeFrame (s : State) (f : Frame) (inPort : Option Nat) : Nat :=
  let t := if f.epoch = s.yard.cur.epoch % 2 then s.yard.cur else s.yard.prev
  let o := tableOut t f inPort
  if o < 4 ∧ portUp s o then o else tableOut s.yard.cur f inPort

/-- R306: a frame is forwarded on the port its route names; with no route it is discarded and counted in UNROUTABLE. -/
def forwardFrame (s : State) (f : Frame) (inPort : Option Nat) : State :=
  let o := routeFrame s f inPort
  if o < 4 ∧ portUp s o then sendOn s o f else s.bump (F.XSH_DROPS_COUNT 2)

/-- R319: a broadcast is copied onto every tree child port. -/
def broadcastDown (s : State) (f : Frame) : State :=
  ((setBits s.yard.cur.children 4).filter (portUp s)).foldl (fun t k => sendOn t k f) s

/-- A frame this device originates: its source, its epoch parity, and its way. A member sends its broadcasts to the head. -/
def originate (s : State) (f : Frame) : State :=
  let g := { f with src := s.get F.XSH_ROLE_NUMBER, epoch := s.yard.cur.epoch % 2 }
  if g.bcast && s.isHead then broadcastDown s g else forwardFrame s g none

/-- R307: the head's next stream sequence for a destination. -/
def nextSseq (s : State) (dst : Nat) : Nat := (mapVal s.yard.sseqTx dst + 1) % 65536

/-- R307: a VC1 frame from the head to a member: it takes the destination's stream sequence, and waits, in order, while the
destination is held. -/
def sendVc1 (s : State) (f : Frame) : State :=
  let q := nextSseq s f.dst
  let s1 := { s with yard := { s.yard with sseqTx := mapPut s.yard.sseqTx f.dst q } }
  let g := { f with sseq := q }
  if s1.yard.heldDests.contains f.dst then
    { s1 with yard := { s1.yard with heldFrames := s1.yard.heldFrames ++ [g] } }
  else originate s1 g

/-- R313, R473: bytes written to host memory: by the port, or from a member as HOST_WR frames of at most 1,024 bytes. -/
def hostSend (s : State) (a : Nat) (bs : List Byte) : State :=
  if s.isMember then
    (List.range ((bs.length + 1023) / 1024)).foldl (fun t i =>
      originate t (mkFrame 0x09 3 0 0 0 0 (a + 1024 * i) 0 ((bs.drop (1024 * i)).take 1024))) s
  else hostWrite s a bs

/-- R313: a member asks the head for host bytes; the head and a standalone controller read them themselves. -/
def hostAsk (s : State) (a n tag : Nat) : State :=
  if s.isMember then
    originate { s with yard := { s.yard with hostReads := s.yard.hostReads ++ [(tag, a, n)] } }
      (mkFrame 0x0A 3 0 0 0 n a tag [])
  else s

/-- R316: a device tells the head of a port. -/
def sendLinkEvent (s : State) (k : Nat) (up : Bool) : State := originate s (mkFrame 0x25 0 0 0 0 (b2n up) k 0 [])

end Sys2Proof.Machine
end

