-- ==== Sys2Proof/Machine/Flags.lean ====
section
/-! DEFINITION. Machine/Flags.lean: the interrupt flags: raw and latched bits (R40, R52), page summaries, vector states and
MSI-X messages (R48 to R51), and the effective mirrors' flag (R44). -/

namespace Sys2Proof.Machine

/-- R40: IRQ_PEND is IRQ_RAW and IRQ_EN. -/
def irqPend (s : State) (page : Nat) : Nat := Nat.land (s.get (F.IRQ_RAW page)) (s.get (F.IRQ_EN page))

/-- R49, R50: the summary of a page; a page in no block's range has none. -/
def pageSummary (s : State) (page : Nat) : Bool :=
  s.on (F.PAGE_CTRL_IRQ_GATE page) && !decide (irqPend s page = 0) && (blockOf page).isSome

/-- R49, R51: the vector a page's entry names; a member uses bits [4:0]. -/
def vectorOf (s : State) (page : Nat) : Nat :=
  if s.isMember then s.get (F.INT_VEC_VECTOR page) % 32 else s.get (F.INT_VEC_VECTOR page)

/-- The pages whose IRQ_RAW is not zero. -/
def rawPages (s : State) : List Nat :=
  s.regs.filterMap (fun p =>
    if p.1 % 512 = 0 ∧ p.1 / 512 % 0x1000 = 0x010 ∧ ¬ p.2 = 0 then some (p.1 / 512 / 0x1000) else none)

/-- R50: a vector's state: some enabled page mapped to it has its summary set. -/
def vectorState (s : State) (v : Nat) : Bool :=
  (rawPages s).any (fun p => pageSummary s p && s.on (F.INT_VEC_EN p) && decide (vectorOf s p = v))

/-- R50, R473: one MSI-X message; a masked vector sets its pending bit; none is sent while the link is not at L0. -/
def sendMsix (s : State) (v : Nat) : State :=
  if s.pcie.functionMask || s.on (F.MSIX_MASK v) then s.set (F.MSIX_PBA v) 1
  else if s.pcie.linkUp then s.emit (.msix v (s.get (F.MSIX_ADDR_LO v) + s.get (F.MSIX_ADDR_HI v) * 2 ^ 32) (s.get (F.MSIX_DATA v)))
  else s

/-- R50, R51: the router signals a vector: a member over Xiesh, any other controller on its own port. -/
def signalVector (s : State) (v : Nat) : State :=
  if s.isMember then originate s (mkFrame 0x08 3 0 0 0 (v % 32) 0 0 []) else sendMsix s v

/-- R50: a vector is signalled when its state rises. -/
def onRise (before : State) (v : Nat) (after : State) : State :=
  if !vectorState before v && vectorState after v then signalVector after v else after

/-- R50: a vector re-evaluated: it is signalled when its state is 1. -/
def reevaluate (s : State) (v : Nat) : State := if vectorState s v then signalVector s v else s

/-- R52: an event bit of a page's secure latches set. -/
def setLatch (s : State) (page bit : Nat) : State :=
  let k := (F.IRQ_RAW page).key
  { s with mech := { s.mech with second := mapPut s.mech.second k (withBit (mapVal s.mech.second k) bit) } }

/-- R40, R50, R52: an event sets its IRQ_RAW bit and its secure latch; the page's vector is signalled if its state rises. -/
def raiseIrq (s : State) (page bit : Nat) : State :=
  onRise s (vectorOf s page)
    ((setLatch s page bit).set (F.IRQ_RAW page) (withBit (s.get (F.IRQ_RAW page)) bit))

/-- R44: an effective mirror of a page at an offset takes values: its fields, the page's sequence and reason, and
EFF_CHANGED; what was evaluated for it is superseded. -/
def setMirrors (s : State) (page offset : Nat) (l : List (Field × Nat)) (reason : Nat) : State :=
  let keep := s.mech.evaluated.filter (fun e => !decide (e.1 = page * 0x1000 + offset))
  let t := { s.setAll l with mech := { s.mech with evaluated := keep } }
  raiseIrq (((t.step1 (F.PAGE_EFF_SEQ page)).set (F.PAGE_EFF_REASON_WORD page) ((offset - 0x800) / 8)).set
    (F.PAGE_EFF_REASON_REASON page) reason) page 31

/-- R44: a mirror of one field changes, if its value differs. -/
def moveMirror (s : State) (page offset : Nat) (f : Field) (v reason : Nat) : State :=
  if s.get f = v then s else setMirrors s page offset [(f, v)] reason

end Sys2Proof.Machine
end

