-- ==== Sys2Proof/Machine/Report.lean ====
section
/-! DEFINITION. Machine/Report.lean: reporting: access errors captured on pages and in HIF.ACC_STATUS (R37, R40, R41), and
errors posted to the error ring (R441 to R445, R509). -/

namespace Sys2Proof.Machine

/-- R40: an error is captured on a page: the first in ERR_FIRST and ERR_INFO, later ones in ERR_COUNT. -/
def capturePage (s : State) (page code master off i0 i1 i3 : Nat) : State :=
  if pageHasHeader page then
    if s.on (F.ERR_FIRST_VALID page) then s.bump (F.ERR_COUNT page)
    else raiseIrq (s.setAll [(F.ERR_FIRST_VALID page, 1), (F.ERR_FIRST_CODE page, code), (F.ERR_FIRST_MASTER page, master),
      (F.ERR_FIRST_OFFSET page, off), (F.ERR_INFO page 0, i0), (F.ERR_INFO page 1, i1), (F.ERR_INFO page 2, s.now),
      (F.ERR_INFO page 3, i3)]) page 30
  else s

/-- R37: a dropped or failed host access is counted, and the first is captured. -/
def captureHost (s : State) (code master page off : Nat) : State :=
  let t := s.bump F.HIF_ACC_DROPS_COUNT
  if t.on F.HIF_ACC_STATUS_VALID then t
  else t.setAll [(F.HIF_ACC_STATUS_VALID, 1), (F.HIF_ACC_STATUS_CODE, code), (F.HIF_ACC_STATUS_MASTER, master),
    (F.HIF_ACC_STATUS_PAGE, page), (F.HIF_ACC_STATUS_WORD, off / 4)]

/-- R41, R45: an access error is logged: on its page, and for a host access in HIF.ACC_STATUS. `size` is the access size. -/
def logAccess (s : State) (m : Master) (page off code data size : Nat) : State :=
  let t := capturePage s page code m.code off (data % 2 ^ 32) (data / 2 ^ 32) (size % 256)
  if m.host then captureHost t code m.code page off else t

/-- An error as its source detects it (R442): the source's page, class, code, severity, unit and INFO, and whether it was
injected (R460). -/
structure Err where
  page : Nat
  cls : Nat
  code : Nat
  sev : Nat
  unit : Nat
  info : Nat := 0
  injected : Bool := false
  escalated : Bool := false
deriving DecidableEq, Repr

/-- R444: the same class, code and unit. -/
def ErrEntry.same (e : ErrEntry) (x : Err) : Bool :=
  decide (e.cls = x.cls) && decide (e.code = x.code) && decide (e.unit = x.unit)

/-- R443: the entry an error makes. -/
def Err.entry (x : Err) (seq time : Nat) (after : Bool) : ErrEntry :=
  ⟨seq, x.cls, x.sev, x.code, time, x.unit, 0, 0, false, x.escalated, after, x.injected, false, x.info⟩

/-- The error manager changed. -/
def State.setErr (s : State) (f : ErrMgr → ErrMgr) : State := { s with err := f s.err }

/-- ERR.RING shows the ring and the held entries. -/
def showRing (s : State) : State :=
  s.setAll [(F.ERR_RING_OCCUPIED, s.err.ring.length), (F.ERR_RING_HELD, s.err.held.length)]

/-- R445: an overflow: the sticky flag and its interrupt. -/
def ringOverflow (s : State) : State := raiseIrq (s.set F.ERR_STATE_RING_OVF 1) 0x180 1

/-- R444: an entry is admitted with the next SEQ. -/
def admitEntry (s : State) (e : ErrEntry) : State :=
  let q := (s.get F.ERR_SEQ_SEQ + 1) % 2 ^ 32
  showRing ((s.set F.ERR_SEQ_SEQ q).setErr (fun r =>
    { r with ring := r.ring ++ [{ e with seq := q, afterDrop := r.dropPending }], dropPending := false }))

/-- R444: how an error's source captures it on its page: by the SEQ of the entry in the ring, as one more of the page's count,
or when the entry that it holds is posted. -/
inductive Posted where
  | named (seq : Nat)
  | counted
  | held
deriving DecidableEq, Repr

/-- R445: the newest entry of the lowest severity among some entries of the ring. -/
def ringVictim (ring : List ErrEntry) : Option ErrEntry :=
  ring.foldl (fun b e =>
    match b with
    | none => some e
    | some c => if e.sev ≤ c.sev then some e else some c) none

/-- R445: a drop: counted, and the next entry admitted carries AFTER_DROP. -/
def dropEntry (s : State) : State :=
  ringOverflow ((s.bump F.ERR_DROPPED_COUNT).setErr (fun r => { r with dropPending := true }))

/-- R445: the source that holds an entry meets another error: an identical one is coalesced into it; one of severity 2 or above
takes its place if it is more severe, with FOLDED on the one held; what is left out is counted on the page. -/
def foldEntry (s : State) (x : Err) (e h : ErrEntry) : State × Posted :=
  if h.same x then
    (s.setErr (fun r => { r with held := assocPut r.held x.page { h with rep := Nat.min (h.rep + 1) 0xFFFF } }), .held)
  else if x.sev ≤ 1 then (s, .counted)
  else
    (ringOverflow (s.setErr (fun r =>
      { r with held := assocPut r.held x.page (if h.sev < x.sev then { e with folded := true } else { h with folded := true }) })), .counted)

/-- R445: a full ring: an entry of severity 0 or 1 below the new one's gives way, or the new one is dropped, or the source holds it.
An entry of severity 2 or above is never dropped (log entry 32). -/
def postFull (s : State) (x : Err) (e : ErrEntry) : State × Posted :=
  match ringVictim (s.err.ring.filter (fun v => decide (v.sev < x.sev) && decide (v.sev ≤ 1))) with
  | some v =>
    let t := admitEntry (dropEntry (s.setErr (fun r => { r with ring := r.ring.erase v }))) e
    (t, .named (t.get F.ERR_SEQ_SEQ))
  | none =>
    if x.sev ≤ 1 then (dropEntry s, .counted)
    else (showRing (ringOverflow (s.setErr (fun r => { r with held := r.held ++ [(x.page, e)] }))), .held)

/-- R444, R445: an error is posted: coalesced with an unserviced entry, or with one that its source holds, admitted, or handled as a
full ring requires. -/
def postEntry (s : State) (x : Err) : State × Posted :=
  match s.err.ring.find? (fun e => e.same x) with
  | some old =>
    (s.setErr (fun r => { r with ring := r.ring.map (fun e => if e.same x then { e with rep := Nat.min (e.rep + 1) 0xFFFF } else e) }),
      .named old.seq)
  | none =>
    let e := { x.entry 0 s.now false with injected := x.injected || s.err.injecting }
    match assoc s.err.held x.page with
    | some h => foldEntry s x e h
    | none =>
      if s.err.ring.length < 64 then
        let t := admitEntry s e
        (t, .named (t.get F.ERR_SEQ_SEQ))
      else postFull s x e

/-- R444: a source's capture of code 0x7F with the SEQ of its entry. -/
def captureSeq (s : State) (page seq : Nat) : State := capturePage s page 0x7F 7 0 seq 0 0

/-- R444, R445, R509: the capture of an error on its source's page: code 0x7F with the SEQ, a count, or a code of the source's
own. -/
def captureErr (r : State × Posted) (x : Err) (own : Option (Nat × Nat × Nat)) : State :=
  match own, r.2 with
  | some c, _ => capturePage r.1 x.page c.1 c.2.1 0 c.2.2 0 0
  | none, .named q => captureSeq r.1 x.page q
  | none, .counted => if pageHasHeader x.page then r.1.bump (F.ERR_COUNT x.page) else r.1
  | none, .held => r.1

/-- R444: an error is detected: counted by class and severity, posted, and captured on its page. `own` gives a capture code,
master and ERR_INFO0 where the source's rule has its own. -/
def raiseWith (s : State) (x : Err) (own : Option (Nat × Nat × Nat)) : State :=
  captureErr (postEntry ((s.bump (F.ERR_CLASS_COUNT_COUNT (x.cls - 1))).bump (F.ERR_SEV_COUNT_COUNT x.sev)) x) x own

/-- R444: an error is detected, captured with code 0x7F. -/
def raise (s : State) (x : Err) : State := raiseWith s x none

/-- R416, R509: a non-secure access to a secure page or field: logged on the page with code 0x04, and class ACCESS. -/
def worldViolation (s : State) (m : Master) (page off data size : Nat) : State :=
  let t := logAccess s m page off 0x04 data size
  (postEntry ((t.bump (F.ERR_CLASS_COUNT_COUNT (0x13 - 1))).bump (F.ERR_SEV_COUNT_COUNT 0))
    { page := page, cls := 0x13, code := 0x04, sev := 0, unit := page, info := off % 4096 + m.code * 4096 }).1

/-- R417, R509: a non-secure DRAM access that the regions refuse. -/
def dramDenied (s : State) (mcode a n : Nat) : State :=
  raiseWith (s.bump F.SEC_DENIED_COUNT)
    { page := 0x170, cls := 0x11, code := 1, sev := 0, unit := deniedUnit s a n, info := a }
    (some (0x04, mcode, a % 2 ^ 32))

/-- R358: the rank (channel × 4 + rank) that serves a rank of the address map: the target of the last remap entry that is
DONE for it. -/
def servingRank (s : State) (unit : Nat) : Nat :=
  (List.range 4).foldl (fun u e =>
    if s.get (F.DMC_REMAP_STATE e) = 2 ∧ s.get (F.DMC_REMAP_FROM_CH e) * 4 + s.get (F.DMC_REMAP_FROM_RANK e) = unit
    then s.get (F.DMC_REMAP_TO_CH e) * 4 + s.get (F.DMC_REMAP_TO_RANK e) else u) unit

/-- R358: the rank that a device address lies in. -/
def rankOf (s : State) (a : Nat) : Option Nat := (dramDecode s a).map (fun p => servingRank s (p.ch * 4 + p.rank))

/-- R358: a request to spare a rank. -/
def requestSparing (s : State) (unit : Nat) : State :=
  if s.dmc.requests.contains unit then s else { s with dmc := { s.dmc with requests := s.dmc.requests ++ [unit] } }

/-- R358: an uncorrectable word of a rank in service: counted, logged, put on the rebuild list, and a sparing requested. -/
def dramUe (s : State) (a : Nat) : State :=
  match rankOf s a with
  | none => s
  | some unit =>
    let t := raiseIrq (raiseIrq (raise (s.bump (F.DMC_UE_COUNT_COUNT (unit / 4) (unit % 4)))
      { page := 0x120 + unit / 4, cls := 0x02, code := 2, sev := 2, unit := unit, info := a,
        injected := s.dmc.injected.contains (a / 8 * 8) }) (0x120 + unit / 4) 0) 0x130 0
    requestSparing { t with dmc := { t.dmc with rebuild := insertNat t.dmc.rebuild a } } unit

/-- R358: a rank's correctable errors of the last 24 h. -/
def rankErrors (s : State) (unit : Nat) : Nat :=
  (s.dmc.ceTimes.filter (fun e => decide (e.1 = unit) && decide (s.now < 86400000000000 + e.2))).length

/-- R358: a corrected word of a rank: counted, logged and, beyond CE_LIMIT within 24 h, a request to spare the rank. -/
def rankCe (s : State) (unit a : Nat) : State :=
  let t := raise (s.bump (F.DMC_CE_COUNT_COUNT (unit / 4) (unit % 4)))
    { page := 0x120 + unit / 4, cls := 0x02, code := 1, sev := 0, unit := unit, info := a,
      injected := s.dmc.injected.contains (a / 8 * 8) }
  let u : State := { t with dmc := { t.dmc with
    ceTimes := (t.dmc.ceTimes.filter (fun e => decide (t.now < 86400000000000 + e.2))) ++ [(unit, t.now)] } }
  if s.get F.DMC_SPARE_CFG_CE_LIMIT < rankErrors u unit ∧ u.dmc.requests.contains unit = false then
    requestSparing (raise u { page := 0x120 + unit / 4, cls := 0x02, code := 3, sev := 2, unit := unit }) unit
  else u

/-- R439: a correctable word of device memory is corrected and written back. -/
def dramCe (s : State) (a : Nat) : State :=
  match rankOf s a with
  | none => s
  | some unit =>
    let t := rankCe s unit a
    { t with mem := { t.mem with weakDram := t.mem.weakDram.filter (fun w => !decide (w = a)) },
             dmc := { t.dmc with injected := t.dmc.injected.filter (fun w => !decide (w = a)) } }

/-- R358, R362, R439: the uncorrectable and the correctable words that a read of a range meets are reported. -/
def reportBad (s : State) (a n : Nat) : State :=
  let ws := wordsOf a n
  let t := (ws.filter (fun w => s.mem.badDram.contains w)).foldl dramUe s
  (ws.filter (fun w => t.mem.weakDram.contains w)).foldl dramCe t

/-- R460: an injection armed for a target is made by what a function does: its entries carry INJECTED. -/
def injected (s : State) (f : State → State) : State :=
  let t := f ((s.setAll [(F.ERR_INJECT_ARM, 0), (F.ERR_INJECT_DONE, 1)]).setErr (fun r => { r with injecting := true }))
  t.setErr (fun r => { r with injecting := false })

/-- R460: is an injection armed for a memory target and unit? -/
def injectArmed (s : State) (target unit : Nat) : Bool :=
  s.on F.ERR_INJECT_ARM && decide (s.get F.ERR_INJECT_KIND ≤ 2) && decide (s.get F.ERR_INJECT_TARGET = target) &&
    decide (s.get F.ERR_INJECT_UNIT = unit)

/-- R451: an error in an on-die memory, by the kind injected: corrected, uncorrectable or poisoned; nothing is lost of it but
what R451 says. The number of the macro is open (log entry 26). -/
def macroError (s : State) (page target unit : Nat) : State :=
  raise s { page := page, cls := 0x01, code := s.get F.ERR_INJECT_KIND + 1, sev := 0, unit := Config.macroOf target unit % 2 ^ 32 }

/-- R33, R362, R417: a non-secure read of device DRAM by a block: none where there is no DRAM, where the regions refuse it
(reported), or where a word is uncorrectable or poisoned (reported). -/
def dramFetch (s : State) (mcode a n : Nat) : State × Option (List Byte) :=
  if !dramBehind s a n then (s, none)
  else if rangeSecure s a n then (dramDenied s mcode a n, none)
  else if dramBad s a n then (reportBad s a n, none)
  else (reportBad s a n, some (dramRead s a n))

/-- R362: a secure read of device DRAM by a block. -/
def dramFetchSecure (s : State) (a n : Nat) : State × Option (List Byte) :=
  if !dramBehind s a n then (s, none)
  else if dramBad s a n then (reportBad s a n, none)
  else (reportBad s a n, some (dramRead s a n))

/-- R415, R417: a non-secure write of device DRAM by a block: whether it was made. -/
def dramStore (s : State) (mcode a : Nat) (bs : List Byte) : State × Bool :=
  if !dramBehind s a bs.length then (s, false)
  else if rangeSecure s a bs.length then (dramDenied s mcode a bs.length, false)
  else (dramWrite s a bs, true)

/-- R92, R313, R473: a block's read from host memory (a member asks the head) or device DRAM. -/
def blockFetch (s : State) (host : Bool) (a n : Nat) : State × Option (List Byte) :=
  if host then
    let t := hostAsk s a n 0
    if t.isMember || t.pcie.linkUp then (t, some (hostRead t a n)) else (t, none)
  else dramFetch s 7 a n

/-- R313, R417, R473: a block's write to host memory or device DRAM: whether it was made or left to the link. -/
def blockStore (s : State) (host : Bool) (a : Nat) (bs : List Byte) : State × Bool :=
  if host then (hostSend s a bs, true) else dramStore s 7 a bs

end Sys2Proof.Machine
end

