-- ==== Sys2Proof/Machine/Rules.lean ====
section
/-! DEFINITION. Machine/Rules.lean: the refusals of a register write that a block's own rules add to those of the page: each
block's code 0x20, and reserved combinations (0x02). `registerRule` judges the write of a whole register, `fieldRule` one
field of it. -/

namespace Sys2Proof.Machine

/-- A field's value as a write's pieces would leave it. -/
def newValue (s : State) (pieces : Map) (f : Field) : Nat :=
  match mapGet pieces (f.lo / 32) with
  | some v => bitsOf v (f.lo % 32) f.w
  | none => s.get f

/-- R162, R217, R402, R418, R432: the refusals by page: the schedule bank in force, a view range without extent, what a pending
correction set holds, a locked region (logged as a locked field, log entry 30), and a mailbox that is busy. -/
def pagesRule (s : State) (m : Master) (base : Nat) (pieces : Map) : Option Nat :=
  let page := base / 0x1000
  let off := base % 0x1000
  if page = 0x082 + s.get F.DRU_SCHED_SELECT_ACTIVE ∧ 0x100 ≤ off then some 0x20
  else if base = 0xA110C ∧ newValue s pieces F.VWB_RANGE_MAX_MM ≤ newValue s pieces F.VWB_RANGE_MIN_MM then some 0x02
  else if page = 0x151 ∧ 0x140 ≤ off ∧ s.on F.CAL_APPLY_PENDING = true then some 0x20
  else if base = 0x151100 ∧ newValue s pieces F.CAL_APPLY_ARM = 1 ∧ s.on F.CAL_APPLY_PENDING = true then some 0x20
  else if base = 0xDE134 ∧ m.host = true ∧ s.on F.CAL_APPLY_PENDING = true then some 0x20
  else if page = 0x171 ∧ 0x100 ≤ off ∧ off < 0x300 ∧ s.on (F.SEC_REGION_LOCK ((off - 0x100) / 8)) = true then some 0x05
  else if base = 0x2110 ∧ newValue s pieces F.HIF_MBX_CMD_GO = 1 ∧ s.on F.HIF_MBX_CMD_BUSY = true then some 0x20
  else none

/-- The code with which a block refuses the write of a register, by the register's address. -/
def registerRule (s : State) (m : Master) (base : Nat) (pieces : Map) : Option Nat :=
  if base = 0x21100 then
    if s.on F.QMG_CTX_CMD_BUSY then some 0x20
    else if 4 ≤ newValue s pieces F.QMG_CTX_CMD_OP then some 0x02 else none
  else if 0xB1 ≤ base / 0x1000 ∧ base / 0x1000 ≤ 0xB8 then
    if s.isMember && m.host then some 0x21
    else if 0x100 ≤ base % 0x1000 ∧ (List.range 4).any (fun g => s.on (F.CMP_FLIP_CTRL_ARMED g) &&
        hasBit (s.get (F.CMP_FLIP_CTRL_PLANES g)) (base / 0x1000 - 0xB1)) = true then some 0x20 else none
  else if 0xF0 ≤ base / 0x1000 ∧ base / 0x1000 ≤ 0xFF then
    let g := base / 0x1000 - 0xF0
    if base % 0x1000 = 0x104 ∧ newValue s pieces (F.SER_CTRL_ENABLE g) = 1 ∧ s.on (F.SER_LOOP_MODE g) = true then some 0x20
    else if base % 0x1000 = 0x310 ∧ newValue s pieces (F.SER_LOOP_MODE g) ≠ 0 ∧ s.on (F.SER_CTRL_ENABLE g) = true then some 0x20
    else if base % 0x1000 = 0x300 ∧ newValue s pieces (F.SER_EYE_CTRL_START g) = 1 ∧ s.on (F.SER_EYE_CTRL_BUSY g) = true then some 0x20
    else none
  else if base / 0x1000 = 0x140 ∧ [0x10C, 0x110, 0x118, 0x120, 0x124].contains (base % 0x1000) = true then
    if s.get F.LFT_BUF_CLAIM_HOLDER ≠ 0xF ∧ s.get F.LFT_BUF_CLAIM_HOLDER ≠ m.code then some 0x20
    else if (base % 0x1000 = 0x110 ∨ base % 0x1000 = 0x118) ∧ s.on F.LFT_CMD_STATUS_BUSY = true then some 0x20
    else if base % 0x1000 = 0x118 ∧ s.on F.LFT_BUF_FILL_BUSY = true then some 0x20
    else none
  else if 0x90 ≤ base / 0x1000 ∧ base / 0x1000 ≤ 0x97 ∧ base % 0x1000 = 0x100 ∧ s.on (F.CAM_CFG_ENABLE (base / 0x1000 - 0x90)) = true then
    let p := base / 0x1000 - 0x90
    let changes (f : Field) : Bool := !decide (newValue s pieces f = s.get f)
    if changes (F.CAM_CFG_LANES p) || changes (F.CAM_CFG_VC p) || changes (F.CAM_CFG_FORMAT p) || changes (F.CAM_CFG_COLOUR p) ||
        changes (F.CAM_CFG_BAYER p) || changes (F.CAM_CFG_PIPE p) || changes (F.CAM_CFG_CLASS p) || changes (F.CAM_CFG_EXP_LATENCY p) ||
        changes (F.CAM_CFG_TRIGGERED p) || changes (F.CAM_CFG_FSYNC_TRIG p) then some 0x20 else none
  else if base = 0x110 ∧ newValue s pieces F.GLB_RESET_DO = 1 then
    (if newValue s pieces F.GLB_RESET_KEY = 0xD1CE then none else some 0x20)
  else if base = 0x190100 ∧ newValue s pieces F.BST_CTRL_GO = 1 then
    if s.get F.PNL_SEQ_STATE_STATE = 5 ∧ s.power.off = .command ∧ s.get F.BST_STATE_STATE ≤ 1 then none else some 0x20
  else if base / 0x10 = 0x13010 + 0xC + s.get F.DMC_SPEED_ACTIVE then some 0x20
  else if 0x120 ≤ base / 0x1000 ∧ base / 0x1000 ≤ 0x12F ∧ base % 0x1000 = 0x140 ∧
      newValue s pieces (F.DMC_LOOP_START (base / 0x1000 - 0x120)) = 1 then
    let c := base / 0x1000 - 0x120
    let r := newValue s pieces (F.DMC_LOOP_RANK c)
    if s.get (F.DMC_CH_STATE_STATE c) < 2 ∨ hasBit (s.get F.DMC_SPARE_SET_RANKS) (3 * c + r) = true then none else some 0x20
  else pagesRule s m base pieces

/-- The code with which a block refuses the write of one field. -/
def fieldRule (s : State) (f : Field) (v : Nat) : Option Nat :=
  if f.key = F.QMG_CTRL_ENABLE.key ∧ v = 1 ∧ s.get F.GLB_START_STAGE < 3 then some 0x20
  else if 0xB1 ≤ f.addr / 0x1000 ∧ f.addr / 0x1000 ≤ 0xB8 ∧ f.addr % 0x1000 = 0x108 ∧ f.lo = 0 then
    (if s.role = 0 then (if [0x00, 0x01, 0x02, 0x10, 0x11, 0x12, 0x13].contains v then none else some 0x02)
     else if [0x00, 0x01, 0x02].contains v then none else some 0x02)
  else if f.key = F.DRU_REQ_RPM.key ∧ 21600 < v * s.get F.DRU_STATE_FACETS then some 0x02
  else if 0xDE104 ≤ f.addr ∧ f.addr ≤ 0xDE118 ∧ toSigned v 16 < s.getInt (F.OVD_TBAND_EDGE_EDGE ((f.addr - 0xDE104) / 4)) + 64 then some 0x02
  else none

end Sys2Proof.Machine
end

