-- ==== Sys2Proof/Machine/Access.lean ====
section
/-! DEFINITION. Machine/Access.lean: a master's access to the register pages: which register an address names, what a read
returns and clears, how a write is judged (R4 to R8, R36, R38, R40, R45, R416) and what of it takes effect. -/

namespace Sys2Proof.Machine

/-- Every register row of the spec's tables. -/
def regRows : List Reg := R.tableA ++ R.tableB ++ R.tableC ++ R.tableD

/-- The register an address lies in: the register's address, its width, the 4-byte piece addressed, its fields. -/
structure RowHit where
  base : Nat
  bits : Nat
  piece : Nat
  fields : List Field
deriving DecidableEq, Repr

/-- Does a row hold an offset of a page? -/
def Reg.hit (r : Reg) (page off : Nat) : Option RowHit :=
  if r.pLo ≤ page ∧ page ≤ r.pHi ∧ r.off ≤ off then
    if r.n = 1 then
      if off < r.off + r.bits / 8 then
        some ⟨page * 0x1000 + r.off, r.bits, (off - r.off) / 4, r.flds (page - r.pLo) 0⟩
      else none
    else
      let i := (off - r.off) / r.stride
      if i < r.n ∧ off - r.off - i * r.stride < r.bits / 8 then
        some ⟨page * 0x1000 + r.off + i * r.stride, r.bits, (off - r.off - i * r.stride) / 4, r.flds (page - r.pLo) i⟩
      else none
  else none

/-- R40: the writable registers of the common header; IRQ_CLR is treated apart. -/
def headerHit (page off : Nat) : Option RowHit :=
  let a := page * 0x1000 + off
  match off with
  | 0x008 => some ⟨a, 32, 0, [F.PAGE_CTRL_IRQ_GATE page]⟩
  | 0x010 => some ⟨a, 32, 0, [F.IRQ_RAW page]⟩
  | 0x014 => some ⟨a, 32, 0, [F.IRQ_EN page]⟩
  | 0x020 => some ⟨a, 32, 0, [F.PAGE_SEC_LOCK page, F.PAGE_SEC_WORLD page]⟩
  | 0x024 => some ⟨a, 32, 0, [F.PAGE_OWNER_OWNER page]⟩
  | 0x028 => some ⟨a, 32, 0, [F.ERR_FIRST_VALID page, F.ERR_FIRST_CODE page, F.ERR_FIRST_MASTER page, F.ERR_FIRST_OFFSET page]⟩
  | 0x02C => some ⟨a, 32, 0, [F.ERR_COUNT page]⟩
  | 0x030 => some ⟨a, 32, 0, [F.ERR_INFO page 0]⟩
  | 0x034 => some ⟨a, 32, 0, [F.ERR_INFO page 1]⟩
  | 0x038 => some ⟨a, 32, 0, [F.ERR_INFO page 2]⟩
  | 0x03C => some ⟨a, 32, 0, [F.ERR_INFO page 3]⟩
  | 0x040 => some ⟨a, 32, 0, [F.PAGE_EFF_SEQ page]⟩
  | 0x044 => some ⟨a, 32, 0, [F.PAGE_EFF_REASON_WORD page, F.PAGE_EFF_REASON_REASON page]⟩
  | _ => none

/-- R48: the MSI-X table's words, in the PCI Express layout (log entry 6). -/
def msixHit (a : Nat) : Option RowHit :=
  let v := (a - 0x8000) / 16
  match a % 16 / 4 with
  | 0 => some ⟨a, 32, 0, [F.MSIX_ADDR_LO v]⟩
  | 1 => some ⟨a, 32, 0, [F.MSIX_ADDR_HI v]⟩
  | 2 => some ⟨a, 32, 0, [F.MSIX_DATA v]⟩
  | _ => some ⟨a, 32, 0, [F.MSIX_MASK v]⟩

/-- The register an address names, if any. The I²C registers stand on the even CAM pages (R196). -/
def findRow (addr : Nat) : Option RowHit :=
  let page := addr / 0x1000
  let off := addr % 0x1000
  if 0x008 ≤ page ∧ page ≤ 0x00F then msixHit addr
  else if page = 0x007 ∧ 0x100 ≤ off ∧ off < 0x200 then
    some ⟨addr, 32, 0, (List.range 32).map (fun b => F.MSIX_PBA ((off - 0x100) / 4 * 32 + b))⟩
  else if pageHasHeader page && decide (off < 0x100) then headerHit page off
  else if 0x090 ≤ page ∧ page ≤ 0x097 ∧ page % 2 = 1 ∧ 0x200 ≤ off ∧ off < 0x214 then none
  else regRows.findSome? (fun r => r.hit page off)

/-! ### Reads -/

/-- R40: the header words that hold no field: PAGE_ID, PAGE_CAP, PAGE_STAT, IRQ_PEND and the read of IRQ_CLR. -/
def headerWord (s : State) (page off : Nat) : Option Nat :=
  match off with
  | 0x000 => match blockOf page with
    | some b => some (b.1 * 2 ^ 16 + (page - b.1) * 2 ^ 8 + 0x10)
    | none => some 0
  | 0x004 => some (b2n (hasMirror page) * 2 ^ 31 + b2n (ctrlPage page) * 2 ^ 30)
  | 0x00C => some (s.pageOwner page * 2 ^ 31 + s.get (F.PAGE_SEC_LOCK page) * 2 ^ 30 + s.pageWorld page * 2 ^ 29 +
      s.get (F.ERR_FIRST_VALID page) * 2 ^ 28)
  | 0x018 => some (irqPend s page)
  | 0x01C => some (s.get (F.IRQ_RAW page))
  | _ => none

/-- R49: INT.PAGE_PEND[k]: the summaries of 32 pages. -/
def pagePendWord (s : State) (k : Nat) : Nat :=
  (rawPages s).foldl (fun w p => if p / 32 = k ∧ pageSummary s p = true then withBit w (p % 32) else w) 0

/-- R469: is a clock domain gated? -/
def domainGated (s : State) (d : Nat) : Bool :=
  if d < 12 then s.on (F.STL_STATE_STATE d)
  else if 33 ≤ d ∧ d ≤ 40 then !s.on (F.CAM_CFG_ENABLE (d - 33))
  else decide (d = 47) && !(decide (2 ≤ s.get F.BST_STATE_STATE) && decide (s.get F.BST_STATE_STATE ≤ 5))

/-- R468: the frequency of a clock domain's clock, in MHz. -/
def domainMhz (s : State) (d : Nat) : Nat :=
  if d < 12 then (match s.get (F.STL_STATE_LANE_CLOCK d) with | 0 => 1600 | 1 => 1400 | _ => 1200)
  else if d < 18 then 1200
  else if d = 18 then 1000
  else if d < 23 then (if s.get F.DMC_SPEED_ACTIVE = 0 then 600 else 200)
  else if d = 23 then 1000
  else if d < 33 then 625
  else if d < 41 then Nat.min 312 (s.get (F.CAM_PHY_RATE (d - 33)) / 8)
  else if d < 43 then 600
  else if d = 43 then 1000
  else if d = 44 then 500
  else if d = 45 then 250
  else if d = 46 then 25 else s.get F.BST_STATE_TEST_MHZ

/-- R469, R470, R479: a field of CKP.DOMAIN: the clocks run from start-up on, the always-on clock from the start. -/
def domainField (s : State) (d lo : Nat) : Nat :=
  let lost := s.power.unlocked.contains d
  let run := (s.mech.loaded.isSome || decide (d = 46)) && !domainGated s d && !lost
  match lo with
  | 31 => b2n run
  | 30 => b2n (domainGated s d)
  | 29 => b2n ((s.mech.loaded.isSome || decide (d = 46)) && !lost)
  | _ => if run then domainMhz s d else 0

/-- R197: a pipeline's busy time over the last 100 ms, in percent. -/
def ippLoad (s : State) (i : Nat) : Nat :=
  match s.cams.pipes[i]? with
  | none => 0
  | some x =>
    let from' := s.now - 100000000
    let open' := match x.running with | some r => [(r.2.2.2, s.now)] | none => []
    Nat.min ((x.busy ++ open').foldl (fun v e => v + (e.2 - Nat.max e.1 from')) 0 / 1000000) 100

/-- What a field shows: PAGE_SEC.WORLD and PAGE_OWNER follow State.pageWorld and State.pageOwner, and the fields that follow
other state are computed from it; channel waits and bandwidths are open (log entry 31). -/
def fieldNow (s : State) (f : Field) : Nat :=
  if f.addr % 0x1000 = 0x020 ∧ f.lo = 0 ∧ f.acc = .srw ∧ f.ld = true then s.pageWorld (f.addr / 0x1000)
  else if f.addr % 0x1000 = 0x024 ∧ f.acc = .srw ∧ f.ld = true then s.pageOwner (f.addr / 0x1000)
  else if f.addr = 0x110124 ∧ f.lo = 26 then (if s.yard.cur.parent < 4 then s.yard.cur.parent else 0)
  else if f.addr = 0x98118 ∨ f.addr = 0x99118 then ippLoad s (f.addr / 0x1000 - 0x98)
  else if 0x120 ≤ f.addr / 0x1000 ∧ f.addr / 0x1000 ≤ 0x12F ∧ (f.addr % 0x1000 = 0x138 ∨ f.addr % 0x1000 = 0x13C) then
    Config.dramTiming f.key s.now % 2 ^ f.w
  else if 0x1A0140 ≤ f.addr ∧ f.addr < 0x1A0200 then domainField s ((f.addr - 0x1A0140) / 4) f.lo
  else s.get f

/-- The number under which a master's capture or hold of a 4-byte piece stands (R5). -/
def pieceKey (m : Master) (a : Nat) : Nat := m.code * 2 ^ 40 + a

/-- R145, R173: the registers whose upper bits read as the sign extension of VALUE: RSY.FACET_SLOPE, RSY.FACET_OFFSET and
DRU.ANGLE_CORR. -/
def signExtended (f : Field) : Bool :=
  decide (f.addr = 0x70164) || (decide (0x70170 ≤ f.addr) && decide (f.addr < 0x70190)) ||
    (decide (0x84100 ≤ f.addr) && decide (f.addr < 0x84200))

/-- R7, R326: what a master reads of a field; TIM.FRAC is what its last read of TIM.TIME captured. -/
def fieldRead (s : State) (m : Master) (f : Field) : Nat :=
  if f.addr = 0x110108 then mapVal s.mech.captures (pieceKey m f.addr)
  else match f.acc with
  | .wo => 0
  | .srw => if m.secure then fieldNow s f else 0
  | _ => if signExtended f then ofSigned (toSigned (fieldNow s f) f.w) 32 else fieldNow s f

/-- The whole register as a master reads it. -/
def regValue (s : State) (m : Master) (h : RowHit) : Nat :=
  h.fields.foldl (fun v f => v + fieldRead s m f * 2 ^ f.lo) 0

/-- R7, R8: the RC fields among some cleared. -/
def clearRc (s : State) (fs : List Field) : State :=
  { s with regs := fs.foldl (fun r f => if f.acc = .rc then mapPut r f.key 0 else r) s.regs }

/-! ### Writes -/

/-- What becomes of a write to a field. -/
inductive Verdict where
  /-- Nothing, and nothing is logged. -/
  | skip
  /-- The field takes the value written. -/
  | take (v : Nat)
  /-- The write is dropped and logged with a code. -/
  | drop (code : Nat)
deriving DecidableEq, Repr

/-- R7, R45: would the bits written change the field? -/
def wouldChange (s : State) (f : Field) (v : Nat) : Bool :=
  match f.acc with
  | .ro => false
  | .rc => false
  | .wo => !decide (v = 0)
  | .w1c => !decide (Nat.land v (s.get f) = 0)
  | .w1s => !decide (andNot v (s.get f) = 0)
  | _ => !decide (v = fieldNow s f)

/-- R45: may the master write the page's control fields? -/
def ownsPage (s : State) (m : Master) (page : Nat) : Bool :=
  if s.pageOwner page = 0 then m.ozzizo
  else match m with
    | .pcie => !s.isMember
    | .xiesh => s.isMember
    | _ => false

/-- R39: PAGE_SEC and PAGE_OWNER of the pages whose world and owner are fixed from reset, which are read-only. -/
def headerReadOnly (f : Field) : Bool :=
  decide (f.acc = .srw) && f.ld && (decide (f.addr % 0x1000 = 0x020) || decide (f.addr % 0x1000 = 0x024)) && fixedHostPage (f.addr / 0x1000)

/-- R40, R416: the world and owner that no command changes on a page fixed secure, and LOCK, which only a reset clears. -/
def headerFixed (s : State) (f : Field) (v : Nat) : Bool :=
  let page := f.addr / 0x1000
  (decide (f.acc = .srw) && f.ld && (decide (f.addr % 0x1000 = 0x020) || decide (f.addr % 0x1000 = 0x024)) &&
    fixedSecurePage page && !(decide (f.addr % 0x1000 = 0x020) && decide (f.lo = 1))) ||
  (decide (f.addr % 0x1000 = 0x020) && decide (f.lo = 1) && decide (f.acc = .srw) && s.on f && decide (v = 0))

/-- R6, R7, R45: a write of a value to a field judged. -/
def judgeField (s : State) (m : Master) (f : Field) (v : Nat) : Verdict :=
  let page := f.addr / 0x1000
  match f.acc with
  | .ro => .skip
  | .rc => .skip
  | .srw =>
    if headerReadOnly f then .skip
    else if !m.secure then .drop 0x04
    else if headerFixed s f v then .skip
    else if !f.legal.ok v then .drop 0x02
    else .take v
  | a =>
    if !f.plain && !ownsPage s m page then (if wouldChange s f v then .drop 0x03 else .skip)
    else if a = .rwl ∧ s.pageLocked page = true then .drop 0x05
    else if !f.legal.ok v then .drop 0x02
    else .take v

/-- R7: a field takes a value written to it. -/
def storeField (s : State) (f : Field) (v : Nat) : State :=
  match f.acc with
  | .w1c => s.set f (andNot (s.get f) v)
  | .w1s => s.set f (Nat.lor (s.get f) v)
  | .wo => s
  | .ro => s
  | .rc => s
  | _ => s.set f v

/-- What a write came to: the state, the fields that took a value, and the code of the first drop. -/
structure Written where
  s : State
  took : List (Field × Nat)
  drop : Option Nat

/-- Did a write set a field? -/
def Written.tookField (w : Written) (f : Field) : Option Nat :=
  (w.took.find? (fun p => decide (p.1.key = f.key))).map Prod.snd

/-- The value written to a field by some pieces of its register: bits of pieces not written keep their value. -/
def fieldWritten (s : State) (f : Field) (pieces : Map) : Option Nat :=
  let js := (List.range (f.w / 32 + 2)).map (fun j => f.lo / 32 + j)
  let hit := js.filter (fun j => decide (32 * j < f.lo + f.w) && (mapGet pieces j).isSome)
  if hit.isEmpty then none
  else
    let cur := (match f.acc with | .wo => 0 | .w1c => 0 | .w1s => 0 | _ => fieldNow s f) * 2 ^ f.lo
    let all := hit.foldl (fun v j => withBits v (32 * j) 32 (mapVal pieces j)) cur
    some (bitsOf all f.lo f.w)

/-- The fields of a register judged and stored in order. -/
def writeFields (m : Master) (pieces : Map) : List Field → Written → Written
  | [], w => w
  | f :: fs, w =>
    match fieldWritten w.s f pieces with
    | none => writeFields m pieces fs w
    | some v =>
      let verdict := match judgeField w.s m f v with
        | .take u => match fieldRule w.s f u with
          | some c => Verdict.drop c
          | none => Verdict.take u
        | x => x
      match verdict with
      | .skip => writeFields m pieces fs w
      | .take u => writeFields m pieces fs ⟨storeField w.s f u, w.took ++ [(f, u)], w.drop⟩
      | .drop c => writeFields m pieces fs ⟨w.s, w.took, some (w.drop.getD c)⟩

/-- R41, R45, R416: the drop of a write is logged, and answered. -/
def logDrop (s : State) (m : Master) (addr data size : Nat) (drop : Option Nat) : State :=
  match drop with
  | none => s
  | some c =>
    let page := addr / 0x1000
    let off := addr % 0x1000
    if c = 0x04 then worldViolation s m page off data size
    else
      let t := logAccess s m page off c data size
      if c = 0x03 ∧ m.ozzizo = true then t.emit (.errorResponse m page off) else t

/-- R50: IRQ_CLR clears the bits written. -/
def clearRaw (s : State) (page v : Nat) : State := s.set (F.IRQ_RAW page) (andNot (s.get (F.IRQ_RAW page)) v)

/-- R5: the pieces of a register that a write applies: those written, and the master's held ones once the highest is
written; none while the highest is not. -/
def gatherPieces (s : State) (m : Master) (h : RowHit) (now : Map) : State × Map :=
  if h.bits ≤ 32 then (s, now)
  else
    let top := h.bits / 32 - 1
    if (mapGet now top).isSome then
      let held := (List.range top).filterMap (fun j =>
        (mapGet s.mech.holds (pieceKey m (h.base + 4 * j))).map (fun v => (j, v)))
      let holds := (List.range top).foldl (fun c j => mapDel c (pieceKey m (h.base + 4 * j))) s.mech.holds
      ({ s with mech := { s.mech with holds := holds } }, now.foldl (fun p q => mapPut p q.1 q.2) held)
    else
      let holds := now.foldl (fun c q => mapPut c (pieceKey m (h.base + 4 * q.1)) q.2) s.mech.holds
      ({ s with mech := { s.mech with holds := holds } }, [])

/-- A write of one or two words that lie in one register. -/
def writeReg (s : State) (m : Master) (h : RowHit) (now : Map) : Written :=
  let g := gatherPieces s m h now
  let w := writeFields m g.2 h.fields ⟨g.1, [], none⟩
  if w.took.isEmpty then w
  else match registerRule s m h.base g.2 with
    | some c => ⟨g.1, [], some c⟩
    | none => w

/-- R4: register pages take aligned 4-byte and 8-byte accesses. -/
def accessAligned (addr size : Nat) : Bool := (decide (size = 4) || decide (size = 8)) && decide (addr % size = 0)

/-- R50: what the interrupt router does after a write to a word: IRQ_EN and PAGE_CTRL re-evaluate their page's vector, an
INT.VEC entry the vector before and the vector after, and unmasking an MSI-X entry sends the message held for it (R48). -/
def routerAfter (before after : State) (a : Nat) : State :=
  let page := a / 0x1000
  let off := a % 0x1000
  if pageHasHeader page && (decide (off = 0x008) || decide (off = 0x014)) then reevaluate after (vectorOf after page)
  else if page = 0x010 ∧ 0x100 ≤ off ∧ off < 0x7C0 then
    let p := (off - 0x100) / 4
    let t := reevaluate after (vectorOf before p)
    if vectorOf t p = vectorOf before p then t else reevaluate t (vectorOf t p)
  else if 0x008 ≤ page ∧ page ≤ 0x00F ∧ a % 16 / 4 = 3 then
    let v := (a - 0x8000) / 16
    if !after.on (F.MSIX_MASK v) && after.on (F.MSIX_PBA v) then sendMsix (after.set (F.MSIX_PBA v) 0) v else after
  else after

/-- A write of one word. -/
def writeWord (m : Master) (a d : Nat) (w : Written) : Written :=
  let page := a / 0x1000
  if a % 0x1000 = 0x01C ∧ pageHasHeader page = true then
    ⟨reevaluate (clearRaw w.s page d) (vectorOf w.s page), w.took, w.drop⟩
  else match findRow a with
    | none => w
    | some h =>
      let r := writeReg w.s m h [(h.piece, d)]
      ⟨routerAfter w.s r.s a, w.took ++ r.took, w.drop.or r.drop⟩

/-- A write of two words: of one register together, of two registers one after the other. -/
def writePair (m : Master) (a d1 d2 : Nat) (w : Written) : Written :=
  match findRow a with
  | some h =>
    if 32 * (h.piece + 1) < h.bits then
      let r := writeReg w.s m h [(h.piece, d1), (h.piece + 1, d2)]
      ⟨r.s, w.took ++ r.took, w.drop.or r.drop⟩
    else writeWord m (a + 4) d2 (writeWord m a d1 w)
  | none => writeWord m (a + 4) d2 (writeWord m a d1 w)

/-- A write access of a master, judged whole (R4, R36, R38, R416) and then by field; the drop is logged. -/
def writeAccess (s : State) (m : Master) (addr size data : Nat) : Written :=
  let page := addr / 0x1000
  let off := addr % 0x1000
  if !accessAligned addr size then ⟨logAccess s m page off 0x01 data size, [], some 0x01⟩
  else if !pageImplemented page then ⟨logAccess s m page off 0x06 data size, [], some 0x06⟩
  else if s.isMember && decide (m = .pcie) && ctrlPage page then ⟨logAccess s m page off 0x07 data size, [], some 0x07⟩
  else if decide (s.pageWorld page = 0) && !m.secure then ⟨worldViolation s m page off data size, [], some 0x04⟩
  else
    let w :=
      if size = 4 then writeWord m addr (data % 2 ^ 32) ⟨s, [], none⟩
      else writePair m addr (data % 2 ^ 32) (data / 2 ^ 32 % 2 ^ 32) ⟨s, [], none⟩
    ⟨logDrop w.s m addr data size w.drop, w.took, w.drop⟩

end Sys2Proof.Machine
end

