-- ==== Sys2Proof/Machine/Shotecel.lean ====
section
/-! DEFINITION. Machine/Shotecel.lean: the Shotecel scene format (R53 to R85): headers, the order of checks 1 to 6, and the
lossless, lossy, fill and byte-mode codecs. Functions on byte lists alone. -/

namespace Sys2Proof.Machine

/-- R54: a block's header. -/
structure Header where
  magic : Nat
  version : Nat
  kind : Nat
  payloadLen : Nat
  target : Nat
  streamTag : Nat
  flags : Nat
deriving DecidableEq, Repr

/-- R54: the header of a block's bytes. -/
def headerOf (b : List Byte) : Header :=
  ⟨leAt b 0 2, leAt b 2 1, leAt b 3 1, leAt b 4 4, leAt b 8 4, leAt b 12 2, leAt b 14 2⟩

/-- R54: the layer set a block targets. -/
def Header.set (h : Header) : Nat := bitsOf h.target 18 2

/-- The classes of queue (R86). -/
inductive QClass where
  | tile | control | aux
deriving DecidableEq, Repr

/-- R86: the class of a queue. -/
def queueClass (q : Nat) : QClass :=
  if q % 4096 < 3600 then .tile else if q % 4096 = 3600 then .control else .aux

/-- R59: a kind's queue class and payload range; none for a reserved kind. -/
def kindRow (kind : Nat) : Option (QClass × Nat × Nat) :=
  match kind with
  | 0x01 => some (.control, 16, 16)
  | 0x02 => some (.control, 32, 32)
  | 0x10 => some (.tile, 5, 10244)
  | 0x11 => some (.tile, 1024, 1024)
  | 0x12 => some (.tile, 4, 4)
  | 0x20 => some (.control, 32, 32)
  | 0x21 => some (.control, 16, 16)
  | 0x22 => some (.control, 16, 16)
  | 0x23 => some (.control, 16, 16)
  | 0x30 => some (.aux, 33, 0x04000020)
  | 0x31 => some (.aux, 33, 215654)
  | 0x32 => some (.aux, 33, 0x02000020)
  | 0x33 => some (.aux, 33, 65568)
  | 0x34 => some (.aux, 33, 0x01000020)
  | 0x35 => some (.aux, 33, 1048608)
  | 0x36 => some (.aux, 33, 0x04000020)
  | _ => none

/-- R55: the length of a block with a payload of `n` bytes. -/
def blockLength (n : Nat) : Nat := 16 + 4 * ((n + 3) / 4) + 4

/-- R53: a block's payload. -/
def payloadOf (b : List Byte) : List Byte := (b.drop 16).take (headerOf b).payloadLen

/-- R53: a block's padding. -/
def paddingOf (b : List Byte) : List Byte :=
  (b.drop (16 + (headerOf b).payloadLen)).take (4 * (((headerOf b).payloadLen + 3) / 4) - (headerOf b).payloadLen)

/-- Are all bytes zero? -/
def allZero (bs : List Byte) : Bool := bs.all (fun b => decide (b = 0))

/-- R57 check 1. -/
def check1 (b : List Byte) (len : Nat) : Bool :=
  let h := headerOf b
  decide (20 ≤ len) && decide (h.magic = 0x5EC7) && decide (h.version = 0x10) &&
  decide (len = blockLength h.payloadLen) &&
  (match kindRow h.kind with
   | some r => decide (r.2.1 ≤ h.payloadLen) && decide (h.payloadLen ≤ r.2.2)
   | none => true)

/-- R57 check 2. -/
def check2 (b : List Byte) (len : Nat) : Bool := decide (leAt b (len - 4) 4 = crc32c (b.take (len - 4)))

/-- R57 check 3: kind, class, queue, and for a COMMIT the layer that carries it (R77). -/
def check3 (b : List Byte) (descKind queue : Nat) : Bool :=
  let h := headerOf b
  decide (h.kind = descKind) &&
  (match kindRow h.kind with
   | some r => decide (r.1 = queueClass queue)
   | none => false) &&
  decide (bitsOf h.target 0 18 = queue) &&
  (if h.kind = 0x20 then
     let mask := leAt (payloadOf b) 0 8
     decide (mask = 0) || hasBit mask (queue / 4096)
   else true)

/-- R57 check 4: reserved header fields and padding; for FENCE_SIGNAL the set too (R78). -/
def check4 (b : List Byte) : Bool :=
  let h := headerOf b
  decide (h.flags = 0) && decide (bitsOf h.target 20 12 = 0) && allZero (paddingOf b) &&
  (if h.kind = 0x21 then decide (h.set = 0) else true)

/-- R57 check 5, R60: the stream tag against the set's current tag. -/
def check5 (b : List Byte) (current : Nat) : Bool :=
  let h := headerOf b
  decide (h.kind = 0x01) || decide (h.streamTag = 0) || decide (h.streamTag = current)

/-! ### Coded bits -/

/-- A byte's bits, most significant first. -/
def byteBits (b : Byte) : List Bool := (List.range 8).map (fun i => hasBit b.toNat (7 - i))

/-- R72: coded data as bits in order. -/
def bitStream (bs : List Byte) : List Bool := bs.flatMap byteBits

/-- `n` bits, most significant first. -/
def readBits : Nat → List Bool → Nat → Option (Nat × List Bool)
  | 0, bs, v => some (v, bs)
  | _ + 1, [], _ => none
  | n + 1, b :: bs, v => readBits n bs (2 * v + b2n b)

/-- R70: one-bits up to a zero-bit, which is taken, or up to twelve. -/
def readOnes : Nat → List Bool → Nat → Option (Nat × List Bool)
  | 0, bs, q => some (q, bs)
  | _ + 1, [], _ => none
  | n + 1, b :: bs, q => if b then readOnes n bs (q + 1) else some (q, bs)

/-- R70: one code with Rice parameter `k`; none where the data runs out or the code is malformed. -/
def readCode (k : Nat) (bs : List Bool) : Option (Nat × List Bool) :=
  match readOnes 12 bs 0 with
  | none => none
  | some (q, rest) =>
    if q = 12 then readBits 8 rest 0
    else match readBits k rest 0 with
      | none => none
      | some (v, rest2) => if q * 2 ^ k + v ≤ 255 then some (q * 2 ^ k + v, rest2) else none

/-- R71: a plane's adaptive state. -/
structure Rice where
  a : Nat
  n : Nat
deriving DecidableEq, Repr

/-- R71: the Rice parameter in force. -/
def Rice.k (r : Rice) : Nat := ((List.range 8).find? (fun k => decide (r.a ≤ r.n * 2 ^ k))).getD 7

/-- R71: the state after a sample. -/
def Rice.next (r : Rice) (m : Nat) : Rice := if r.n + 1 = 64 then ⟨(r.a + m) / 2, 32⟩ else ⟨r.a + m, r.n + 1⟩

/-- R70: the sample a code gives over a prediction. -/
def sampleOf (p m : Nat) : Nat := if m % 2 = 0 then (p + m / 2) % 256 else (p + 256 - (m + 1) / 2) % 256

/-- R69: the prediction of a sample from its neighbours. -/
def predict (pred col row a b c : Nat) : Nat :=
  if row = 0 ∧ col = 0 then 0
  else if row = 0 then a
  else if col = 0 then b
  else if pred = 1 then a
  else if pred = 2 then b
  else if Nat.max a b ≤ c then Nat.min a b
  else if c ≤ Nat.min a b then Nat.max a b
  else a + b - c

/-- R68: a pixel's four plane samples, in coding order G, R', B', A. -/
structure Px where
  g : Nat
  r : Nat
  b : Nat
  a : Nat
deriving DecidableEq, Repr

/-- One plane's sample decoded. -/
def decodeSample (r : Rice) (p : Nat) (bs : List Bool) : Option (Nat × Rice × List Bool) :=
  match readCode r.k bs with
  | none => none
  | some (m, rest) => some (sampleOf p m, r.next m, rest)

/-- R68 to R72: pixels decoded in raster order; `done` holds those already decoded, last first. -/
def decodePixels (pred : Nat) : Nat → Nat → Rice → Rice → Rice → Rice → List Px → List Bool → Option (List Px × List Bool)
  | 0, _, _, _, _, _, done, bs => some (done, bs)
  | n + 1, i, sg, sr, sb, sa, done, bs =>
    let z : Px := ⟨0, 0, 0, 0⟩
    let l := done.getD 0 z
    let u := done.getD 31 z
    let d := done.getD 32 z
    let col := i % 32
    let row := i / 32
    match decodeSample sg (predict pred col row l.g u.g d.g) bs with
    | none => none
    | some (g, sg', b1) =>
      match decodeSample sr (predict pred col row l.r u.r d.r) b1 with
      | none => none
      | some (r, sr', b2) =>
        match decodeSample sb (predict pred col row l.b u.b d.b) b2 with
        | none => none
        | some (b, sb', b3) =>
          match decodeSample sa (predict pred col row l.a u.a d.a) b3 with
          | none => none
          | some (a, sa', b4) => decodePixels pred n (i + 1) sg' sr' sb' sa' (⟨g, r, b, a⟩ :: done) b4

/-- R72: the data ends with the byte of the last bit, and its fill bits are zero. -/
def endsClean (rest : List Bool) : Bool := decide (rest.length < 8) && rest.all (fun b => !b)

/-- R68: a pixel's bytes R, G, B, A with the green difference undone. -/
def pxBytes (xform : Nat) (p : Px) : List Byte :=
  let r := if xform = 1 then (p.r + p.g) % 256 else p.r
  let b := if xform = 1 then (p.b + p.g) % 256 else p.b
  [BitVec.ofNat 8 r, BitVec.ofNat 8 p.g, BitVec.ofNat 8 b, BitVec.ofNat 8 p.a]

/-- R67: a lossless tile's 4,096 bytes, none where it fails check 6. -/
def decodeLossless (pl : List Byte) : Option (List Byte) :=
  let pred := leAt pl 0 1
  let xform := leAt pl 1 1
  let k := leAt pl 2 1
  if 3 < pred ∨ 1 < xform ∨ 7 < k ∨ leAt pl 3 1 ≠ 0 then none
  else if pred = 3 then (if pl.length = 4100 then some (pl.drop 4) else none)
  else
    let s : Rice := ⟨2 ^ k, 1⟩
    match decodePixels pred 1024 0 s s s s [] (bitStream (pl.drop 4)) with
    | none => none
    | some (done, rest) => if endsClean rest then some (done.reverse.flatMap (pxBytes xform)) else none

/-- R74: one channel of a lossy texel. -/
def lossyChannel (e0 e1 i : Nat) : Nat := (e0 * (15 - i) + e1 * i + 7) / 15

/-- R73, R74: the texel at column `a`, row `b` of a lossy tile. -/
def lossyTexel (pl : List Byte) (a b : Nat) : List Byte :=
  let cell := (b / 4 * 8 + a / 4) * 16
  let i := bitsOf (leAt pl (cell + 8) 8) (4 * (4 * (b % 4) + a % 4)) 4
  (List.range 4).map (fun c => BitVec.ofNat 8 (lossyChannel (leAt pl (cell + c) 1) (leAt pl (cell + 4 + c) 1) i))

/-- R73: a lossy tile's 4,096 bytes. -/
def decodeLossy (pl : List Byte) : List Byte := (List.range 1024).flatMap (fun t => lossyTexel pl (t % 32) (t / 32))

/-- R76: a fill tile's 4,096 bytes. -/
def decodeFill (pl : List Byte) : List Byte := (List.range 1024).flatMap (fun _ => pl.take 4)

/-- A tile block's 4,096 bytes by kind, none where it fails check 6. -/
def decodeTile (kind : Nat) (pl : List Byte) : Option (List Byte) :=
  match kind with
  | 0x10 => decodeLossless pl
  | 0x11 => some (decodeLossy pl)
  | _ => some (decodeFill pl)

/-- R82: byte mode, `n` bytes; `prev` is the byte before. -/
def decodeBytes : Nat → Rice → Nat → List Bool → List Byte → Option (List Byte × List Bool)
  | 0, _, _, bs, done => some (done.reverse, bs)
  | n + 1, r, prev, bs, done =>
    match decodeSample r prev bs with
    | none => none
    | some (x, r', rest) => decodeBytes n r' x rest (BitVec.ofNat 8 x :: done)

/-- R81: an auxiliary sub-header. -/
structure AuxHeader where
  codec : Nat
  kInit : Nat
  object : Nat
  unpackedLen : Nat
  outOffset : Nat
  param : List Byte
deriving DecidableEq, Repr

/-- R81: the sub-header of a payload. -/
def auxHeader (pl : List Byte) : AuxHeader :=
  ⟨leAt pl 0 1, leAt pl 1 1, leAt pl 2 2, leAt pl 4 4, leAt pl 8 4, (pl.drop 16).take 16⟩

/-- R83: the luma rows' and chroma rows' total of an overlay format, in rows of PITCH; none for a reserved format. -/
def overlayRows (format height : Nat) : Option Nat :=
  match format with
  | 0x00 => some height
  | 0x01 => some height
  | 0x02 => some height
  | 0x10 => some (height + height / 2)
  | 0x11 => some (height + height / 2)
  | 0x12 => some (2 * height)
  | 0x13 => some (2 * height)
  | _ => none

/-- R83: bytes of one row of pixels. -/
def overlayRowBytes (format width : Nat) : Nat :=
  match format with
  | 0x00 => 2 * width
  | 0x01 => 3 * width
  | 0x02 => 4 * width
  | 0x11 => 2 * width
  | 0x13 => 2 * width
  | _ => width

/-- R83: the PARAM of an overlay surface and its length. -/
def overlayOk (h : AuxHeader) : Bool :=
  let format := leAt h.param 0 1
  let width := leAt h.param 2 2
  let height := leAt h.param 4 2
  let pitch := leAt h.param 8 4
  decide (leAt h.param 1 1 = 0) && decide (leAt h.param 6 2 = 0) && decide (leAt h.param 12 4 = 0) &&
  decide (1 ≤ width) && decide (1 ≤ height) && decide (pitch % 64 = 0) && decide (overlayRowBytes format width ≤ pitch) &&
  decide (pitch ≤ 0x100000) &&
  (match overlayRows format height with
   | none => false
   | some n => decide (h.unpackedLen = pitch * n)) &&
  decide (h.unpackedLen ≤ 0x4000000) &&
  (if format = 0x10 ∨ format = 0x11 then decide (width % 2 = 0) && decide (height % 2 = 0)
   else if format = 0x12 ∨ format = 0x13 then decide (width % 2 = 0) else true)

/-- R85: the longest object a kind unpacks to. -/
def auxLimit (kind : Nat) : Nat :=
  match kind with
  | 0x30 => 0x4000000
  | 0x31 => 215622
  | 0x32 => 0x2000000
  | 0x33 => 0x10000
  | 0x34 => 0x1000000
  | 0x35 => 0x100000
  | _ => 0x4000000

/-- R84: bits [15:12] of every 16-bit word of a colour table are zero. -/
def lutWordsOk : List Byte → Bool
  | [] => true
  | [_] => false
  | _ :: b :: rest => decide (b.toNat < 16) && lutWordsOk rest

/-- R81, R82: an auxiliary object unpacked, none where it fails check 6. -/
def decodeAux (kind : Nat) (pl : List Byte) : Option (AuxHeader × List Byte) :=
  let h := auxHeader pl
  if 1 < h.codec ∨ 7 < h.kInit ∨ (h.codec = 0 ∧ h.kInit ≠ 0) ∨ h.unpackedLen = 0 ∨ auxLimit kind < h.unpackedLen ∨
     h.outOffset % 64 ≠ 0 ∨ leAt pl 12 4 ≠ 0 then none
  else if kind = 0x30 ∧ overlayOk h = false then none
  else if kind ≠ 0x30 ∧ allZero h.param = false then none
  else if kind = 0x31 ∧ (h.unpackedLen ≠ 215622 ∨ 1 < h.object) then none
  else
    let data :=
      if h.codec = 0 then (if pl.length = 32 + h.unpackedLen then some (pl.drop 32) else none)
      else match decodeBytes h.unpackedLen ⟨2 ^ h.kInit, 1⟩ 0 (bitStream (pl.drop 32)) [] with
        | none => none
        | some (x, rest) => if endsClean rest then some x else none
    match data with
    | none => none
    | some x => if kind = 0x31 ∧ lutWordsOk x = false then none else some (h, x)

/-- R57 check 7, R83: is the object one this controller takes in its yard role? -/
def auxSupported (kind : Nat) (h : AuxHeader) (inYard : Bool) : Bool :=
  !(decide (kind = 0x30) && inYard && decide (0x10 ≤ leAt h.param 0 1))

/-! ### Control payloads (check 6) -/

/-- R61. -/
def streamOk (h : Header) (pl : List Byte) : Bool :=
  !decide (h.streamTag = 0) && decide (leAt pl 4 1 < 2) && decide (leAt pl 5 3 = 0)

/-- R62: the description a LAYER payload gives, none where a field is out of range. -/
def layerOf (pl : List Byte) : Option Layer :=
  let depth := toSigned (leAt pl 0 4) 32
  if depth < -524288 ∨ 524287 < depth ∨ 2 < leAt pl 4 1 ∨ 1 < leAt pl 5 1 ∨ 1 < leAt pl 7 1 then none
  else some ⟨depth, leAt pl 4 1, leAt pl 5 1, leAt pl 6 1, leAt pl 7 1, toSigned (leAt pl 8 4) 32, toSigned (leAt pl 12 4) 32,
    toSigned (leAt pl 16 4) 32, toSigned (leAt pl 20 4) 32, toSigned (leAt pl 24 4) 32, toSigned (leAt pl 28 4) 32⟩

/-- R77. -/
def commitOk (pl : List Byte) : Bool :=
  !decide (leAt pl 0 8 = 0) && decide (leAt pl 0x11 1 < 4) && decide (leAt pl 0x12 2 = 0) && decide (leAt pl 0x18 8 = 0) &&
  (hasBit (leAt pl 0x11 1) 0 || (decide (leAt pl 8 8 = 0) && decide (leAt pl 0x10 1 = 0)))

/-- R78. -/
def fenceSignalOk (pl : List Byte) : Bool := decide (leAt pl 1 1 < 2) && decide (leAt pl 2 6 = 0)

/-- R79. -/
def layerEnableOk (pl : List Byte) : Bool := decide (leAt pl 8 1 < 3) && decide (leAt pl 9 7 = 0)

/-- R80. -/
def setSelectOk (pl : List Byte) : Bool :=
  decide (leAt pl 9 1 < 2) && decide (leAt pl 10 6 = 0) &&
  (hasBit (leAt pl 9 1) 0 || (decide (leAt pl 0 8 = 0) && decide (leAt pl 8 1 = 0)))

/-- Check 6 of a control block. -/
def controlOk (b : List Byte) : Bool :=
  let pl := payloadOf b
  match (headerOf b).kind with
  | 0x01 => streamOk (headerOf b) pl
  | 0x02 => (layerOf pl).isSome
  | 0x20 => commitOk pl
  | 0x21 => fenceSignalOk pl
  | 0x22 => layerEnableOk pl
  | 0x23 => setSelectOk pl
  | _ => true

end Sys2Proof.Machine
end

