-- ==== Sys2Proof/Machine/SceneOps.lean ====
section
/-! DEFINITION. Machine/SceneOps.lean: the shared operations of the queue manager, the scene codec and layer control: contexts
and visible descriptors (R87, R93), retirement (R99 to R102, R507), tile slots (R107, R108), holds (R109), fences (R110),
output chains (R105, R106), and what a latch and a boundary do to commits and selections (R112 to R116). -/

namespace Sys2Proof.Machine

/-- The scene structures changed. -/
def State.setScene (s : State) (f : Scene → Scene) : State := { s with scene := f s.scene }

/-- R89: is sequence number `a` later than `b`? -/
def seqLater (a b : Nat) : Bool :=
  let d := (2 ^ 32 + a - b % 2 ^ 32) % 2 ^ 32
  !decide (d = 0) && decide (d < 2 ^ 31)

/-- R93: a queue's context. -/
def ctxOf (s : State) (q : Nat) : QCtx := (assoc s.scene.ctxs q).getD QCtx.zero

/-- A queue's context changed. -/
def setCtx (s : State) (q : Nat) (f : QCtx → QCtx) : State :=
  s.setScene (fun c => { c with ctxs := assocPut c.ctxs q (f (ctxOf s q)) })

/-- R87: the number of visible descriptors of a context. -/
def QCtx.count (c : QCtx) : Nat := (2 ^ 32 + c.tail - c.head) % 2 ^ 32

/-- R87: the ring indices of a queue's visible descriptors, in order. -/
def visible (c : QCtx) : List Nat := (List.range c.count).map (fun i => (c.head + i) % 2 ^ 32)

/-- R87: the address of a ring entry. -/
def ringAddr (c : QCtx) (i : Nat) : Nat := c.ringBase + i % 2 ^ c.ringLog2 * 32

/-- R88: a descriptor's fields. -/
def descOf (b : List Byte) : Desc :=
  ⟨leAt b 0 8, leAt b 8 4, leAt b 12 1, leAt b 13 1, leAt b 14 1, leAt b 16 4, leAt b 24 8⟩

/-- R88: SUPERSEDE. -/
def Desc.supersede (d : Desc) : Bool := hasBit d.flags 0

/-- R88: SIGNAL_FENCE. -/
def Desc.signalFence (d : Desc) : Bool := hasBit d.flags 1

/-- R88: HOST_MEMORY. -/
def Desc.hostMemory (d : Desc) : Bool := hasBit d.flags 2

/-- R90 D1: the format of a descriptor's bytes. -/
def descFormatOk (b : List Byte) : Bool :=
  let d := descOf b
  decide (leAt b 15 1 = 0) && decide (leAt b 20 4 = 0) && decide (d.flags < 8) &&
  (d.signalFence || (decide (d.fenceIndex = 0) && decide (d.fenceValue = 0))) &&
  decide (d.src % 4 = 0) && decide (d.length % 4 = 0) && decide (20 ≤ d.length) && decide (d.length ≤ 0x04000034)

/-- The bytes of a ring entry as memory holds them, with no access judged: what the queue manager has seen of a visible
descriptor. -/
def peekDesc (s : State) (q i : Nat) : Desc :=
  let c := ctxOf s q
  descOf (if c.ringHost then hostRead s (ringAddr c i) 32 else dramRead s (ringAddr c i) 32)

/-- R507: the read of a ring entry: none where it cannot be read. -/
def readDesc (s : State) (q i : Nat) (readable : Bool) : State × Option (List Byte) :=
  let c := ctxOf s q
  let r := blockFetch s c.ringHost (ringAddr c i) 32
  if readable then r else (r.1, none)

/-- The started descriptor of a queue, if any (R96). -/
def runOf (s : State) (q : Nat) : Option Run := s.scene.runs.find? (fun r => decide (r.queue = q))

/-- A queue's started descriptor changed. -/
def setRun (s : State) (q : Nat) (f : Run → Run) : State :=
  s.setScene (fun c => { c with runs := c.runs.map (fun r => if r.queue = q then f r else r) })

/-- Is a ring index of a queue marked skipped? -/
def isSkipped (s : State) (q i : Nat) : Bool := s.scene.skipped.contains (q, i)

/-- Is a ring index of a queue marked aborted? -/
def isAborted (s : State) (q i : Nat) : Bool := s.scene.aborted.contains (q, i)

/-- R93: STATE: 0 idle, 1 running, 2 waiting, 3 held, 4 disabling. -/
def queueState (s : State) (q : Nat) : Nat :=
  let c := ctxOf s q
  if !c.enable && !decide (c.count = 0) then 4
  else match runOf s q with
    | none => 0
    | some r => match r.stage with
      | .held => 3
      | .committing => 2
      | _ => 1

/-- R103: SCD.UNITS shows the decode units and hold buffers occupied. -/
def showUnits (s : State) : State :=
  s.setAll [(F.SCD_UNITS_BUSY, (s.scene.runs.filter (fun r => r.inUnit)).length),
            (F.SCD_UNITS_HELD, (s.scene.runs.filter (fun r => r.inHold)).length)]

/-- R112: is a commit ready? One with a fence wait is ready only once a latch has taken it. -/
def Commit.ready (c : Commit) : Bool := c.waiting.isEmpty && (!c.waitFence || c.taken)

/-- R112, R117: LAY.SET_STATUS shows each set's waiting and ready commits. -/
def showCommits (s : State) : State :=
  s.setAll ((List.range 4).flatMap (fun k =>
    [(F.LAY_SET_STATUS_WAITING k, b2n (s.scene.commits.any (fun c => decide (c.set = k) && !c.ready))),
     (F.LAY_SET_STATUS_READY k, b2n (s.scene.commits.any (fun c => decide (c.set = k) && c.ready)))]))

/-! ### Fences (R110) -/

/-- A fence takes the greater of its value and an operand. -/
def fenceMax (s : State) (n v : Nat) : State :=
  s.set (F.LAY_FENCE_VALUE n) (Nat.max (s.get (F.LAY_FENCE_VALUE n)) (v % 2 ^ 64))

/-- Is a fence satisfied for a wait value? -/
def fenceMet (s : State) (n w : Nat) : Bool := decide (w ≤ s.get (F.LAY_FENCE_VALUE n))

/-! ### Tiles and layers (R107, R108) -/

/-- The number of a tile. -/
def tileNo (set layer tile : Nat) : Nat := (set * 64 + layer) * 3600 + tile

/-- A tile's state. -/
def tileOf (s : State) (n : Nat) : Tile := (assoc s.scene.tiles n).getD Tile.reset

/-- A tile's state changed. -/
def setTile (s : State) (n : Nat) (f : Tile → Tile) : State :=
  s.setScene (fun c => { c with tiles := assocPut c.tiles n (f (tileOf s n)) })

/-- R107: the byte offset of a tile's slot from LAY.TILE_BASE and LAY.RETAIN_BASE. -/
def slotOffset (n slot : Nat) : Nat := n / 230400 * 0x70800000 + (n % 230400 * 2 + slot) * 4096

/-- R107: the address of a tile's slot. -/
def slotAddr (s : State) (n slot : Nat) : Nat := s.get F.LAY_TILE_BASE_ADDR * 4096 + slotOffset n slot

/-- R107: the address of a tile's retain slot. -/
def retainAddr (s : State) (n slot : Nat) : Nat := s.get F.LAY_RETAIN_BASE_ADDR * 4096 + slotOffset n slot

/-- R66: are all R, G and B bytes of a tile zero? -/
def rgbZero : List Byte → Bool
  | r :: g :: b :: _ :: rest => decide (r = 0) && decide (g = 0) && decide (b = 0) && rgbZero rest
  | _ => true

/-- R66, R108: a slot's facts set. -/
def Tile.withSlot (t : Tile) (slot : Nat) (zero rgb retained : Bool) : Tile :=
  if slot = 0 then { t with zeroA := zero, rgbZeroA := rgb, retainedA := retained }
  else { t with zeroB := zero, rgbZeroB := rgb, retainedB := retained }

/-- R66: is a slot empty for a layer format? -/
def Tile.slotEmpty (t : Tile) (slot format : Nat) : Bool :=
  if format = 2 then (if slot = 0 then t.rgbZeroA else t.rgbZeroB) else (if slot = 0 then t.zeroA else t.zeroB)

/-- R99, R104, R108: a decoded tile enters its back slot whole: whether it was written. A refused retained copy leaves the
tile unretained. -/
def writeTile (s : State) (n : Nat) (bytes block : List Byte) : State × Bool :=
  let slot := 1 - (tileOf s n).front
  let r := dramStore s 7 (slotAddr s n slot) bytes
  if !r.2 then (r.1, false)
  else
    let keep := r.1.on F.LAY_RETAIN_BASE_EN && decide (block.length ≤ 4096)
    let c := if keep then dramStore r.1 7 (retainAddr r.1 n slot) block else (r.1, false)
    (setTile c.1 n (fun t => { t.withSlot slot (allZero bytes) (rgbZero bytes) c.2 with pending := true }), true)

/-- R108: RELEASING clears on every tile of commits whose earlier subframes have no lot left; `live` says whether a lot of a
subframe before the given one is still outstanding. -/
def releaseTiles (s : State) (live : Nat → Bool) : State :=
  s.setScene (fun c => { c with tiles := c.tiles.map (fun e =>
    match e.2.releasing with
    | some b => if live b then e else (e.1, { e.2 with releasing := none })
    | none => e) })

/-- R62: a layer's front description. -/
def frontLayer (s : State) (set layer : Nat) : Layer := (assoc s.scene.frontLayers (set * 64 + layer)).getD Layer.reset

/-- R62: a layer's back description. -/
def backLayer (s : State) (set layer : Nat) : Layer := (assoc s.scene.backLayers (set * 64 + layer)).getD Layer.reset

/-- R62, R114: a LAYER block's description enters the back copy. -/
def writeLayer (s : State) (set layer : Nat) (d : Layer) : State :=
  s.setScene (fun c => { c with backLayers := assocPut c.backLayers (set * 64 + layer) d,
                                layersWritten := insertNat c.layersWritten (set * 64 + layer) })

/-! ### Holds (R109) -/

/-- Does a commit that has entered waiting hold a later descriptor's write to a layer of a set? -/
def heldByCommit (s : State) (seq set layer : Nat) : Bool :=
  s.scene.commits.any (fun c => decide (c.set = set) && hasBit c.mask layer && seqLater seq c.seq)

/-- Is there an earlier visible COMMIT, on any control queue, whose block has not yet passed its checks? -/
def heldByUnread (s : State) (seq : Nat) : Bool :=
  s.scene.ctxs.any (fun e =>
    decide (queueClass e.1 = .control) &&
    (visible e.2).any (fun i =>
      !isSkipped s e.1 i &&
      (match runOf s e.1 with
       | some r =>
         if r.index = i then
           (decide (r.stage = .reading) || decide (r.stage = .decoding)) && decide (r.desc.kind = 0x20) && seqLater seq r.desc.seq
         else decide ((peekDesc s e.1 i).kind = 0x20) && seqLater seq (peekDesc s e.1 i).seq
       | none => decide ((peekDesc s e.1 i).kind = 0x20) && seqLater seq (peekDesc s e.1 i).seq)))

/-- R109: must a tile's write wait? -/
def tileHeld (s : State) (seq set layer tile : Nat) : Bool :=
  (tileOf s (tileNo set layer tile)).releasing.isSome || heldByCommit s seq set layer || heldByUnread s seq

/-- R109: must a LAYER block's description wait? -/
def layerHeld (s : State) (seq set layer : Nat) : Bool := heldByCommit s seq set layer || heldByUnread s seq

/-- R103: when a hold buffer is free, the tile that has waited longest in a unit moves into it. -/
def fillHold (s : State) : State :=
  if 64 ≤ (s.scene.runs.filter (fun r => r.inHold)).length then s
  else
    match (s.scene.runs.filter (fun r => decide (r.stage = .held) && r.inUnit && !r.inHold)).foldl
        (fun (b : Option Run) r => match b with
          | none => some r
          | some x => if r.waitNo < x.waitNo then some r else some x) none with
    | none => s
    | some r => setRun s r.queue (fun x => { x with inUnit := false, inHold := true })

/-! ### Output chains (R105, R106) -/

/-- R106: does a chain entry end the chain before it? -/
def chainEntryBad (s : State) (e : List Byte) : Bool :=
  let addr := leAt e 0 8
  let len := leAt e 8 4
  let flags := leAt e 12 4
  !decide (addr % 64 = 0) || decide (len = 0) || !decide (len % 64 = 0) || decide (4 ≤ flags) || !decide (leAt e 24 8 = 0) ||
  (!hasBit flags 0 && (rangeSecure s addr len || !dramBehind s addr len))

/-- R105: the bytes of an object that fall into a buffer of `len` bytes at chain offset `at0`, and where in it they go. -/
def chainSlice (obj : List Byte) (outOff at0 len : Nat) : Nat × List Byte :=
  let lo := Nat.max outOff at0
  let hi := Nat.min (outOff + obj.length) (at0 + len)
  (lo - at0, (obj.drop (lo - outOff)).take (hi - lo))

/-- R105, R106: an object written along a chain, at most `n` entries on from chain offset `at0`; the bytes written. -/
def chainWrite : Nat → State → Nat → Nat → Nat → List Byte → Nat → State × Nat
  | 0, s, _, _, _, _, done => (s, done)
  | n + 1, s, ptr, at0, outOff, obj, done =>
    if outOff + obj.length ≤ at0 then (s, done)
    else
      match blockFetch s (hasBit ptr 0) (ptr / 32 * 32) 32 with
      | (s1, none) => (s1, done)
      | (s1, some e) =>
        let addr := leAt e 0 8
        let len := leAt e 8 4
        let flags := leAt e 12 4
        if chainEntryBad s1 e then
          (if !hasBit flags 0 && decide (addr % 64 = 0) && rangeSecure s1 addr len then dramDenied s1 7 addr len else s1, done)
        else
          let sl := chainSlice obj outOff at0 len
          let r := if sl.2.isEmpty then (s1, true) else blockStore s1 (hasBit flags 0) (addr + sl.1) sl.2
          let done2 := done + sl.2.length
          if hasBit flags 1 then (r.1, done2) else chainWrite n r.1 (leAt e 16 8) (at0 + len) outOff obj done2

/-! ### Retirement -/

/-- R102: has a queue's completion ring room? -/
def ringRoom (s : State) (cq : Nat) : Bool :=
  let k := s.get (F.QMG_CQ_SIZE_CQ_LOG2 cq)
  !decide (k = 0) &&
  !decide (2 ^ k ≤ (2 ^ 32 + s.get (F.QMG_CQ_TAIL_TAIL cq) - s.get (F.QMG_CQ_HEAD_HEAD cq)) % 2 ^ 32)

/-- R101: a completion entry's 16 bytes. -/
def completionBytes (queue seq status phase : Nat) (held : Bool) (object info : Nat) : List Byte :=
  leBytes 4 (queue % 2 ^ 18) ++ leBytes 4 seq ++ leBytes 1 status ++ leBytes 1 (phase + 2 * b2n held) ++ leBytes 2 object ++
  leBytes 4 info

/-- R101, R102: a completion entry written: an entry the regions refuse is discarded and TAIL still advances. -/
def writeCompletion (s : State) (cq : Nat) (queue seq status : Nat) (held : Bool) (object info : Nat) : State :=
  let k := s.get (F.QMG_CQ_SIZE_CQ_LOG2 cq)
  let tail := s.get (F.QMG_CQ_TAIL_TAIL cq)
  let phase := 1 - tail / 2 ^ k % 2
  let a := s.get (F.QMG_CQ_BASE_ADDR cq) * 64 + tail % 2 ^ k * 16
  let t := (blockStore s (s.on (F.QMG_CQ_BASE_HOST cq)) a (completionBytes queue seq status phase held object info)).1
  let u := t.set (F.QMG_CQ_TAIL_TAIL cq) (tail + 1)
  let waiting := (2 ^ 32 + u.get (F.QMG_CQ_TAIL_TAIL cq) - u.get (F.QMG_CQ_HEAD_HEAD cq)) % 2 ^ 32
  if !decide (u.get (F.QMG_CQ_MOD_COUNT cq) = 0) && decide (waiting = u.get (F.QMG_CQ_MOD_COUNT cq)) then raiseIrq u (0x030 + cq) 0
  else u

/-- R79: the back mask a LAYER_ENABLE leaves. -/
def enableMask (old mask op : Nat) : Nat := if op = 0 then mask else if op = 1 then Nat.lor old mask else andNot old mask

/-- R60, R61, R78 to R80: what a control block does when it retires DONE. -/
def retireEffect (s : State) (r : Run) : State :=
  let h := headerOf r.block
  let pl := payloadOf r.block
  match h.kind with
  | 0x01 =>
    let t := s.set (F.LAY_SET_STATUS_STREAM_TAG h.set) h.streamTag
    let u := if hasBit (leAt pl 4 1) 0 then t.set (F.LAY_ENABLE_BACK_MASK h.set) 0 else t
    u.setScene (fun c => { c with streams := assocPut c.streams h.set (leAt pl 0 4, leAt pl 8 8) })
  | 0x21 => if leAt pl 1 1 = 0 then s.set (F.LAY_FENCE_VALUE (leAt pl 0 1)) (leAt pl 8 8) else fenceMax s (leAt pl 0 1) (leAt pl 8 8)
  | 0x22 => s.set (F.LAY_ENABLE_BACK_MASK h.set) (enableMask (s.get (F.LAY_ENABLE_BACK_MASK h.set)) (leAt pl 0 8) (leAt pl 8 1))
  | 0x23 => s.setScene (fun c => { c with selections := c.selections ++
      [⟨h.set, hasBit (leAt pl 9 1) 0, leAt pl 8 1, leAt pl 0 8, false⟩] })
  | _ => s

/-- R79, R112: a descriptor leaves every waiting set; a set that empties takes its enable snapshot. -/
def leaveWaiting (s : State) (q i : Nat) : State :=
  showCommits (s.setScene (fun c => { c with commits := c.commits.map (fun m =>
    let w := m.waiting.filter (fun e => !decide (e = (q, i)))
    { m with waiting := w,
             snapshot := if w.isEmpty && m.snapshot.isNone then some (s.get (F.LAY_ENABLE_BACK_MASK m.set)) else m.snapshot }) }))

/-- R87, R99: head advances past a retired descriptor, whose marks and run end. -/
def advanceHead (s : State) (q i : Nat) : State :=
  showUnits (fillHold ((setCtx s q (fun c => { c with head := (c.head + 1) % 2 ^ 32 })).setScene (fun c =>
    { c with runs := c.runs.filter (fun r => !(decide (r.queue = q) && decide (r.index = i)))
             skipped := c.skipped.filter (fun e => !decide (e = (q, i)))
             aborted := c.aborted.filter (fun e => !decide (e = (q, i)))
             commits := c.commits.filter (fun m => !decide (m.queue = q)) })))

/-- R99 to R102: a descriptor retires: counted, its completion written (but for DONE on a QUIET queue), its fence signalled,
its kind's effect made, and head advanced. -/
def retireWith (s : State) (q i status : Nat) (d : Option Desc) (run : Option Run) : State :=
  let c := ctxOf s q
  let t := s.bump (F.SCD_STATUS_COUNT_COUNT status)
  let seq := match d with | some x => x.seq | none => 0
  let held := match run with | some r => r.wasHeld | none => false
  let object := match run with | some r => r.object | none => 0
  let info := match run with | some r => r.info | none => 0
  let u := if c.quiet && decide (status = 0) then t else writeCompletion t c.cq q seq status held object info
  let v := match d with
    | some x => if x.signalFence then fenceMax u x.fenceIndex x.fenceValue else u
    | none => u
  let w := match run with | some r => if status = 0 then retireEffect v r else v | none => v
  advanceHead (leaveWaiting w q i) q i

/-- What the front of a queue is ready to retire with: a skipped or aborted mark, or a finished run. -/
inductive FrontState where
  | marked (status : Nat)
  | run (r : Run)
  | nothing
deriving DecidableEq, Repr

/-- The front of a queue. -/
def frontOf (s : State) (q : Nat) : FrontState :=
  let c := ctxOf s q
  if c.count = 0 then .nothing
  else match runOf s q with
    | some r => if r.stage = .finished then .run r else .nothing
    | none =>
      if isSkipped s q c.head then .marked 1 else if isAborted s q c.head then .marked 0x0A else .nothing

/-- R99, R507: the front descriptor of a queue retires, its ring having room. -/
def retireNow (s : State) (q : Nat) (readable : Bool) : State :=
  let i := (ctxOf s q).head
  match frontOf s q with
  | .nothing => s
  | .run r => retireWith s q i r.status (some r.desc) (some r)
  | .marked st =>
    match readDesc s q i readable with
    | (t, some b) => retireWith t q i st (some (descOf b)) none
    | (t, none) => retireWith t q i st none none

/-- R102: the front descriptor of a queue retires, or, while its ring is full or an earlier retirement of the ring is
delayed, is put behind the ring's delayed retirements. -/
def retireFront (s : State) (q : Nat) (readable : Bool) : State :=
  match frontOf s q with
  | .nothing => s
  | _ =>
    let cq := (ctxOf s q).cq
    if ringRoom s cq && !(s.scene.delayed.any (fun x => decide ((ctxOf s x).cq = cq))) then retireNow s q readable
    else if s.scene.delayed.contains q then s
    else s.setScene (fun c => { c with delayed := c.delayed ++ [q] })

/-- R102: the delayed retirements of a ring proceed in order while it has room, at most `n` of them. -/
def drainDelayed : Nat → State → Nat → State
  | 0, s, _ => s
  | n + 1, s, cq =>
    match s.scene.delayed.find? (fun q => decide ((ctxOf s q).cq = cq)) with
    | none => s
    | some q =>
      if ringRoom s cq then
        drainDelayed n (retireNow (s.setScene (fun c => { c with delayed := c.delayed.erase q })) q true) cq
      else s

/-! ### Latch and boundary -/

/-- R111, R113: the latch takes every commit whose waiting set is empty and whose fence is met, and every selection whose fence
is met (R80). -/
def latchScene (s : State) : State :=
  showCommits (s.setScene (fun c =>
    { c with
        commits := c.commits.map (fun m =>
          if m.waiting.isEmpty && (!m.waitFence || fenceMet s m.fenceIndex m.fenceValue) then { m with taken := true } else m)
        selections := c.selections.map (fun x =>
          if !x.waitFence || fenceMet s x.fenceIndex x.fenceValue then { x with taken := true } else x) }))

/-- Commits in increasing SEQ order (R115). -/
def insertCommit (m : Commit) : List Commit → List Commit
  | [] => [m]
  | x :: xs => if seqLater x.seq m.seq then m :: x :: xs else x :: insertCommit m xs

/-- R108: a tile flips at a boundary: RELEASING is set only where lots may still read the set. -/
def Tile.flip (t : Tile) (boundary : Nat) (live : Bool) : Tile :=
  if t.pending then { t with front := 1 - t.front, pending := false, releasing := if live then some boundary else none } else t

/-- R114: a taken commit's effects for its set, at a boundary; `live`: lots of an earlier subframe may read the set. -/
def commitEffect (s : State) (m : Commit) (boundary : Nat) (live : Bool) : State :=
  let inMask (n : Nat) : Bool := decide (n / 3600 / 64 = m.set) && hasBit m.mask (n / 3600 % 64)
  let named (l : Nat) : Bool := decide (l / 64 = m.set) && hasBit m.mask (l % 64)
  let t := s.setScene (fun c =>
    { c with
        tiles := c.tiles.map (fun e => if inMask e.1 then (e.1, e.2.flip boundary live) else e)
        frontLayers := (c.layersWritten.filter named).foldl (fun fl l => assocPut fl l ((assoc c.backLayers l).getD Layer.reset)) c.frontLayers
        layersWritten := c.layersWritten.filter (fun l => !named l) })
  t.setAll [(F.LAY_ENABLE_FRONT_MASK m.set, m.snapshot.getD 0), (F.LAY_SET_STATUS_COMMIT_TAG m.set, m.tag),
    (F.LAY_SET_STATUS_COMMIT_SUBFRAME m.set, boundary)]

/-- R114: the commit's descriptor retires DONE with its tag. -/
def commitRetire (s : State) (m : Commit) : State :=
  retireFront (setRun (s.setScene (fun c => { c with commits := c.commits.filter (fun x => !decide (x.queue = m.queue)) }))
    m.queue (fun r => { r with stage := .finished, status := 0, info := m.tag })) m.queue true

/-- R80: the displayed set chosen at a boundary from the selections and the commits with WITH_SELECT that are due. -/
def chooseDisplayed (s : State) (due : List Commit) : State :=
  match (due.filter (fun m => m.withSelect)).getLast? with
  | some m => (s.set F.LAY_DISPLAYED_SET m.set).setScene (fun c => { c with selections := [] })
  | none =>
    let n := s.scene.selections.length - (s.scene.selections.reverse.takeWhile (fun x => !x.taken)).length
    match (s.scene.selections.take n).getLast? with
    | some x => (s.set F.LAY_DISPLAYED_SET x.set).setScene (fun c => { c with selections := c.selections.drop n })
    | none => s

/-- R114, R115, R80: what boundary `n` does to commits and selections. `lotsLive` says whether lots of an earlier subframe are
outstanding. -/
def boundaryScene (s : State) (n : Nat) (lotsLive : Bool) : State :=
  let due := (s.scene.commits.filter (fun m => m.taken)).foldl (fun l m => insertCommit m l) []
  let shown := s.get F.LAY_DISPLAYED_SET
  let a := due.foldl (fun t m => commitEffect t m n (lotsLive && decide (m.set = shown))) s
  let b := chooseDisplayed a due
  showCommits (due.foldl commitRetire b)

end Sys2Proof.Machine
end

