-- ==== Sys2Proof/Machine/Rays.lean ====
section
/-! DEFINITION. Machine/Rays.lean: ray synthesis, exactly as the spec's procedures give it: the lenslet record in use (R121),
the ray of one pixel (R124), tracked eyes and sub-rays (R125, R126), crosstalk (R127), the sampling of the layers (R128,
R129), the kernels' parameter blocks (R131, R132) and the pixels of a span. -/

namespace Sys2Proof.Machine

/-! ### Lenslet records -/

/-- R120: is a numeric field unsigned (GAIN_R, GAIN_G, GAIN_B, XTALK)? -/
def lensUnsigned (i : Nat) : Bool := decide (6 ≤ i) && decide (i ≤ 9)

/-- R121: a value clamped to the range of a numeric field's format. -/
def lensClamp (i : Nat) (v : Int) : Int := if lensUnsigned i then clampInt v 0 65535 else clampInt v (-32768) 32767

/-- A record of zeros. -/
def LensRec.zero : LensRec := ⟨List.replicate 12 0, 0⟩

/-- R121: a delta source with no entry for a lenslet. -/
def LensDelta.zero : LensDelta := ⟨List.replicate 12 0, 0, 0⟩

/-- A field of a record. -/
def LensRec.at (r : LensRec) (i : Nat) : Int := r.vals.getD i 0

/-- R121: the record in use. -/
def lensInUse (f : LensRec) (g h : LensDelta) : LensRec :=
  ⟨(List.range 12).map (fun i => lensClamp i (f.vals.getD i 0 + g.vals.getD i 0 + h.vals.getD i 0)),
   andNot (Nat.lor (andNot (Nat.lor f.flags g.setBits) g.clearBits) h.setBits) h.clearBits⟩

/-- R120: a factory record from its 32 bytes. -/
def lensOfBytes (b : List Byte) : LensRec :=
  ⟨(List.range 12).map (fun i => if lensUnsigned i then (leAt b (2 * i) 2 : Int) else toSigned (leAt b (2 * i) 2) 16),
   leAt b 0x18 2⟩

/-- R122: a delta from an entry's bytes. -/
def deltaOfBytes (b : List Byte) : LensDelta :=
  ⟨(List.range 12).map (fun i => toSigned (leAt b (4 + 2 * i) 2) 16), leAt b 0x1C 2, leAt b 0x1E 2⟩

/-- The number of a lenslet. -/
def lensNo (column row : Nat) : Nat := row * 1152 + column

/-- R122: does an object keep every rule of its table, from first row `f`? -/
def lensObjectOk (b : List Byte) (f : Nat) : Bool :=
  let count := leAt b 0 4
  let rows := leAt b 4 2
  decide (b.length = 16 + 32 * count) && decide (f ≤ 647) && decide (1 ≤ rows) && decide (f + rows ≤ 648) &&
  decide (leAt b 6 1 < 2) && decide (leAt b 7 8 = 0) && decide (leAt b 15 1 = 0) &&
  (List.range count).all (fun i => decide (leAt b (16 + 32 * i) 2 < 1152) && decide (leAt b (16 + 32 * i + 2) 2 < rows))

/-- R122: one entry applied with MODE 0 or 1. A sum is clamped to the signed 16 bits of a delta (log entry 12). -/
def deltaApply (mode : Nat) (m : List (Nat × LensDelta)) (n : Nat) (d : LensDelta) : List (Nat × LensDelta) :=
  if mode = 0 then assocPut m n d
  else
    let o := (assoc m n).getD LensDelta.zero
    assocPut m n ⟨(List.range 12).map (fun i => clampInt (o.vals.getD i 0 + d.vals.getD i 0) (-32768) 32767),
      Nat.lor o.setBits d.setBits, Nat.lor o.clearBits d.clearBits⟩

/-- R122: the host deltas after an object covering rows from `f` on. -/
def lensObjectApply (m : List (Nat × LensDelta)) (b : List Byte) (f : Nat) : List (Nat × LensDelta) :=
  let rows := leAt b 4 2
  let mode := leAt b 6 1
  let kept := if mode = 0 then m.filter (fun e => !(decide (f ≤ e.1 / 1152) && decide (e.1 / 1152 < f + rows))) else m
  (List.range (leAt b 0 4)).foldl (fun t i =>
    let e := (b.drop (16 + 32 * i)).take 32
    deltaApply mode t (lensNo (leAt e 0 2) (f + leAt e 2 2)) (deltaOfBytes e)) kept

/-- R121, R123: the record a lot of a version uses for a lenslet. -/
def recordOf (s : State) (v : Version) (n : Nat) : LensRec :=
  lensInUse ((assoc s.rsy.lens.factory n).getD LensRec.zero) ((assoc v.groom n).getD LensDelta.zero)
    ((assoc v.host n).getD LensDelta.zero)

/-! ### Kernels -/

/-- R132: a LAYERED parameter block's fields. -/
structure Layered where
  bg : Nat × Nat × Nat
  maxLayers : Nat
  ssMax : Nat
  prefilterMax : Int
  xtalkScale : Int
  eyeCorrect : Bool
  xtalk : Bool
  depthScale : Int
  depthOffset : Int
deriving DecidableEq, Repr

/-- R132: the defaults. -/
def Layered.default : Layered := ⟨(0, 0, 0), 64, 4, 0x38E4, 0x8000, true, true, 0x00100000, 0⟩

/-- R132: a LAYERED block's bytes read. -/
def layeredOf (b : List Byte) : Layered :=
  if b.isEmpty then Layered.default
  else ⟨(leAt b 4 2, leAt b 6 2, leAt b 8 2), leAt b 0x0A 1, leAt b 0x0B 1, leAt b 0x0C 4, leAt b 0x10 2,
    hasBit (leAt b 0x12 1) 0, hasBit (leAt b 0x12 1) 1, leAt b 0x14 4, toSigned (leAt b 0x18 4) 32⟩

/-- R132: the length a kernel's block must have; none for a kernel the spec gives no block. -/
def blockSize (kernel : Nat) : Option Nat :=
  match kernel with
  | 0x0100 => some 64
  | 0x0300 => some 4
  | 0x0301 => some 12
  | _ => none

/-- R132: is every field of a kernel's block within range? For the kernels of other packages Config says so. -/
def blockOk (slot kernel : Nat) (b : List Byte) : Bool :=
  decide (leAt b 0 2 = kernel) && decide (leAt b 2 2 = b.length) &&
  match blockSize kernel with
  | some n =>
    decide (b.length = n) &&
    (if kernel = 0x0100 then
      decide (1 ≤ leAt b 0x0A 1) && decide (leAt b 0x0A 1 ≤ 64) && [1, 2, 4].contains (leAt b 0x0B 1) &&
      decide (leAt b 0x0C 4 ≤ 0x00040000) && decide (leAt b 0x12 1 < 4) && decide (leAt b 0x13 1 = 0) &&
      decide (leAt b 0x14 4 ≤ 0x00800000) && decide (toSigned (leAt b 0x18 4) 32 ≤ 524287) &&
      decide (-524287 ≤ toSigned (leAt b 0x18 4) 32) && (b.drop 0x1C).all (fun x => decide (x = 0))
     else if kernel = 0x0301 then decide (leAt b 0x0A 2 = 0)
     else true)
  | none => Config.kernelBlockOk slot kernel b

/-! ### The ray of one pixel -/

/-- A ray: its direction and origin, its sub-rays' number and spread, and whether an eye took it. -/
structure Ray where
  tx : Int
  ty : Int
  ox : Int
  oy : Int
  n : Nat
  w : Int
  eye : Bool
deriving DecidableEq, Repr

/-- R124: the ray of pixel (px, py) in facet f. `optics` is TAN_PER_PITCH, FACET_SLOPE and the FACET_OFFSETs. -/
def rayOf (optics : List Int) (r : LensRec) (phi : Int) (f px py : Nat) : Ray :=
  let lx : Int := (px / 10 : Nat)
  let ly : Int := (py / 10 : Nat)
  let dx := ((px % 10 : Nat) - 5 : Int) * 4096 + 2048 - r.at 0
  let dy := ((py % 10 : Nat) - 5 : Int) * 4096 + 2048 - r.at 1
  let t := r.at 2
  let dxr := dx + sar (t * dy + 0x8000) 16 - sar (t * t * dx + 2 ^ 32) 33
  let dyr := dy - sar (t * dx + 0x8000) 16 - sar (t * t * dy + 2 ^ 32) 33
  let rho2 := truncDiv (dxr * dxr + dyr * dyr) 6400
  let dist := 65536 + sar (r.at 4 * rho2 + 0x8000) 16 + sar (r.at 5 * sar (rho2 * rho2 + 0x8000) 16 + 0x8000) 16
  let k := sar (optics.getD 0 0 * (65536 + r.at 3) + 0x8000) 16
  let tx := sar (-(dxr * dist * k) + 2 ^ 31) 32
  let ty := sar (-(dyr * dist * k) + 2 ^ 31) 32
  ⟨tx + optics.getD (2 + f) 0 + sar (optics.getD 1 0 * phi + 64) 7 + r.at 10, ty + r.at 11,
   (10 * lx + 5) * 16 + sar (r.at 0 + 128) 8, (10 * ly + 5) * 16 + sar (r.at 1 + 128) 8, 1, 0, false⟩

/-- Absolute value of an integer. -/
def iabs (x : Int) : Int := if x < 0 then -x else x

/-- R125: the direction from a ray's origin to an eye. -/
def eyeDir (ry : Ray) (e : EyeEntry) : Int × Int := (sar ((e.ex - ry.ox) * e.rz + 2048) 12, sar ((e.ey - ry.oy) * e.rz + 2048) 12)

/-- R125: does an eye's cone hold a ray? -/
def inCone (ry : Ray) (e : EyeEntry) : Bool :=
  let d := eyeDir ry e
  decide (iabs (ry.tx - d.1) ≤ e.c) && decide (iabs (ry.ty - d.2) ≤ e.c)

/-- R125: the ray as the lot's snapshot and the kernel's limits leave it. -/
def withEye (ry : Ray) (snap : Snapshot) (p : Layered) (noEye : Bool) : Ray :=
  let base := { ry with n := snap.n0, w := snap.w0 }
  let r := match (if p.eyeCorrect && !noEye then snap.eyes.find? (inCone base) else none) with
    | some e => { base with tx := (eyeDir base e).1, ty := (eyeDir base e).2, n := e.n, w := e.w, eye := true }
    | none => base
  { r with n := Nat.min r.n p.ssMax, w := clampInt r.w 0 p.prefilterMax }

/-- R126: the sub-rays' direction offsets. -/
def subRays (n : Nat) (w : Int) : List (Int × Int) :=
  let q := sar w 2
  match n with
  | 2 => [(-q, 0), (q, 0)]
  | 4 => [(-q, -q), (q, -q), (-q, q), (q, q)]
  | _ => [(0, 0)]

/-! ### Sampling -/

/-- R128: srgb[c8] = round(65,535 × L(c8 / 255)), with L the sRGB decoding function. -/
def srgbTable : List Nat :=
  [0, 20, 40, 60, 80, 99, 119, 139, 159, 179, 199, 219, 241, 264, 288, 313,
   340, 367, 396, 427, 458, 491, 526, 562, 599, 637, 677, 718, 761, 805, 851, 898,
   947, 997, 1048, 1101, 1156, 1212, 1270, 1330, 1391, 1453, 1517, 1583, 1651, 1720, 1790, 1863,
   1937, 2013, 2090, 2170, 2250, 2333, 2418, 2504, 2592, 2681, 2773, 2866, 2961, 3058, 3157, 3258] ++
  [3360, 3464, 3570, 3678, 3788, 3900, 4014, 4129, 4247, 4366, 4488, 4611, 4736, 4864, 4993, 5124,
   5257, 5392, 5530, 5669, 5810, 5953, 6099, 6246, 6395, 6547, 6700, 6856, 7014, 7174, 7335, 7500,
   7666, 7834, 8004, 8177, 8352, 8528, 8708, 8889, 9072, 9258, 9445, 9635, 9828, 10022, 10219, 10417,
   10619, 10822, 11028, 11235, 11446, 11658, 11873, 12090, 12309, 12530, 12754, 12980, 13209, 13440, 13673, 13909] ++
  [14146, 14387, 14629, 14874, 15122, 15371, 15623, 15878, 16135, 16394, 16656, 16920, 17187, 17456, 17727, 18001,
   18277, 18556, 18837, 19121, 19407, 19696, 19987, 20281, 20577, 20876, 21177, 21481, 21787, 22096, 22407, 22721,
   23038, 23357, 23678, 24002, 24329, 24658, 24990, 25325, 25662, 26001, 26344, 26688, 27036, 27386, 27739, 28094,
   28452, 28813, 29176, 29542, 29911, 30282, 30656, 31033, 31412, 31794, 32179, 32567, 32957, 33350, 33745, 34143] ++
  [34544, 34948, 35355, 35764, 36176, 36591, 37008, 37429, 37852, 38278, 38706, 39138, 39572, 40009, 40449, 40891,
   41337, 41785, 42236, 42690, 43147, 43606, 44069, 44534, 45002, 45473, 45947, 46423, 46903, 47385, 47871, 48359,
   48850, 49344, 49841, 50341, 50844, 51349, 51858, 52369, 52884, 53401, 53921, 54445, 54971, 55500, 56032, 56567,
   57105, 57646, 58190, 58737, 59287, 59840, 60396, 60955, 61517, 62082, 62650, 63221, 63795, 64372, 64952, 65535]

/-- R128: p × q / 65,535, rounded to nearest. -/
def mul16 (p q : Int) : Int := sar (p * q + 0x8000 + sar (p * q + 0x8000) 16) 16

/-- R64, R128: the layers of a set in the enable mask, as R64 orders them. -/
def layerOrder (v : Version) : List (Nat × Layer) :=
  let ls := (List.range 64).filterMap (fun l =>
    if hasBit v.enable l then some (l, (assoc v.layers (v.set * 64 + l)).getD Layer.reset) else none)
  ls.foldr (fun x acc => insertLayer x acc) []
where
  /-- A layer placed by greater DEPTH, then by lower number. -/
  insertLayer (x : Nat × Layer) : List (Nat × Layer) → List (Nat × Layer)
    | [] => [x]
    | y :: ys => if y.2.depth > x.2.depth then y :: insertLayer x ys else x :: y :: ys

/-- R128: a layer's depth scaled and offset by the kernel. -/
def layerDepth (l : Layer) (p : Layered) : Int :=
  clampInt (sar (l.depth * p.depthScale + 2 ^ 19) 20 + p.depthOffset) (-524288) 524287

/-- Four channels. -/
structure Rgba where
  r : Int
  g : Int
  b : Int
  a : Int
deriving DecidableEq, Repr

/-- R128: a texel's four bytes as linear light, by the layer's format. -/
def texelLight (format r g b a : Nat) : Rgba :=
  if format = 0 then ⟨(Nat.min r a * 257 : Nat), (Nat.min g a * 257 : Nat), (Nat.min b a * 257 : Nat), (a * 257 : Nat)⟩
  else if format = 1 then
    let al : Int := (a * 257 : Nat)
    ⟨mul16 (srgbTable.getD r 0 : Nat) al, mul16 (srgbTable.getD g 0 : Nat) al, mul16 (srgbTable.getD b 0 : Nat) al, al⟩
  else ⟨(srgbTable.getD r 0 : Nat), (srgbTable.getD g 0 : Nat), (srgbTable.getD b 0 : Nat), 65535⟩

/-- Where a texel is: outside the array with EDGE 0, in an empty tile, or at a device address. -/
inductive TexelAt where
  | outside
  | empty
  | mem (addr : Nat)
deriving DecidableEq, Repr

/-- R128: where texel (i, j) of a layer of a version is. -/
def texelAt (s : State) (v : Version) (layer : Nat) (l : Layer) (i j : Int) : TexelAt :=
  if (i < 0 ∨ 2559 < i ∨ j < 0 ∨ 1439 < j) ∧ l.edge = 0 then .outside
  else
    let x := (clampInt i 0 2559).toNat
    let y := (clampInt j 0 1439).toNat
    let n := tileNo v.set layer (y / 32 * 80 + x / 32)
    let t := (assoc v.tiles n).getD Tile.reset
    if t.slotEmpty t.front l.format then .empty
    else .mem (slotAddr s n t.front + (y % 32 * 32 + x % 32) * 4)

/-- R128: the light of a texel. -/
def texelOf (s : State) (l : Layer) : TexelAt → Rgba
  | .outside => ⟨0, 0, 0, 0⟩
  | .empty => texelLight l.format 0 0 0 0
  | .mem a =>
    texelLight l.format (memGet s.mem.dram a).toNat (memGet s.mem.dram (a + 1)).toNat (memGet s.mem.dram (a + 2)).toNat
      (memGet s.mem.dram (a + 3)).toNat

/-- One sub-ray's progress: accumulated light, transmittance, layers counted, and the uncorrectable words met. -/
structure Along where
  r : Int
  g : Int
  b : Int
  trans : Int
  counted : Nat
  bad : List Nat
deriving DecidableEq, Repr

/-- R129: one layer's footprint of a sub-ray: the four texels and the fractions. -/
def footprint (l : Layer) (d ox oy tx ty : Int) : Int × Int × Int × Int :=
  let x := ox + sar (tx * d + 2 ^ 19) 20
  let y := oy + sar (ty * d + 2 ^ 19) 20
  let us := sar (l.m00 * x + l.m01 * y + 2048) 12 + l.offU - 0x8000
  let vs := sar (l.m10 * x + l.m11 * y + 2048) 12 + l.offV - 0x8000
  (sar us 16, sar us 8 % 256, sar vs 16, sar vs 8 % 256)

/-- R129: a channel of four texels weighted. -/
def bilinear (w00 w10 w01 w11 a b c d : Int) : Int := sar (w00 * a + w10 * b + w01 * c + w11 * d + 0x8000) 16

/-- R362: the uncorrectable words among the texels of a fetch. -/
def badTexels (s : State) (ts : List TexelAt) : List Nat :=
  ts.filterMap (fun t => match t with
    | .mem a => if s.mem.badDram.contains (a / 8 * 8) || s.mem.poisonDram.contains (a / 8 * 8) then some (a / 8 * 8) else none
    | _ => none)

/-- R129: one layer composited behind what a sub-ray has met. A fetch that meets an uncorrectable word reads as in an empty
tile (R362). -/
def throughLayer (s : State) (v : Version) (p : Layered) (layer : Nat) (l : Layer) (ry : Ray) (dt : Int × Int) (a : Along) :
    Along :=
  let fp := footprint l (layerDepth l p) ry.ox ry.oy (ry.tx + dt.1) (ry.ty + dt.2)
  let at4 := [texelAt s v layer l fp.1 fp.2.2.1, texelAt s v layer l (fp.1 + 1) fp.2.2.1,
    texelAt s v layer l fp.1 (fp.2.2.1 + 1), texelAt s v layer l (fp.1 + 1) (fp.2.2.1 + 1)]
  let bad := badTexels s at4
  let ts := if bad.isEmpty then at4 else at4.map (fun _ => TexelAt.empty)
  let none4 := ts.all (fun t => match t with | .mem _ => false | _ => true)
  if !decide (l.format = 2) && none4 then { a with bad := a.bad ++ bad }
  else
    let c := ts.map (texelOf s l)
    let t0 := c.getD 0 ⟨0, 0, 0, 0⟩
    let t1 := c.getD 1 ⟨0, 0, 0, 0⟩
    let t2 := c.getD 2 ⟨0, 0, 0, 0⟩
    let t3 := c.getD 3 ⟨0, 0, 0, 0⟩
    let fu := fp.2.1
    let fv := fp.2.2.2
    let mix (f : Rgba → Int) : Int :=
      sar (bilinear ((256 - fu) * (256 - fv)) (fu * (256 - fv)) ((256 - fu) * fv) (fu * fv) (f t0) (f t1) (f t2) (f t3) *
        l.opacity * 257 + 0x8000) 16
    ⟨clampInt (a.r + mul16 (mix Rgba.r) a.trans) 0 65535, clampInt (a.g + mul16 (mix Rgba.g) a.trans) 0 65535,
     clampInt (a.b + mul16 (mix Rgba.b) a.trans) 0 65535,
     if l.blend = 0 then mul16 a.trans (65535 - mix Rgba.a) else a.trans, a.counted + 1, a.bad ++ bad⟩

/-- R129: has a sub-ray met its early stop? Only a counted layer is judged. -/
def stops (v : Version) (p : Layered) (before after : Along) : Bool :=
  !decide (after.counted = before.counted) &&
  (decide ((v.alphaStop : Int) ≤ 65535 - after.trans) || decide (after.counted = p.maxLayers))

/-- R129: the layers in order, until the early stop. -/
def throughLayers (s : State) (v : Version) (p : Layered) (ry : Ray) (dt : Int × Int) : List (Nat × Layer) → Along → Along
  | [], a => a
  | (n, l) :: ls, a =>
    let b := throughLayer s v p n l ry dt a
    if stops v p a b then b else throughLayers s v p ry dt ls b

/-- A pixel as an engine delivers it (R130), with the layers counted and the uncorrectable words met. -/
structure PixelOut where
  r : Int
  g : Int
  b : Int
  counted : Nat
  bad : List Nat
  eye : Bool
deriving DecidableEq, Repr

/-- R129: one sub-ray's result, the background behind it. -/
def subRayOut (s : State) (v : Version) (p : Layered) (order : List (Nat × Layer)) (ry : Ray) (dt : Int × Int) : Along :=
  let a := throughLayers s v p ry dt order ⟨0, 0, 0, 65535, 0, []⟩
  { a with
      r := clampInt (a.r + mul16 (p.bg.1 : Nat) a.trans) 0 65535
      g := clampInt (a.g + mul16 (p.bg.2.1 : Nat) a.trans) 0 65535
      b := clampInt (a.b + mul16 (p.bg.2.2 : Nat) a.trans) 0 65535 }

/-- R126: the value of a channel over n sub-rays. -/
def subMean (n : Nat) (sum : Int) : Int := truncDiv (sum + (n / 2 : Nat)) (n : Nat)

/-- R362: the lenslets whose record cannot be read: as if DARK. -/
def lensDark (s : State) (n : Nat) (r : LensRec) : Bool := hasBit r.flags 0 || s.dmc.badLens.contains n

/-- R124 to R129: a pixel of LAYERED. -/
def layeredPixel (s : State) (v : Version) (snap : Snapshot) (phi : Int) (p : Layered) (order : List (Nat × Layer))
    (px py : Nat) : PixelOut :=
  let n := lensNo (px / 10) (py / 10)
  let r := recordOf s v n
  if lensDark s n r then ⟨0, 0, 0, 0, [], false⟩
  else
    let ry := withEye (rayOf v.optics r phi v.facet px py) snap p (hasBit r.flags 1)
    let outs := (subRays ry.n ry.w).map (subRayOut s v p order ry)
    let m := outs.length
    ⟨subMean m (outs.foldl (fun a o => a + o.r) 0), subMean m (outs.foldl (fun a o => a + o.g) 0),
     subMean m (outs.foldl (fun a o => a + o.b) 0), outs.foldl (fun a o => a + o.counted) 0, outs.flatMap (fun o => o.bad), ry.eye⟩

/-- R127: a channel pre-compensated for crosstalk. -/
def xtalkChannel (xt c cl cr : Int) : Int := clampInt (c + sar (xt * (2 * c - cl - cr) + 0x8000) 16) 0 65535

/-- R127: a lenslet's ten pixels of one line after pre-compensation. -/
def xtalkLens (s : State) (v : Version) (p : Layered) (px0 py : Nat) (l : List PixelOut) : List PixelOut :=
  let r := recordOf s v (lensNo (px0 / 10) (py / 10))
  let xt := sar (r.at 9 * p.xtalkScale + 0x4000) 15
  (List.range l.length).map (fun i =>
    let z : PixelOut := ⟨0, 0, 0, 0, [], false⟩
    let c := l.getD i z
    let cl := if i = 0 then c else l.getD (i - 1) z
    let cr := if i + 1 = l.length then c else l.getD (i + 1) z
    if c.eye && p.xtalk && !decide (r.at 9 = 0) then
      { c with r := xtalkChannel xt c.r cl.r cr.r, g := xtalkChannel xt c.g cl.g cr.g, b := xtalkChannel xt c.b cl.b cr.b }
    else c)

/-- R119, R131: a pixel of TEST_RAYID for N facets. A lenslet's DARK darkens it as any other (R127). -/
def rayIdPixel (facets f px py : Nat) : PixelOut :=
  let h := (9 - px % 10) * facets + f
  ⟨(h * (65535 / (10 * facets - 1)) : Nat), ((9 - py % 10) * 7281 : Nat), if (px / 10 + py / 10) % 2 = 0 then 65535 else 0, 0, [], false⟩

/-- R131: what a kernel computes for ten pixels of one lenslet in one line. `pattern` is the groom pass's (R398); for a
kernel of another package the spec states no pixels, and each channel is a free value. -/
def lensletLine (s : State) (v : Version) (k : Kernel) (snap : Snapshot) (phi : Int) (pattern : Nat → Nat → Int)
    (facets px0 py : Nat) : List PixelOut :=
  let pxs := (List.range 10).map (fun i => px0 + i)
  let dark := lensDark s (lensNo (px0 / 10) (py / 10)) (recordOf s v (lensNo (px0 / 10) (py / 10)))
  let plain (f : Nat → PixelOut) : List PixelOut := pxs.map (fun px => if dark then ⟨0, 0, 0, 0, [], false⟩ else f px)
  match k.id with
  | 0x0100 =>
    let p := layeredOf k.block
    xtalkLens s v p px0 py (pxs.map (fun px => layeredPixel s v snap phi p (layerOrder v) px py))
  | 0x0200 => plain (fun px => ⟨pattern px py, pattern px py, pattern px py, 0, [], false⟩)
  | 0x0300 => plain (rayIdPixel facets v.facet · py)
  | 0x0301 => plain (fun _ => ⟨(leAt k.block 4 2 : Nat), (leAt k.block 6 2 : Nat), (leAt k.block 8 2 : Nat), 0, [], false⟩)
  | _ => pxs.map (fun px => ⟨(Config.kernelPixel k.slot k.id (px + 12000 * (py + 6480 * v.subframe)) 0 % 65536 : Nat),
      (Config.kernelPixel k.slot k.id (px + 12000 * (py + 6480 * v.subframe)) 1 % 65536 : Nat),
      (Config.kernelPixel k.slot k.id (px + 12000 * (py + 6480 * v.subframe)) 2 % 65536 : Nat), 0, [], false⟩)

end Sys2Proof.Machine
end

