-- ==== Sys2Proof/Machine/DrumOps.lean ====
section
/-! DEFINITION. Machine/DrumOps.lean: the drum's shared operations: the angle predictor (R151 to R153, R155), the drum's
states (R158, R167, R168), the placing of schedule angles (R163), the band plan (R164) and the lock servo (R169, R170). -/

namespace Sys2Proof.Machine

/-- The drum changed. -/
def State.setDrum (s : State) (f : Drum → Drum) : State := { s with drum := f s.drum }

/-- One revolution in sub-counts (R150). -/
def revSub : Int := 1048576

/-- R153: the predicted extended angle at a time. -/
def theta (d : Drum) (t : Int) : Int :=
  let x := t - d.te
  d.ce * 128 + sar (truncDiv (d.omegaE * x) 1000 + 2 ^ 23) 24 + sar (truncDiv (d.alpha * x * x) 2000000000000 + 2 ^ 15) 16

/-- R153: the correction interpolated from a table of 64 entries. -/
def corrOf (table : List Int) (a : Int) : Int :=
  let k := (sar a 14 % 64).toNat
  let fr := a % 16384
  let x := table.getD k 0
  let y := table.getD ((k + 1) % 64) 0
  x + sar ((y - x) * fr + 0x2000) 14

/-- R152: W, in edges. -/
def windowEdges (s : State) : Nat := 4 * s.get F.DRU_PREDICT_WINDOW

/-- R152: the predictor's values at an edge at extended count `cnt` and time `t`. After a glitch the speed and acceleration
are kept until 2W + 1 edges are held (R155). -/
def pushEdge (d : Drum) (w : Nat) (cnt t : Int) : Drum :=
  let h := ((cnt, t) :: d.hist).take (2 * w + 1)
  let full := decide (2 * w + 1 ≤ h.length)
  let a := h.getD w (cnt, t)
  let b := h.getD (2 * w) (cnt, t)
  let omega := truncDiv ((cnt - a.1) * 2 ^ 31 * 1000) (t - a.2)
  let before := truncDiv ((a.1 - b.1) * 2 ^ 31 * 1000) (a.2 - b.2)
  let alpha := if full then sar (truncDiv ((omega - before) * 2000000000) (t - b.2)) 8 else 0
  let base := { d with cnt := cnt, hist := h, ce := cnt, te := t, warm := Nat.min (d.warm + 1) (2 * w + 1), coasting := false }
  if d.keep && !full then base
  else if w + 1 ≤ h.length then
    { base with omega := omega, alpha := alpha, omegaE := omega + truncDiv (alpha * (t - a.2) * 128) 1000000000, keep := false }
  else base

/-- R151: the drum is commanded forward. -/
def drumForward (s : State) : Bool := s.on F.DRU_SPEED_CODE_CODE && !s.on F.DRU_BRAKE_BRAKE

/-- R151: does an edge come less than a quarter of the predicted interval after the one before? -/
def edgeTooEarly (d : Drum) (t : Int) : Bool :=
  match d.hist.head? with
  | some e => decide (0 < d.omegaE) && decide (4 * (t - e.2) * d.omegaE < 128 * 2 ^ 24 * 1000)
  | none => false

/-- R155: the count of a quadrature state nearest the coasted prediction. -/
def resumeCount (d : Drum) (quad : Nat) (t : Int) : Int :=
  let c := sar (theta d t + 64) 7
  let want : Int := ((quad + d.quadOff) % 4 : Nat)
  let up := (want - c) % 4
  if up ≤ 2 then c + up else c + up - 4

/-- R155: the predictor is valid (R153). -/
def predValid (s : State) : Bool :=
  decide (2 * windowEdges s + 1 ≤ s.drum.warm) && s.drum.indexSeen && decide (s.get F.DRU_STATE_STATE < 5)

/-- R171: the registers show the predictor. -/
def showDrum (s : State) : State :=
  s.setAll [(F.DRU_OMEGA_SPEED, s.drum.omegaE.toNat), (F.DRU_RPM_RPM, (s.drum.omegaE.toNat * 60000000 + 2 ^ 43) / 2 ^ 44),
    (F.DRU_STATE_PRED_VALID, b2n (predValid s))]

/-! ### States -/

/-- R400: a groom pass that runs is abandoned, for a row of R400. -/
def groomAbandon (s : State) (row : Nat) : State :=
  match s.cal.pass with
  | none => s
  | some _ =>
    let t : State := { s with cal := { s.cal with pass := none } }
    raiseIrq ((t.setAll [(F.CAL_STATE_STATE, 0), (F.CAL_STATE_BAND, 0), (F.CAL_STATE_SUBFRAME, 0), (F.CAL_STATE_RESULT, 1),
      (F.CAL_STATE_ABANDON, row)]).bump (F.CAL_COUNT_COUNT 2)) 0x150 2

/-- R170, R400: the lock state; a change sets LOCK_CHANGED, and leaving LOCKED abandons a groom pass. -/
def setLock (s : State) (v : Nat) : State :=
  if s.get F.DRU_STATE_LOCK = v then s
  else
    let t := if s.get F.DRU_STATE_LOCK = 2 then groomAbandon s 2 else s
    raiseIrq ((t.set F.DRU_STATE_LOCK v).setDrum (fun d => { d with lockRevs := 0, unlockRevs := 0 })) 0x080 3

/-- R170, R318: may the drum lock? A member also follows the head's LOCK_EN. -/
def lockEnabled (s : State) : Bool :=
  let headOk := match s.yard.heard with | some h => !s.isMember || !decide (h.2.2.1 = 0) | none => true
  !decide (s.role = 0) && s.on F.DRU_LOCK_CTRL_EN && headOk && !s.on F.DRU_STATE_N_MISMATCH

/-- R394: the groom mode in force and its reason: OFF in the degraded state, with the groom duty lapsed (R143), and while
the drum is not RUNNING. -/
def groomMode (s : State) : Nat × Nat :=
  let lapsed := decide ((assoc s.rsy.duties 7) = some none)
  if s.on F.ERR_STATE_DEGRADED || lapsed then (0, 3)
  else if s.get F.DRU_STATE_STATE = 2 then (s.get F.CAL_REQ_MODE, 0)
  else (0, 6)

/-- R394, R400: the groom mode's mirror follows; OFF abandons a pass. -/
def followGroomMode (s : State) : State :=
  let t := if (groomMode s).1 = 0 ∧ ¬ s.get F.CAL_REQ_EFF_MODE = 0 then groomAbandon s 2 else s
  moveMirror t 0x150 0x900 F.CAL_REQ_EFF_MODE (groomMode t).1 (groomMode t).2

/-- R167, R170: the drum's state; a change sets STATE_CHANGED, and the lock and the groom mode follow. -/
def setDrumState (s : State) (v : Nat) : State :=
  if s.get F.DRU_STATE_STATE = v then s
  else
    let t := raiseIrq ((if v = 2 then s else groomAbandon s 2).set F.DRU_STATE_STATE v) 0x080 2
    followGroomMode (setLock t (if v = 2 ∧ lockEnabled t = true then 1 else 0))

/-- R144, R168: parked output gates the render engines of stalls 6 to 11. -/
def gateStalls (s : State) : State :=
  ((List.range 6).map (fun i => i + 6)).foldl (fun t k => if t.get (F.STL_STATE_STATE k) = 0 then t.set (F.STL_STATE_STATE k) 2 else t) s

/-- R144: the stalls gated in parked output serve again. -/
def ungateStalls (s : State) : State :=
  ((List.range 6).map (fun i => i + 6)).foldl (fun t k => if t.get (F.STL_STATE_STATE k) = 2 then t.set (F.STL_STATE_STATE k) 0 else t) s

/-- R158, R168: parked output begins. -/
def beginParkedOutput (s : State) (unknown : Bool) : State :=
  gateStalls (s.setAll [(F.DRU_STATE_PARKED_OUT, 1), (F.DRU_STATE_LF_OUT, 0), (F.DRU_STATE_POS_UNKNOWN, b2n unknown),
    (F.PNL_LR_STATE_DIVISOR, 1), (F.PNL_LR_STATE_HZ, 60)])

/-- R158: lot releases stop, and strobes not yet begun are suppressed. -/
def haltPlans (s : State) : State :=
  s.setDrum (fun d =>
    let halted := d.plans.map (fun p => { p with released := 68, strobe := if p.strobe = 0 then 2 else p.strobe })
    { d with bands := [], lightNext := none, plans := halted })

/-- R158, steps 1 to 3, R509: encoder loss (state 5) or drum failure (state 6). In PARKED with the drum braked only steps 1
and 2 run, and parked output goes on. -/
def drumLoss (s : State) (v : Nat) : State :=
  if 5 ≤ s.get F.DRU_STATE_STATE then s
  else
    let parked := decide (s.get F.DRU_STATE_STATE = 0)
    let a := raise (raiseIrq (setDrumState s v) 0x080 (v - 5)) { page := 0x080, cls := 0x0B, code := v, sev := 2, unit := 0 }
    let b := (moveMirror a 0x080 0x900 F.DRU_REQ_EFF_MODE 0 3).setAll [(F.DRU_SPEED_CODE_CODE, 0), (F.DRU_BRAKE_BRAKE, 1)]
    showDrum (if parked then b else haltPlans (b.set F.DRU_STATE_LF_OUT 0))

/-- R166, R167: a spin-up starts: the brake is released and the predictor starts afresh. -/
def startSpinUp (s : State) : State :=
  showDrum (setDrumState (ungateStalls ((s.setAll [(F.DRU_BRAKE_BRAKE, 0), (F.DRU_STATE_PARKED_OUT, 0), (F.PNL_LR_STATE_DIVISOR, 0), (F.PNL_LR_STATE_HZ, 0)]).setDrum (fun d =>
    { Drum.reset with quad := d.quad, quadOff := d.quadOff, cnt := d.cnt, ce := d.cnt, lastIndex := d.cnt, te := s.now,
                      corr := d.corr, plans := d.plans, subframe := d.subframe, facet := d.facet, faultPin := d.faultPin }))) 1)

/-- R167: the drum follows a new effective MODE (0 PARK, 1 RUN). -/
def driveMode (s : State) (mode : Nat) : State :=
  let st := s.get F.DRU_STATE_STATE
  if mode = 1 then
    (if st = 0 ∨ 5 ≤ st then startSpinUp s else if st = 3 ∨ st = 4 then setDrumState (s.set F.DRU_BRAKE_BRAKE 0) 1 else s)
  else if st = 1 ∨ st = 2 then setDrumState s 3
  else s

/-! ### The schedule -/

/-- The first angle congruent to `m` (one revolution) after `a`. -/
def placeAfter (a m : Int) : Int := a + 1 + (m - a - 1) % revSub

/-- The last angle congruent to `m` before `a`. -/
def placeBefore (a m : Int) : Int := a - 1 - (a - 1 - m) % revSub

/-- R150, R160: the angle `g` grades after E, for `n` facets. -/
def gradeAngle (e n : Nat) (g : Int) : Int := ((e : Int) + Int.fdiv (g * 2 ^ 20 + 30 * n) (60 * n)) % revSub

/-- R160: the release lead L in sub-counts, for the faster of the current and target speeds. -/
def releaseLead (s : State) (rpm : Nat) : Nat :=
  let lead := s.get F.DRU_TIMING_RELEASE_LEAD
  Nat.max ((lead * rpm * 2 ^ 20 + 59999999) / 60000000) ((lead * s.drum.omegaE.toNat + (2 ^ 24 - 1)) / 2 ^ 24)

/-- R160: the fields of the entry of facet f and band b in a bank. -/
def schedEntry (s : State) (bank rpm f b : Nat) : List (Field × Nat) :=
  let i := 12 * f + b
  let n := s.get F.DRU_STATE_FACETS
  let e := s.get F.DRU_EDGE_ANGLE_E
  let g : Int := 60 * f + 5 * b - 60 - (s.get F.DRU_TIMING_STROBE_LEAD : Nat)
  let start := gradeAngle e n g
  if f < n then
    [(F.SCHED_RELEASE_ANGLE bank i, ((start - releaseLead s rpm) % revSub).toNat), (F.SCHED_WRITE_START_ANGLE bank i, start.toNat),
     (F.SCHED_WRITE_DEADLINE_ANGLE bank i, (gradeAngle e n (g + 30)).toNat), (F.SCHED_STROBE_ON_ANGLE bank i, (gradeAngle e n (g + 48)).toNat),
     (F.SCHED_STROBE_OFF_ANGLE bank i, (gradeAngle e n (g + 60)).toNat), (F.SCHED_CTRL_VALID bank i, 1), (F.SCHED_CTRL_ZONE_EN bank i, 3)]
  else [(F.SCHED_CTRL_VALID bank i, 0)]

/-- R160, R162, R166: Ozzizo fills the bank that is not in force for a target speed, and asks for the swap; it writes only pages that it
owns (log entry 88). -/
def fillSchedule (s : State) (rpm : Nat) : State :=
  let bank := 1 - s.get F.DRU_SCHED_SELECT_ACTIVE
  if s.get F.DRU_STATE_FACETS = 0 ∨ s.pageOwner (0x082 + bank) ≠ 0 then s
  else
    (s.setAll ((List.range 96).flatMap (fun i => schedEntry s bank rpm (i / 12) (i % 12)))).setAll
      [(F.DRU_SCHED_SELECT_PENDING, 1), (F.DRU_SCHED_SELECT_SWAP, 1)]

/-- R161: an entry's word of facet f and band b in the bank in force. -/
def schedAngle (s : State) (w : Nat → Nat → Field) (f b : Nat) : Int := (s.get (w (s.get F.DRU_SCHED_SELECT_ACTIVE) (12 * f + b)) : Nat)

/-- R163: at the start of light-field output a band's first facet is the one whose RELEASE lies next ahead of an angle: the
facet, and the angle after which its WRITE_START is placed. -/
def firstFacet (s : State) (b : Nat) (a : Int) : Nat × Int :=
  let n := Nat.max (s.get F.DRU_STATE_FACETS) 1
  (List.range n).foldl (fun best f =>
    let r := placeAfter a (schedAngle s F.SCHED_RELEASE_ANGLE f b)
    if r < best.2 then (f, r) else best) (0, a + 2 * revSub)

/-- R163: every band begins to step through its facets. -/
def startBands (s : State) : State :=
  s.setDrum (fun d => { d with bands := (List.range 12).map (fun b => firstFacet s b (theta d s.now)) })

/-- R164: a band's plan, its RELEASE reached at time t_r. -/
def planOf (s : State) (b f : Nat) (after : Int) : Plan :=
  let d := s.drum
  let tr : Int := (s.now : Nat)
  let xs := placeAfter after (schedAngle s F.SCHED_WRITE_START_ANGLE f b)
  let xr := placeBefore xs (schedAngle s F.SCHED_RELEASE_ANGLE f b)
  let xd := placeAfter xs (schedAngle s F.SCHED_WRITE_DEADLINE_ANGLE f b)
  let xon := placeAfter xd (schedAngle s F.SCHED_STROBE_ON_ANGLE f b)
  let xoff := placeAfter xon (schedAngle s F.SCHED_STROBE_OFF_ANGLE f b)
  let wr := d.omegaE + truncDiv (d.alpha * (tr - d.te) * 128) 1000000000
  let at' (x : Int) : Int := tr + truncDiv ((x - theta d tr) * 2 ^ 24 * 1000) wr
  let mid := truncDiv (at' xon + at' xoff) 2 - tr
  let phi := clampInt (sar (truncDiv (d.alpha * mid * mid) 2000000000000 + 2 ^ 15) 16 + corrOf d.corr (truncDiv (xon + xoff) 2))
    (-32768) 32767
  { band := b, facet := f, subframe := d.subframe, tStart := at' xs, tDeadline := at' xd, tOn := at' xon, tOff := at' xoff,
    period := truncDiv (at' xd - at' xs) 540, phi := phi,
    zoneEn := s.get (F.SCHED_CTRL_ZONE_EN (s.get F.DRU_SCHED_SELECT_ACTIVE) (12 * f + b)),
    xRelease := xr, xStart := xs, xDeadline := xd, xOn := xon, xOff := xoff, released := 0, moved := 0, buffer := [], due := 0,
    ready := [], tail := (0, 0, 0), mode := 0, sent := 0, started := false, closed := false, strobe := 0 }

/-- R161: is a band written in a facet? -/
def schedValid (s : State) (b f : Nat) : Bool :=
  s.on (F.SCHED_CTRL_VALID (s.get F.DRU_SCHED_SELECT_ACTIVE) (12 * f + b)) && decide (f < s.get F.DRU_STATE_FACETS)

/-- R254, R268: a band whose port is HELD, or not running, gets no lots, no windows and no strobes. -/
def portServes (s : State) (b : Nat) : Bool := decide (s.get (F.PNL_PORT_STATE_STATE b) = 4)

/-- R163, R164: RELEASE of a band is reached: its plan is fixed, and the band steps to its next facet. A plan whose strobe is
over and whose lines are all sent is kept no longer. -/
def releaseBand (s : State) (b : Nat) : State :=
  match s.drum.bands[b]? with
  | none => s
  | some (f, after) =>
    let p := planOf s b f after
    let n := Nat.max (s.get F.DRU_STATE_FACETS) 1
    s.setDrum (fun d =>
      { d with
          bands := d.bands.set b ((f + 1) % n, p.xStart)
          plans := d.plans.filter (fun q => !(decide (q.band = b) && q.closed && decide (2 ≤ q.strobe))) ++
            (if schedValid s b f && portServes s b then [p] else []) })

/-- The oldest plan of a band that meets a condition. -/
def planFor (s : State) (b : Nat) (c : Plan → Bool) : Option Plan := s.drum.plans.find? (fun p => decide (p.band = b) && c p)

/-- A plan of a band and subframe changed. -/
def setPlan (s : State) (p : Plan) (f : Plan → Plan) : State :=
  s.setDrum (fun d => { d with plans := d.plans.map (fun q => if q.band = p.band ∧ q.subframe = p.subframe then f q else q) })

/-! ### The lock servo -/

/-- R169: the phase error at a time, in −2^19 … 2^19 − 1 sub-counts. -/
def phaseError (s : State) : Int :=
  let t := s.get F.DRU_LOCK_PERIOD_T_REV
  let x : Int := ((s.now : Int) - (s.get F.DRU_LOCK_EPOCH_EPOCH : Int)) * 2 ^ 32
  let target : Int := (s.get F.DRU_EDGE_ANGLE_E : Int) + Int.fdiv (x % (t : Int) * revSub) (t : Int)
  (theta s.drum s.now - target + 2 ^ 19) % revSub - 2 ^ 19

/-- R170: once per revolution the phase error is measured and the lock state follows it. -/
def servoRevolution (s : State) : State :=
  if s.role = 0 ∨ s.get F.DRU_LOCK_PERIOD_T_REV = 0 then s
  else
    let e := phaseError s
    let m := iabs e
    let w : Int := (s.get F.DRU_LOCK_CTRL_WINDOW * 128 : Nat)
    let t := (s.setInt F.DRU_PHASE_ERR_ERROR e).setDrum (fun d =>
      { d with lockRevs := if m ≤ w then d.lockRevs + 1 else 0, unlockRevs := if 4 * w < m then d.unlockRevs + 1 else 0 })
    if !lockEnabled t || !decide (t.get F.DRU_STATE_STATE = 2) then setLock t 0
    else if t.get F.TIM_SERVO_STATE = 3 then setLock t 3
    else match t.get F.DRU_STATE_LOCK with
      | 0 => setLock t 1
      | 1 => if 60 ≤ t.drum.lockRevs then setLock t 2 else t
      | 2 => if 8 ≤ t.drum.unlockRevs then setLock t 1 else t
      | _ => setLock t (if m ≤ w then 2 else 1)

end Sys2Proof.Machine
end

