-- ==== Sys2Proof/Machine/ViewerOps.lean ====
section
/-! DEFINITION. Machine/ViewerOps.lean: the shared operations of viewer tracking and the view budget: lengths (R200), frustums
(R212, R213), editions (R207), snapshots (R208, R209), admission and release (R204), and the effective view budget (R210). -/

namespace Sys2Proof.Machine

/-- The roster changed. -/
def State.setRoster (s : State) (f : Roster → Roster) : State := { s with roster := f s.roster }

/-- R200: a length in mm as 1/16 pitches, rounded to nearest. -/
def mmUnits (mm : Nat) : Nat := (mm * 32000 + 63) / 126

/-- R200: the tile origin on an axis. -/
def tileOrigin (s : State) (axis : Nat) : Int := s.getInt (F.VWB_TILE_ORIGIN_VALUE axis)

/-- R212: the frustum of a panel region: a local point. -/
def inFrustum (s : State) (x0 x1 y0 y1 : Int) (x y z : Int) : Bool :=
  let h : Int := (s.get F.VWB_FAN_FAN_H : Nat)
  let v : Int := (s.get F.VWB_FAN_FAN_V : Nat)
  decide (0 < z) && decide (x0 * 65536 - z * h ≤ x * 65536) && decide (x * 65536 ≤ x1 * 65536 + z * h) &&
  decide (y0 * 65536 - z * v ≤ y * 65536) && decide (y * 65536 ≤ y1 * 65536 + z * v)

/-- R208: the frustum of the whole active area. -/
def inTile (s : State) (x y z : Int) : Bool := inFrustum s 0 184320 0 103680 x y z

/-- R212: the first line of a zone. -/
def zoneLine (z : Nat) : Nat := 540 * (z / 2) + 270 * (z % 2)

/-- R212: the frustum of a zone. -/
def inZone (s : State) (zone : Nat) (x y z : Int) : Bool :=
  inFrustum s 0 184320 ((zoneLine zone * 16 : Nat) : Int) (((zoneLine zone + 270) * 16 : Nat) : Int) x y z

/-- A viewer's eyes. -/
def Viewer.eyes (v : Viewer) : List EyeEst := v.left.toList ++ v.right.toList

/-- A candidate's or overflow viewer's eyes. -/
def Person.eyes (p : Person) : List EyeEst := p.left.toList ++ p.right.toList

/-- R213: every eye that counts for zone observation. -/
def countedEyes (s : State) : List EyeEst :=
  s.roster.viewers.flatMap Viewer.eyes ++ s.roster.candidates.flatMap Person.eyes ++ s.roster.overflow.flatMap Person.eyes

/-- R213: does any eye that counts lie in a zone's frustum? -/
def zoneSeen (s : State) (zone : Nat) : Bool :=
  (countedEyes s).any (fun e => inZone s zone (e.x - tileOrigin s 0) (e.y - tileOrigin s 1) (e.z - tileOrigin s 2))

/-- R204: the roster keeper is the head, or a controller standing alone. -/
def rosterKeeper (s : State) : Bool := !s.isMember

/-! ### Editions -/

/-- R207, R213, R216: an edition is published: the roster copied whole, counted, its numbers shown, and zones that an eye
lies in observed. -/
def publish (s : State) : State :=
  let t := ((s.setRoster (fun r => { r with edition := r.viewers })).step1 F.VWB_EDITION_COUNT).setAll
    [(F.VWB_STATUS_VIEWERS, s.roster.viewers.length), (F.VWB_STATUS_CANDIDATES, s.roster.candidates.length),
     (F.VWB_STATUS_OVERFLOW, s.roster.overflow.length), (F.VWB_STATUS_KEEPER, b2n (rosterKeeper s))]
  (List.range 24).foldl (fun u z =>
    if zoneSeen u z && !u.on (F.VWB_ZONE_OBSERVED z) then
      (u.set (F.VWB_ZONE_OBSERVED z) 1).setRoster (fun r => { r with seenAt := mapPut r.seenAt z u.now })
    else u) t

/-- R207: an edition that admits, releases or moves viewers also changes the generation. -/
def publishChange (s : State) : State := publish (s.step1 F.VWB_ROSTER_GEN_GEN)

/-! ### Snapshots -/

/-- A position moved by a velocity (per ms) for a time (ns), rounded to nearest. -/
def extrapolate (x v h : Int) : Int := x + Int.fdiv (2 * v * h + 1000000) 2000000

/-- R208: how far ahead an eye is extrapolated. -/
def horizon (s : State) (v : Viewer) (e : EyeEst) (tMid : Int) : Int :=
  let h := if s.on F.VWB_REQ_TRACK_EFF_PREDICT then tMid - e.te else 0
  let g := if v.coasting then min h (v.last + 50000000 - e.te) else h
  clampInt g 0 ((s.get F.VWB_TRACK_CFG_PRED_MAX * 1000000 : Nat) : Int)

/-- The integer square root, by bisection over `n` bits. -/
def isqrt : Nat → Nat → Nat → Nat
  | 0, _, r => r
  | n + 1, x, r => isqrt n x (if (r + 2 ^ n) * (r + 2 ^ n) ≤ x then r + 2 ^ n else r)

/-- R209: a viewer's eye separation, none for a one-eyed viewer. -/
def separation (v : Viewer) : Option Nat :=
  match v.left, v.right with
  | some a, some b =>
    some (isqrt 33 ((a.x - b.x) * (a.x - b.x) + (a.y - b.y) * (a.y - b.y) + (a.z - b.z) * (a.z - b.z)).toNat 0)
  | _, _ => none

/-- R209: H + U, limited. -/
def coneReach (s : State) (v : Viewer) : Nat :=
  let u := if v.coasting then mmUnits (s.get F.VWB_REQ_CONE_EFF_GROW_MM * (((s.now : Int) - v.last).toNat / 10000000)) else 0
  let limit := match separation v with
    | some d => 2 * d / 5
    | none => mmUnits 25
  Nat.min (mmUnits (s.get F.VWB_REQ_CONE_EFF_HALF_MM) + u) limit

/-- R210: the coded number of sub-rays. -/
def codedN (c : Nat) : Nat := 2 ^ c

/-- R208, R209: an eye's entry, none where it does not enter the snapshot. -/
def eyeEntry (s : State) (tMid : Int) (v : Viewer) (e : EyeEst) : Option EyeEntry :=
  let h := horizon s v e tMid
  let x := extrapolate e.x e.vx h - tileOrigin s 0
  let y := extrapolate e.y e.vy h - tileOrigin s 1
  let z := extrapolate e.z e.vz h - tileOrigin s 2
  if 0 < z ∧ ((mmUnits (s.get F.VWB_RANGE_MIN_MM) : Nat) : Int) ≤ z ∧ z ≤ ((mmUnits (s.get F.VWB_RANGE_MAX_MM) : Nat) : Int) ∧
     inTile s x y z = true then
    some ⟨x, y, z, truncDiv (2 ^ 32) z, truncDiv ((coneReach s v * 2 ^ 20 : Nat) : Int) z,
      codedN (s.get F.VWB_REQ_SS_EFF_EYE_N), (s.get F.VWB_REQ_W_EYE_EFF_W : Nat)⟩
  else none

/-- R208: entries by increasing ez; equal ones keep their order (lower slot first, left before right). -/
def insertEye (e : EyeEntry) : List EyeEntry → List EyeEntry
  | [] => [e]
  | x :: xs => if x.ez ≤ e.ez then x :: insertEye e xs else e :: x :: xs

/-- Viewers by slot. -/
def insertViewer (v : Viewer) : List Viewer → List Viewer
  | [] => [v]
  | x :: xs => if x.slot ≤ v.slot then x :: insertViewer v xs else v :: x :: xs

/-- R206, R208: the snapshot of a lot, from the current edition. -/
def snapshotOf (s : State) (tMid : Int) : Snapshot :=
  let vs := s.roster.edition.foldl (fun l v => insertViewer v l) []
  let on := s.on F.VWB_REQ_TRACK_EFF_EN && (!s.isMember || s.roster.full)
  let es := if on then vs.flatMap (fun v => v.eyes.filterMap (eyeEntry s tMid v)) else []
  ⟨es.foldl (fun l e => insertEye e l) [], codedN (s.get F.VWB_REQ_SS_EFF_DEFAULT_N), (s.get F.VWB_REQ_W_DEFAULT_EFF_W : Nat)⟩

/-! ### Admission and release -/

/-- R203: the identifier after one. -/
def nextId (n : Nat) : Nat := if n = 0xFFFFFFFF then 1 else n + 1

/-- R204: the lowest free slot. -/
def freeSlot (s : State) : Option Nat := (List.range 32).find? (fun k => !s.roster.viewers.any (fun v => decide (v.slot = k)))

/-- How far from the wall a person is: "the nearest first". -/
def Person.depth (p : Person) : Int :=
  match p.left, p.right with
  | some a, some b => min a.z b.z
  | some a, none => a.z
  | none, some b => b.z
  | none, none => 0

/-- People in order of distance. -/
def insertPerson (p : Person) : List Person → List Person
  | [] => [p]
  | x :: xs => if x.depth ≤ p.depth then x :: insertPerson p xs else p :: x :: xs

/-- R203, R204: a person is admitted to a slot. -/
def seat (s : State) (p : Person) (slot : Nat) : State :=
  let id := nextId s.roster.lastId
  let v : Viewer := ⟨slot, id, s.get F.XSH_ROLE_NUMBER, false, p.left, p.right, p.last⟩
  raiseIrq ((s.setRoster (fun r => { r with viewers := r.viewers ++ [v], lastId := id })).bump (F.VWB_COUNT_COUNT 0)) 0x0A0 0

/-- R204: a confirmed candidate takes the lowest free slot or becomes an overflow viewer, of whom the 16 nearest are kept. -/
def admitOrOverflow (s : State) (p : Person) : State :=
  match freeSlot s with
  | some k => seat s p k
  | none => raiseIrq ((s.setRoster (fun r => { r with overflow := (insertPerson p r.overflow).take 16 })).bump (F.VWB_COUNT_COUNT 2)) 0x0A0 2

/-- R204: while a slot is free the overflow viewer nearest to the wall is admitted. -/
def admitOverflow (s : State) : State :=
  match freeSlot s, s.roster.overflow with
  | some k, p :: ps => seat (s.setRoster (fun r => { r with overflow := ps })) p k
  | _, _ => s

/-- R202: a viewer is released; R204: the slot goes to an overflow viewer. -/
def releaseViewer (s : State) (slot : Nat) : State :=
  if s.roster.viewers.any (fun v => decide (v.slot = slot)) then
    admitOverflow (raiseIrq ((s.setRoster (fun r => { r with viewers := r.viewers.filter (fun v => !decide (v.slot = slot)) })).bump
      (F.VWB_COUNT_COUNT 1)) 0x0A0 1)
  else s

/-! ### The view budget -/

/-- R214: TRACKING from the ports that delivered used frames, and off with the fusion duty lapsed (R143). -/
def trackingValue (s : State) : Nat :=
  if decide ((assoc s.rsy.duties 6) = some none) then 0
  else match s.roster.used.length with
    | 0 => 0
    | 1 => 1
    | _ => 2

/-- R211: DEFAULT_N and EYE_N codes after a number of halvings, DEFAULT_N first. -/
def halved (k d e : Nat) : Nat × Nat := (d - k, e - (k - d))

/-- R210: the supersampling limits in force: reason, and the codes each leaves. -/
def ssLimits (s : State) : List (Nat × Nat × Nat) :=
  let d := s.get F.VWB_REQ_SS_DEFAULT_N
  let e := s.get F.VWB_REQ_SS_EYE_N
  let step := s.get F.THM_STATE_STEP
  let h := halved s.roster.guardSteps d e
  (if step = 0 then [] else if step = 1 then [(1, d, 0)] else [(1, 0, 0)]) ++
  (if s.roster.guardSteps = 0 then [] else [(2, h.1, h.2)]) ++
  (if s.on F.ERR_STATE_DEGRADED then [(3, 0, 0)] else [])

/-- R210: the effective supersampling codes and the lowest reason that produces them. -/
def effectiveSs (s : State) : Nat × Nat × Nat :=
  let d := s.get F.VWB_REQ_SS_DEFAULT_N
  let e := s.get F.VWB_REQ_SS_EYE_N
  let ls := ssLimits s
  let d2 := ls.foldl (fun x l => Nat.min x l.2.1) d
  let e2 := ls.foldl (fun x l => Nat.min x l.2.2) e
  let by' := ls.find? (fun l => (decide (d2 < d) && decide (l.2.1 = d2)) || (decide (e2 < e) && decide (l.2.2 = e2)))
  (d2, e2, (by'.map Prod.fst).getD 0)

/-- A mirror's word, and its reason, put aside until its version point (R43); nothing where the mirror already shows it. -/
def setAside (s : State) (page offset : Nat) (l : List (Field × Nat)) (reason : Nat) : State :=
  let a := page * 0x1000 + offset
  let rest := s.mech.evaluated.filter (fun e => !decide (e.1 = a))
  if l.all (fun p => decide (s.get p.1 = p.2)) then { s with mech := { s.mech with evaluated := rest } }
  else
    let word := l.foldl (fun w p => w + p.2 * 2 ^ p.1.lo) 0
    { s with mech := { s.mech with evaluated := rest ++ [(a, word, reason)] } }

/-- R43: a mirror takes the value set aside for it, its fields being known. -/
def takeAside (s : State) (page offset : Nat) (fs : List Field) : State :=
  match s.mech.evaluated.find? (fun e => decide (e.1 = page * 0x1000 + offset)) with
  | none => s
  | some e => setMirrors s page offset (fs.map (fun f => (f, bitsOf e.2.1 f.lo f.w))) e.2.2

/-- R210: the view budget evaluated. A member's REQ_TRACK and REQ_CONE are the head's (R318). -/
def evaluateBudget (s : State) : State :=
  let ss := effectiveSs s
  let member := s.isMember
  let heard := s.yard.heard
  let track := match heard with | some h => if member then h.2.2.2.1 else s.get F.VWB_REQ_TRACK_PREDICT * 2 + s.get F.VWB_REQ_TRACK_EN
                                | none => s.get F.VWB_REQ_TRACK_PREDICT * 2 + s.get F.VWB_REQ_TRACK_EN
  let cone := match heard with | some h => if member then h.2.2.2.2 else s.get F.VWB_REQ_CONE_GROW_MM * 256 + s.get F.VWB_REQ_CONE_HALF_MM
                               | none => s.get F.VWB_REQ_CONE_GROW_MM * 256 + s.get F.VWB_REQ_CONE_HALF_MM
  let yardReason := if member && heard.isSome then 4 else 0
  let off := decide (s.get F.VWB_STATUS_TRACKING = 0)
  let hot := b2n (decide (2 ≤ s.get F.THM_STATE_STEP))
  let half (w : Nat) : Nat := if hot = 1 then w / 2 else w
  let a := setAside s 0x0A2 0x900 [(F.VWB_REQ_TRACK_EFF_PREDICT, bitOf track 1), (F.VWB_REQ_TRACK_EFF_EN, bitOf track 0)] yardReason
  let b := setAside a 0x0A2 0x908 [(F.VWB_REQ_CONE_EFF_GROW_MM, bitsOf cone 8 8), (F.VWB_REQ_CONE_EFF_HALF_MM, bitsOf cone 0 8)] yardReason
  let c := setAside b 0x0A2 0x940 [(F.VWB_REQ_SS_EFF_DEFAULT_N, ss.1), (F.VWB_REQ_SS_EFF_EYE_N, ss.2.1)] ss.2.2
  let d := setAside c 0x0A2 0x948 [(F.VWB_REQ_W_EYE_EFF_W, half (s.get F.VWB_REQ_W_EYE_W))] hot
  let e := setAside d 0x0A2 0x950 [(F.VWB_REQ_W_DEFAULT_EFF_W, half (s.get F.VWB_REQ_W_DEFAULT_W))] hot
  let f := setAside e 0x0A2 0x960 [(F.VWB_REQ_LOAD_EFF_LIMIT, s.get F.VWB_REQ_LOAD_LIMIT)] 0
  setAside f 0x0A2 0x980 [(F.VWB_REQ_DIM_EFF_EN, if off then 0 else s.get F.VWB_REQ_DIM_EN),
    (F.VWB_REQ_DIM_EFF_LEVEL, s.get F.VWB_REQ_DIM_LEVEL), (F.VWB_REQ_DIM_EFF_HOLD_MS, s.get F.VWB_REQ_DIM_HOLD_MS)]
    (if off && s.on F.VWB_REQ_DIM_EN then 2 else 0)

/-- A broadcast frame. -/
def bcastFrame (typ vc : Nat) (payload : List Byte) : Frame := { mkFrame typ vc 0 0 0 0 0 0 payload with bcast := true }

/-- R318: the YARD_PARAM that a head's settings make. -/
def paramBytes (s : State) : List Byte :=
  leBytes 2 (s.get F.DRU_REQ_EFF_RPM) ++ leBytes 1 (s.get F.DRU_STATE_FACETS) ++ leBytes 1 (s.get F.DRU_LOCK_CTRL_EN) ++
  leBytes 4 (s.get F.VWB_REQ_TRACK_EFF_PREDICT * 2 + s.get F.VWB_REQ_TRACK_EFF_EN) ++ leBytes 8 (s.get F.DRU_LOCK_EPOCH_EPOCH) ++
  leBytes 4 (s.get F.VWB_REQ_CONE_EFF_GROW_MM * 256 + s.get F.VWB_REQ_CONE_EFF_HALF_MM) ++ leBytes 4 0

/-- R169, R318: a head broadcasts its settings. -/
def sendYardParam (s : State) : State := if s.isHead then originate s (bcastFrame 0x26 0 (paramBytes s)) else s

/-- R318: a head's settings go out when a step has changed them. -/
def paramChanged (before after : State) : State := if paramBytes before = paramBytes after then after else sendYardParam after

/-- R210, R23: the mirrors of the view budget take their values at a lot release. -/
def applyBudget (s : State) : State :=
  let a := takeAside s 0x0A2 0x900 [F.VWB_REQ_TRACK_EFF_PREDICT, F.VWB_REQ_TRACK_EFF_EN]
  let b := takeAside a 0x0A2 0x908 [F.VWB_REQ_CONE_EFF_GROW_MM, F.VWB_REQ_CONE_EFF_HALF_MM]
  let c := takeAside b 0x0A2 0x940 [F.VWB_REQ_SS_EFF_DEFAULT_N, F.VWB_REQ_SS_EFF_EYE_N]
  let d := takeAside c 0x0A2 0x948 [F.VWB_REQ_W_EYE_EFF_W]
  let e := takeAside d 0x0A2 0x950 [F.VWB_REQ_W_DEFAULT_EFF_W]
  let f := takeAside e 0x0A2 0x960 [F.VWB_REQ_LOAD_EFF_LIMIT]
  paramChanged s <| takeAside f 0x0A2 0x980 [F.VWB_REQ_DIM_EFF_EN, F.VWB_REQ_DIM_EFF_LEVEL, F.VWB_REQ_DIM_EFF_HOLD_MS]

/-- R214: TRACKING follows; a change sets TRACKING_CHANGED, and the budget is evaluated anew. -/
def followTracking (s : State) : State :=
  let v := trackingValue s
  if s.get F.VWB_STATUS_TRACKING = v then s
  else evaluateBudget (raiseIrq (s.set F.VWB_STATUS_TRACKING v) 0x0A0 3)

/-! ### Degraded state -/

/-- R452: the degraded state is entered, with a cause's bit; an entry of severity 3 is made, the view budget is limited, and
grooming is off. -/
def enterDegraded (s : State) (bit page cls code unit : Nat) : State :=
  if s.on F.ERR_STATE_DEGRADED then s.set F.ERR_STATE_DEG_WHY (withBit (s.get F.ERR_STATE_DEG_WHY) bit)
  else
    let t := (s.set F.ERR_STATE_DEGRADED 1).set F.ERR_STATE_DEG_WHY (withBit (s.get F.ERR_STATE_DEG_WHY) bit)
    followGroomMode (evaluateBudget (raise (raiseIrq t 0x180 2) { page := page, cls := cls, code := code, sev := 3, unit := unit }))

end Sys2Proof.Machine
end

