-- ==== Sys2Proof/Machine/Viewers.lean ====
section
/-! DEFINITION. Machine/Viewers.lean: the meanings of the viewer tracking commands: detection (R198, R199), fusion (R201 to
R204), ownership (R205, R206), zones (R213) and the messages that carry the roster (R318). -/

namespace Sys2Proof.Machine

/-! ### Roster messages -/

/-- A signed 32-bit value's bytes. -/
def s32 (x : Int) : List Byte := leBytes 4 (ofSigned x 32)

/-- R318: an eye's 24 bytes of an ESTIMATE. -/
def eyeBytes (e : Option EyeEst) : List Byte :=
  match e with
  | some e => s32 e.x ++ s32 e.y ++ s32 e.z ++ s32 e.vx ++ s32 e.vy ++ s32 e.vz
  | none => leBytes 24 0

/-- R318: the observation time of a viewer's estimate. -/
def Viewer.te (v : Viewer) : Int :=
  match v.left, v.right with
  | some a, some b => max a.te b.te
  | some a, none => a.te
  | none, some b => b.te
  | none, none => 0

/-- R318: a viewer's ESTIMATE. -/
def estimateBytes (v : Viewer) : List Byte :=
  leBytes 4 v.id ++ leBytes 4 (b2n v.left.isSome + 2 * b2n v.right.isSome) ++ eyeBytes v.left ++ eyeBytes v.right ++
    leBytes 8 v.te.toNat


/-- R205: the owner broadcasts its estimate. -/
def sendEstimate (s : State) (v : Viewer) : State :=
  if s.role = 0 then s else originate s (bcastFrame 0x31 0 (estimateBytes v))

/-- R318: a ROSTER_CHANGE entry: 1 seat, 2 release, 3 owner change, which the last estimate follows. -/
def rosterEntry (op : Nat) (v : Viewer) : List Byte :=
  leBytes 1 op ++ leBytes 1 v.slot ++ leBytes 1 v.owner ++ leBytes 1 0 ++ leBytes 4 v.id ++ leBytes 8 0 ++
    (if op = 3 then estimateBytes v else [])

/-- R318: entries gathered into frames' payloads: a frame takes entries while another of the longest kind would still fit. -/
def packEntries : List (List Byte) → Nat → List Byte → List (Nat × List Byte)
  | [], n, acc => if n = 0 then [] else [(n, acc)]
  | e :: es, n, acc =>
    if acc.length + 8 + 80 ≤ 1024 then packEntries es (n + 1) (acc ++ e) else (n, acc) :: packEntries es 1 e

/-- R318: a roster change broadcast under the current generation; more than one frame, or one too full to tell, ends with a
frame of COUNT zero. -/
def sendRoster (s : State) (entries : List (List Byte)) : State :=
  if s.isHead then
    let head (n : Nat) : List Byte := leBytes 4 (s.get F.VWB_ROSTER_GEN_GEN) ++ leBytes 2 n ++ leBytes 2 0
    let ps := packEntries entries 0 []
    let more := decide (1 < ps.length) || ps.any (fun p => decide (1024 < p.2.length + 8 + 80))
    (ps.map (fun p => head p.1 ++ p.2) ++ (if more then [head 0] else [])).foldl (fun t b => originate t (bcastFrame 0x32 0 b)) s
  else s

/-- R205: what changed between two rosters goes out as one change. -/
def announce (before after : State) : State :=
  let old := before.roster.viewers
  let new := after.roster.viewers
  let gone := old.filter (fun v => !new.any (fun w => decide (w.id = v.id)))
  let come := new.filter (fun v => !old.any (fun w => decide (w.id = v.id)))
  let moved := new.filter (fun v => old.any (fun w => decide (w.id = v.id) && !decide (w.owner = v.owner)))
  if after.roster = before.roster then after
  else if gone.isEmpty && come.isEmpty && moved.isEmpty then publish after
  else sendRoster (publishChange after) (gone.map (rosterEntry 2) ++ come.map (rosterEntry 1) ++ moved.map (rosterEntry 3))

/-- R205, R318: a SIGHTING to a device: the viewer's identifier, which eye, the cameras, the position and TRIGGER_TIME. -/
def sendSighting (s : State) (dst id eye cameras : Nat) (x y z : Int) (trigger : Nat) : State :=
  originate s (mkFrame 0x30 0 dst 0 0 0 0 0
    (leBytes 4 id ++ leBytes 1 eye ++ leBytes 1 cameras ++ leBytes 2 0 ++ s32 x ++ s32 y ++ s32 z ++ leBytes 4 0 ++
      leBytes 8 trigger))

/-! ### Detection -/

/-- R199: the detections kept: confidence 32 and above, the 64 most confident, ties to the lower image row. -/
def insertDetection (d : Detection) : List Detection → List Detection
  | [] => [d]
  | x :: xs => if d.conf < x.conf ∨ (d.conf = x.conf ∧ x.v ≤ d.v) then x :: insertDetection d xs else d :: x :: xs

/-- R198: a detection of a frame whose exposure is uncertain takes half its confidence. -/
def weighDetections (uncertain : Bool) (found : List Detection) : List Detection :=
  ((found.map (fun d => { d with conf := if uncertain then d.conf / 2 else d.conf })).filter (fun d => decide (32 ≤ d.conf))).foldl
    (fun l d => insertDetection d l) []

/-- R198, R199, R214: detection ends on a frame of a port: whether the frame is used, and how many detections are dropped. -/
def detectionOp (s : State) (port : Nat) (unusable : Bool) (setId : Nat) (uncertain : Bool) (found : List Detection) : State :=
  let duty := match assoc s.rsy.duties port with
    | some (some _) => true
    | _ => false
  if unusable || decide (setId = 0xFF) || !decide (port < 6) || !duty || s.dmc.lostModels.contains port then s
  else
    let kept := weighDetections uncertain found
    let t := s.bumpBy (F.VWB_COUNT_COUNT 3) (kept.length - 64)
    followTracking (t.setRoster (fun r => { r with used := insertNat r.used port }))

def execDetectionDone (port : Nat) (unusable : Bool) (setId : Nat) (uncertain : Bool) (found : List Detection) (s : State) :
    Host.Outcome State Fault Refusal := live s (detectionOp s port unusable setId uncertain found)

/-- R214: a port has delivered no used frame for 3 frame periods. -/
def execTrackingFrameTimeout (port : Nat) (s : State) : Host.Outcome State Fault Refusal :=
  live s (followTracking (s.setRoster (fun r => { r with used := r.used.filter (fun p => !decide (p = port)) })))

/-! ### Fusion -/

/-- Whose eye an observation may match: a viewer by slot, an overflow viewer or a candidate by place; and which eye. -/
structure EyeRef where
  who : Tracked
  right : Bool
  eye : EyeEst
deriving DecidableEq, Repr

/-- The eyes of one holder. -/
def refsOf (who : Tracked) (l r : Option EyeEst) : List EyeRef :=
  (l.toList.map (fun e => ⟨who, false, e⟩)) ++ (r.toList.map (fun e => ⟨who, true, e⟩))

/-- Every eye an observation may match. -/
def allRefs (s : State) : List EyeRef :=
  s.roster.viewers.flatMap (fun v => refsOf (.viewer v.slot) v.left v.right) ++
  (List.range s.roster.overflow.length).flatMap (fun i =>
    match s.roster.overflow[i]? with | some p => refsOf (.overflow i) p.left p.right | none => []) ++
  (List.range s.roster.candidates.length).flatMap (fun i =>
    match s.roster.candidates[i]? with | some p => refsOf (.candidate i) p.left p.right | none => [])

/-- The square of a distance. -/
def dist2 (a b c x y z : Int) : Int := (a - x) * (a - x) + (b - y) * (b - y) + (c - z) * (c - z)

/-- R201: the eye of nearest predicted position, within 30 mm. -/
def matchEye (s : State) (x y z : Int) (trigger : Nat) : Option EyeRef :=
  let limit : Int := (mmUnits 30 * mmUnits 30 : Nat)
  let far (r : EyeRef) : Int :=
    let h := (trigger : Int) - r.eye.te
    dist2 (extrapolate r.eye.x r.eye.vx h) (extrapolate r.eye.y r.eye.vy h) (extrapolate r.eye.z r.eye.vz h) x y z
  ((allRefs s).filter (fun r => decide (far r ≤ limit))).foldl
    (fun b r => match b with
      | none => some r
      | some q => if far r < far q then some r else some q) none

/-- R201: an estimate updated by an observation; one camera alone leaves the depth unchanged. -/
def fuse (e : EyeEst) (x y z : Int) (trigger cameras : Nat) : EyeEst :=
  let t : Int := trigger
  let f (p v o : Int) (k : Nat) : Int := Config.fuseAxis p v e.te o t k
  ⟨f e.x e.vx x 0, f e.y e.vy y 0, if cameras < 2 then e.z else f e.z e.vz z 0,
   f e.x e.vx x 1, f e.y e.vy y 1, if cameras < 2 then e.vz else f e.z e.vz z 1, t⟩

/-- R202: may two eyes form a pair? -/
def pairs (a b : EyeEst) : Bool :=
  let d := dist2 a.x a.y a.z b.x b.y b.z
  decide (((mmUnits 45 * mmUnits 45 : Nat) : Int) ≤ d) && decide (d ≤ ((mmUnits 80 * mmUnits 80 : Nat) : Int)) &&
  decide (iabs (a.z - b.z) < ((mmUnits 40 : Nat) : Int))

/-- R202: two eyes as left and right: the left eye has the lower x. -/
def asPair (a b : EyeEst) : Option EyeEst × Option EyeEst := if b.x < a.x then (some b, some a) else (some a, some b)

/-- A lone eye of a holder that another eye pairs with. -/
def pairWith (l r : Option EyeEst) (e : EyeEst) : Option (Option EyeEst × Option EyeEst) :=
  match l, r with
  | some a, none => if pairs a e then some (asPair a e) else none
  | none, some a => if pairs a e then some (asPair a e) else none
  | _, _ => none

/-- R202: a person triangulated in a frame: consecutive frames count on, others begin anew. -/
def Person.seenIn (p : Person) (trigger period cameras : Nat) : Person :=
  let t : Int := trigger
  if cameras < 2 ∨ t ≤ p.last then p
  else { p with frames := if t - p.last < 2 * (period : Int) then p.frames + 1 else 1, last := t }

/-- R202, R204: confirmed candidates are admitted, the first of them in the list. -/
def confirmCandidates (s : State) : State :=
  match s.roster.candidates.find? (fun p => decide (s.get F.VWB_TRACK_CFG_CONFIRM ≤ p.frames)) with
  | some p => admitOrOverflow (s.setRoster (fun r => { r with candidates := r.candidates.erase p })) p
  | none => s

/-- An eye of a person set. -/
def Person.setEye (p : Person) (right : Bool) (e : EyeEst) : Person :=
  if right then { p with right := some e } else { p with left := some e }

/-- R202, R205: a viewer this controller owns is detected: its eye set, and it is tracked. -/
def updateViewer (s : State) (slot : Nat) (right : Bool) (e : EyeEst) (trigger : Nat) : State :=
  let upd (v : Viewer) : Viewer :=
    if v.slot = slot then
      (if right then { v with right := some e, coasting := false, last := max v.last (trigger : Int) }
       else { v with left := some e, coasting := false, last := max v.last (trigger : Int) })
    else v
  let t := s.setRoster (fun r => { r with viewers := r.viewers.map upd })
  match t.roster.viewers.find? (fun v => decide (v.slot = slot)) with
  | some v => sendEstimate t v
  | none => t

/-- R201, R202, R204: an eye that nothing matches: it joins a lone eye it pairs with, or becomes a candidate, if two cameras
or more triangulated it. A member leaves it to the head (R205). -/
def newEye (s : State) (x y z : Int) (trigger cameras : Nat) : State :=
  if s.isMember then sendSighting s 0 0 2 cameras x y z trigger
  else if cameras < 2 then s
  else
    let e : EyeEst := ⟨x, y, z, 0, 0, 0, trigger⟩
    match s.roster.viewers.find? (fun v => (pairWith v.left v.right e).isSome) with
    | some v => s.setRoster (fun r => { r with viewers := r.viewers.map (fun w =>
        if w.slot = v.slot then (match pairWith v.left v.right e with | some p => { w with left := p.1, right := p.2 } | none => w)
        else w) })
    | none =>
      match s.roster.candidates.find? (fun p => (pairWith p.left p.right e).isSome) with
      | some p => s.setRoster (fun r => { r with candidates := r.candidates.map (fun q =>
          if q = p then (match pairWith p.left p.right e with | some pr => { q with left := pr.1, right := pr.2 } | none => q)
          else q) })
      | none => s.setRoster (fun r => { r with candidates := (insertPerson ⟨some e, none, 1, trigger⟩ r.candidates).take 16 })

/-- R201, R205: a matched eye updated where it is kept. -/
def updateEye (s : State) (r : EyeRef) (x y z : Int) (trigger period cameras : Nat) : State :=
  let e := fuse r.eye x y z trigger cameras
  match r.who with
  | .viewer slot =>
    match s.roster.viewers.find? (fun v => decide (v.slot = slot)) with
    | none => s
    | some v =>
      if s.role = 0 ∨ v.owner = s.get F.XSH_ROLE_NUMBER then updateViewer s slot r.right e trigger
      else sendSighting s v.owner v.id (if v.eyes.length < 2 then 2 else b2n r.right) cameras x y z trigger
  | .overflow i => s.setRoster (fun q => { q with overflow := modifyAt q.overflow i (fun p => p.setEye r.right e) })
  | .candidate i =>
    s.setRoster (fun q => { q with candidates := modifyAt q.candidates i (fun p => (p.setEye r.right e).seenIn trigger period cameras) })

/-- R202: does an eye of a viewer lie outside VWB.RANGE? -/
def outOfRange (s : State) (v : Viewer) : Bool :=
  v.eyes.any (fun e =>
    decide (e.z - tileOrigin s 2 < ((mmUnits (s.get F.VWB_RANGE_MIN_MM) : Nat) : Int)) ||
    decide (((mmUnits (s.get F.VWB_RANGE_MAX_MM) : Nat) : Int) < e.z - tileOrigin s 2))

/-- R202, R206: coasting viewers of whom an eye has left VWB.RANGE are released by the roster keeper, or by an orphan. -/
def leaveRange (s : State) : State :=
  if decide (s.role = 2) then s
  else (s.roster.viewers.filter (fun v => v.coasting && outOfRange s v)).foldl (fun t v => releaseViewer t v.slot) s

/-- R201 to R207: an observation fused; candidates that are confirmed by it admitted; the edition published. -/
def fuseEye (s : State) (x y z : Int) (trigger period cameras : Nat) : State :=
  match matchEye s x y z trigger with
  | none => announce s (leaveRange (confirmCandidates (newEye s x y z trigger cameras)))
  | some r =>
    if (trigger : Int) < r.eye.te - (period : Int) then s.bump (F.VWB_COUNT_COUNT 4)
    else
      let t := if cameras < 2 then s.bump (F.VWB_COUNT_COUNT 5) else s
      announce s (leaveRange (confirmCandidates (updateEye t r x y z trigger period cameras)))

/-- R143, R201: a detection reaches the fusion engine; with the fusion duty lapsed nothing is fused. -/
def execFusionUpdate (x y z : Int) (trigger period cameras : Nat) (s : State) : Host.Outcome State Fault Refusal :=
  live s (if decide ((assoc s.rsy.duties 6) = some none) then s else fuseEye s x y z trigger period cameras)

/-- R202: detections have ended: a viewer coasts; a candidate, or an overflow viewer, is discarded. -/
def trackLost (s : State) (t : Tracked) : State :=
  match t with
  | .viewer slot =>
    announce s (leaveRange (s.setRoster (fun r =>
      { r with viewers := r.viewers.map (fun v => if v.slot = slot then { v with coasting := true } else v) })))
  | .overflow i => publish (s.setRoster (fun r => { r with overflow := r.overflow.eraseIdx i }))
  | .candidate i => publish (s.setRoster (fun r => { r with candidates := r.candidates.eraseIdx i }))

def execTrackLostTimeout (t : Tracked) (s : State) : Host.Outcome State Fault Refusal := live s (trackLost s t)

/-- R202, R206: a coasting viewer is released by the roster keeper, or by an orphan. -/
def coastExpired (s : State) (slot : Nat) : State :=
  if decide (s.role = 2) || !s.roster.viewers.any (fun v => decide (v.slot = slot) && v.coasting) then s
  else announce s (releaseViewer s slot)

def execCoastExpiry (slot : Nat) (s : State) : Host.Outcome State Fault Refusal := live s (coastExpired s slot)

/-- R205: the head moves a viewer's ownership. -/
def reassignOwner (s : State) (slot owner : Nat) : State :=
  if s.isHead && s.roster.viewers.any (fun v => decide (v.slot = slot) && !decide (v.owner = owner)) then
    announce s ((s.setRoster (fun r => { r with viewers := r.viewers.map (fun v =>
      if v.slot = slot then { v with owner := owner } else v) })).bump (F.VWB_COUNT_COUNT 6))
  else s

def execOwnerReassign (slot owner : Nat) (s : State) : Host.Outcome State Fault Refusal := live s (reassignOwner s slot (owner % 64))

/-- R206: the viewers of an owner that has left coast. -/
def coastOwner (s : State) (owner : Nat) : State :=
  if s.roster.viewers.any (fun v => decide (v.owner = owner)) then
    announce s (leaveRange (s.setRoster (fun r =>
      { r with viewers := r.viewers.map (fun v => if v.owner = owner then { v with coasting := true } else v) })))
  else s

/-- R213: a zone is unobserved when no eye lies in its frustum. -/
def execZoneUnobserved (zone : Nat) (s : State) : Host.Outcome State Fault Refusal :=
  live s (if decide (zone < 24) && !zoneSeen s zone then s.set (F.VWB_ZONE_OBSERVED zone) 0 else s)

/-! ### Messages from the yard (R205, R318) -/

/-- A signed 32-bit field of a payload. -/
def getS32 (b : List Byte) (off : Nat) : Int := toSigned (leAt b off 4) 32

/-- R318: an eye of an ESTIMATE. -/
def eyeOfBytes (b : List Byte) (off : Nat) (te : Int) : EyeEst :=
  ⟨getS32 b off, getS32 b (off + 4), getS32 b (off + 8), getS32 b (off + 12), getS32 b (off + 16), getS32 b (off + 20), te⟩

/-- R205, R207: an ESTIMATE sets its viewer's eyes. -/
def applyEstimate (s : State) (b : List Byte) : State :=
  let id := leAt b 0 4
  let te : Int := (leAt b 0x38 8 : Nat)
  let l := if hasBit (leAt b 4 4) 0 then some (eyeOfBytes b 8 te) else none
  let r := if hasBit (leAt b 4 4) 1 then some (eyeOfBytes b 0x20 te) else none
  s.setRoster (fun q => { q with viewers := q.viewers.map (fun v =>
    if v.id = id then { v with left := l, right := r, coasting := false, last := max v.last te } else v) })

/-- R205: a SIGHTING: of a viewer this controller owns, or, on the head, of an unmatched eye. -/
def applySighting (s : State) (b : List Byte) (period : Nat) : State :=
  let id := leAt b 0 4
  let x := getS32 b 8
  let y := getS32 b 12
  let z := getS32 b 16
  let trigger := leAt b 0x18 8
  let cameras := leAt b 5 1
  if id = 0 then (if s.isHead then fuseEye s x y z trigger period cameras else s)
  else match s.roster.viewers.find? (fun v => decide (v.id = id)) with
    | none => s
    | some v =>
      let right := decide (leAt b 4 1 = 1) || (decide (leAt b 4 1 = 2) && v.left.isNone)
      match (if right then v.right else v.left) with
      | some e =>
        if (trigger : Int) < e.te - (period : Int) then s.bump (F.VWB_COUNT_COUNT 4)
        else
          let t := if cameras < 2 then s.bump (F.VWB_COUNT_COUNT 5) else s
          announce s (updateViewer t v.slot right (fuse e x y z trigger cameras) trigger)
      | none => announce s (updateViewer s v.slot right ⟨x, y, z, 0, 0, 0, trigger⟩ trigger)

/-- R318: one ROSTER_CHANGE entry applied; what is left of the bytes. -/
def applyEntry (s : State) (b : List Byte) : State × List Byte :=
  let op := leAt b 0 1
  let slot := leAt b 1 1
  let owner := leAt b 2 1
  let id := leAt b 4 4
  if op = 1 then
    (s.setRoster (fun r => { r with viewers := r.viewers.filter (fun v => !decide (v.slot = slot)) ++
      [⟨slot, id, owner, false, none, none, (s.now : Int)⟩] }), b.drop 16)
  else if op = 2 then (s.setRoster (fun r => { r with viewers := r.viewers.filter (fun v => !decide (v.id = id)) }), b.drop 16)
  else if op = 3 then
    (applyEstimate (s.setRoster (fun r => { r with viewers := r.viewers.map (fun v => if v.id = id then { v with owner := owner } else v) }))
      ((b.drop 16).take 64), b.drop 80)
  else (s, b.drop 16)

/-- R318: the entries of a change applied in order. -/
def applyEntries : Nat → State → List Byte → State
  | 0, s, _ => s
  | n + 1, s, b => if b.isEmpty then s else applyEntries n (applyEntry s b).1 (applyEntry s b).2

/-- R206, R207, R318: a ROSTER_CHANGE on a member: its frames of one generation are gathered, and applied as one edition once
the last has come. -/
def applyRosterChange (s : State) (b : List Byte) : State :=
  let gen := leAt b 0 4
  let count := leAt b 4 2
  let held := if s.yard.rosterGen = gen then s.yard.rosterParts else []
  let all := held ++ b.drop 8
  if count = 0 ∨ (held.isEmpty = true ∧ b.length + 80 ≤ 1024) then
    let t := applyEntries (all.length / 16 + 1) { s with yard := { s.yard with rosterGen := gen, rosterParts := [] } } all
    publish ((t.setRoster (fun r => { r with full := true })).set F.VWB_ROSTER_GEN_GEN gen)
  else { s with yard := { s.yard with rosterGen := gen, rosterParts := all } }

/-- R206: the head's full roster, as admissions and last estimates, for a controller that joins. -/
def sendFullRoster (s : State) : State :=
  let vs := s.roster.viewers
  if vs.isEmpty then (if s.isHead then originate s (bcastFrame 0x32 0 (leBytes 4 (s.get F.VWB_ROSTER_GEN_GEN) ++ leBytes 4 0)) else s)
  else sendRoster s (vs.map (rosterEntry 1) ++ vs.map (rosterEntry 3))

end Sys2Proof.Machine
end

