-- ==== Sys2Proof/Machine/LotOps.lean ====
section
/-! DEFINITION. Machine/LotOps.lean: the lots and the stalls (R134 to R144): whose stall a lot goes to, release, dispatch and
lending, spans, retirement and abandonment, engine failures, stall and barn losses and the passing of duties. -/

namespace Sys2Proof.Machine

/-- Ray synthesis changed. -/
def State.setRsy (s : State) (f : Rsy → Rsy) : State := { s with rsy := f s.rsy }

/-- R16: the lines of a lot. -/
def lotLines (k : Nat) : Nat := if k = 67 then 4 else 8

/-- The same lot. -/
def Lot.is (a b : Lot) : Bool := decide (a.band = b.band) && decide (a.subframe = b.subframe) && decide (a.index = b.index)

/-- A lot changed. -/
def setLot (s : State) (l : Lot) (f : Lot → Lot) : State :=
  s.setRsy (fun r => { r with lots := r.lots.map (fun x => if x.is l then f x else x) })

/-- Does a lot still owe spans? -/
def Lot.live (l : Lot) : Bool := !decide (l.phase = .retired)

/-- R24, R108, R136: the tiles that no lot of an earlier subframe reads any more are released. -/
def settleTiles (s : State) : State :=
  releaseTiles s (fun b => s.rsy.lots.any (fun l => l.live && decide (l.subframe < b)))

/-- A stall's engines. -/
def stallEng (s : State) (k : Nat) : StallEng := s.rsy.stalls.getD k (StallEng.reset k)

/-- A stall's engines changed. -/
def setStall (s : State) (k : Nat) (f : StallEng → StallEng) : State := s.setRsy (fun r => { r with stalls := modifyAt r.stalls k f })

/-- R147: STATE reads active. -/
def stallActive (s : State) (k : Nat) : Bool := decide (k < 12) && decide (s.get (F.STL_STATE_STATE k) = 0)

/-- The lot an engine runs. -/
def runningLot (s : State) (stall engine : Nat) : Option Lot :=
  s.rsy.lots.find? (fun l => decide (l.phase = .running) && decide (l.stall = stall) && decide (l.engine = engine))

/-- R18: a stall's free render engines. -/
def freeEngines (s : State) (k : Nat) : List Nat :=
  if stallActive s k then (stallEng s k).render.filter (fun e => (runningLot s k e).isNone) else []

/-- R137: the reservations in use in a barn: lots whose lines have not all left its assembly area. -/
def reservations (s : State) (barn : Nat) : Nat :=
  (s.rsy.lots.filter (fun l => decide (l.stall / 3 = barn) && (decide (l.phase = .running) || decide (l.phase = .retired)))).length

/-- R137: can a stall run another lot? -/
def canRun (s : State) (k : Nat) : Bool := !(freeEngines s k).isEmpty && decide (reservations s (k / 3) < 22)

/-- Of some stalls that can run a lot, the one with most free render engines, the lower number winning a tie. -/
def mostFree (s : State) (l : List Nat) : Option Nat :=
  (l.filter (canRun s)).foldl (fun b k => match b with
    | none => some k
    | some j => if (freeEngines s j).length < (freeEngines s k).length then some k else some j) none

/-- R18: where the lot balancer lends a lot of a stall: the same barn, the barn on the same die, the barns of the other. -/
def lendTarget (s : State) (k : Nat) : Option Nat :=
  let barn := k / 3
  let other := if barn % 2 = 0 then barn + 1 else barn - 1
  let stallsOf (b : Nat) : List Nat := (List.range 3).map (fun i => 3 * b + i)
  let far := if barn < 2 then [6, 7, 8, 9, 10, 11] else [0, 1, 2, 3, 4, 5]
  ((mostFree s ((stallsOf barn).filter (fun j => !decide (j = k)))).or (mostFree s (stallsOf other))).or (mostFree s far)

/-- R142: the half of a band a lot belongs to. -/
def lotHalf (index : Nat) : Nat := if index < 34 then 0 else 1

/-- R142: does a stall hold a taken half? -/
def holdsHalf (s : State) (k band half : Nat) : Bool :=
  (s.on (F.STL_BANDS_TAKE0_VALID k) && decide (s.get (F.STL_BANDS_TAKE0_BAND k) = band) && decide (s.get (F.STL_BANDS_TAKE0_HALF k) = half)) ||
  (s.on (F.STL_BANDS_TAKE1_VALID k) && decide (s.get (F.STL_BANDS_TAKE1_BAND k) = band) && decide (s.get (F.STL_BANDS_TAKE1_HALF k) = half))

/-- R15, R142, R144: the stall a lot is released to: the band's own; in parked output stall s also serves band s + 6; of a
lost stall's band the taker of the lot's half; failing all, the stall with most free engines, which borrows it. -/
def lotStall (s : State) (band index : Nat) : Option Nat × Bool :=
  if stallActive s band then (some band, false)
  else if s.get (F.STL_STATE_STATE band) = 2 ∧ stallActive s (band % 6) = true then (some (band % 6), false)
  else match (List.range 12).find? (fun k => stallActive s k && holdsHalf s k band (lotHalf index)) with
    | some k => (some k, false)
    | none =>
      match mostFree s (List.range 12) with
      | some k => (some k, true)
      | none => ((List.range 12).find? (stallActive s), true)

/-- R135: when line L of a plan falls due. -/
def lineDueAt (p : Plan) (line : Nat) : Int := p.tStart + (line : Int) * p.period - 8000

/-- R134: a plan's next lot, released to a stall's queue with the snapshot of now. -/
def releaseLot (s : State) (p : Plan) : State :=
  let k := p.released
  let t := applyBudget s
  let dest := lotStall t p.band k
  let u := setPlan t p (fun q => { q with released := k + 1 })
  match dest.1 with
  | none => u
  | some st =>
    let lot : Lot := ⟨p.band, p.facet, p.subframe, k, snapshotOf u (truncDiv (p.tOn + p.tOff) 2), p.phi, lineDueAt p (8 * k),
      .released, st, st, 0, 0, [], 0, 0⟩
    let v := u.setRsy (fun r => { r with lots := r.lots ++ [lot] })
    if dest.2 then v.bump (F.STL_LOTS_BORROWED_COUNT st) else v

/-- R136, R144: which of two waiting lots of a stall goes first: the earlier due, then the stall's own band, then the lower
band. -/
def lotBefore (stall : Nat) (a b : Lot) : Bool :=
  decide (a.due < b.due) ||
  (decide (a.due = b.due) &&
    ((decide (a.band = stall) && !decide (b.band = stall)) ||
     (decide ((a.band = stall) = (b.band = stall)) && decide (a.band < b.band))))

/-- The first waiting lot of a stall. -/
def firstLot (s : State) (k : Nat) : Option Lot :=
  (s.rsy.lots.filter (fun l => decide (l.stall = k) && (decide (l.phase = .released) || decide (l.phase = .lent)))).foldl
    (fun b l => match b with
      | none => some l
      | some x => if lotBefore k l x then some l else some x) none

/-- R137, R18: a stall's first waiting lot is taken by an engine of the stall, if it is a free render engine and the barn has
a free reservation; a lot that the stall cannot run is lent, if it was released here. -/
def dispatchLot (s : State) (k engine : Nat) : State :=
  match firstLot s k with
  | none => s
  | some l =>
    if canRun s k then
      if (freeEngines s k).contains engine then
        let t := setLot s l (fun x => { x with phase := .running, engine := engine, began := s.now })
        if l.home = k then t else t.bump (F.STL_LOTS_BORROWED_COUNT k)
      else s
    else if l.phase = .released then
      match lendTarget s k with
      | some j => (setLot s l (fun x => { x with phase := .lent, stall := j })).bump (F.STL_LOTS_LENT_COUNT k)
      | none => s
    else s

/-! ### Versions and spans -/

/-- The optics a boundary puts into force: TAN_PER_PITCH, FACET_SLOPE, FACET_OFFSET. -/
def opticsNow (s : State) : List Int :=
  [(s.get F.RSY_TAN_PER_PITCH_VALUE : Int), s.getInt F.RSY_FACET_SLOPE_VALUE] ++
    (List.range 8).map (fun f => s.getInt (F.RSY_FACET_OFFSET_VALUE f))

/-- R23: what a lot of a subframe whose boundary is now reads. -/
def versionNow (s : State) (subframe facet : Nat) (parked : Bool) (measured : Option (Nat × Nat × Nat)) : Version :=
  { subframe := subframe, facet := facet, parked := parked, set := s.get F.LAY_DISPLAYED_SET,
    enable := s.get (F.LAY_ENABLE_FRONT_MASK (s.get F.LAY_DISPLAYED_SET)), tiles := s.scene.tiles, layers := s.scene.frontLayers,
    groom := s.rsy.lens.groom, host := s.rsy.lens.host, optics := opticsNow s,
    kernels := (List.range 12).map (fun b => if measured.map (fun m => m.1) = some b then ⟨0, 0x0200, 0, []⟩ else s.rsy.kernel),
    alphaStop := s.get F.RSY_ALPHA_STOP_EFF_LEVEL, measured := measured }

/-- The version of a subframe. -/
def versionOf (s : State) (subframe facet : Nat) : Version :=
  (s.rsy.versions.find? (fun v => decide (v.subframe = subframe))).getD (versionNow s subframe facet false none)

/-- R397: a pixel of the GROOM kernel: white is 65,535; the FLAT level is the least linear value that the identity mapping
takes to drive level 128. -/
def groomPixel (v : Version) (facets px py : Nat) : Int :=
  match v.measured with
  | none => 0
  | some (_, window, p) =>
    match window with
    | 1 => if px % 10 = p % 10 ∧ py % 10 = p / 10 % 10 then 65535 else 0
    | 2 => 14028
    | 3 => if v.facet = p % Nat.max facets 1 then 65535 else 0
    | _ => 0

/-- The pixels of a lot's next span. -/
def spanPixels (s : State) (l : Lot) : List PixelOut :=
  let v := versionOf s l.subframe l.facet
  let line := l.index * 8 + l.next / 16
  let py := 540 * l.band + line
  let n := Nat.max (s.get F.DRU_STATE_FACETS) 2
  (List.range 72).flatMap (fun i =>
    lensletLine s v (v.kernels.getD l.band Kernel.reset) l.snap l.phi (groomPixel v n) n (l.next % 16 * 720 + 10 * i) py)

/-- R449: the repair of an engine ends when its lot retires or is abandoned. -/
def endEngineRepair (s : State) (l : Lot) : State :=
  s.setRsy (fun r => { r with repairs := r.repairs.filter (fun x => match x with
    | .engine _ _ b n i => !(decide (b = l.band) && decide (n = l.subframe) && decide (i = l.index))
    | _ => true) })

/-- R147: the engine time of a lot that runs, since it was taken or the last boundary, is added to its stall's. -/
def spendTime (s : State) (l : Lot) : State :=
  if l.phase = .running then
    s.setRsy (fun r => { r with busy := mapPut r.busy l.stall (mapVal r.busy l.stall + (s.now - Nat.max l.began r.since)) })
  else s

/-- R136: a lot is abandoned: counted on the stall that held it, and deposits nothing further. -/
def abandonLot (s : State) (l : Lot) : State :=
  settleTiles (endEngineRepair (((spendTime s l).setRsy (fun r => { r with lots := r.lots.filter (fun x => !x.is l) })).bump
    (F.STL_ABANDONED_COUNT l.stall)) l)

/-- The plan a lot belongs to. -/
def lotPlan (s : State) (l : Lot) : Option Plan :=
  s.drum.plans.find? (fun p => decide (p.band = l.band) && decide (p.subframe = l.subframe))

/-- R138: has a line of a lot fallen due? A lot whose plan is gone is late in every line. -/
def lineLate (s : State) (l : Lot) (line : Nat) : Bool :=
  match lotPlan s l with
  | some p => decide (line < p.due) || p.closed
  | none => true

/-- R362: the words that an engine's reads met uncorrectable are reported once each. -/
def reportWords (s : State) (ws : List Nat) : State :=
  (ws.foldl (fun l w => insertNat l w) []).foldl (fun t w => if t.mem.badDram.contains w then dramUe t w else t) s

/-- R130, R136 to R138: an engine finishes a span: it is counted and deposited, or discarded as late; with its last span the
lot retires. -/
def depositSpan (s : State) (l : Lot) : State :=
  let px := spanPixels s l
  let line := l.index * 8 + l.next / 16
  let a := reportWords ((s.bumpBy F.RSY_RAY_COUNT_COUNT 720).bumpBy F.RSY_SAMPLE_COUNT_COUNT (px.foldl (fun n p => n + p.counted) 0))
    (px.flatMap (fun p => p.bad))
  let late := lineLate s l line
  let b := if late then a.bump (F.STL_LATE_SPANS_COUNT l.stall) else a
  let keep : List (Nat × List (Nat × Nat × Nat)) :=
    if late then [] else [(l.next, px.map (fun p => (p.r.toNat, p.g.toNat, p.b.toNat)))]
  let last := decide (l.next + 1 = 16 * lotLines l.index)
  let c := setLot (if last then spendTime b l else b) l (fun x => { x with next := x.next + 1, spans := x.spans ++ keep, phase := if last then .retired else .running })
  if last then settleTiles (endEngineRepair (c.bump (F.STL_LOTS_RETIRED_COUNT l.stall)) l) else c

/-- R137: lines of a lot that leave the assembly area; a retired lot all of whose lines have left is gone. -/
def freeLine (s : State) (l : Lot) : State :=
  s.setRsy (fun r => { r with lots := (r.lots.map (fun x => if x.is l then { x with moved := x.moved + 1 } else x)).filter (fun x =>
    !(x.is l && decide (x.phase = .retired) && decide (lotLines x.index ≤ x.moved))) })

/-- The lot of a plan that holds a line. -/
def lotOfLine (s : State) (p : Plan) (line : Nat) : Option Lot :=
  s.rsy.lots.find? (fun l => decide (l.band = p.band) && decide (l.subframe = p.subframe) && decide (l.index = line / 8))

/-- The spans of a line that a lot holds, by the line's number times 16 plus span. -/
def lineSpans (l : Lot) (line : Nat) : List (Nat × List (Nat × Nat × Nat)) :=
  (l.spans.filter (fun e => decide (l.index * 8 + e.1 / 16 = line))).map (fun e => (line * 16 + e.1 % 16, e.2))

/-- R451, R460: the spans of a line as they stand in the band line buffer: an uncorrectable error injected into the buffer loses
the span it meets. -/
def bufferInjection (s : State) (b : Nat) (spans : List (Nat × List (Nat × Nat × Nat))) :
    State × List (Nat × List (Nat × Nat × Nat)) :=
  if injectArmed s 2 b && !spans.isEmpty then
    (injected s (fun t => macroError t (0x0D0 + b) 2 b), if s.get F.ERR_INJECT_KIND = 0 then spans else spans.drop 1)
  else (s, spans)

/-- R137: a line's spans taken from the assembly area into the band line buffer. -/
def takeLine (s : State) (p : Plan) (line : Nat) : State :=
  match lotOfLine s p line with
  | some l =>
    let k := bufferInjection s p.band (lineSpans l line)
    freeLine (setPlan k.1 p (fun q => { q with moved := line + 1, buffer := q.buffer ++ k.2 })) l
  | none => setPlan s p (fun q => { q with moved := line + 1 })

/-- R137: a band's next line moves when all its spans are present and the 32-line window reaches it. -/
def moveLine (s : State) (p : Plan) : State :=
  match lotOfLine s p p.moved with
  | some l => if (lineSpans l p.moved).length = 16 ∧ p.moved < p.due + 32 then takeLine s p p.moved else s
  | none => s

/-! ### Duties (R143) -/

/-- R147: the DUTY code of a duty. -/
def dutyCode (d : Nat) : Nat := if d < 6 then 0 else if d = 6 then 1 else 2

/-- R143: where a duty of a lost stall goes: an idle standby engine, else a render engine of stalls 8 to 11 not yet given. -/
def dutyTarget (s : State) : Option (Nat × Nat × Bool) :=
  let carries (k : Nat) : Bool := s.rsy.duties.any (fun d => match d.2 with | some p => decide (p.1 = k) | none => false)
  match [8, 9, 10, 11].find? (fun k => stallActive s k && (stallEng s k).spares.contains 15 && !carries k) with
  | some k => some (k, 15, true)
  | none =>
    match [8, 9, 10, 11].find? (fun k => stallActive s k && !(stallEng s k).dutyMoved && (stallEng s k).render.contains 13) with
    | some k => some (k, 13, false)
    | none => none

/-- R143: a lot that a render engine given to a duty was running waits in its stall again. -/
def requeue (s : State) (k engine : Nat) : State :=
  match runningLot s k engine with
  | some l => setLot (spendTime s l) l (fun x => { x with phase := .released, home := k })
  | none => s

/-- R143: one duty moved, or lapsed; an entry of class STALL names the duty and the engine that took it (INFO: the duty, and
256 times stall times 16 plus engine; log entry 15). -/
def moveDuty (s : State) (code from' d : Nat) : State :=
  match dutyTarget s with
  | some (k, e, standby) =>
    let a := if standby then
        (setStall s k (fun x => { x with spares := x.spares.erase 15, dutyEngine := some 15 })).set (F.STL_STATE_SPARES k)
          (s.get (F.STL_STATE_SPARES k) - 1)
      else setStall (requeue s k e) k (fun x => { x with render := x.render.erase e, dutyEngine := some e, dutyMoved := true })
    let b := (a.setRsy (fun r => { r with duties := assocPut r.duties d (some (k, e)) })).set (F.STL_STATE_DUTY k) (dutyCode d)
    raise b { page := 0x060 + from', cls := 0x04, code := code, sev := 1, unit := from', info := d + (k * 16 + e) * 256 }
  | none =>
    followGroomMode (followTracking (raise (s.setRsy (fun r => { r with duties := assocPut r.duties d none }))
      { page := 0x060 + from', cls := 0x04, code := code, sev := 2, unit := from', info := d + 0xFFFF * 256 }))

/-- R143: the duties a lost stall carried move in order: fusion, eye detection by port, groom analysis. -/
def moveDuties (s : State) (code k : Nat) : State :=
  ([6, 0, 1, 2, 3, 4, 5, 7].filter (fun d => match assoc s.rsy.duties d with
    | some (some p) => decide (p.1 = k)
    | _ => false)).foldl (fun t d => moveDuty t code k d) s

/-! ### Losses (R26, R141, R142, R449) -/

/-- How many taken halves a stall holds. -/
def halvesHeld (s : State) (k : Nat) : Nat := s.get (F.STL_BANDS_TAKE0_VALID k) + s.get (F.STL_BANDS_TAKE1_VALID k)

/-- R142, R144: a stall takes half of a band, if it holds fewer than two. -/
def takeHalf (s : State) (k band half : Nat) : State :=
  if !s.on (F.STL_BANDS_TAKE0_VALID k) then
    s.setAll [(F.STL_BANDS_TAKE0_VALID k, 1), (F.STL_BANDS_TAKE0_BAND k, band), (F.STL_BANDS_TAKE0_HALF k, half)]
  else if !s.on (F.STL_BANDS_TAKE1_VALID k) then
    s.setAll [(F.STL_BANDS_TAKE1_VALID k, 1), (F.STL_BANDS_TAKE1_BAND k, band), (F.STL_BANDS_TAKE1_HALF k, half)]
  else s

/-- The stalls in service or gated, rising. -/
def surviving (s : State) : List Nat :=
  (List.range 12).filter (fun k => decide (s.get (F.STL_STATE_STATE k) = 0) || decide (s.get (F.STL_STATE_STATE k) = 2))

/-- Neighbouring pairs of a list. -/
def neighbours : List Nat → List (Nat × Nat)
  | a :: b :: l => (a, b) :: neighbours (b :: l)
  | _ => []

/-- R26, R142: the pair of neighbouring surviving stalls nearest a band, each of which can take another half. -/
def takersOf (s : State) (band : Nat) : Option (Nat × Nat) :=
  let far (p : Nat × Nat) : Nat := absDiff p.1 band + absDiff p.2 band
  ((neighbours (surviving s)).filter (fun p => decide (halvesHeld s p.1 < 2) && decide (halvesHeld s p.2 < 2))).foldl
    (fun b p => match b with
      | none => some p
      | some q => if far p < far q then some p else some q) none

/-- R142: a lost stall's own band is taken by halves: the lower-numbered taker takes lots 0 to 33. -/
def divideBand (s : State) (band : Nat) : State :=
  match takersOf s band with
  | some (a, b) => takeHalf (takeHalf s a band 0) b band 1
  | none => s

/-- A half that a lost stall had taken goes to the nearest surviving stall that can take another. -/
def passHalf (s : State) (band half : Nat) : State :=
  match ((surviving s).filter (fun k => decide (halvesHeld s k < 2))).foldl (fun (b : Option Nat) k => match b with
      | none => some k
      | some j => if absDiff k band < absDiff j band then some k else some j) none with
  | some k => takeHalf s k band half
  | none => s

/-- R28, R142: the lots of a lost stall's band that have not retired, wherever they are, and those of other bands that it held
or ran, go to the stalls that now serve them, to go on from the first span not deposited. -/
def rehomeLots (s : State) (k : Nat) : State :=
  (s.rsy.lots.filter (fun l => l.live && (decide (l.stall = k) || decide (l.band = k)))).foldl (fun t l =>
    match (lotStall t l.band l.index).1 with
    | some j => (setLot (spendTime t l) l (fun x => { x with phase := .released, stall := j, home := j })).bump (F.STL_REISSUED_COUNT j)
    | none => t) s

/-- R450: a loss in service for record 4: engine stall × 16 + engine, 192 + stall, 204 + barn. -/
def noteLoss (s : State) (k : Nat) : State :=
  let l := mapPut s.power.losses k (mapVal s.power.losses k + 1)
  { s with power := { s.power with losses := l } }

/-- R142: a stall is lost. `code` is the STALL code of its entry, `info` the second engine of an escalation. -/
def loseStall (s : State) (k code info : Nat) (escalated : Bool) : State :=
  if s.get (F.STL_STATE_STATE k) = 1 then s
  else
    let t0 := (s.get (F.STL_BANDS_TAKE0_VALID k), s.get (F.STL_BANDS_TAKE0_BAND k), s.get (F.STL_BANDS_TAKE0_HALF k))
    let t1 := (s.get (F.STL_BANDS_TAKE1_VALID k), s.get (F.STL_BANDS_TAKE1_BAND k), s.get (F.STL_BANDS_TAKE1_HALF k))
    let a := (noteLoss s (192 + k)).setAll [(F.STL_STATE_STATE k, 1), (F.STL_STATE_ENGINES k, 0), (F.STL_BANDS_OWN_VALID k, 0),
      (F.STL_BANDS_TAKE0_VALID k, 0), (F.STL_BANDS_TAKE1_VALID k, 0)]
    let b := raise (raiseIrq a (0x060 + k) 1)
      { page := 0x060 + k, cls := 0x04, code := code, sev := 2, unit := k, info := info, escalated := escalated }
    let c := divideBand b k
    let d := if t0.1 = 1 then passHalf c t0.2.1 t0.2.2 else c
    let e := if t1.1 = 1 then passHalf d t1.2.1 t1.2.2 else d
    let f := (rehomeLots e k).setRsy (fun r => { r with repairs := r.repairs ++ [Repair.stall k 2] })
    moveDuties f code k

/-- R26, R452: fewer than 9 stalls survive. -/
def checkStalls (s : State) : State :=
  if (surviving s).length < 9 then enterDegraded s 0 0x180 0x04 1 (12 - (surviving s).length) else s

/-- R26, R449: a barn is lost: its stalls are lost and their bands re-divided. -/
def loseBarn (s : State) (barn info : Nat) : State :=
  let a := raise (noteLoss s (204 + barn)) { page := 0x060 + 3 * barn, cls := 0x05, code := 1, sev := 2, unit := barn, info := info, escalated := true }
  let down := ((List.range 3).map (fun i => 3 * barn + i)).filter (fun k => !decide (a.get (F.STL_STATE_STATE k) = 1))
  let marked := down.foldl (fun t k => t.set (F.STL_STATE_STATE k) 3) a
  let b := down.foldl (fun t k => loseStall t k 2 info true) marked
  checkStalls (b.setRsy (fun r => { r with repairs := r.repairs ++ [Repair.barn barn 2] }))

/-- R449: is an engine the one that runs the lot of an engine under repair? -/
def inEngineRepair (s : State) (stall engine : Nat) (lot : Option Lot) : Bool :=
  match lot with
  | none => false
  | some l => s.rsy.repairs.any (fun r => match r with
    | .engine k e b n i => decide (k = stall) && decide (e = engine) && decide (b = l.band) && decide (n = l.subframe) && decide (i = l.index)
    | _ => false)

/-- R449: does a taker's engine run a lot of the band of a stall under repair? -/
def inStallRepair (s : State) (stall : Nat) (lot : Option Lot) : Bool :=
  match lot with
  | none => false
  | some l => s.rsy.repairs.any (fun r => match r with
    | .stall k _ => decide (k = l.band) && !decide (k = stall) && holdsHalf s stall k (lotHalf l.index)
    | _ => false)

/-- R449: does an engine run a lot of the bands of a barn under repair? -/
def inBarnRepair (s : State) (stall : Nat) (lot : Option Lot) : Bool :=
  match lot with
  | none => false
  | some l => s.rsy.repairs.any (fun r => match r with
    | .barn b _ => decide (l.band / 3 = b) && !decide (stall / 3 = b)
    | _ => false)

/-- R140: the failed engine is mapped out, and an entry is made. -/
def mapOut (s : State) (stall engine code : Nat) (post : Bool) : State :=
  let t := (setStall (noteLoss s (stall * 16 + engine)) stall (fun x => { x with render := x.render.erase engine, spares := x.spares.erase engine })).set
    (F.STL_STATE_ENGINES stall) (withoutBit (s.get (F.STL_STATE_ENGINES stall)) engine)
  if post then raise t { page := 0x060 + stall, cls := 0x03, code := code, sev := 1, unit := stall * 16 + engine } else t

/-- R140: a spare takes over from an engine: its number, the stall's SPARES lower, NO_SPARE when it was the last. -/
def useSpare (s : State) (stall : Nat) : State × Option Nat :=
  match (stallEng s stall).spares with
  | [] => (s, none)
  | e :: es =>
    let t := (setStall s stall (fun x => { x with spares := es })).set (F.STL_STATE_SPARES stall) es.length
    (if es.isEmpty then raiseIrq t (0x060 + stall) 0 else t, some e)

/-- R140: a failed render engine's lot goes on in the spare, from the first span not deposited. -/
def reissue (s : State) (stall spare : Nat) (lot : Option Lot) : State :=
  let t := setStall s stall (fun x => { x with render := x.render ++ [spare] })
  match lot with
  | some l =>
    ((setLot t l (fun x => { x with engine := spare })).setRsy (fun r =>
      { r with repairs := r.repairs ++ [Repair.engine stall spare l.band l.subframe l.index] })).bump (F.STL_REISSUED_COUNT stall)
  | none => t

/-- R141: the duty of a failed service engine passes to the stall's spare, else to render engine 13 (to the last one that renders
where 13 is itself mapped out); once it has passed there the stall is lost. -/
def failDuty (s : State) (stall engine code : Nat) : State :=
  let give (t : State) (e : Nat) (moved : Bool) : State :=
    let u := setStall t stall (fun x => { x with dutyEngine := some e, dutyMoved := x.dutyMoved || moved })
    u.setRsy (fun r => { r with duties := r.duties.map (fun d => if d.2 = some (stall, engine) then (d.1, some (stall, e)) else d) })
  if (stallEng s stall).dutyMoved && decide ((stallEng s stall).dutyEngine = some engine) then checkStalls (loseStall s stall code 0 false)
  else match useSpare s stall with
    | (t, some e) => give t e false
    | (t, none) =>
      match ((stallEng t stall).render.find? (fun e => decide (e = 13))).or (stallEng t stall).render.reverse.head? with
      | some e => give (setStall (requeue t stall e) stall (fun x => { x with render := x.render.erase e })) e true
      | none => checkStalls (loseStall t stall code 0 false)

/-- R140, R141, R449: an engine fails. -/
def failEngine (s : State) (stall engine code : Nat) : State :=
  let eng := stallEng s stall
  let lot := runningLot s stall engine
  let unit := stall * 16 + engine
  if !stallActive s stall then s
  else if inBarnRepair s stall lot then
    enterDegraded (loseStall (mapOut s stall engine code false) stall 2 unit true) 1 0x060 0x04 2 stall
  else if inStallRepair s stall lot then loseBarn (mapOut s stall engine code false) (stall / 3) unit
  else if inEngineRepair s stall engine lot then checkStalls (loseStall (mapOut s stall engine code false) stall 2 unit true)
  else if eng.render.contains engine then
    match useSpare (mapOut s stall engine code true) stall with
    | (t, some e) => reissue t stall e lot
    | (t, none) => checkStalls (loseStall t stall 1 unit false)
  else if eng.dutyEngine = some engine then failDuty (mapOut s stall engine code true) stall engine 1
  else if eng.spares.contains engine then
    let t := mapOut s stall engine code true
    t.set (F.STL_STATE_SPARES stall) (stallEng t stall).spares.length
  else if s.rsy.duties.any (fun d => decide (d.2 = some (stall, engine))) then failDuty (mapOut s stall engine code true) stall engine 1
  else s

/-- R449: at a boundary the repairs of stalls and barns come a boundary nearer their end. -/
def ageRepairs (s : State) : State :=
  s.setRsy (fun r => { r with repairs := r.repairs.filterMap (fun x => match x with
    | .stall k n => if n ≤ 1 then none else some (.stall k (n - 1))
    | .barn b n => if n ≤ 1 then none else some (.barn b (n - 1))
    | y => some y) })

/-- R147: at a boundary STL.BUSY shows the share of the render engines' time that the subframe's lots took. -/
def boundaryBusy (s : State) : State :=
  let t := (s.rsy.lots.filter (fun l => decide (l.phase = .running))).foldl spendTime s
  let span := t.now - t.rsy.since
  let u := t.setAll ((List.range 12).map (fun k =>
    (F.STL_BUSY_PERCENT k, Nat.min (mapVal t.rsy.busy k * 100 / Nat.max (span * (stallEng t k).render.length) 1) 100)))
  u.setRsy (fun r => { r with busy := [], since := t.now })

end Sys2Proof.Machine
end

