-- ==== Sys2Proof/Machine/Compose.lean ====
section
/-! DEFINITION. Machine/Compose.lean: the compositor: overlay planes (R221 to R225), the protected layer and its CRC monitor
(R229 to R231), the 3-D colour table (R232, R233), lenslet gains and dither (R220, R234), and underrun (R256). -/

namespace Sys2Proof.Machine

/-- The compositor changed. -/
def State.setCmp (s : State) (f : Cmp → Cmp) : State := { s with cmp := f s.cmp }

/-! ### Transfer functions -/

/-- The largest number below 2 to `n` for which a falling condition holds, by bisection. -/
def largestSuch : Nat → (Nat → Bool) → Nat → Nat
  | 0, _, r => r
  | n + 1, ok, r => largestSuch n ok (if ok (r + 2 ^ n) then r + 2 ^ n else r)

/-- R224: round(65,535 × L(num / den)), with L the sRGB decoding function. -/
def srgbDecode (num den : Nat) : Nat :=
  if num * 100000 ≤ 4045 * den then (2 * 65535 * num * 100 + 1292 * den) / (2 * 1292 * den)
  else largestSuch 16 (fun y => decide ((2 * y - 1) ^ 5 * (211 * den) ^ 12 ≤ 131070 ^ 5 * (200 * num + 11 * den) ^ 12)) 0

/-- R232: the shaper: round(65,535 × E(x / 65,535)), with E the sRGB encoding function. -/
def srgbEncode (x : Nat) : Nat :=
  if x ≤ 205 then (1292 * x + 50) / 100
  else largestSuch 16 (fun y => decide (((2 * y - 1) * 1000 + 7208850) ^ 12 * 65535 ^ 5 ≤ x ^ 5 * 138278850 ^ 12)) 0

/-! ### Planes -/

/-- R241: the front registers of a plane. -/
def planeFront (s : State) (p : Nat) : Plane where
  en := s.on (F.CMP_PL_FMT_FRONT_EN p)
  mode := s.get (F.CMP_PL_FMT_FRONT_ALPHA_MODE p)
  alpha := s.get (F.CMP_PL_FMT_FRONT_PLANE_ALPHA p)
  format := s.get (F.CMP_PL_FMT_FRONT_FORMAT p)
  addr := s.get (F.CMP_PL_ADDR_FRONT_ADDR p) * 64
  chroma := s.get (F.CMP_PL_CHROMA_FRONT_ADDR p) * 64
  pitch := s.get (F.CMP_PL_PITCH_FRONT_BYTES p)
  srcX := s.get (F.CMP_PL_SRC_FRONT_SRC_X p)
  srcY := s.get (F.CMP_PL_SRC_FRONT_SRC_Y p)
  w := s.get (F.CMP_PL_SIZE_FRONT_W p)
  h := s.get (F.CMP_PL_SIZE_FRONT_H p)
  dstX := s.getInt (F.CMP_PL_DST_FRONT_DST_X p)
  dstY := s.getInt (F.CMP_PL_DST_FRONT_DST_Y p)

/-- R241: the back registers of a plane. -/
def planeBack (s : State) (p : Nat) : Plane where
  en := s.on (F.CMP_PL_FMT_EN p)
  mode := s.get (F.CMP_PL_FMT_ALPHA_MODE p)
  alpha := s.get (F.CMP_PL_FMT_PLANE_ALPHA p)
  format := s.get (F.CMP_PL_FMT_FORMAT p)
  addr := s.get (F.CMP_PL_ADDR_ADDR p) * 64
  chroma := s.get (F.CMP_PL_CHROMA_ADDR p) * 64
  pitch := s.get (F.CMP_PL_PITCH_BYTES p)
  srcX := s.get (F.CMP_PL_SRC_SRC_X p)
  srcY := s.get (F.CMP_PL_SRC_SRC_Y p)
  w := s.get (F.CMP_PL_SIZE_W p)
  h := s.get (F.CMP_PL_SIZE_H p)
  dstX := s.getInt (F.CMP_PL_DST_DST_X p)
  dstY := s.getInt (F.CMP_PL_DST_DST_Y p)

/-- R228: on a head DST is in yard lenslet coordinates: a plane moved to the controller's own lenslets. -/
def Plane.localTo (p : Plane) (s : State) : Plane :=
  if s.isHead then
    { p with dstX := p.dstX - Int.fdiv (s.getInt (F.VWB_TILE_ORIGIN_VALUE 0)) 160, dstY := p.dstY - Int.fdiv (s.getInt (F.VWB_TILE_ORIGIN_VALUE 1)) 160 }
  else p

/-- R226: the back registers of a plane copied to its front registers. -/
def planeToFront (s : State) (p : Nat) : State :=
  s.setAll [(F.CMP_PL_FMT_FRONT_EN p, s.get (F.CMP_PL_FMT_EN p)), (F.CMP_PL_FMT_FRONT_ALPHA_MODE p, s.get (F.CMP_PL_FMT_ALPHA_MODE p)),
    (F.CMP_PL_FMT_FRONT_PLANE_ALPHA p, s.get (F.CMP_PL_FMT_PLANE_ALPHA p)), (F.CMP_PL_FMT_FRONT_FORMAT p, s.get (F.CMP_PL_FMT_FORMAT p)),
    (F.CMP_PL_ADDR_FRONT_ADDR p, s.get (F.CMP_PL_ADDR_ADDR p)), (F.CMP_PL_CHROMA_FRONT_ADDR p, s.get (F.CMP_PL_CHROMA_ADDR p)),
    (F.CMP_PL_PITCH_FRONT_BYTES p, s.get (F.CMP_PL_PITCH_BYTES p)), (F.CMP_PL_SRC_FRONT_SRC_X p, s.get (F.CMP_PL_SRC_SRC_X p)),
    (F.CMP_PL_SRC_FRONT_SRC_Y p, s.get (F.CMP_PL_SRC_SRC_Y p)), (F.CMP_PL_SIZE_FRONT_W p, s.get (F.CMP_PL_SIZE_W p)),
    (F.CMP_PL_SIZE_FRONT_H p, s.get (F.CMP_PL_SIZE_H p)), (F.CMP_PL_DST_FRONT_DST_X p, s.get (F.CMP_PL_DST_DST_X p)),
    (F.CMP_PL_DST_FRONT_DST_Y p, s.get (F.CMP_PL_DST_DST_Y p))]

/-- R229, R242: the protected layer's back registers: a FORMAT 0x02 surface blended with its pixel alpha only. -/
def protBack (s : State) : Plane where
  en := s.on F.CMP_PROT_CTRL_EN
  mode := 0
  alpha := 255
  format := 0x02
  addr := s.get F.CMP_PROT_ADDR_ADDR * 64
  chroma := 0
  pitch := s.get F.CMP_PROT_PITCH_BYTES
  srcX := 0
  srcY := 0
  w := s.get F.CMP_PROT_SIZE_W
  h := s.get F.CMP_PROT_SIZE_H
  dstX := s.getInt F.CMP_PROT_DST_DST_X
  dstY := s.getInt F.CMP_PROT_DST_DST_Y

/-- R223, R236: bytes per pixel of a packed format; of a planar format's luma samples. -/
def pixelBytes (format : Nat) : Nat :=
  match format with
  | 0x00 => 2
  | 0x01 => 3
  | 0x02 => 4
  | 0x11 => 2
  | 0x13 => 2
  | _ => 1

/-- R221: the first lenslet column of a plane over the panel, and how many columns. -/
def planeColumns (p : Plane) : Nat × Nat :=
  let lo := Nat.min p.dstX.toNat 1152
  let hi := Nat.min (p.dstX + (p.w : Int)).toNat 1152
  (lo, hi - lo)

/-- R221: does a plane cover a lenslet row? -/
def planeCovers (p : Plane) (row : Nat) : Bool :=
  p.en && decide (p.dstY ≤ (row : Int)) && decide ((row : Int) < p.dstY + (p.h : Int)) && !decide ((planeColumns p).2 = 0)

/-- R221: the surface column of a plane's first column over the panel, and the surface row of a lenslet row. -/
def planeSource (p : Plane) (row : Nat) : Nat × Nat :=
  ((((planeColumns p).1 : Int) - p.dstX).toNat + p.srcX, ((row : Int) - p.dstY).toNat + p.srcY)

/-- R83, R224: where the luma or packed bytes of a lenslet row lie: address and length. -/
def lumaRange (p : Plane) (row : Nat) : Nat × Nat :=
  let c := planeSource p row
  (p.addr + c.2 * p.pitch + c.1 * pixelBytes p.format, (planeColumns p).2 * pixelBytes p.format)

/-- R83, R224: where the chroma pairs of a lenslet row lie: address and length. -/
def chromaRange (p : Plane) (row : Nat) : Nat × Nat :=
  let c := planeSource p row
  let cr := if p.format = 0x10 ∨ p.format = 0x11 then c.2 / 2 else c.2
  let n := (c.1 + (planeColumns p).2 - 1) / 2 - c.1 / 2 + 1
  (p.chroma + cr * p.pitch + c.1 / 2 * 2 * pixelBytes p.format, n * 2 * pixelBytes p.format)

/-- A surface pixel: linear light of R, G and B, and the pixel's alpha. -/
structure SurfacePx where
  r : Nat
  g : Nat
  b : Nat
  a : Nat
deriving DecidableEq, Repr

/-- R223: 5 bits widened to 8. -/
def widen5 (x : Nat) : Nat := 8 * x + x / 4

/-- R223: 6 bits widened to 8. -/
def widen6 (x : Nat) : Nat := 4 * x + x / 16

/-- R224: linear light of a sample of 10 bits. -/
def linear10 (v : Int) : Nat := srgbDecode (clampInt v 0 1023).toNat 1023

/-- R224: a planar pixel from its 10-bit samples. -/
def planarPx (y cb cr : Nat) : SurfacePx :=
  let yd : Int := (y : Int) - 64
  let bd : Int := (cb : Int) - 512
  let dr : Int := (cr : Int) - 512
  ⟨linear10 (sar (4769 * yd + 7343 * dr + 2048) 12), linear10 (sar (4769 * yd - 873 * bd - 2183 * dr + 2048) 12),
   linear10 (sar (4769 * yd + 8652 * bd + 2048) 12), 255⟩

/-- R224: a planar sample in 10 bits. -/
def sample10 (format : Nat) (bs : List Byte) (i : Nat) : Nat :=
  if pixelBytes format = 2 then leAt bs (2 * i) 2 % 1024 else 4 * leAt bs i 1

/-- R223: linear light of an 8-bit channel. -/
def linear8 (c : Nat) : Nat := srgbTable.getD c 0

/-- R223, R224: the i-th pixel of a row as read. `first` is the surface column of the row's first pixel. -/
def surfacePx (format first : Nat) (luma chroma : List Byte) (i : Nat) : SurfacePx :=
  match format with
  | 0x00 =>
    let w := leAt luma (2 * i) 2
    ⟨linear8 (widen5 (bitsOf w 11 5)), linear8 (widen6 (bitsOf w 5 6)), linear8 (widen5 (bitsOf w 0 5)), 255⟩
  | 0x01 => ⟨linear8 (leAt luma (3 * i) 1), linear8 (leAt luma (3 * i + 1) 1), linear8 (leAt luma (3 * i + 2) 1), 255⟩
  | 0x02 => ⟨linear8 (leAt luma (4 * i) 1), linear8 (leAt luma (4 * i + 1) 1), linear8 (leAt luma (4 * i + 2) 1), leAt luma (4 * i + 3) 1⟩
  | f =>
    let k := (first + i) / 2 - first / 2
    planarPx (sample10 f luma i) (sample10 f chroma (2 * k)) (sample10 f chroma (2 * k + 1))

/-- R223: a surface pixel's alpha under ALPHA_MODE and PLANE_ALPHA. -/
def planeAlpha (p : Plane) (a8 : Nat) : Int :=
  if p.mode = 0 then mul16 ((a8 * 257 : Nat) : Int) ((p.alpha * 257 : Nat) : Int) else ((p.alpha * 257 : Nat) : Int)

/-- R223: a premultiplied colour. -/
def premultiplied (p : Plane) (x : SurfacePx) : Rgba :=
  let a := planeAlpha p x.a
  ⟨mul16 (x.r : Nat) a, mul16 (x.g : Nat) a, mul16 (x.b : Nat) a, a⟩

/-- R223: a colour blended over another. -/
def blendOver (c : Rgba) (u : Int × Int × Int) : Int × Int × Int :=
  let one (x y : Int) : Int := mul16 x 65535 + mul16 y (65535 - c.a)
  (one c.r u.1, one c.g u.2.1, one c.b u.2.2)

/-! ### Rows (R222) -/

/-- R23, R226, R229: composition's version at a boundary. -/
def cmpVersionNow (s : State) (subframe phase : Nat) : CmpVersion :=
  ⟨subframe, (List.range 8).map (fun p => (planeFront s p).localTo s), s.get F.CMP_STATUS_LUT_BANK,
    s.cmp.prot.map (fun q => (q.1.localTo s, q.2)), phase⟩

/-- The version of composition of a subframe. -/
def cmpVersionOf (s : State) (subframe : Nat) : CmpVersion :=
  (s.cmp.versions.find? (fun v => decide (v.subframe = subframe))).getD
    (cmpVersionNow s subframe (subframe % 4))

/-- The row of a plane as read for a subframe. -/
def rowOf (s : State) (subframe plane row : Nat) : Option OverlayRow :=
  s.cmp.rows.find? (fun r => decide (r.subframe = subframe) && decide (r.plane = plane) && decide (r.row = row))

/-- A row kept in place of an earlier read of it. -/
def keepRow (s : State) (r : OverlayRow) : State :=
  s.setCmp (fun c => { c with rows := c.rows.filter (fun x =>
    !(decide (x.subframe = r.subframe) && decide (x.plane = r.plane) && decide (x.row = r.row))) ++ [r] })

/-- R231: a band black under the layer from the subframe after one on, until a rearm. -/
def goBlack (s : State) (b subframe : Nat) : State :=
  let t := s.set F.CMP_STATUS_BLACK_UNDER (withBit (s.get F.CMP_STATUS_BLACK_UNDER) b)
  if t.cmp.black.any (fun e => decide (e.1 = b) && e.2.2.isNone) then t
  else t.setCmp (fun c => { c with black := c.black ++ [(b, subframe + 1, none)] })

/-- R231: a mismatch of a band's CRC. -/
def protMismatch (s : State) (b subframe : Nat) : State :=
  goBlack (raise (raiseIrq (s.bump F.CMP_PROT_MISMATCH_COUNT) 0x0B0 5)
    { page := 0x0B0, cls := 0x0D, code := 1, sev := 2, unit := b }) b subframe

/-- R451: an uncorrectable word of the protected surface: black-under on its band, and an entry PROT_RELOAD. -/
def protReload (s : State) (b subframe : Nat) : State :=
  goBlack (raise s { page := 0x0B0, cls := 0x0D, code := 2, sev := 2, unit := b }) b subframe

/-- R222, R362, R417: a plane's row read from device DRAM; a row that the regions refuse or that holds an uncorrectable word
is not kept, and shows nothing. -/
def readRow (s : State) (v : CmpVersion) (plane row : Nat) (p : Plane) (secure : Bool) : State :=
  let fetch (t : State) (a n : Nat) : State × Option (List Byte) := if secure then dramFetchSecure t a n else dramFetch t 7 a n
  let l := lumaRange p row
  match fetch s l.1 l.2 with
  | (t, none) => t
  | (t, some luma) =>
    if p.format < 0x10 then keepRow t ⟨v.subframe, plane, row, luma, []⟩
    else
      let c := chromaRange p row
      match fetch t c.1 c.2 with
      | (u, none) => u
      | (u, some chroma) => keepRow u ⟨v.subframe, plane, row, luma, chroma⟩

/-- R222: the row of a plane (8: the protected layer) read for the subframe that the row's band is to show next. -/
def overlayRowRead (s : State) (plane row : Nat) : State :=
  match planFor s (row / 54) (fun p => !p.closed && decide (p.due ≤ 10 * (row % 54))) with
  | none => s
  | some pl =>
    let v := cmpVersionOf s pl.subframe
    if plane = 8 then
      (match v.prot with
       | some (p, _) =>
         if !planeCovers p row then s
         else
           let l := lumaRange p row
           if dramBad s l.1 l.2 then protReload (readRow s v 8 row p true) (row / 54) pl.subframe else readRow s v 8 row p true
       | none => s)
    else
      match v.planes[plane]? with
      | some p => if planeCovers p row then readRow s v plane row p false else s
      | none => s

def execOverlayRowRead (plane row : Nat) (s : State) : Host.Outcome State Fault Refusal :=
  live s (if row < 648 then overlayRowRead s plane row else s)

/-! ### Stages 2 to 6 -/

/-- R221: the surface pixel of a plane at a lenslet, none where the plane leaves it unchanged. -/
def planePx (s : State) (v : CmpVersion) (plane : Nat) (p : Plane) (lx row : Nat) : Option SurfacePx :=
  let c := planeColumns p
  if planeCovers p row && decide (c.1 ≤ lx) && decide (lx < c.1 + c.2) then
    (rowOf s v.subframe plane row).map (fun r => surfacePx p.format (planeSource p row).1 r.luma r.chroma (lx - c.1))
  else none

/-- R220 stage 2: the colours of the planes at a lenslet, lowest first. -/
def lensletOverlays (s : State) (v : CmpVersion) (lx row : Nat) : List Rgba :=
  (List.range 8).filterMap (fun k =>
    match v.planes[k]? with
    | some p => (planePx s v k p lx row).map (premultiplied p)
    | none => none)

/-- R233: a node of the identity mapping. -/
def identityNode (i : Nat) : Nat := (i * 4095 + 16) / 32

/-- R84, R233: a channel of a node of a bank. -/
def lutNode (s : State) (bank : Nat) (identity : Bool) (ch r g b : Nat) : Nat :=
  let bs := s.cmp.luts.getD bank []
  if identity || bs.isEmpty then identityNode (if ch = 0 then r else if ch = 1 then g else b)
  else leAt bs (((b * 33 + g) * 33 + r) * 6 + 2 * ch) 2 % 4096

/-- R232: the axes by decreasing fraction, ties R before G before B. -/
def axisOrder (fr fg fb : Nat) : List (Nat × Nat) :=
  let place (x : Nat × Nat) (l : List (Nat × Nat)) : List (Nat × Nat) :=
    l.takeWhile (fun y => decide (x.2 ≤ y.2)) ++ [x] ++ l.dropWhile (fun y => decide (x.2 ≤ y.2))
  place (2, fb) (place (1, fg) [(0, fr)])

/-- R232: a linear colour through a bank, in 12 bits per channel. -/
def lutMap (s : State) (bank : Nat) (identity : Bool) (c : Int × Int × Int) : Int × Int × Int :=
  let sh (x : Int) : Nat := srgbEncode x.toNat
  let sr := sh c.1
  let sg := sh c.2.1
  let sb := sh c.2.2
  let order := axisOrder (sr % 2048) (sg % 2048) (sb % 2048)
  let a1 := order.getD 0 (0, 0)
  let a2 := order.getD 1 (0, 0)
  let a3 := order.getD 2 (0, 0)
  let node (axes : List Nat) (ch : Nat) : Int :=
    (lutNode s bank identity ch (sr / 2048 + axes.count 0) (sg / 2048 + axes.count 1) (sb / 2048 + axes.count 2) : Nat)
  let out (ch : Nat) : Int :=
    let c0 := node [] ch
    let p1 := node [a1.1] ch
    let p2 := node [a1.1, a2.1] ch
    let c1 := node [0, 1, 2] ch
    clampInt (c0 + sar ((a1.2 : Int) * (p1 - c0) + (a2.2 : Int) * (p2 - p1) + (a3.2 : Int) * (c1 - p2) + 1024) 11) 0 4095
  (out 0, out 1, out 2)

/-- R230: a protected pixel over the result of stage 4. -/
def protOver (s : State) (x : SurfacePx) (under : Int × Int × Int) : Int × Int × Int :=
  let a : Int := (x.a * 257 : Nat)
  let p := lutMap s 0 true ((x.r : Nat), (x.g : Nat), (x.b : Nat))
  let one (q u : Int) : Int := truncDiv (q * a + u * (65535 - a) + 32767) 65535
  (one p.1 under.1, one p.2.1 under.2.1, one p.2.2 under.2.2)

/-- R220 stage 5: a channel through its lenslet's gain. -/
def gainApply (v gain : Int) : Int := min (sar (v * gain + 0x2000) 14) 4095

/-- R234: the dither matrix. -/
def ditherMatrix : List Nat := [0, 8, 2, 10, 12, 4, 14, 6, 3, 11, 1, 9, 15, 7, 13, 5]

/-- R234: what dither adds at a pixel in phase k. -/
def ditherOf (s : State) (k px py : Nat) : Nat :=
  if s.on F.CMP_CTRL_DITHER_EN then ditherMatrix.getD ((py + k) % 4 * 4 + (px + 2 * k) % 4) 0 else 8

/-- R231: is a band black under the protected layer in a subframe? -/
def blackUnder (s : State) (b subframe : Nat) : Bool :=
  s.cmp.black.any (fun e => decide (e.1 = b) && decide (e.2.1 ≤ subframe) &&
    (match e.2.2 with | some u => decide (subframe < u) | none => true))

/-- R220: stages 2 to 6 of a pixel. `measured`: its band is given to a groom pass; `black`: R231. -/
def composePx (s : State) (v : CmpVersion) (measured black : Bool) (beyond : List Rgba) (prot : Option SurfacePx)
    (rcd rcdBare : LensRec) (px py : Nat) (c : Nat × Nat × Nat) : Nat × Nat × Nat :=
  let zero : Int × Int × Int := (0, 0, 0)
  let c1 : Int × Int × Int := ((c.1 : Int), (c.2.1 : Int), (c.2.2 : Int))
  let c2 := if black then zero else if measured || !s.on F.CMP_CTRL_OVL_EN then c1 else beyond.foldl (fun u x => blendOver x u) c1
  let c4 := lutMap s v.bank measured c2
  let c3 := match prot with | some x => protOver s x c4 | none => c4
  let guarded := match prot with | some x => decide (0 < x.a) | none => false
  let r := if guarded then rcdBare else rcd
  let d := ditherOf s v.phase px py
  let out (x : Int) (i : Nat) : Nat := Nat.min (((gainApply x (r.at i)).toNat + d) / 16) 255
  (out c3.1 6, out c3.2.1 7, out c3.2.2 8)

/-- R220: stages 2 to 6 of a panel line of 11,520 pixels. -/
def composeLine (s : State) (p : Plan) (line : Nat) (pixels : List (Nat × Nat × Nat)) : List (Nat × Nat × Nat) :=
  let v := cmpVersionOf s p.subframe
  let rv := versionOf s p.subframe p.facet
  let py := 540 * p.band + line
  let row := py / 10
  let measured := decide (rv.measured.map (fun m => m.1) = some p.band)
  let black := blackUnder s p.band p.subframe
  (List.range 1152).flatMap (fun lx =>
    let beyond := lensletOverlays s v lx row
    let prot := match v.prot with | some (q, _) => planePx s v 8 q lx row | none => none
    let n := lensNo lx row
    let rcd := recordOf s rv n
    let bare := recordOf s { rv with host := [] } n
    (List.range 10).map (fun i =>
      composePx s v measured black beyond prot rcd bare (10 * lx + i) py (pixels.getD (10 * lx + i) (0, 0, 0))))

/-! ### The CRC monitor (R231) -/

/-- R231: the protected bytes that reach stage 3 on a line. -/
def protBytes (s : State) (v : CmpVersion) (row : Nat) : List Byte :=
  match v.prot with
  | some (p, _) => if planeCovers p row then ((rowOf s v.subframe 8 row).map (fun r => r.luma)).getD [] else []
  | none => []

/-- R231: a line's bytes enter its band's CRC; after the last line the result is stored and judged. -/
def protLine (s : State) (p : Plan) (line : Nat) : State :=
  let v := cmpVersionOf s p.subframe
  let start := if line = 0 then 0xFFFFFFFF else (mapGet s.cmp.crc p.band).getD 0xFFFFFFFF
  let run := (protBytes s v ((540 * p.band + line) / 10)).foldl crc32cByte start
  let t := s.setCmp (fun c => { c with crc := mapPut c.crc p.band run })
  if line = 539 then
    let crc := Nat.xor run 0xFFFFFFFF
    let u := t.set (F.CMP_PROT_CRC_LAST_CRC p.band) crc
    match v.prot with
    | some (_, refs) => if crc = refs.getD p.band 0 then u else protMismatch u p.band p.subframe
    | none => u
  else t

/-! ### Underrun (R256) -/

/-- R256: a line from its spans in the line buffer, the missing ones filled; and how many were missing. -/
def fillLine (p : Plan) (line : Nat) : List (Nat × Nat × Nat) × Nat :=
  (List.range 16).foldl (fun acc k =>
    match assoc p.buffer (line * 16 + k) with
    | some px => (acc.1 ++ px, acc.2)
    | none => (acc.1 ++ List.replicate 720 (acc.1.getLast?.getD p.tail), acc.2 + 1)) ([], 0)

/-- R256: missing spans are counted. -/
def countUnderrun (s : State) (b missing : Nat) : State :=
  if missing = 0 then s
  else raiseIrq ((s.bump (F.PNL_UNDERRUN_LINES_COUNT b)).bumpBy (F.PNL_UNDERRUN_PIXELS_COUNT b) (720 * missing)) (0x0D0 + b) 0

/-! ### Versions and the protected layer's registers -/

/-- R229: the latch takes a swap: the back registers and the references. -/
def latchProt (s : State) : State :=
  if s.on F.CMP_PROT_CTRL_SWAP then
    let p := protBack s
    let refs := (List.range 12).map (fun b => s.get (F.CMP_PROT_CRC_REF_CRC b))
    (s.set F.CMP_PROT_CTRL_SWAP 0).setCmp (fun c => { c with protTaken := some (if p.en then some (p, refs) else none) })
  else s

/-- R229, R231: the boundary applies a taken swap and ends black-under of bands rearmed before it. -/
def boundaryProt (s : State) (n : Nat) : State :=
  let t := match s.cmp.protTaken with
    | some p => (s.set F.CMP_STATUS_PROT_ACTIVE (b2n p.isSome)).setCmp (fun c => { c with prot := p, protTaken := none })
    | none => s
  let beyond := (t.cmp.black.filter (fun e => match e.2.2 with | some u => decide (u ≤ n) | none => false)).map (fun e => e.1)
  t.set F.CMP_STATUS_BLACK_UNDER (beyond.foldl withoutBit (t.get F.CMP_STATUS_BLACK_UNDER))

/-- R229, R231, R242: what an accepted write of CMP.PROT_CTRL does: SWAP waits for the latch; a rearm ends black-under from
the next subframe, at most three times in 10 s, after which no rearm has effect until reset. -/
def protCtrlAfter (s : State) : State :=
  if s.on F.CMP_PROT_CTRL_REARM then
    let t := s.set F.CMP_PROT_CTRL_REARM 0
    let recent := t.cmp.rearms.filter (fun x => decide (t.now < 10000000000 + x))
    if t.cmp.rearmsUsed then t
    else if 3 ≤ recent.length then t.setCmp (fun c => { c with rearmsUsed := true })
    else t.setCmp (fun c =>
      { c with
          rearms := recent ++ [t.now]
          black := c.black.map (fun e => if e.2.2.isNone then (e.1, e.2.1, some (t.drum.subframe + 1)) else e) })
  else s

/-- R242: what follows a write of CMP.PROT_CTRL. -/
def protCtrlThen (w : Written) : State :=
  if w.took.isEmpty then w.s else protCtrlAfter w.s

/-- R242: a write of CMP.PROT_CTRL. -/
def protCtrlWrite (s : State) (m : Master) (data : Nat) : State := protCtrlThen (writeAccess s m 0xBF100 4 data)

def execProtSwap (m : Master) (data : Nat) (s : State) : Host.Outcome State Fault Refusal := live s (protCtrlWrite s m (withBit data 1))

def execProtRearm (m : Master) (data : Nat) (s : State) : Host.Outcome State Fault Refusal := live s (protCtrlWrite s m (withBit data 2))

/-! ### Colour banks (R233) -/

/-- R233: is a bank in force or named by an armed group? -/
def lutInUse (s : State) (bank : Nat) : Bool :=
  decide (s.get F.CMP_STATUS_LUT_BANK = bank) ||
  (List.range 4).any (fun g => s.on (F.CMP_FLIP_CTRL_ARMED g) && decide (s.get (F.CMP_FLIP_CTRL_LUT_SEL g) = 2 + bank))

/-- R233: what follows a write of CMP.LUT_LOAD. While a load runs it is refused, and BANK keeps naming the bank that is loaded. -/
def lutLoadAfter (s : State) (w : Written) : State :=
  match w.tookField F.CMP_LUT_LOAD_BANK with
  | none => w.s
  | some bank =>
    if w.s.on F.CMP_LUT_LOAD_BUSY then w.s.setAll [(F.CMP_LUT_STATUS_CODE, 4), (F.CMP_LUT_LOAD_BANK, s.get F.CMP_LUT_LOAD_BANK)]
    else if lutInUse w.s bank then w.s.set F.CMP_LUT_STATUS_CODE 1
    else (w.s.set F.CMP_LUT_LOAD_BUSY 1).setCmp (fun c => { c with lutLoad := some (bank, w.s.get F.CMP_LUT_ADDR_ADDR * 64) })

/-- R233: a write of CMP.LUT_LOAD. While a load runs it is refused, and BANK keeps naming the bank that is loaded. -/
def lutLoadWrite (s : State) (m : Master) (data : Nat) : State := lutLoadAfter s (writeAccess s m 0xB0118 4 data)

def execLutLoad (m : Master) (data : Nat) (s : State) : Host.Outcome State Fault Refusal := live s (lutLoadWrite s m data)

/-- R84, R233: the load ends: the table read and checked, its code shown, LUT_LOADED set. -/
def lutLoadDone (s : State) : State :=
  match s.cmp.lutLoad with
  | none => s
  | some (bank, addr) =>
    let done (t : State) (code : Nat) : State :=
      raiseIrq (t.setAll [(F.CMP_LUT_LOAD_BUSY, 0), (F.CMP_LUT_STATUS_CODE, code)]) 0x0B0 4
    match dramFetch (s.setCmp (fun c => { c with lutLoad := none })) 7 addr 215622 with
    | (t, none) => done t 3
    | (t, some bs) =>
      if lutWordsOk bs then
        done (t.setCmp (fun c => { c with
          luts := c.luts.set bank bs, lutReady := if c.lutReady.contains bank then c.lutReady else c.lutReady ++ [bank] })) 0
      else done t 2

def execLutLoadDone (s : State) : Host.Outcome State Fault Refusal := live s (lutLoadDone s)

end Sys2Proof.Machine
end

