-- ==== Sys2Proof/Machine/Flips.lean ====
section
/-! DEFINITION. Machine/Flips.lean: flip groups (R226, R227) and overlays in a yard (R228, R320). -/

namespace Sys2Proof.Machine

/-! ### Arming -/

/-- R225: does a controller in its yard role take a format? -/
def formatPermitted (s : State) (f : Nat) : Bool :=
  if s.role = 0 then [0x00, 0x01, 0x02, 0x10, 0x11, 0x12, 0x13].contains f else [0x00, 0x01, 0x02].contains f

/-- R226: is a plane's back description one that may flip? -/
def planeOk (s : State) (p : Plane) : Bool :=
  formatPermitted s p.format && decide (p.pitch % 64 = 0) && decide (p.pitch ≤ 0x100000) &&
  decide ((p.srcX + p.w) * pixelBytes p.format ≤ p.pitch) && decide (1 ≤ p.w) && decide (1 ≤ p.h) &&
  (if 0x10 ≤ p.format then decide (p.srcX % 2 = 0) && decide (p.w % 2 = 0) else true) &&
  (if p.format = 0x10 ∨ p.format = 0x11 then decide (p.srcY % 2 = 0) && decide (p.h % 2 = 0) else true)

/-- R226: the RESULT of an arm whose fields the registers of `s` hold. -/
def armResult (s : State) (g : Nat) : Nat :=
  let planes := setBits (s.get (F.CMP_FLIP_CTRL_PLANES g)) 8
  let sel := s.get (F.CMP_FLIP_CTRL_LUT_SEL g)
  if planes.all (fun p => !(planeBack s p).en || planeOk s (planeBack s p)) &&
     (decide (sel < 2) || s.cmp.lutReady.contains (sel - 2)) then 0 else 1

/-! ### Stripes (R228) -/

/-- R200, R228: the lenslet origin of a device at yard coordinates, from a DXY byte. -/
def lensletOrigin (xy : Nat) : Int × Int := (toSigned (xy % 16) 4 * 1152, toSigned (xy / 16) 4 * 648)

/-- R228: does a plane in yard coordinates overlap a member's tile? -/
def overlapsTile (p : Plane) (xy : Nat) : Bool :=
  let o := lensletOrigin xy
  p.en && decide (p.dstX < o.1 + 1152) && decide (o.1 < p.dstX + (p.w : Int)) && decide (p.dstY < o.2 + 648) &&
  decide (o.2 < p.dstY + (p.h : Int))

/-- R228: the planes whose copies a member receives for a group, with what they are copied from: those named, and, for a
member that has joined since, those in force. -/
def stripePlanes (s : State) (g : Nat) (m : YardMember) : List (Nat × Plane) :=
  let named := s.get (F.CMP_FLIP_CTRL_PLANES g)
  (List.range 8).filterMap (fun p =>
    let shown := !decide (mapVal s.cmp.slots (m.number * 8 + p) = 0)
    if hasBit named p then
      (if overlapsTile (planeBack s p) m.xy || shown then some (p, planeBack s p) else none)
    else if overlapsTile (planeFront s p) m.xy && !shown then some (p, planeFront s p)
    else none)

/-- R223, R236: a packed pixel's bytes as FORMAT 0x02. -/
def toRgba (format : Nat) (bs : List Byte) : List Byte :=
  match format with
  | 0x00 =>
    let w := leAt bs 0 2
    [BitVec.ofNat 8 (widen5 (bitsOf w 11 5)), BitVec.ofNat 8 (widen6 (bitsOf w 5 6)), BitVec.ofNat 8 (widen5 (bitsOf w 0 5)), 255]
  | 0x01 => bs.take 3 ++ [255]
  | _ => bs.take 4

/-- R228: the pixel at a lenslet of a member's slot: the plane's, converted, or transparent. A pixel that the regions refuse
or that cannot be read is transparent. -/
def stripePx (s : State) (p : Plane) (xy x y : Nat) : List Byte :=
  let o := lensletOrigin xy
  let dx := o.1 + (x : Int) - p.dstX
  let dy := o.2 + (y : Int) - p.dstY
  if p.en = true ∧ 0 ≤ dx ∧ dx < (p.w : Int) ∧ 0 ≤ dy ∧ dy < (p.h : Int) then
    let n := pixelBytes p.format
    let a := p.addr + (dy.toNat + p.srcY) * p.pitch + (dx.toNat + p.srcX) * n
    match (dramFetch s 7 a n).2 with
    | some bs => toRgba p.format bs
    | none => [0, 0, 0, 0]
  else [0, 0, 0, 0]

/-- R228: the bytes of a stripe slot. -/
def slotBytes : Nat := 1152 * 648 * 4

/-- R228: the address of a plane's slot 0 or 1 in a member's stripe buffer. -/
def slotBase (s : State) (p slot : Nat) : Nat := s.get F.CMP_STRIPE_BASE_ADDR * 65536 + (2 * p + slot) * slotBytes

/-- R320: a stripe slot filled with MEM_WR frames of 1,024 bytes. -/
def sendStripe (s : State) (m : YardMember) (pl : Plane) (base : Nat) : State :=
  (List.range (slotBytes / 1024)).foldl (fun t i =>
    sendVc1 t (mkFrame 0x04 1 m.number 0 0 0 (base + 1024 * i) 0
      ((List.range 256).flatMap (fun j => stripePx s pl m.xy ((256 * i + j) % 1152) ((256 * i + j) / 1152))))) s

/-- R320: a member's back descriptor of a plane written with REG_WR frames; their TAG of 1 sets them apart from a host's
(log entry 17). -/
def sendDescriptor (s : State) (m : YardMember) (p : Nat) (pl : Plane) (base : Nat) : State :=
  let page := (0x0B1 + p) * 0x1000
  let fmt := b2n (overlapsTile pl m.xy) * 2 ^ 31 + pl.mode * 2 ^ 24 + pl.alpha * 2 ^ 16 + 0x02
  let wr (t : State) (off n v : Nat) : State := sendVc1 t (mkFrame 0x01 1 m.number 0 0 n (page + off) 1 (leBytes n v))
  wr (wr (wr (wr s 0x100 8 base) 0x108 8 (fmt + 4608 * 2 ^ 32)) 0x110 8 ((1152 + 648 * 2 ^ 16) * 2 ^ 32)) 0x118 4 0

/-- R228, R320: the copies of a group for a member are finished: descriptors and FLIP_PREP follow. -/
def stripeCopiesDone (s : State) (g member : Nat) : State :=
  if s.cmp.copies.contains (g, member) then
    match s.yard.members.find? (fun m => decide (m.number = member)) with
    | none => s.setCmp (fun c => { c with copies := c.copies.erase (g, member) })
    | some m =>
      let sent := (stripePlanes s g m).foldl (fun t e =>
        let base := slotBase s e.1 (if mapVal s.cmp.slots (member * 8 + e.1) = 1 then 1 else 0)
        sendDescriptor (sendStripe t m e.2 base) m e.1 e.2 base) s
      (sendVc1 sent (mkFrame 0x38 1 member 0 0 g (s.get (F.CMP_FLIP_TAG_TAG g)) 0 [])).setCmp (fun c =>
        { c with copies := c.copies.erase (g, member), acks := c.acks ++ [(g, member)] })
  else s

def execStripeCopiesDone (group member : Nat) (s : State) : Host.Outcome State Fault Refusal :=
  live s (if s.isHead then stripeCopiesDone s (group % 4) member else s)

/-- R228 step 2: has every member acknowledged a group's copies? -/
def groupAcked (s : State) (g : Nat) : Bool :=
  !s.cmp.copies.any (fun e => decide (e.1 = g)) && !s.cmp.acks.any (fun e => decide (e.1 = g))

/-- R240: READY shows, on a head, that a group's copies are acknowledged. -/
def showReady (s : State) (g : Nat) : State :=
  s.set (F.CMP_FLIP_CTRL_READY g) (b2n (s.isHead && s.on (F.CMP_FLIP_CTRL_ARMED g) && groupAcked s g))

/-- R228: a member's FLIP_ACK, matched by group and TAG. -/
def flipAcked (s : State) (g tag member : Nat) : State :=
  if s.cmp.acks.contains (g, member) && decide (s.get (F.CMP_FLIP_TAG_TAG g) = tag) then
    showReady (s.setCmp (fun c => { c with acks := c.acks.erase (g, member), acked := c.acked ++ [(g, member)] })) g
  else s

/-- R228 step 4: the members that have not acknowledged are left out. -/
def yardFlipTimeout (s : State) (g : Nat) : State :=
  let late (e : Nat × Nat) : Bool := decide (e.1 = g)
  let n := (s.cmp.copies.filter late).length + (s.cmp.acks.filter late).length
  if n = 0 ∨ s.get (F.CMP_FLIP_CTRL_ARMED g) = 0 then s
  else
    let t := s.setCmp (fun c => { c with copies := c.copies.filter (fun e => !late e), acks := c.acks.filter (fun e => !late e) })
    showReady (raiseIrq (t.bumpBy F.CMP_YARD_EXCLUDED_COUNT n) 0x0B0 6) g

def execYardFlipTimeout (group : Nat) (s : State) : Host.Outcome State Fault Refusal :=
  live s (if s.isHead then yardFlipTimeout s (group % 4) else s)

/-! ### Writes of CMP.FLIP_CTRL -/

/-- R240: STATUS.ARMED shows the armed groups. -/
def showArmed (s : State) : State :=
  s.set F.CMP_STATUS_ARMED ((List.range 4).foldl (fun v g => v + s.get (F.CMP_FLIP_CTRL_ARMED g) * 2 ^ g) 0)

/-- R226: a group is disarmed, and what a head waited for is forgotten. -/
def disarm (s : State) (g : Nat) : State :=
  showArmed ((s.setAll [(F.CMP_FLIP_CTRL_ARMED g, 0), (F.CMP_FLIP_CTRL_READY g, 0)]).setCmp (fun c =>
    { c with copies := c.copies.filter (fun e => !decide (e.1 = g)), acks := c.acks.filter (fun e => !decide (e.1 = g)),
             acked := c.acked.filter (fun e => !decide (e.1 = g)) }))

/-- R226, R228: a group arms; on a head the copies begin. -/
def armGroup (s : State) (g : Nat) : State :=
  let t := showArmed (s.setAll [(F.CMP_FLIP_CTRL_ARMED g, 1), (F.CMP_FLIP_CTRL_RESULT g, 0)])
  if t.isHead then
    let ms := t.yard.members.filter (fun m => !(stripePlanes t g m).isEmpty)
    showReady (t.setCmp (fun c => { c with copies := c.copies ++ ms.map (fun m => (g, m.number)) })) g
  else t

/-- R226: a group's fields as they were before a refused arm. -/
def keepFlip (before s : State) (g : Nat) : State :=
  s.setAll [(F.CMP_FLIP_CTRL_WAIT_FENCE g, before.get (F.CMP_FLIP_CTRL_WAIT_FENCE g)),
    (F.CMP_FLIP_CTRL_FENCE_INDEX g, before.get (F.CMP_FLIP_CTRL_FENCE_INDEX g)),
    (F.CMP_FLIP_CTRL_LUT_SEL g, before.get (F.CMP_FLIP_CTRL_LUT_SEL g)), (F.CMP_FLIP_CTRL_PLANES g, before.get (F.CMP_FLIP_CTRL_PLANES g))]

/-- R226: what follows a write of CMP.FLIP_CTRL of a group: CANCEL disarms; ARM is checked and arms. A refused arm changes only RESULT. -/
def flipAfter (s : State) (g : Nat) (w : Written) : State :=
  let cancel := (w.tookField (F.CMP_FLIP_CTRL_CANCEL g)).getD 0
  let arm := (w.tookField (F.CMP_FLIP_CTRL_ARM g)).getD 0
  let t := if cancel = 1 ∧ s.on (F.CMP_FLIP_CTRL_ARMED g) = true then disarm w.s g else w.s
  if arm = 1 then
    if t.on (F.CMP_FLIP_CTRL_ARMED g) then (keepFlip s w.s g).set (F.CMP_FLIP_CTRL_RESULT g) 2
    else if armResult t g = 0 then armGroup t g
    else (keepFlip s t g).set (F.CMP_FLIP_CTRL_RESULT g) 1
  else t

/-- R226: a write of CMP.FLIP_CTRL of a group: CANCEL disarms; ARM is checked and arms. A refused arm changes only RESULT. -/
def flipWrite (s : State) (m : Master) (g data : Nat) : State := flipAfter s g (writeAccess s m (0xB0140 + 32 * g) 4 data)

def execFlipArm (m : Master) (group data : Nat) (s : State) : Host.Outcome State Fault Refusal :=
  live s (flipWrite s m (group % 4) (withBit data 28))

def execFlipCancel (m : Master) (group data : Nat) (s : State) : Host.Outcome State Fault Refusal :=
  live s (flipWrite s m (group % 4) (withBit data 29))

/-! ### Latch and boundary -/

/-- R226, R228: is an armed group ready at a latch? -/
def flipReady (s : State) (g : Nat) : Bool :=
  s.on (F.CMP_FLIP_CTRL_ARMED g) &&
  (!s.on (F.CMP_FLIP_CTRL_WAIT_FENCE g) || fenceMet s (s.get (F.CMP_FLIP_CTRL_FENCE_INDEX g)) (s.get (F.CMP_FLIP_VALUE_VALUE g))) &&
  (!s.isHead || groupAcked s g)

/-- R228: a member that has acknowledged shows its new slots. -/
def swapMember (s : State) (g member : Nat) (slots : Map) : Map :=
  match s.yard.members.find? (fun m => decide (m.number = member)) with
  | some m => (stripePlanes s g m).foldl (fun x q => mapPut x (member * 8 + q.1) (if mapVal x (member * 8 + q.1) = 1 then 2 else 1)) slots
  | none => slots

/-- R228: the members that have acknowledged show their new slots. -/
def swapSlots (s : State) (g : Nat) : State :=
  let slots := (s.cmp.acked.filter (fun e => decide (e.1 = g))).foldl (fun sl e => swapMember s g e.2 sl) s.cmp.slots
  s.setCmp (fun c => { c with slots := slots })

/-- R226, R228: a ready group is taken: its planes' back registers move to the front, it disarms, and a head sends FLIP with
the yard time of the boundary that follows. -/
def takeGroup (s : State) (g : Nat) : State :=
  let tag := s.get (F.CMP_FLIP_TAG_TAG g)
  let t := (setBits (s.get (F.CMP_FLIP_CTRL_PLANES g)) 8).foldl planeToFront (swapSlots s g)
  let u := (disarm t g).setCmp (fun c => { c with taken := c.taken ++ [⟨g, s.get (F.CMP_FLIP_CTRL_LUT_SEL g), tag⟩] })
  if u.isHead then
    originate u { mkFrame 0x3A 0 0 0 0 g (u.now + 1000 * u.get F.LAY_LATCH_LEAD_MICROSECONDS) 0 (leBytes 8 tag) with bcast := true }
  else u

/-- R226: what a latch does to flip groups. -/
def latchFlips (s : State) : State :=
  (List.range 4).foldl (fun t g => if flipReady t g then takeGroup t g else t) s

/-- R226: a group applied at a boundary. -/
def groupDone (s : State) (g tag n : Nat) : State :=
  raiseIrq (s.setAll [(F.CMP_FLIP_DONE_TAG_TAG g, tag), (F.CMP_FLIP_DONE_SUBFRAME_NUMBER g, n)]) 0x0B0 g

/-- R227: the taken groups in group order. -/
def insertTaken (x : FlipTaken) : List FlipTaken → List FlipTaken
  | [] => [x]
  | y :: ys => if x.group < y.group then x :: y :: ys else y :: insertTaken x ys

/-- R228 step 3: half of the time from one facet boundary to the next, in ns; half a refresh where the drum is parked. -/
def halfFacet (s : State) : Nat :=
  if s.on F.DRU_STATE_PARKED_OUT || decide (s.drum.omegaE ≤ 0) then 8333333
  else 2 ^ 43 * 1000 / (s.drum.omegaE.toNat * Nat.max (s.get F.DRU_STATE_FACETS) 1)

/-- R228 step 3: a member applies a flip that it has been told of and whose time is near. -/
def boundaryTold (s : State) (n : Nat) : State :=
  let near := s.cmp.told.filter (fun e => decide (absDiff s.now e.2.2.2 ≤ halfFacet s))
  let t := s.setCmp (fun c => { c with told := c.told.filter (fun e => decide (s.now + halfFacet s < e.2.2.2)) })
  near.foldl (fun u e => groupDone ((setBits e.1 8).foldl planeToFront u) e.2.2.1 e.2.1 n) t

/-- R226, R227: what boundary `n` does to flip groups: the banks that taken groups name, the highest group last, and their
completion. -/
def boundaryFlips (s : State) (n : Nat) : State :=
  let due := s.cmp.taken.foldl (fun l x => insertTaken x l) []
  let t := due.foldl (fun u x =>
    groupDone (if 2 ≤ x.lutSel then u.set F.CMP_STATUS_LUT_BANK (x.lutSel - 2) else u) x.group x.tag n)
    (s.setCmp (fun c => { c with taken := [] }))
  boundaryTold t n

/-! ### A member's side -/

/-- R320: FLIP_PREP: the planes whose back registers the head has written since the last one belong to the group, and
FLIP_ACK answers. -/
def flipPrepared (s : State) (g tag : Nat) : State :=
  let t := s.setCmp (fun c =>
    { c with prepared := c.prepared.filter (fun e => !decide (e.1 = g)) ++ [(g, tag, c.striped)], striped := 0 })
  originate t (mkFrame 0x39 3 0 0 0 g tag 0 [])

/-- R320: FLIP: matched to its FLIP_PREP by group and TAG, and ignored without one. -/
def flipTold (s : State) (g tag time : Nat) : State :=
  match s.cmp.prepared.find? (fun e => decide (e.1 = g) && decide (e.2.1 = tag)) with
  | some e => s.setCmp (fun c => { c with prepared := c.prepared.erase e, told := c.told ++ [(e.2.2, tag, g, time)] })
  | none => s

end Sys2Proof.Machine
end

