-- ==== Sys2Proof/Machine/Blit.lean ====
section
/-! DEFINITION. Machine/Blit.lean: the 2-D engine (R235 to R239): command lists from output chains, surfaces, FILL, COPY, BLEND
with clipping and overlap, WAIT_LINE, FENCE, IRQ and END. -/

namespace Sys2Proof.Machine

/-! ### Reading a list from its place in the chain -/

/-- R105, R235: bytes of an object from its place in an output chain: up to `n` entries from chain offset `at0`; `off` and
`len` say which bytes. None where an entry or its buffer cannot be read. -/
def chainRead : Nat → State → Nat → Nat → Nat → Nat → State × Option (List Byte)
  | 0, s, _, _, _, len => (s, if len = 0 then some [] else none)
  | n + 1, s, ptr, at0, off, len =>
    if len = 0 then (s, some [])
    else
      match blockFetch s (hasBit ptr 0) (ptr / 32 * 32) 32 with
      | (s1, none) => (s1, none)
      | (s1, some e) =>
        let size := leAt e 8 4
        let flags := leAt e 12 4
        if chainEntryBad s1 e then (s1, none)
        else if at0 + size ≤ off then (if hasBit flags 1 then (s1, none) else chainRead n s1 (leAt e 16 8) (at0 + size) off len)
        else
          let take := Nat.min len (at0 + size - off)
          match blockFetch s1 (hasBit flags 0) (leAt e 0 8 + (off - at0)) take with
          | (s2, none) => (s2, none)
          | (s2, some bs) =>
            if take = len then (s2, some bs)
            else if hasBit flags 1 then (s2, none)
            else match chainRead n s2 (leAt e 16 8) (at0 + size) (off + take) (len - take) with
              | (s3, some rest) => (s3, some (bs ++ rest))
              | (s3, none) => (s3, none)

/-- R235: bytes of the running list. -/
def listRead (s : State) (l : BltList) (off len : Nat) : State × Option (List Byte) :=
  if l.chain / 32 = 0 then (s, none) else chainRead 4096 s l.chain 0 (l.base + off) len

/-! ### Starting and ending -/

/-- R235: the list of a descriptor begins. -/
def startList (s : State) (r : Run) : State :=
  let h := auxHeader (payloadOf r.block)
  (s.set F.BLT_LIST_STATUS_BUSY 1).setCmp (fun c =>
    { c with list := some ⟨r.queue, r.desc.seq, (ctxOf s r.queue).chain, h.outOffset, h.unpackedLen, 0, none⟩ })

/-- R235: a list that waits on the bound queue starts. -/
def execBlitListStart (s : State) : Host.Outcome State Fault Refusal :=
  live s (if s.cmp.list.isSome then s
    else match s.scene.runs.find? (fun r => decide (r.stage = .listing)) with
      | some r => startList s r
      | none => s)

/-- R235: a list is over, and its descriptor may retire DONE. -/
def endList (s : State) (l : BltList) : State :=
  setRun ((s.setAll [(F.BLT_LIST_STATUS_BUSY, 0), (F.BLT_LIST_SEQ_SEQ, l.seq)]).setCmp (fun c => { c with list := none })) l.queue
    (fun r => { r with stage := .finished, status := 0 })

/-- R235: a list finishes. -/
def finishList (s : State) (l : BltList) : State := endList (s.set F.BLT_LIST_STATUS_CODE 0) l

/-- R235: a list stops on an error at its next command. -/
def stopList (s : State) (l : BltList) (code : Nat) : State :=
  endList (raiseIrq (s.setAll [(F.BLT_LIST_STATUS_CODE, code), (F.BLT_LIST_OFFSET_OFFSET, l.offset)]) 0x0C0 13) l

/-- R243: a command has been executed, and the next one is `n` bytes on. -/
def advanceList (s : State) (l : BltList) (n : Nat) : State :=
  (s.bump F.BLT_COMMANDS_COUNT).setCmp (fun c => { c with list := some { l with offset := l.offset + n, waiting := none } })

/-! ### Surfaces -/

/-- R236: a surface. -/
structure Surface where
  addr : Nat
  pitch : Nat
  format : Nat
  width : Nat
  height : Nat
deriving DecidableEq, Repr

/-- R236: a surface from its 24 bytes, none where a field is out of range. -/
def surfaceOf (b : List Byte) (off : Nat) : Option Surface :=
  let x : Surface := ⟨leAt b off 8, leAt b (off + 8) 4, leAt b (off + 12) 1, leAt b (off + 16) 2, leAt b (off + 18) 2⟩
  if x.addr % 64 = 0 ∧ x.pitch % 64 = 0 ∧ x.pitch ≤ 0x100000 ∧ x.format ≤ 2 ∧ leAt b (off + 13) 3 = 0 ∧ leAt b (off + 20) 4 = 0 ∧
     1 ≤ x.width ∧ 1 ≤ x.height ∧ x.width * pixelBytes x.format ≤ x.pitch then some x else none

/-- R236: a rectangle. -/
structure Rect where
  x : Nat
  y : Nat
  w : Nat
  h : Nat
deriving DecidableEq, Repr

/-- R236: a rectangle from its 8 bytes. -/
def rectOf (b : List Byte) (off : Nat) : Rect := ⟨leAt b off 2, leAt b (off + 2) 2, leAt b (off + 4) 2, leAt b (off + 6) 2⟩

/-- Does a rectangle hold a pixel? -/
def Rect.has (r : Rect) (x y : Nat) : Bool :=
  decide (r.x ≤ x) && decide (x < r.x + r.w) && decide (r.y ≤ y) && decide (y < r.y + r.h)

/-- Where a pixel of a surface lies. -/
def Surface.px (s : Surface) (x y : Nat) : Nat := s.addr + y * s.pitch + x * pixelBytes s.format

/-- Is a pixel inside a surface? -/
def Surface.has (s : Surface) (x y : Nat) : Bool := decide (x < s.width) && decide (y < s.height)

/-- R238: the extent of a rectangle of a surface: first byte and length; none for an empty one. -/
def Surface.extent (s : Surface) (r : Rect) : Option (Nat × Nat) :=
  if r.w = 0 ∨ r.h = 0 then none
  else some (s.px r.x r.y, (r.h - 1) * s.pitch + r.w * pixelBytes s.format)

/-- R237: is an extent in a secure region? -/
def extentSecure (s : State) (e : Option (Nat × Nat)) : Bool :=
  match e with | some (a, n) => rangeSecure s a n | none => false

/-- R509: the refusal of an extent is reported. -/
def denyExtent (s : State) (e : Option (Nat × Nat)) : State :=
  match e with | some (a, n) => if rangeSecure s a n then dramDenied s 7 a n else s | none => s

/-- R236: an 8-bit RGBA pixel as a format's bytes. -/
def fromRgba (format : Nat) (c : List Byte) : List Byte :=
  match format with
  | 0x00 => leBytes 2 ((leAt c 0 1 * 31 + 127) / 255 * 2 ^ 11 + (leAt c 1 1 * 63 + 127) / 255 * 2 ^ 5 + (leAt c 2 1 * 31 + 127) / 255)
  | 0x01 => c.take 3
  | _ => c

/-- R236: the pixel of a surface, as 8-bit RGBA. -/
def pixelAt (s : State) (f : Surface) (x y : Nat) : List Byte := toRgba f.format (dramRead s (f.px x y) (pixelBytes f.format))

/-- R237: the destination pixels of a rectangle that are written, in rows. -/
def destPixels (d : Surface) (r : Rect) (clips : List Rect) : List (Nat × Nat) :=
  (List.range r.h).flatMap (fun j => (List.range r.w).filterMap (fun i =>
    let x := r.x + i
    let y := r.y + j
    if d.has x y && (clips.isEmpty || clips.any (fun c => c.has x y)) then some (x, y) else none))

/-- Pixels written to a surface. -/
def storePixels (s : State) (d : Surface) (l : List ((Nat × Nat) × List Byte)) : State :=
  l.foldl (fun t e => dramWrite t (d.px e.1.1 e.1.2) (fromRgba d.format e.2)) s

/-- R237, R362: can every pixel be read? -/
def pixelsBad (s : State) (f : Surface) (l : List (Nat × Nat)) : Bool :=
  l.any (fun p => dramBad s (f.px p.1 p.2) (pixelBytes f.format) || !dramBehind s (f.px p.1 p.2) (pixelBytes f.format))

/-! ### Commands -/

/-- What the next command of a list turns out to be. -/
inductive NextCmd where
  /-- The list has ended. -/
  | ended
  /-- It cannot be run, with the code that says why. -/
  | bad (code : Nat)
  /-- An operation with its body, its clip rectangles and its length. -/
  | cmd (op : Nat) (body : List Byte) (clips : List Rect) (length : Nat)
deriving DecidableEq, Repr

/-- R236: the length of an operation's body. -/
def bodyLength (op : Nat) : Option Nat :=
  match op with
  | 0x00 => some 0
  | 0x01 => some 40
  | 0x02 => some 64
  | 0x03 => some 64
  | 0x10 => some 8
  | 0x11 => some 16
  | 0x12 => some 8
  | _ => none

/-- R236: the next command of a list. A field out of range is BAD_SURFACE. -/
def nextCmd (s : State) (l : BltList) : State × NextCmd :=
  if l.len ≤ l.offset then (s, .ended)
  else if l.len < l.offset + 8 then (s, .bad 2)
  else match listRead s l l.offset 8 with
    | (t, none) => (t, .bad 6)
    | (t, some h) =>
      let op := leAt h 0 1
      let clips := leAt h 1 1
      let length := leAt h 4 4
      match bodyLength op with
      | none => (t, .bad 1)
      | some n =>
        if 4 < clips ∨ leAt h 2 2 ≠ 0 then (t, .bad 3)
        else if length ≠ 8 + n + 8 * clips ∨ l.len < l.offset + length then (t, .bad 2)
        else match listRead t l (l.offset + 8) (length - 8) with
          | (u, none) => (u, .bad 6)
          | (u, some b) => (u, .cmd op (b.take n) ((List.range clips).map (fun i => rectOf b (n + 8 * i))) length)

/-- R236 FILL. -/
def fillCmd (s : State) (l : BltList) (b : List Byte) (clips : List Rect) (n : Nat) : State :=
  match surfaceOf b 0 with
  | none => stopList s l 3
  | some d =>
    let r := rectOf b 24
    if leAt b 36 4 ≠ 0 then stopList s l 3
    else if extentSecure s (d.extent r) then stopList (denyExtent s (d.extent r)) l 5
    else
      let px := destPixels d r clips
      if px.any (fun p => !dramBehind s (d.px p.1 p.2) (pixelBytes d.format)) then stopList s l 6
      else advanceList (storePixels s d (px.map (fun p => (p, (b.drop 32).take 4)))) l n

/-- R238: do a source and a destination overlap in a way that stops the list? -/
def overlapBad (f d : Surface) (e g : Option (Nat × Nat)) : Bool :=
  match e, g with
  | some (a, m), some (c, n) =>
    decide (a < c + n) && decide (c < a + m) &&
    (!decide (f.pitch = d.pitch) || !decide (f.format = d.format) ||
     !decide (((d.addr : Int) - (f.addr : Int)) % (f.pitch : Int) % (pixelBytes f.format : Nat) = 0))
  | _, _ => false

/-- R236 BLEND: a source pixel over a destination pixel. -/
def blendPx (src dst : List Byte) : List Byte :=
  let a := leAt src 3 1
  let one (i : Nat) : Byte := BitVec.ofNat 8 ((leAt src i 1 * a + leAt dst i 1 * (255 - a) + 127) / 255)
  [one 0, one 1, one 2, BitVec.ofNat 8 (a + (leAt dst 3 1 * (255 - a) + 127) / 255)]

/-- R236 to R238 COPY and BLEND: every source pixel is read before any pixel is written. -/
def copyCmd (s : State) (l : BltList) (blend : Bool) (b : List Byte) (clips : List Rect) (n : Nat) : State :=
  match surfaceOf b 0, surfaceOf b 32 with
  | some f, some d =>
    let sx := leAt b 24 2
    let sy := leAt b 26 2
    let r := rectOf b 56
    let se := f.extent ⟨sx, sy, r.w, r.h⟩
    let de := d.extent r
    if leAt b 28 4 ≠ 0 ∨ (blend = true ∧ f.format ≠ 0x02) then stopList s l 3
    else if extentSecure s se || extentSecure s de then stopList (denyExtent (denyExtent s se) de) l 5
    else if overlapBad f d se de then stopList s l 4
    else
      let from' (p : Nat × Nat) : Nat × Nat := (p.1 - r.x + sx, p.2 - r.y + sy)
      let px := (destPixels d r clips).filter (fun p => f.has (from' p).1 (from' p).2)
      if pixelsBad s f (px.map from') then
        stopList (px.foldl (fun t p => reportBad t (f.px (from' p).1 (from' p).2) (pixelBytes f.format)) s) l 6
      else if px.any (fun p => !dramBehind s (d.px p.1 p.2) (pixelBytes d.format)) || (blend && pixelsBad s d px) then
        stopList (if blend then px.foldl (fun t p => reportBad t (d.px p.1 p.2) (pixelBytes d.format)) s else s) l 6
      else
        let out := px.map (fun p =>
          let c := pixelAt s f (from' p).1 (from' p).2
          (p, if blend then blendPx c (pixelAt s d p.1 p.2) else c))
        advanceList (storePixels s d out) l n
  | _, _ => stopList s l 3

/-- R236 WAIT_LINE: the list waits for a band's scan-out to pass a line. -/
def waitCmd (s : State) (l : BltList) (b : List Byte) (n : Nat) : State :=
  if 11 < leAt b 0 1 ∨ leAt b 1 1 ≠ 0 ∨ 539 < leAt b 2 2 ∨ leAt b 4 4 ≠ 0 then stopList s l 3
  else s.setCmp (fun c => { c with list := some { l with waiting := some (leAt b 0 1, leAt b 2 2, n) } })

/-- R236 FENCE. -/
def fenceCmd (s : State) (l : BltList) (b : List Byte) (n : Nat) : State :=
  if leAt b 1 7 ≠ 0 then stopList s l 3 else advanceList (fenceMax s (leAt b 0 1) (leAt b 8 8)) l n

/-- R236 IRQ. -/
def irqCmd (s : State) (l : BltList) (b : List Byte) (n : Nat) : State :=
  if leAt b 2 6 ≠ 0 then stopList s l 3 else advanceList (raiseIrq (s.set F.BLT_TAG_TAG (leAt b 0 2)) 0x0C0 12) l n

/-- R235: one step of the running list, for a command of the operation `op`: the next command is run if that is what it is;
one that cannot be run stops the list. On a head, stripe copies go first; a list that waits takes no step. -/
def bltStep (s : State) (op : Nat) : State :=
  match s.cmp.list with
  | none => s
  | some l =>
    if l.waiting.isSome || !s.cmp.copies.isEmpty then s
    else match nextCmd s l with
      | (t, .ended) => if op = 0 then finishList t l else s
      | (t, .bad c) => stopList t l c
      | (t, .cmd o b clips n) =>
        if o = op then
          match o with
          | 0x00 => finishList (t.bump F.BLT_COMMANDS_COUNT) l
          | 0x01 => fillCmd t l b clips n
          | 0x02 => copyCmd t l false b clips n
          | 0x03 => copyCmd t l true b clips n
          | 0x10 => waitCmd t l b n
          | 0x11 => fenceCmd t l b n
          | _ => irqCmd t l b n
        else s

def execBltEnd (s : State) : Host.Outcome State Fault Refusal := live s (bltStep s 0x00)

def execBltFill (s : State) : Host.Outcome State Fault Refusal := live s (bltStep s 0x01)

def execBltCopy (s : State) : Host.Outcome State Fault Refusal := live s (bltStep s 0x02)

def execBltBlend (s : State) : Host.Outcome State Fault Refusal := live s (bltStep s 0x03)

def execBltWaitLine (s : State) : Host.Outcome State Fault Refusal := live s (bltStep s 0x10)

def execBltFence (s : State) : Host.Outcome State Fault Refusal := live s (bltStep s 0x11)

def execBltIrq (s : State) : Host.Outcome State Fault Refusal := live s (bltStep s 0x12)

/-- R236: a WAIT_LINE has waited 100 ms. -/
def waitLineTimeout (s : State) : State :=
  match s.cmp.list with
  | some l => if l.waiting.isSome then stopList s l 7 else s
  | none => s

def execWaitLineTimeout (s : State) : Host.Outcome State Fault Refusal := live s (waitLineTimeout s)

/-! ### Watermarks (R239) -/

/-- R236, R239: a band's scan-out passes a line: its watermark interrupt, and a list that waits for it goes on. -/
def passLine (s : State) (b line : Nat) : State :=
  let t := if s.on (F.BLT_WATERMARK_EN b) && decide (s.get (F.BLT_WATERMARK_LINE b) = line) then raiseIrq s 0x0C0 b else s
  match t.cmp.list with
  | some l => match l.waiting with
    | some w => if w.1 = b ∧ w.2.1 = line then advanceList t l w.2.2 else t
    | none => t
  | none => t

end Sys2Proof.Machine
end

