-- ==== Sys2Proof/Machine/Overdrive.lean ====
section
/-! DEFINITION. Machine/Overdrive.lean: overdrive: table sets and drive words (R258), temperature bands and banks (R259), and
the history's words (R257, R260). -/

namespace Sys2Proof.Machine

/-- Panel drive changed. -/
def State.setPnl (s : State) (f : Pnl → Pnl) : State := { s with pnl := f s.pnl }

/-! ### History words (R260) -/

/-- R260: one channel of a word decoded: base, bits per sample, and the samples' first bit. -/
def histChannel (w b k top : Nat) : List Nat :=
  (List.range 8).map (fun i => Nat.min (b + 3 * bitsOf w (top - (i + 1) * k) k) 255)

/-- R260: the previous levels a history word gives: R, G and B of its 8 pixels; none for a VOID word. -/
def histDecode (w : Nat) : Option (List Nat × List Nat × List Nat) :=
  let kr := bitsOf w 60 2
  let kg := bitsOf w 58 2
  let kb := bitsOf w 56 2
  if bitsOf w 62 2 = 1 ∧ kr + kg + kb ≤ 4 then
    some (histChannel w (bitsOf w 48 8) kr 32, histChannel w (bitsOf w 40 8) kg (32 - 8 * kr),
      histChannel w (bitsOf w 32 8) kb (32 - 8 * kr - 8 * kg))
  else none

/-- The least and greatest of some levels. -/
def levelRange (x : List Nat) : Nat × Nat := (x.foldl Nat.min (x.getD 0 0), x.foldl Nat.max 0)

/-- R260, R193: the base and the bits per sample of a run of samples, none where no number of bits up to `kMax` will do. -/
def codeChannel (kMax top : Nat) (x : List Nat) : Option (Nat × Nat) :=
  let r := levelRange x
  ((List.range (kMax + 1)).find? (fun k => decide (r.2 - r.1 + 1 ≤ 3 * 2 ^ k))).map (fun k => (Nat.min top (r.1 + 1), k))

/-- R260: the samples of a channel, the first highest, below bit `top`. -/
def codeSamples (x : List Nat) (b k top : Nat) : Nat :=
  (List.range x.length).foldl (fun q i => q + Nat.min ((x.getD i 0 + 1 - b) / 3) (2 ^ k - 1) * 2 ^ (top - (i + 1) * k)) 0

/-- R260: the word of 8 pixels' targets; none where it is VOID. -/
def histEncode (r g b : List Nat) : Option Nat :=
  match codeChannel 3 255 r, codeChannel 3 255 g, codeChannel 3 255 b with
  | some (br, kr), some (bg, kg), some (bb, kb) =>
    if kr + kg + kb ≤ 4 then
      some (2 ^ 62 + kr * 2 ^ 60 + kg * 2 ^ 58 + kb * 2 ^ 56 + br * 2 ^ 48 + bg * 2 ^ 40 + bb * 2 ^ 32 +
        codeSamples r br kr 32 + codeSamples g bg kg (32 - 8 * kr) + codeSamples b bb kb (32 - 8 * kr - 8 * kg))
    else none
  | _, _, _ => none

/-- R193, R260: a camera tap's word of 8 samples of 12 bits; a VOID word is zero. -/
def tapWord (x : List Nat) : Nat :=
  match codeChannel 2 4095 x with
  | some (b, k) => 2 ^ 30 + k * 2 ^ 28 + b * 2 ^ 16 + codeSamples x b k 16
  | none => 0

/-! ### Drive words (R258) -/

/-- R258: a node of the table of a temperature band and channel in a bank. -/
def ovdNodeOf (s : State) (bank tb c i j : Nat) : Nat :=
  let n := (tb * 3 + c) * 1089 + i * 33 + j
  let bs := s.pnl.banks.getD bank []
  (if bs.isEmpty then Config.ovdNode bank n else leAt bs (2 * n) 2) % 4096

/-- R258: the drive word for a previous level and a target. -/
def driveWord (node : Nat → Nat → Nat) (p t : Nat) : Nat :=
  let i := p / 8
  let fi := p % 8
  let j := t / 8
  let fj := t % 8
  let v := (node i j * (8 - fi) * (8 - fj) + node (i + 1) j * fi * (8 - fj) + node i (j + 1) * (8 - fi) * fj +
    node (i + 1) (j + 1) * fi * fj + 32) / 64
  Nat.min ((v + 8) / 16) 255

/-- R257, R259: the drive words of a line whose band has latched a bank and a temperature band. -/
def driveLine (s : State) (b : Nat) (l : List (Nat × Nat)) : List Nat :=
  let bank := s.get (F.OVD_BAND_STATE_BANK b)
  let tb := s.get (F.OVD_BAND_STATE_TBAND b)
  (List.range l.length).map (fun k =>
    let e := l.getD k (0, 0)
    if e.1 = 0 then e.2 else driveWord (ovdNodeOf s bank tb (k % 3)) (e.1 - 1) e.2)

/-! ### The history (R257, R260) -/

/-- R260: where the word of 8 pixels of a row lies. -/
def histAddr (s : State) (py m : Nat) : Nat := s.get F.OVD_HIST_BASE_ADDR * 4096 + py * 11520 + 8 * m

/-- R260: the previous levels of 8 pixels; an uncorrectable word is counted. -/
def histRead (s : State) (py m : Nat) : State × Option (List Nat × List Nat × List Nat) :=
  let a := histAddr s py m
  if !dramBehind s a 8 then (s, none)
  else if dramBad s a 8 then (raiseIrq ((reportBad s a 8).bump F.OVD_HIST_ERR_COUNT) 0x0DD 2, none)
  else (s, histDecode (leNat (dramRead s a 8)))

/-- R260: the targets of 8 pixels written to the history. -/
def histWrite (s : State) (py m : Nat) (r g b : List Nat) : State :=
  let t := match histEncode r g b with | some _ => s | none => s.bump F.OVD_HIST_VOID_COUNT
  let a := histAddr s py m
  if dramBehind t a 8 then dramWrite t a (leBytes 8 ((histEncode r g b).getD 0)) else t

/-- R257: overdrive of 8 pixels: each subpixel's previous level plus one (zero: none) and target, and the history written.
`withheld`: HIST_RESET withholds the subframe's previous levels. -/
def overdriveBlock (s : State) (withheld : Bool) (py m : Nat) (px : List (Nat × Nat × Nat)) : State × List (Nat × Nat) :=
  let rd := histRead s py m
  let prev := if withheld || !s.on F.OVD_CTRL_EN then none else rd.2
  let out := (List.range px.length).flatMap (fun i =>
    let t := px.getD i (0, 0, 0)
    match prev with
    | some (r, g, b) => [(r.getD i 0 + 1, t.1), (g.getD i 0 + 1, t.2.1), (b.getD i 0 + 1, t.2.2)]
    | none => [(0, t.1), (0, t.2.1), (0, t.2.2)])
  (histWrite rd.1 py m (px.map (fun t => t.1)) (px.map (fun t => t.2.1)) (px.map (fun t => t.2.2)), out)

/-- R257: overdrive of a line of a subframe. -/
def overdriveLine (s : State) (subframe py : Nat) (px : List (Nat × Nat × Nat)) : State × List (Nat × Nat) :=
  (List.range (px.length / 8)).foldl (fun acc m =>
    let r := overdriveBlock acc.1 (decide (s.pnl.histReset = some subframe)) py m ((px.drop (8 * m)).take 8)
    (r.1, acc.2 ++ r.2)) (s, [])

/-! ### Temperature bands (R259) -/

/-- R259: the edge of temperature band k, in 1/16 °C. -/
def tbandEdge (s : State) (k : Nat) : Int := s.getInt (F.OVD_TBAND_EDGE_EDGE (k - 1))

/-- R259: the temperature band after a sample. -/
def nextTband (s : State) (tb : Nat) (t : Int) : Nat :=
  let up := ((List.range 8).filter (fun k => decide (tb < k) && decide (tbandEdge s k ≤ t))).getLast?
  match up with
  | some k => k
  | none => ((List.range 8).find? (fun k => decide (k < tb) && decide (t < tbandEdge s (k + 1) - 32))).getD tb

/-- R259, R403, R406: the judged values of the panel inputs that are neither FAILED nor ABSENT. -/
def panelSensors (s : State) : List Int :=
  (List.range 24).filterMap (fun k =>
    if s.get (F.THM_SENSOR_STATE (48 + k)) ≤ 1 then some (s.getInt (F.THM_SENSOR_TEMP (48 + k))) else none)

/-- R259: the panel temperature, their mean, and the temperature band evaluated at a new sample. -/
def evaluateTband (s : State) : State :=
  let ts := panelSensors s
  if ts.isEmpty then
    let t := s.set F.OVD_TEMP_NO_SENSOR 1
    if t.pnl.tbandTaken then t else t.set F.OVD_TEMP_TBAND (t.get F.OVD_TBAND_DEFAULT_TBAND)
  else
    let mean := Int.fdiv (ts.foldl (fun a b => a + b) 0) (ts.length : Int)
    let old := if s.pnl.tbandTaken then s.get F.OVD_TEMP_TBAND else s.get F.OVD_TBAND_DEFAULT_TBAND
    let tb := nextTband s old mean
    let t := (((s.set F.OVD_TEMP_NO_SENSOR 0).setInt F.OVD_TEMP_T_PANEL mean).set F.OVD_TEMP_TBAND tb).setPnl
      (fun p => { p with tbandTaken := true })
    if tb = old then t else raiseIrq (t.bump F.OVD_TBAND_CHANGES_COUNT) 0x0DD 0

/-! ### Banks (R259) -/

/-- R259: a band's write start latches the temperature band and the active bank; PENDING clears once every band that is not
HELD has taken it. -/
def latchTables (s : State) (b : Nat) : State :=
  let t := (s.setAll [(F.OVD_BAND_STATE_BANK b, s.get F.OVD_TABLE_SWAP_ACTIVE), (F.OVD_BAND_STATE_TBAND b, s.get F.OVD_TEMP_TBAND)]).setPnl
    (fun p => { p with swapped := insertNat p.swapped b })
  if (List.range 12).all (fun k => decide (t.get (F.PNL_PORT_STATE_STATE k) = 5) || t.pnl.swapped.contains k) then
    t.set F.OVD_TABLE_SWAP_PENDING 0
  else t

/-- R259: what follows a write of OVD.TABLE_LOAD. -/
def tableLoadAfter (s : State) (w : Written) : State :=
  match w.tookField F.OVD_TABLE_LOAD_BANK with
  | none => w.s
  | some bank =>
    if w.s.on F.OVD_TABLE_LOAD_BUSY then w.s.setAll [(F.OVD_TABLE_STATUS_CODE, 4), (F.OVD_TABLE_LOAD_BANK, s.get F.OVD_TABLE_LOAD_BANK)]
    else if w.s.on F.OVD_TABLE_SWAP_PENDING || decide (w.s.get F.OVD_TABLE_SWAP_ACTIVE = bank) then w.s.set F.OVD_TABLE_STATUS_CODE 1
    else (w.s.set F.OVD_TABLE_LOAD_BUSY 1).setPnl (fun p => { p with load := some (bank, w.s.get F.OVD_TABLE_ADDR_ADDR * 64) })

/-- R259: a write of OVD.TABLE_LOAD. -/
def tableLoadWrite (s : State) (m : Master) (data : Nat) : State := tableLoadAfter s (writeAccess s m 0xDE130 4 data)

def execOvdTableLoad (m : Master) (data : Nat) (s : State) : Host.Outcome State Fault Refusal := live s (tableLoadWrite s m data)

/-- R258, R270: the load ends: the set read and checked, its code shown, TABLE_LOADED set. -/
def tableLoadDone (s : State) : State :=
  match s.pnl.load with
  | none => s
  | some (bank, addr) =>
    let done (t : State) (code : Nat) : State :=
      raiseIrq (t.setAll [(F.OVD_TABLE_LOAD_BUSY, 0), (F.OVD_TABLE_STATUS_CODE, code)]) 0x0DD 1
    match dramFetchSecure (s.setPnl (fun p => { p with load := none })) addr 52272 with
    | (t, none) => done t 3
    | (t, some bs) => if lutWordsOk bs then done (t.setPnl (fun p => { p with banks := p.banks.set bank bs })) 0 else done t 2

def execOvdTableLoadDone (s : State) : Host.Outcome State Fault Refusal := live s (tableLoadDone s)

/-- R259, R270: what an accepted write of 1 to TABLE_SWAP.SWAP does: ACTIVE inverts, unless PENDING. -/
def tableSwapAfter (s : State) : State :=
  let t := s.set F.OVD_TABLE_SWAP_SWAP 0
  if t.on F.OVD_TABLE_SWAP_PENDING then t
  else (t.setAll [(F.OVD_TABLE_SWAP_ACTIVE, 1 - t.get F.OVD_TABLE_SWAP_ACTIVE), (F.OVD_TABLE_SWAP_PENDING, 1)]).setPnl
    (fun p => { p with swapped := [] })

/-- R270: what follows a write of OVD.TABLE_SWAP. -/
def tableSwapThen (w : Written) : State :=
  if w.tookField F.OVD_TABLE_SWAP_SWAP = some 1 then tableSwapAfter w.s else w.s

/-- R270: a write of OVD.TABLE_SWAP. -/
def tableSwapWrite (s : State) (m : Master) (data : Nat) : State := tableSwapThen (writeAccess s m 0xDE134 4 data)

def execOvdTableSwap (m : Master) (data : Nat) (s : State) : Host.Outcome State Fault Refusal :=
  live s (tableSwapWrite s m (withBit data 0))

/-- R260, R270: a write of OVD.CTRL: HIST_RESET reads 1 until the subframe that begins next has passed. -/
def histResetWrite (s : State) (m : Master) (data : Nat) : State := (writeAccess s m 0xDD100 4 data).s

def execHistReset (m : Master) (data : Nat) (s : State) : Host.Outcome State Fault Refusal :=
  live s (histResetWrite s m (withBit data 1))

/-- R260: a boundary begins, or ends, the subframe whose previous levels are withheld. -/
def boundaryHist (s : State) (n : Nat) : State :=
  match s.pnl.histReset with
  | some k => if k < n then (s.set F.OVD_CTRL_HIST_RESET 0).setPnl (fun p => { p with histReset := none }) else s
  | none => if s.on F.OVD_CTRL_HIST_RESET then s.setPnl (fun p => { p with histReset := some n }) else s

end Sys2Proof.Machine
end

