-- ==== Sys2Proof/Machine/LoftOps.lean ====
section
/-! DEFINITION. Machine/LoftOps.lean: the loft: partitions and protection (R370, R371), the commit buffer (R372, R373), the
checks and the run of a commit (R374 to R377), the reserve (R378), the shadow save (R379, R380), dual-copy records (R384 to
R386), and the commits that Ozzizo makes itself. -/

namespace Sys2Proof.Machine

/-- The loft controller changed. -/
def State.setLoft (s : State) (f : Loft → Loft) : State := { s with loft := f s.loft }

/-- Ozzizo's non-volatile values changed. -/
def State.setNv (s : State) (f : Nv → Nv) : State := { s with nv := f s.nv }

/-! ### Array -/

/-- R370: the partition of a page; none for the system area. -/
def loftPartition (page : Nat) : Option Nat :=
  if page < 0x0124 then none
  else if page < 0x9F00 then some 3
  else if page < 0xBF00 then some 2
  else if page < 0xC000 then some 1
  else if page < 0x10000 then some 0 else none

/-- R371: does BP protect a page? -/
def bpProtects (bp page : Nat) : Bool :=
  match bp with
  | 0 => false
  | 1 => decide (0xC000 ≤ page)
  | 2 => decide (0x8000 ≤ page)
  | _ => decide (0x0124 ≤ page)

/-- R370: may a master write a partition? -/
def mayWritePartition (m : Master) (part : Nat) : Bool :=
  match part, m with
  | 0, .mp i => decide (i % 4 = 0)
  | 1, .mp i => decide (i % 4 = 0)
  | 1, .hw => true
  | 2, .mp _ => true
  | 3, .mp _ => true
  | _, _ => false

/-- R375: the pages a commit of `n` bytes at an address touches. -/
def loftPages (a n : Nat) : Nat := (a + n - 1) / 256 + 1 - a / 256

/-- R378: E in µJ, from HOLDUP in mV and CAP_UF. -/
def reserveUj (mv cap : Nat) : Nat := 4 * cap * (mv * mv - 7290000) / 10000000

/-- R378: does the reserve cover a commit of P pages and the shadow save? Both sides times ten million. -/
def reserveCovers (mv cap pages : Nat) : Bool :=
  decide (1000000 * (12 * (2 * pages + 1) + 6 + 402) ≤ 4 * cap * (mv * mv - 7290000))

/-- R467: the charger runs. -/
def chargerRuns (s : State) : Bool :=
  s.loft.charger && s.on F.LFT_CTRL_CHARGE_EN && decide (s.get F.LFT_HOLDUP_CFG_V_MV < 5000) &&
  (match s.loft.temp with | some t => decide (-320 ≤ t) && decide (t ≤ 1600) | none => true)

/-- R378: the measured HOLDUP voltage and the reserve that follows from it. -/
def measureHoldup (s : State) (mv : Nat) : State :=
  let t := s.set F.LFT_HOLDUP_CFG_V_MV mv
  let u := t.set F.LFT_RESERVE_UJ (reserveUj (t.get F.LFT_HOLDUP_CFG_V_MV) (t.get F.LFT_HOLDUP_CFG_CAP_UF))
  u.set F.LFT_STATUS_CHARGING (b2n (chargerRuns u))

/-! ### The commit buffer -/

/-- R372: a byte of the buffer. -/
def bufByte (l : Loft) (o : Nat) : Byte :=
  match mapGet l.buf o with
  | some v => BitVec.ofNat 8 v
  | none => if l.zeroBuf then 0 else Config.bufByte l.seed o

/-- The first bytes of the buffer. -/
def bufBytes (l : Loft) (o n : Nat) : List Byte := (List.range n).map (fun i => bufByte l (o + i))

/-- Bytes written into the buffer from an offset on. -/
def bufWrite (l : Loft) (o : Nat) (bs : List Byte) : Loft :=
  { l with buf := (List.range bs.length).foldl (fun b i => mapPut b (o + i) (bs.getD i 0).toNat) l.buf
           badBuf := l.badBuf.filter (fun w => !(decide (o ≤ w) && decide (w < o + bs.length))) }

/-- R460: an injection armed for the commit buffer is made at the next write to it: a single bit is corrected when the word
is read, two bits or poison make it uncorrectable. -/
def injectBuffer (s : State) (o : Nat) : State :=
  if s.on F.ERR_INJECT_ARM && decide (s.get F.ERR_INJECT_TARGET = 3) && decide (s.get F.ERR_INJECT_KIND ≤ 2) then
    let t := s.setAll [(F.ERR_INJECT_ARM, 0), (F.ERR_INJECT_DONE, 1)]
    if s.get F.ERR_INJECT_KIND = 0 then t else t.setLoft (fun l => { l with badBuf := insertNat l.badBuf (o / 8 * 8) })
  else s

/-- R372: a commit or the holder lets the buffer go. -/
def freeBuffer (s : State) : State := (s.set F.LFT_BUF_CLAIM_HOLDER 0xF).setLoft (fun l => { l with releaseWait := false })

/-- R372: a release by the holder; during a commit it waits. -/
def releaseBuffer (s : State) : State :=
  if s.on F.LFT_CMD_STATUS_BUSY then s.setLoft (fun l => { l with releaseWait := true }) else freeBuffer s

/-- R372: what follows a write of LFT.BUF_CLAIM. -/
def bufClaimAfter (m : Master) (w : Written) : State :=
  let t := if w.tookField F.LFT_BUF_CLAIM_CLAIM = some 1 ∧ w.s.get F.LFT_BUF_CLAIM_HOLDER = 0xF
    then w.s.set F.LFT_BUF_CLAIM_HOLDER m.code else w.s
  if w.tookField F.LFT_BUF_CLAIM_RELEASE = some 1 ∧ t.get F.LFT_BUF_CLAIM_HOLDER = m.code then releaseBuffer t else t

/-- R372: a write of LFT.BUF_CLAIM. -/
def bufClaimWrite (s : State) (m : Master) (data : Nat) : State := bufClaimAfter m (writeAccess s m 0x140108 4 data)

/-- R373: the pointer advances by 8, wrapping from 65,528 to 0. -/
def bufAdvance (s : State) : State := s.step1 F.LFT_BUF_PTR_OFFSET

/-- R373: what a write that LFT.BUF_DATA took does. -/
def bufDataTaken (s : State) (w : Written) : State :=
  match w.tookField F.LFT_BUF_DATA_DATA with
  | none => w.s
  | some v =>
    let o := s.get F.LFT_BUF_PTR_OFFSET * 8
    bufAdvance (injectBuffer (w.s.setLoft (fun l => bufWrite l o (leBytes 8 v))) o)

/-- R373: a write of LFT.BUF_DATA. -/
def bufDataWrite (s : State) (m : Master) (size off data : Nat) : State :=
  bufDataTaken s (writeAccess s m (0x140110 + off) size data)

/-- R373: the 8 bytes at the pointer; an uncorrectable word reads zero. -/
def bufDataValue (s : State) : Nat :=
  let o := s.get F.LFT_BUF_PTR_OFFSET * 8
  if s.loft.badBuf.contains o then 0 else leNat (bufBytes s.loft o 8)

/-- R374: a refusal is counted and shown. -/
def loftRefuse (s : State) (code : Nat) : State :=
  raiseIrq ((s.set F.LFT_CMD_STATUS_CODE code).bump (F.LFT_COUNT_COUNT 1)) 0x140 1

/-- R373: what a write that LFT.BUF_FILL took does. -/
def fillTaken (w : Written) : State :=
  if w.took.isEmpty then w.s
  else
    let a := w.s.get F.LFT_BUF_FILL_ADDR * 64
    let n := w.s.get F.LFT_BUF_FILL_KIB * 1024
    if (mibPoints a n).all (byteSecure w.s) then
      (w.s.set F.LFT_BUF_FILL_BUSY 1).setLoft (fun l => { l with fill := some (a, n) })
    else loftRefuse w.s 5

/-- R373: a write of LFT.BUF_FILL. -/
def fillWrite (s : State) (m : Master) (size off data : Nat) : State := fillTaken (writeAccess s m (0x140118 + off) size data)

/-- R373: a fill ends: its bytes stand in the buffer; a word that DRAM delivers poisoned stays poisoned. -/
def fillDone (s : State) : State :=
  match s.loft.fill with
  | none => s
  | some (a, n) =>
    let bad := ((wordsOf a n).filter (fun w => s.mem.badDram.contains w || s.mem.poisonDram.contains w)).map (fun w => w - a)
    let t := (reportBad s a n).set F.LFT_BUF_FILL_BUSY 0
    let bs := if dramBehind t a n then dramRead t a n else List.replicate n 0
    injectBuffer (t.setLoft (fun l => { bufWrite l 0 bs with fill := none, badBuf := bad.foldl insertNat (bufWrite l 0 bs).badBuf })) 0

/-! ### Store -/

/-- R374: the first check that a request fails; 0 when all pass. -/
def storeCheck (s : State) (m : Master) (a n : Nat) : Nat :=
  let first := a / 256
  let last := (a + n - 1) / 256
  if s.on F.LFT_CMD_STATUS_BUSY || s.on F.LFT_BUF_FILL_BUSY then 1
  else if ¬ s.get F.LFT_BUF_CLAIM_HOLDER = m.code then 2
  else if n = 0 ∨ 65536 < n ∨ loftPartition first = none ∨ ¬ loftPartition first = loftPartition last then 3
  else if bpProtects (s.get F.LFT_CTRL_BP) last then 4
  else if !mayWritePartition m ((loftPartition first).getD 0) then 5
  else if s.on F.LFT_STATUS_POWER_DOWN then 6
  else if !s.on F.LFT_STATUS_TEMP_OK || decide (s.get F.LFT_STATUS_JOURNAL = 3) then 7
  else if !reserveCovers (s.get F.LFT_HOLDUP_CFG_V_MV) (s.get F.LFT_HOLDUP_CFG_CAP_UF) (loftPages a n) then 8
  else if s.loft.badBuf.any (fun w => decide (w < n)) then 9
  else 0

/-- R374: a store request judged, and a commit accepted. -/
def storeRequest (s : State) (m : Master) : State :=
  let a := s.get F.LFT_STORE_ADDR_ADDR
  let n := s.get F.LFT_STORE_LEN_LENGTH
  let c := storeCheck s m a n
  if c = 0 then
    (s.setAll [(F.LFT_CMD_STATUS_BUSY, 1), (F.LFT_CMD_STATUS_COMMITTED, 0), (F.LFT_CMD_STATUS_CODE, 0)]).setLoft (fun l =>
      { l with commit := some (a, bufBytes l 0 n) })
  else loftRefuse s c

/-- R374: what follows a write of LFT.STORE_LEN, with the HOLDUP voltage as measured, if it is measured anew. -/
def storeAfter (m : Master) (mv : Option Nat) (w : Written) : State :=
  if w.took.isEmpty then w.s
  else storeRequest (match mv with | some v => measureHoldup w.s v | none => w.s) m

/-- R374: a write of LFT.STORE_LEN, with the HOLDUP voltage as measured, if it is measured anew. -/
def storeWrite (s : State) (m : Master) (data : Nat) (mv : Option Nat) : State := storeAfter m mv (writeAccess s m 0x140124 4 data)

/-- R375, R376: bytes take their places in the array: pages written whole, so the words the range covers hold a valid check
and a corrected word of the pages is rewritten. -/
def loftPut (s : State) (a : Nat) (bs : List Byte) : State :=
  let last := (a + bs.length - 1) / 256
  let t := s.setLoft (fun l => { l with weak := l.weak.filter (fun w => !(decide (a / 256 ≤ w / 256) && decide (w / 256 ≤ last))) })
  let bad := s.mem.badLoft.filter (fun w => !(decide (a ≤ w) && decide (w + 8 ≤ a + bs.length)))
  { t with mem := { t.mem with loft := memWrite t.mem.loft a bs, badLoft := bad } }

/-- R376: a commit has ended: its sequence, COMMITS. -/
def commitCounted (s : State) : State := (s.step1 F.LFT_COMMIT_SEQ_SEQ).bump (F.LFT_COUNT_COUNT 0)

/-! ### The shadow block -/

/-- R377: does the loft's temperature permit writing? -/
def loftTempOk (s : State) : Bool := s.on F.LFT_STATUS_TEMP_OK && !decide (s.get F.LFT_STATUS_JOURNAL = 3)

/-- R380: powered-on seconds now. -/
def onSeconds (s : State) : Nat := s.loft.shadow.seconds + s.now / 1000000000

/-- R358, R380: the correctable errors of each rank over the last 24 h. -/
def rankCounts (s : State) : Map :=
  (List.range 64).filterMap (fun u => if rankErrors s u = 0 then none else some (u, rankErrors s u))

/-- R380: the shadow block as it stands. -/
def shadowNow (s : State) (seq : Nat) : ShadowCopy where
  seq := seq
  block := { s.loft.shadow with seconds := onSeconds s, rankCe := rankCounts s }
  entries := s.err.toLoft.take 32
  sev0 := s.err.sev0
  counters := (List.range 9).map (fun c => s.get (F.LFT_COUNT_COUNT c))
  migrations := (List.range 4).map (fun k => (k, s.get (F.DMC_REMAP_POINTER k)))

/-- R379: the later of the two copies: does A come later? -/
def copyALater (n : Nv) : Bool :=
  match n.copyA, n.copyB with
  | some a, some b => seqLater a.seq b.seq
  | some _, none => true
  | _, _ => false

/-- R379: the shadow save: refused only by temperature; into the older copy. -/
def shadowSave (s : State) : State :=
  if loftTempOk s then
    let t := s.bump (F.LFT_COUNT_COUNT 6)
    if copyALater s.nv then
      t.setNv (fun n => { n with copyB := some (shadowNow t (((n.copyA.map ShadowCopy.seq).getD 0 + 1) % 2 ^ 32)) })
    else t.setNv (fun n => { n with copyA := some (shadowNow t (((n.copyB.map ShadowCopy.seq).getD 0 + 1) % 2 ^ 32)) })
  else s

/-- R376, R372, R379: a commit ends. -/
def commitDone (s : State) : State :=
  match s.loft.commit with
  | none => s
  | some (a, bs) =>
    let t := (loftPut s a bs).setAll [(F.LFT_CMD_STATUS_BUSY, 0), (F.LFT_CMD_STATUS_COMMITTED, 0)]
    let u := raiseIrq (commitCounted (t.setLoft (fun l => { l with commit := none }))) 0x140 0
    let v := if u.loft.releaseWait then freeBuffer u else u
    if v.loft.saveDue then shadowSave (v.setLoft (fun l => { l with saveDue := false })) else v

/-- R382, R383: the journal's images are written to their pages, counted and logged. -/
def journalReplay (s : State) (a : Nat) (bs : List Byte) : State :=
  let t := ((loftPut s a bs).bump (F.LFT_COUNT_COUNT 7)).set F.LFT_STATUS_JOURNAL 1
  raiseIrq (raise (t.setLoft (fun l => { l with journal := none }))
    { page := 0x140, cls := 0x0F, code := 0x17, sev := 0, unit := a / 256 }) 0x140 4

/-- R382, R383: a journal without a valid commit record is discarded, counted and logged. -/
def journalDiscard (s : State) : State :=
  let t := (s.bump (F.LFT_COUNT_COUNT 8)).set F.LFT_STATUS_JOURNAL 2
  raiseIrq (raise (t.setLoft (fun l => { l with torn := false })) { page := 0x140, cls := 0x0F, code := 0x18, sev := 0, unit := 0 }) 0x140 4

/-! ### Ozzizo's own commits -/

/-- R371, R374: the check that a commit of Ozzizo's to some pages fails; 0 when it proceeds. Ozzizo claims the buffer, fills it
and waits for a running commit, so checks 1 to 3, 5 and 9 pass. -/
def ownCheck (s : State) (page pages : Nat) : Nat :=
  if bpProtects (s.get F.LFT_CTRL_BP) (page + pages - 1) then 4
  else if s.on F.LFT_STATUS_POWER_DOWN then 6
  else if !loftTempOk s then 7
  else if !reserveCovers (s.get F.LFT_HOLDUP_CFG_V_MV) (s.get F.LFT_HOLDUP_CFG_CAP_UF) pages then 8
  else 0

/-- R374: a commit of Ozzizo's of some pages: its code, and whether it was made. -/
def ownCommit (s : State) (page pages : Nat) : State × Nat :=
  let c := ownCheck s page pages
  if c = 0 then (raiseIrq (commitCounted (s.set F.LFT_CMD_STATUS_CODE 0)) 0x140 0, 0) else (loftRefuse s c, c)

/-! ### Dual-copy records -/

/-- R384: the byte address of a copy of a record. -/
def copyBase (r c : Nat) : Nat := (0x9F00 + 128 * r + 64 * c) * 256

/-- R384: a copy's SEQ and payload, if it is valid. -/
def copyRead (s : State) (r c : Nat) : Option (Nat × List Byte) :=
  let a := copyBase r c
  let h := memRead s.mem.loft a 32
  let n := leAt h 0x0C 4
  if leAt h 0 4 = 0x1D0C5EC5 ∧ leAt h 4 2 = r ∧ leAt h 6 1 = c ∧ leAt h 7 1 = 0 ∧ leAt h 0x10 12 = 0 ∧ 1 ≤ n ∧ n ≤ 16352 then
    let p := memRead s.mem.loft (a + 32) n
    if leAt h 0x1C 4 = crc32c (h.take 0x1C ++ p) ∧
       s.mem.badLoft.any (fun w => decide (a ≤ w + 7) && decide (w < a + 32 + n)) = false then some (leAt h 8 4, p)
    else none
  else none

/-- R385: which copy is used, with its SEQ and payload; whether the copies are twins that differ. -/
def recordChoice (s : State) (r : Nat) : Option (Nat × Nat × List Byte) × Bool :=
  match copyRead s r 0, copyRead s r 1 with
  | some a, some b =>
    if a.1 = b.1 then (some (0, a.1, a.2), !decide (a.2 = b.2))
    else if seqLater b.1 a.1 then (some (1, b.1, b.2), false) else (some (0, a.1, a.2), false)
  | some a, none => (some (0, a.1, a.2), false)
  | none, some b => (some (1, b.1, b.2), false)
  | none, none => (none, false)

/-- R384: a copy's bytes. -/
def copyBytes (r c seq : Nat) (p : List Byte) : List Byte :=
  let h := leBytes 4 0x1D0C5EC5 ++ leBytes 2 r ++ leBytes 1 c ++ leBytes 1 0 ++ leBytes 4 seq ++ leBytes 4 p.length ++ leBytes 12 0
  h ++ leBytes 4 (crc32c (h ++ p)) ++ p

/-- R386: a record is updated by one commit to the copy not used: the refusal code, 0 when made. -/
def recordCommit (s : State) (r : Nat) (p : List Byte) : State × Nat :=
  let c := match (recordChoice s r).1 with | some x => 1 - x.1 | none => 0
  let q := match (recordChoice s r).1 with | some x => (x.2.1 + 1) % 2 ^ 32 | none => 0
  let a := copyBase r c
  let k := ownCommit s (a / 256) (loftPages a (32 + p.length))
  if k.2 = 0 then (loftPut k.1 a (copyBytes r c q p), 0) else k

/-- R385: a record is read at start-up: a loss or a difference between twins is counted and logged, and twin copy B is
rewritten from copy A. -/
def recordRead (s : State) (r : Nat) : State × Option (List Byte) :=
  match recordChoice s r with
  | (none, _) =>
    (raise (s.bump (F.LFT_COUNT_COUNT 5)) { page := 0x140, cls := 0x0F, code := 0x15, sev := 2, unit := copyBase r 0 / 256 }, none)
  | (some x, true) =>
    let t := raiseIrq (raise (s.bump (F.LFT_COUNT_COUNT 4))
      { page := 0x140, cls := 0x0F, code := 0x14, sev := 0, unit := copyBase r 1 / 256 }) 0x140 3
    let k := ownCommit t (copyBase r 1 / 256) (loftPages (copyBase r 1) (32 + x.2.2.length))
    (if k.2 = 0 then loftPut k.1 (copyBase r 1) (copyBytes r 1 x.2.1 x.2.2) else k.1, some x.2.2)
  | (some x, false) => (s, some x.2.2)

/-! ### Record 4 (R458) -/

/-- R458: record 4's payload. -/
def muckBytes (m : MuckRec) : List Byte :=
  let p (l : List Nat) (n : Nat) := (List.range n).map (fun i => BitVec.ofNat 8 (l.getD i 0))
  leBytes 4 m.seq ++ leBytes 1 m.result ++ leBytes 1 m.why ++ leBytes 2 m.mhz ++ leBytes 8 m.seconds ++
  (List.range 24).flatMap (fun i => leBytes 4 (m.parts.getD i 0)) ++ p m.engineFails 192 ++ p m.stallFails 12 ++ p m.barnFails 4

/-- R458: record 4 from its payload. -/
def muckOf (b : List Byte) : MuckRec :=
  let p (o n : Nat) := (List.range n).map (fun i => leAt b (o + i) 1)
  ⟨leAt b 0 4, leAt b 4 1, leAt b 5 1, leAt b 6 2, leAt b 8 8, (List.range 24).map (fun i => leAt b (0x10 + 4 * i) 4),
    p 0x70 192, p 0x130 12, p 0x13C 4⟩

/-- A record in which no partition has been run. -/
def MuckRec.empty : MuckRec :=
  ⟨0, 0, 0, 0, 0, List.replicate 24 0xC0000000, List.replicate 192 0, List.replicate 12 0, List.replicate 4 0⟩

/-- Record 4 as it stands in the loft. -/
def muckNow (s : State) : MuckRec :=
  match (recordChoice s 4).1 with
  | some x => muckOf x.2.2
  | none => MuckRec.empty

/-- R450: counts raised by the losses in service not yet committed, saturating at 255. -/
def addLosses (losses : Map) (base : Nat) (l : List Nat) : List Nat :=
  (List.range l.length).map (fun i => Nat.min 255 (l.getD i 0 + mapVal losses (base + i)))

/-- R450: a record with the losses in service added. -/
def MuckRec.withLosses (m : MuckRec) (losses : Map) : MuckRec :=
  { m with engineFails := addLosses losses 0 m.engineFails, stallFails := addLosses losses 192 m.stallFails,
           barnFails := addLosses losses 204 m.barnFails }

/-- R450, R458: record 4 is committed with the losses in service; refused, the losses wait. -/
def muckCommit (s : State) (m : MuckRec) : State × Nat :=
  let k := recordCommit s 4 (muckBytes (m.withLosses s.power.losses))
  if k.2 = 0 then ({ k.1 with power := { k.1.power with losses := [] } }, 0) else k

/-! ### The log ring -/

/-- R448: the serviced entries of severity 1 or above are committed to the log ring; refused, they wait in the shadow block. -/
def commitLog (s : State) : State :=
  if s.err.toLoft.isEmpty then s
  else
    let k := ownCommit s 0x0124 ((s.err.toLoft.length * 32 + 255) / 256)
    if k.2 = 0 then (k.1.setNv (fun n => { n with log := n.log ++ s.err.toLoft })).setErr (fun r => { r with toLoft := [] })
    else k.1

/-- R448: the hourly commit of the per-class counts of severity 0. -/
def commitCounts (s : State) : State :=
  if s.err.sev0.isEmpty then s
  else
    let k := ownCommit s 0x0124 1
    if k.2 = 0 then
      (k.1.setNv (fun n => { n with counts := s.err.sev0.foldl (fun m p => mapPut m p.1 (mapVal m p.1 + p.2)) n.counts })).setErr
        (fun r => { r with sev0 := [] })
    else k.1

end Sys2Proof.Machine
end

