-- ==== Sys2Proof/Machine/PowerOps.lean ====
section
/-! DEFINITION. Machine/PowerOps.lean: resets and what they clear (R471 to R473), what follows a dark panel (R454, R456, R466,
R409, R453), the recording of a muck-out (R456 to R458), and first light (R474). -/

namespace Sys2Proof.Machine

/-- Power and reset changed. -/
def State.setPower (s : State) (f : Power → Power) : State := { s with power := f s.power }

/-! ### Resets -/

/-- R478: the code of a reset in GLB.RESET_CAUSE.CAUSE. -/
def Cause.code : Cause → Nat
  | .powerOn => 0
  | .perst => 1
  | .device => 2
  | .warnRecovered => 3

/-- R376, R381: a commit that runs when a reset comes stands on the reserve: it is completed (log entry 25). -/
def finishCommit (s : State) : State :=
  match s.loft.commit with
  | some (a, bs) => loftPut s a bs
  | none => s

/-- R471, R472: a power-on, PERST# or device reset: every page at its reset values, SRAM and DRAM cleared; the loft, the queue of
commands and host memory stay, and GLB.RESET_CAUSE shows what came before. -/
def resetState (s : State) (cause : Cause) : State :=
  let k := finishCommit s
  let t : State := { State.reset with
    pending := k.pending
    out := k.out
    free := k.free
    nv := k.nv
    mem := { Mem.reset with host := k.mem.host, loft := k.mem.loft, badLoft := k.mem.badLoft }
    loft := { Loft.reset with seed := k.power.resets + 1, weak := k.loft.weak, journal := k.loft.journal, torn := k.loft.torn }
    drum := { Drum.reset with quad := k.drum.quad }
    power := { Power.reset with resets := k.power.resets + 1, perst := k.power.perst, test := k.power.test } }
  if cause = .powerOn then t
  else t.setAll [(F.GLB_RESET_CAUSE_CAUSE, cause.code), (F.GLB_RESET_CAUSE_PRIOR_FAILED, s.get F.ERR_STATE_FAILED),
    (F.GLB_RESET_CAUSE_PRIOR_CRITICAL, b2n s.power.critical), (F.GLB_RESET_CAUSE_PRIOR_WARN, b2n s.power.warned)]

/-- R472: the fields a link reset keeps on the pages it clears. -/
def linkResetKeeps (addr : Nat) : Bool :=
  let off := addr % 0x1000
  decide (off = 0x020) || decide (off = 0x024) ||
  (decide (addr / 0x1000 = 0) && (decide (0x104 ≤ off ∧ off < 0x110) || decide (off = 0x114) ||
    decide (addr = F.GLB_STRAPS_PKG.addr)))

/-- R472: does a link reset clear an address? -/
def linkResetClears (addr : Nat) : Bool :=
  let page := addr / 0x1000
  (decide (page = 0) || decide (page = 1) || (decide (7 ≤ page) && decide (page ≤ 0x00F)) || decide (page = 0x010)) &&
    !linkResetKeeps addr

/-- R472, R473: a link reset. -/
def linkReset (s : State) : State :=
  let keep (m : Map) : Map := m.filter (fun p => !linkResetClears (p.1 / 512))
  ({ s with regs := keep s.regs, mech := { s.mech with second := keep s.mech.second },
            pcie := { linkUp := false, functionMask := false } }).bump F.GLB_LINK_RESETS_COUNT

/-! ### The muck-out's record -/

/-- R456: the entries of the repair map, record 11. -/
def repairsNow (s : State) : List Nat :=
  match (recordChoice s 11).1 with
  | some x => (List.range (leAt x.2.2 0 4)).map (fun i => leAt x.2.2 (4 + 4 * i) 4)
  | none => []

/-- R456: the powered-on seconds that the shadow save of step 1 has kept; step 3 clears the shadow block. -/
def savedSeconds (s : State) : Nat :=
  match if copyALater s.nv then s.nv.copyA else s.nv.copyB with
  | some c => c.block.seconds
  | none => onSeconds s

/-- R456 step 6, R457, R458: record 4 and record 11 are committed; refused, the previous record stands. -/
def muckRecord (s : State) (result why mhz : Nat) (parts repairs : List Nat) : State :=
  let old := muckNow s
  let k := muckCommit s
    ⟨(old.seq + 1) % 2 ^ 32, result, why, mhz, savedSeconds s, parts, old.engineFails, old.stallFails, old.barnFails⟩
  if k.2 = 0 then
    (recordCommit k.1 11 (leBytes 4 repairs.length ++ repairs.flatMap (leBytes 4))).1
  else k.1

/-- R456 step 1: pending log entries and the in-service failure record are committed, and the shadow saved. -/
def muckPrepare (s : State) : State :=
  let t := commitLog ((s.set F.BST_STATE_STATE 1))
  shadowSave (if t.power.losses.isEmpty then t else (muckCommit t (muckNow t)).1)

/-- R471: a reset that meets the muck-out: RESULT ABORTED with WHY RESET, its partitions NOT_RUN, then the reset. -/
def muckAborted (s : State) (cause : Cause) : State :=
  resetState (muckRecord s 3 3 0 (List.replicate 24 0xC0000000) (repairsNow s)) cause

/-! ### Dark -/

/-- R409 steps 2 to 5: every stall gated, lanes idle, camera ports disabled, THERM_TRIP_N asserted, a shadow save, the hold. -/
def criticalHold (s : State) : State :=
  let a := (List.range 12).foldl (fun t k => if t.get (F.STL_STATE_STATE k) = 0 then t.set (F.STL_STATE_STATE k) 2 else t) s
  let b := (List.range 16).foldl (fun t g => t.set (F.SER_GROUP_STATE_STATE g) 0) a
  let c := (List.range 4).foldl (fun t k => t.set (F.XSH_PORT_STATE k) 0) b
  let d := (List.range 8).foldl (fun t p => t.set (F.CAM_CFG_ENABLE p) 0) c
  shadowSave ((d.emit (.pin 1 0 0)).setPower (fun p => { p with held := true, trip := true }))

/-- R454, R456, R466, R471, R409, R453: what follows when the panel is dark. PNL_PWR_EN falls. -/
def afterDark (s : State) : State :=
  let t := s.set F.CKP_PNL_PWR_EN 0
  match t.power.off with
  | .command =>
    if t.on F.BST_CTRL_MUCK_EN then
      let u := muckPrepare t
      match u.power.waiting with
      | some c => muckAborted u c
      | none => u
    else
      let u := shadowSave (commitLog t)
      match u.power.waiting with
      | some c => resetState u c
      | none => u
  | .critical =>
    let u := criticalHold t
    match u.power.waiting with
    | some c => resetState u c
    | none => u
  | .failure =>
    let u := (shadowSave t).setPower (fun p => { p with held := true })
    match u.power.waiting with
    | some c => resetState u c
    | none => u
  | _ =>
    match t.power.waiting with
    | some c => resetState t c
    | none => t

/-- R474 step 9, R476, R478: first light; from then on Ozzizo retries the commits of a start-up: record 4's RESULT is left at
NOT_RUN (R458). -/
def firstLight (s : State) : State :=
  if s.get F.GLB_START_STAGE = 4 then
    let t := s.setAll [(F.GLB_START_STAGE, 5), (F.GLB_START_MS_MS, (s.now - s.power.t0) / 1000000)]
    if (muckNow t).result = 0 then t else (muckCommit t { muckNow t with result := 0, why := 0 }).1
  else s

end Sys2Proof.Machine
end

