-- ==== Sys2Proof/Machine/PanelOps.lean ====
section
/-! DEFINITION. Machine/PanelOps.lean: the panel ports: packet headers and control packets (R245 to R250), discovery and the
factory model (R253 to R255), zone references (R262), bring-up (R265) and power-off (R266, R267). -/

namespace Sys2Proof.Machine

/-- R246: the header of a forward packet. -/
def folovHeader (typ band seq length line facet mode subframe arg : Nat) : List Byte :=
  leBytes 1 typ ++ leBytes 1 band ++ leBytes 1 seq ++ leBytes 1 0 ++ leBytes 4 length ++ leBytes 2 line ++ leBytes 1 facet ++
  leBytes 1 mode ++ leBytes 4 subframe ++ leBytes 8 arg

/-! ### Ports -/

/-- R268: a port's state; a change sets STATE_CHANGED. -/
def setPort (s : State) (b st : Nat) : State :=
  if s.get (F.PNL_PORT_STATE_STATE b) = st then s else raiseIrq (s.set (F.PNL_PORT_STATE_STATE b) st) (0x0D0 + b) 4

/-- R268: does a port take windows and commands: READY or RUNNING? -/
def portReady (s : State) (b : Nat) : Bool :=
  decide (s.get (F.PNL_PORT_STATE_STATE b) = 3) || decide (s.get (F.PNL_PORT_STATE_STATE b) = 4)

/-- R268: a driver command ends. -/
def drvDone (s : State) (b code : Nat) : State :=
  raiseIrq (s.setAll [(F.PNL_DRV_CMD_BUSY b, 0), (F.PNL_DRV_STATUS_CODE b, code)]) (0x0D0 + b) 3

/-- The lots of a plan given up. -/
def dropLots (s : State) (p : Plan) : State :=
  let mine := s.rsy.lots.filter (fun l => decide (l.band = p.band) && decide (l.subframe = p.subframe))
  let t := (mine.filter Lot.live).foldl abandonLot s
  t.setRsy (fun r => { r with lots := r.lots.filter (fun l => !(decide (l.band = p.band) && decide (l.subframe = p.subframe))) })

/-- R254: a band that goes dark: its plans end, its lots are given up, its zones stop. -/
def darkenBand (s : State) (b : Nat) : State :=
  let t := (s.drum.plans.filter (fun p => decide (p.band = b))).foldl dropLots s
  (t.setDrum (fun d => { d with plans := d.plans.filter (fun p => !decide (p.band = b)) })).setAll
    [(F.PNL_ZONE_CODE_STROBING (2 * b), 0), (F.PNL_ZONE_CODE_STROBING (2 * b + 1), 0)]

/-- R250, R254: a port goes to HELD with a reason, and its band is dark. -/
def holdPort (s : State) (b reason : Nat) : State :=
  if s.get (F.PNL_PORT_STATE_STATE b) = 5 then s
  else
    let t := raise ((setPort s b 5).set (F.PNL_PORT_STATE_REASON b) reason)
      { page := 0x0D0 + b, cls := 0x08, code := reason, sev := 2, unit := b }
    let u := if t.on (F.PNL_DRV_CMD_BUSY b) then drvDone t b 1 else t
    darkenBand (u.setPnl (fun p =>
      { p with ctrl := p.ctrl.filter (fun c => !decide (c.port = b)), toRead := p.toRead.filter (fun e => !decide (e.1 = b))
               windows := mapDel p.windows b, discharging := p.discharging.erase b })) b

/-! ### Control packets (R250) -/

/-- R246: the SEQ after one. -/
def nextSeqNo (n : Nat) : Nat := if n = 255 then 1 else n + 1

/-- A control packet leaves. -/
def emitCtrl (s : State) (c : Ctrl) : State :=
  s.emit (.folov c.port (folovHeader c.typ c.port c.seq 0 0 0 0 (s.get F.LAY_SUBFRAME_NUMBER % 2 ^ 32) c.arg))

/-- R250: a control packet is sent with the port's next SEQ. -/
def sendCtrl (s : State) (b typ arg : Nat) : State :=
  let q := nextSeqNo (mapVal s.pnl.seqs b)
  let c : Ctrl := ⟨b, q, typ, arg, 0⟩
  emitCtrl (s.setPnl (fun p => { p with seqs := mapPut p.seqs b q, ctrl := p.ctrl ++ [c] })) c

/-- The control packet outstanding on a port with an SEQ. -/
def ctrlOf (s : State) (b seq : Nat) : Option Ctrl := s.pnl.ctrl.find? (fun c => decide (c.port = b) && decide (c.seq = seq))

/-- A control packet is answered. -/
def endCtrl (s : State) (c : Ctrl) : State := s.setPnl (fun p => { p with ctrl := p.ctrl.erase c })

/-- R250: a control packet sent again, or, after three retransmissions, its port held. -/
def retryCtrl (s : State) (c : Ctrl) : State :=
  if c.tries < 3 then
    let d := { c with tries := c.tries + 1 }
    emitCtrl ((s.setPnl (fun p => { p with ctrl := p.ctrl.map (fun x => if x = c then d else x) })).bump (F.PNL_CTRL_RETRIES_COUNT c.port)) d
  else holdPort s c.port 5

/-- R250, R255: the next chunks are asked for, four MODEL_READ packets at most outstanding on a port. -/
def pumpModel : Nat → State → Nat → State
  | 0, s, _ => s
  | n + 1, s, b =>
    if 4 ≤ (s.pnl.ctrl.filter (fun c => decide (c.port = b) && decide (c.typ = 0x12))).length then s
    else match s.pnl.toRead.find? (fun e => decide (e.1 = b)) with
      | none => s
      | some e =>
        pumpModel n (sendCtrl (s.setPnl (fun p => { p with toRead := p.toRead.erase e })) b 0x12 (e.2 + 4096 * 2 ^ 32)) b

/-! ### Discovery (R253, R254) -/

/-- R254: the fields of the descriptor that the ports must agree on: offset and bytes. -/
def sharedFields : List (Nat × Nat) :=
  [(0x00, 4), (0x04, 2), (0x07, 1), (0x08, 8), (0x10, 4), (0x14, 2), (0x16, 2), (0x18, 4), (0x1C, 2), (0x1E, 1), (0x1F, 1),
   (0x20, 4), (0x24, 4), (0x28, 32), (0x48, 2), (0x4A, 2), (0x4D, 1), (0x4E, 2), (0x54, 4), (0x58, 8), (0x60, 4), (0x64, 4)]

/-- R253: is a descriptor sound in MAGIC, VERSION and CRC? -/
def descSound (d : List Byte) : Bool :=
  decide (d.length = 256) && decide (leAt d 0 4 = 0x5AF01D01) && decide (leAt d 4 2 = 0x0100) &&
  decide (leAt d 0xFC 4 = crc32c (d.take 0xFC))

/-- R254: the value most ports report of a field; a tie goes to the lowest port. Ports in rising order. -/
def majorityOf (ds : List (List Byte)) (f : Nat × Nat) : List Byte :=
  let vs := ds.map (fun d => (d.drop f.1).take f.2)
  (vs.foldl (fun (b : Option (List Byte × Nat)) v =>
    let n := vs.count v
    match b with
    | none => some (v, n)
    | some x => if x.2 < n then some (v, n) else some x) none).elim [] Prod.fst

/-- R254: the descriptor of majority values. -/
def majorityDesc (ds : List (List Byte)) : List Byte :=
  sharedFields.foldl (fun d f => d.take f.1 ++ majorityOf ds f ++ d.drop (f.1 + f.2)) (List.replicate 256 0)

/-- R254: does a descriptor agree with the majority? -/
def descAgrees (m d : List Byte) : Bool := sharedFields.all (fun f => decide ((d.drop f.1).take f.2 = (m.drop f.1).take f.2))

/-- R254: a port's descriptor judged: the reason to hold it, if any. -/
def descFault (m : List Byte) (b : Nat) (d : List Byte) : Option Nat :=
  if !descSound d then some 1 else if !decide (leAt d 6 1 = b) then some 2 else if !descAgrees m d then some 3 else none

/-- R254: may a panel with these majority values be driven? -/
def panelOk (m : List Byte) : Bool :=
  decide (leAt m 0x14 2 = 11520) && decide (leAt m 0x16 2 = 6480) && decide (2 ≤ leAt m 7 1) && decide (leAt m 7 1 ≤ 8)

/-- R254: a port's DRV_BAND and SENSORS as its descriptor says. -/
def showDesc (s : State) (b : Nat) (d : List Byte) : State :=
  s.setAll [(F.PNL_PORT_STATE_DRV_BAND b, leAt d 6 1), (F.PNL_PORT_STATE_SENSORS b, leAt d 0x4C 1)]

/-- R255, R265 step 3: the chunks of a port's records, and of the overdrive tables on the lowest port that passed. -/
def chunkList (m : List Byte) (b lowest : Nat) : List (Nat × Nat) :=
  (List.range 486).map (fun i => (b, leAt m 0x60 4 + 4096 * i)) ++
  (if b = lowest then (List.range 13).map (fun i => (b, leAt m 0x54 4 + 4096 * i)) else [])

/-- R255: the records and tables of some ports are read. -/
def readModels (s : State) (ports : List Nat) (lowest : Nat) : State :=
  ports.foldl (fun t b => pumpModel 4 t b)
    (s.setPnl (fun p => { p with toRead := p.toRead ++ ports.flatMap (fun b => chunkList p.model b lowest) }))

/-- R254: the descriptors received are judged together. -/
def judgeDescs (s : State) : State :=
  let ds := (List.range 12).filterMap (fun b => (assoc s.pnl.descs b).map (fun d => (b, d)))
  let m := majorityDesc ((ds.filter (fun e => descSound e.2)).map Prod.snd)
  let t := ds.foldl (fun u e =>
    let v := if descSound e.2 then showDesc u e.1 e.2 else u
    match descFault m e.1 e.2 with
    | some why => holdPort v e.1 why
    | none => v.setPnl (fun p => { p with passed := p.passed ++ [e.1] })) (s.setPnl (fun p => { p with model := m, passed := [] }))
  t.setAll [(F.PNL_PANEL_SERIAL_SERIAL, leAt m 8 8), (F.PNL_MODEL_VERSION_VERSION, leAt m 0x10 4),
    (F.PNL_NEUTRAL_MIN_REFRESH, leAt m 0x1F 1), (F.PNL_NEUTRAL_LEVEL, leAt m 0x1E 1)]

/-- R255: a chunk of 4,096 bytes arrives: into the lenslet tables or the overdrive tables. -/
def takeChunk (s : State) (b off : Nat) (bs : List Byte) : State :=
  let rec0 := leAt s.pnl.model 0x60 4
  if rec0 ≤ off ∧ off < rec0 + 1990656 then
    let first := 54 * b * 1152 + (off - rec0) / 32
    let recs := (List.range 128).foldl (fun l i => assocPut l (first + i) (lensOfBytes ((bs.drop (32 * i)).take 32))) s.rsy.lens.factory
    let d := { s.dmc with badLens := s.dmc.badLens.filter (fun n => !(decide (first ≤ n) && decide (n < first + 128))) }
    { s with dmc := d }.setRsy (fun r => { r with lens := { r.lens with factory := recs } })
  else s.setPnl (fun p => { p with odChunks := assocPut p.odChunks ((off - leAt s.pnl.model 0x54 4) / 4096) bs })

/-- R265 step 4: the fields marked "L" set from the descriptor, table bank 0 loaded, and the first schedule
written (R160, log entry 88). -/
def applyModel (s : State) : State :=
  let m := s.pnl.model
  let sd (off n : Nat) : Int := toSigned (leAt m off n) (8 * n)
  let a := s.setAll [(F.RSY_TAN_PER_PITCH_VALUE, leAt m 0x20 4), (F.RSY_FACET_SLOPE_VALUE, leAt m 0x24 4),
    (F.VWB_FAN_FAN_H, leAt m 0x48 2), (F.VWB_FAN_FAN_V, leAt m 0x4A 2), (F.DRU_EDGE_ANGLE_E, leAt m 0x18 4),
    (F.DRU_STATE_FACETS, leAt m 7 1), (F.OVD_TBAND_DEFAULT_TBAND, leAt m 0x5F 1)]
  let b := (List.range 8).foldl (fun t f => t.setInt (F.RSY_FACET_OFFSET_VALUE f) (sd (0x28 + 4 * f) 4)) a
  let c := (List.range 7).foldl (fun t k => t.setInt (F.OVD_TBAND_EDGE_EDGE k) (16 * sd (0x58 + k) 1)) b
  let d := (List.range 12).foldl (fun t p => match assoc t.pnl.descs p with
    | some x => t.setAll [(F.PNL_ZONE_CAL_CODE (2 * p), leAt x 0x50 2), (F.PNL_ZONE_CAL_CODE (2 * p + 1), leAt x 0x52 2)]
    | none => t) c
  let od := (List.range 13).flatMap (fun i => (assoc d.pnl.odChunks i).getD [])
  fillSchedule (evaluateTband (d.setPnl (fun p => { p with banks := p.banks.set 0 (od.take 52272) }))) (d.get F.DRU_REQ_EFF_RPM)

/-! ### Zone references (R262) -/

/-- R262, R402: the reference C of a zone for a subframe: a correction set changes it from its own subframe on. -/
def zoneCal (s : State) (subframe z : Nat) : Nat :=
  match s.cal.zonesBefore with
  | some (n, l) => if subframe < n then l.getD z 0 else s.get (F.PNL_ZONE_CAL_CODE z)
  | none => s.get (F.PNL_ZONE_CAL_CODE z)

/-- R262, R398: the reference code of a zone for a window's subframe; while a groom pass measures its band, B is 1,024 and the
zone factor 256. -/
def zoneCode (s : State) (p : Plan) (z : Nat) : Nat :=
  let measured := decide (((versionOf s p.subframe p.facet).measured.map (fun m => m.1)) = some p.band)
  let b := if measured then 1024 else s.get F.PNL_BRIGHTNESS_EFF_LEVEL
  let f := if measured then 256 else s.get (F.VWB_ZONE_FACTOR z)
  Nat.min 4095 ((zoneCal s p.subframe z * b * f + 2 ^ 17) / 2 ^ 18)

/-- R476: after first light the drum spins up if RUN is requested. -/
def requestedDrum (s : State) : State :=
  if s.get F.DRU_REQ_MODE = 1 then driveMode (moveMirror s 0x080 0x900 F.DRU_REQ_EFF_MODE 1 0) 1 else s

/-- R213: a zone observed for 20 µs when its strobe begins, or one that is not dimmed, has factor 256. -/
def brightZone (s : State) (z : Nat) : State :=
  if s.on F.VWB_REQ_DIM_EFF_EN = false ∨ (s.on (F.VWB_ZONE_OBSERVED z) = true ∧ mapVal s.roster.seenAt z + 20000 ≤ s.now) then
    s.set (F.VWB_ZONE_FACTOR z) 256
  else s

/-- R261, R262, R474: a zone's strobe begins: its code is in force and its output high; the first is first light. -/
def zoneOn (s0 : State) (p : Plan) (z : Nat) : State :=
  let s := brightZone s0 z
  let t := firstLight (s.setAll [(F.PNL_ZONE_CODE_CODE z, zoneCode s p z), (F.PNL_ZONE_CODE_STROBING z, 1)])
  if s.get F.GLB_START_STAGE = 4 ∧ t.get F.GLB_START_STAGE = 5 then requestedDrum t else t

/-- R261: a zone's strobe output falls. -/
def zoneOff (s : State) (z : Nat) : State := s.set (F.PNL_ZONE_CODE_STROBING z) 0

/-- R262, R400: the brightness limit: 512 while any valid panel sensor exceeds the rated temperature. -/
def followBrightness (s : State) : State :=
  let req := s.get F.PNL_BRIGHTNESS_LEVEL
  let hot := (panelSensors s).any (fun t => decide (16 * (leAt s.pnl.model 0x4D 1 : Int) < t))
  if hot ∧ 512 < req then moveMirror (if s.get F.PNL_BRIGHTNESS_EFF_LEVEL = 512 then s else groomAbandon s 4) 0x0DC 0x900 F.PNL_BRIGHTNESS_EFF_LEVEL 512 1
  else moveMirror s 0x0DC 0x900 F.PNL_BRIGHTNESS_EFF_LEVEL req 0

/-! ### Neutral windows (R265, R266) -/

/-- R263: the first 2 ns tick at or after a fraction of a second. -/
def tick2 (num den : Nat) : Nat := 2 * ((num + 2 * den - 1) / (2 * den))

/-- R263, R265: a window of 540 slots that starts at a time, in parked or neutral timing. -/
def windowPlan (s : State) (b mode : Nat) (start : Int) : Plan :=
  let stop := start + tick2 1000000000 720
  { band := b, facet := 0, subframe := s.drum.subframe, tStart := start, tDeadline := stop,
    tOn := stop + tick2 1000000000 1200, tOff := stop + tick2 1000000000 1200 + tick2 1000000000 1800, period := 2572, phi := 0,
    zoneEn := if mode = 1 then 3 else 0, xRelease := 0, xStart := 0, xDeadline := 0, xOn := 0, xOff := 0,
    released := if mode = 1 then 0 else 68, moved := 0, buffer := [], due := 0, ready := [], tail := (0, 0, 0), mode := mode,
    sent := 0, started := false, closed := false, strobe := if mode = 1 then 0 else 2 }

/-- R265 step 5, R266 step 3: three neutral windows begin on some ports. -/
def startNeutral (s : State) (ports : List Nat) : State :=
  (s.setPnl (fun p => { p with windows := ports.map (fun b => (b, 3)) })).setDrum (fun d =>
    { d with plans := d.plans.filter (fun p => !decide (p.mode = 2)) ++ ports.map (fun b => windowPlan s b 2 (s.now : Nat)) })

/-! ### Power-off (R266, R267) -/

/-- R266 steps 5 and 6: the panel is dark: strobes low, references zero, drum stopped, SEQ_DONE; what follows depends on what
started the sequence. -/
def goDark (s : State) : State :=
  let a := (List.range 24).foldl (fun t z => t.setAll [(F.PNL_ZONE_CODE_STROBING z, 0), (F.PNL_ZONE_CODE_CODE z, 0)]) s
  let b := a.setAll [(F.DRU_SPEED_CODE_CODE, 0), (F.DRU_BRAKE_BRAKE, 1), (F.PNL_SEQ_STATE_STATE, 5), (F.DRU_STATE_LF_OUT, 0),
    (F.DRU_STATE_PARKED_OUT, 0), (F.PNL_LR_STATE_DIVISOR, 0), (F.PNL_LR_STATE_HZ, 0)]
  let c := ((List.range 12).filter (portReady b)).foldl (fun t p => setPort t p 6) b
  afterDark (raiseIrq (c.setPnl (fun p => { p with step := 30, discharging := [], windows := [] })) 0x0DC 0)

/-- R266 step 4: DISCHARGE is sent to every driver. -/
def startDischarge (s : State) : State :=
  let ports := (List.range 12).filter (portReady s)
  let t := (s.set F.PNL_SEQ_STATE_STATE 4).setPnl (fun p => { p with step := 24, discharging := ports })
  if ports.isEmpty then goDark t else ports.foldl (fun u b => sendCtrl u b 0x13 0) t

/-- R266 step 3: the neutral windows, or, with no port to take them, step 4. -/
def startOffWindows (s : State) : State :=
  let ports := (List.range 12).filter (portReady s)
  let t := s.setPnl (fun p => { p with step := 23 })
  if ports.isEmpty then startDischarge t else startNeutral t ports

/-- R293: a power-off sequence ends the loops of panel groups at once. -/
def endPanelLoops (s : State) : State :=
  (List.range 12).foldl (fun t g =>
    if t.get (F.SER_GROUP_STATE_STATE g) = 7 then
      let u := if 3 ≤ t.get (F.SER_LOOP_MODE g) then t.emit (.ordered g 4 [0, t.get (F.SER_LOOP_LANE g)]) else t
      u.setAll [(F.SER_LOOP_MODE g, 0), (F.SER_GROUP_STATE_STATE g, 0)]
    else t) s

/-- R317: a member announces its leave on each port. -/
def announceLeave (s : State) : State :=
  if s.isMember then ((List.range 4).filter (portUp s)).foldl (fun t k => sendLinkEvent t k false) s else s

/-- R266 steps 1 and 2, R267: the sequence begins: nothing further is released, strobes not begun are suppressed, windows in
progress finish, the others do not begin, and a groom pass is abandoned. -/
def beginPowerOff (s0 : State) (why : OffCause) : State :=
  if 20 ≤ s0.pnl.step then s0
  else
    let s := announceLeave (s0.setPower (fun p => { p with off := why }))
    let a := haltPlans (groomAbandon (endPanelLoops s) 5)
    let idle := a.drum.plans.filter (fun p => !p.started)
    let b := (idle.foldl dropLots a).setDrum (fun d => { d with plans := d.plans.filter (fun p => p.started && !p.closed || decide (p.strobe = 1)) })
    let c := (b.set F.PNL_SEQ_STATE_STATE 3).setPnl (fun p =>
      { p with step := 21, toRead := [], ctrl := p.ctrl.filter (fun x => !decide (x.typ = 0x12)) })
    if c.drum.plans.any (fun p => p.started && !p.closed) then c else startOffWindows c

/-- R453: a device failure, with its FAIL_CODE and the error that is logged: shown, an entry placed in the shadow block, and the
power-off sequence, a shadow save and the hold. -/
def deviceFailure (s : State) (code : Nat) (x : Err) : State :=
  if s.on F.ERR_STATE_FAILED then raise s { x with sev := 4 }
  else
    let a := raiseIrq (s.setAll [(F.ERR_STATE_FAILED, 1), (F.ERR_STATE_FAIL_CODE, code), (F.GLB_START_STAGE, 8)]) 0x180 3
    let e := { x with sev := 4 }
    let b := (raise a e).setErr (fun r => { r with toLoft := r.toLoft ++ [e.entry a.err.toLoft.length a.now false] })
    if b.pnl.step = 30 then (shadowSave b).setPower (fun p => { p with held := true })
    else beginPowerOff b .failure

/-- R266 step 2: once the windows in progress have ended, step 3 begins. -/
def offWindowsNext (s : State) : State :=
  if s.pnl.step = 21 ∧ s.drum.plans.any (fun p => p.started && !p.closed) = false then startOffWindows s else s

/-- R266 step 4: a driver has discharged. -/
def dischargeDone (s : State) (b : Nat) : State :=
  let t := s.setPnl (fun p => { p with discharging := p.discharging.erase b })
  if t.pnl.step = 24 ∧ t.pnl.discharging = [] then goDark t else t

/-- R267: step 4 ends: the drivers that gave no DISCHARGE_DONE are logged, and the sequence proceeds. -/
def dischargeTimeout (s : State) : State :=
  if s.pnl.step = 24 then
    goDark (s.pnl.discharging.foldl (fun t b => raise t { page := 0x0D0 + b, cls := 0x08, code := 0, sev := 0, unit := b }) s)
  else s

/-! ### Bring-up (R265) -/

/-- R265 step 1: the ports train. -/
def startPanel (s : State) : State :=
  ((List.range 12).foldl (fun t b => setPort t b 1) (s.set F.PNL_SEQ_STATE_STATE 1)).setPnl (fun p => { p with step := 11 })

/-- R265 step 2: the descriptors of the ports whose groups carry traffic are read; the others are held. -/
def startDiscovery (s : State) : State :=
  let t := (List.range 12).foldl (fun u b =>
    if u.get (F.PNL_PORT_STATE_STATE b) = 5 then u
    else if u.get (F.SER_GROUP_STATE_STATE b) = 6 then sendCtrl (setPort u b 2) b 0x12 (256 * 2 ^ 32)
    else holdPort u b 6) s
  t.setPnl (fun p => { p with step := 12 })

/-- R265 step 5: three neutral windows on every port that is not HELD. -/
def startBringUpWindows (s : State) : State :=
  let ports := s.pnl.passed.filter (fun b => !decide (s.get (F.PNL_PORT_STATE_STATE b) = 5))
  let t := ports.foldl (fun u b => setPort u b 3) s
  startNeutral (t.setPnl (fun p => { p with step := 15 })) ports

/-- R420: once the panel runs, SEC.MIN_ROLLBACK is raised to the running image's ROLLBACK by a tack room commit; refused, an
error is logged. -/
def raiseRollback (s : State) : State :=
  if s.sec.rollback ≤ s.nv.minRollback then s
  else
    let k := ownCommit s 0xBF00 1
    if k.2 = 0 then (k.1.setNv (fun n => { n with minRollback := s.sec.rollback })).set F.SEC_MIN_ROLLBACK_LEVEL s.sec.rollback
    else raise k.1 { page := 0x140, cls := 0x0F, code := k.2, sev := 2, unit := 0xBF00 }

/-- R265 step 6: parked output begins, SEQ_DONE. -/
def startOutput (s0 : State) : State :=
  let s := raiseRollback s0
  let t := ((List.range 12).filter (portReady s)).foldl (fun u b => setPort u b 4) s
  let u := (beginParkedOutput t false).set F.PNL_SEQ_STATE_STATE 2
  raiseIrq (u.setPnl (fun p => { p with step := 0, changed := true })) 0x0DC 0

/-- R254, R453: no panel output starts: a device error, or, where no port passes, device failure NO_PANEL. -/
def panelRefused (s : State) : State :=
  if s.pnl.passed.isEmpty then deviceFailure s 5 { page := 0x0DC, cls := 0x08, code := 3, sev := 4, unit := 0xFF }
  else raise (s.setPnl (fun p => { p with step := 0 })) { page := 0x0DC, cls := 0x08, code := 3, sev := 2, unit := 0xFF }

/-- Does a step still wait for an answer of MODEL_READ? -/
def modelWaits (s : State) : Bool := s.pnl.ctrl.any (fun c => decide (c.typ = 0x12)) || !s.pnl.toRead.isEmpty

/-- R265, R266: the sequence moves on when what its step waits for is done. -/
def panelAdvance (s : State) : State :=
  match s.pnl.step with
  | 11 =>
    if (List.range 12).all (fun b => decide (s.get (F.SER_GROUP_STATE_STATE b) = 6) || decide (s.get (F.SER_GROUP_STATE_STATE b) = 8) ||
        decide (s.get (F.SER_GROUP_STATE_STATE b) = 0)) then startDiscovery s else s
  | 12 =>
    if modelWaits s then s
    else
      let t := judgeDescs s
      if t.pnl.passed.isEmpty || !panelOk t.pnl.model then panelRefused t
      else readModels (t.setPnl (fun p => { p with step := 13 })) t.pnl.passed (t.pnl.passed.headD 0)
  | 13 => if modelWaits s then s else startBringUpWindows (applyModel s)
  | 15 => if s.pnl.windows.isEmpty then startOutput s else s
  | 23 => if s.pnl.windows.isEmpty then startDischarge s else s
  | _ => offWindowsNext s

/-- R265, R266: a neutral window of a port ends: the next follows after its settle, or the port has had its three. -/
def neutralEnded (s : State) (p : Plan) : State :=
  let left := mapVal s.pnl.windows p.band - 1
  let t := s.setDrum (fun d => { d with plans := d.plans.filter (fun q => !(decide (q.band = p.band) && decide (q.mode = 2))) })
  if left = 0 then panelAdvance (t.setPnl (fun x => { x with windows := mapDel x.windows p.band }))
  else (t.setPnl (fun x => { x with windows := mapPut x.windows p.band left })).setDrum (fun d =>
    { d with plans := d.plans ++ [windowPlan t p.band 2 (p.tDeadline + tick2 1000000000 1200)] })

/-- R283: a group that becomes ACTIVE after step 1 passes R254 and R255 on its own. -/
def latePort (s : State) (b : Nat) : State := sendCtrl ((setPort s b 2).set (F.PNL_PORT_STATE_REASON b) 0) b 0x12 (256 * 2 ^ 32)

/-- R283: a port that trained late has its descriptor judged against the panel's, and its records read. -/
def lateDesc (s : State) (b : Nat) (d : List Byte) : State :=
  match descFault s.pnl.model b d with
  | some why => holdPort s b why
  | none => readModels ((showDesc s b d).setPnl (fun p => { p with passed := if p.passed.contains b then p.passed else p.passed ++ [b] })) [b] 12

/-- R283: a port that trained late joins output once its records are in. -/
def lateJoin (s : State) (b : Nat) : State :=
  if s.pnl.step = 0 ∧ s.get (F.PNL_PORT_STATE_STATE b) = 2 ∧ s.pnl.passed.contains b = true ∧
     s.pnl.ctrl.any (fun c => decide (c.port = b)) = false then setPort s b 4 else s

end Sys2Proof.Machine
end

