-- ==== Sys2Proof/Machine/YardOps.lean ====
section
/-! DEFINITION. Machine/YardOps.lean: the yard's shared operations: roles and enumeration (R305, R308 to R312), links going up
and down (R297, R316, R317), the tree and route tables (R306, R319), and epoch changes (R307). -/

namespace Sys2Proof.Machine

/-- The yard changed. -/
def State.setYard (s : State) (f : Yard → Yard) : State := { s with yard := f s.yard }

/-- R308: the device's identity digest, 48 bytes. -/
def identityDigest : List Byte := (List.range 48).map Config.identityByte

/-- R308: the first 8 bytes of the digest as an unsigned number of the digest's order. -/
def digestOrder (d : Nat) : Nat := leNat (leBytes 8 d).reverse

/-- The device's coordinates as a DXY byte. -/
def myXY (s : State) : Nat := s.get F.XSH_ROLE_X + 16 * s.get F.XSH_ROLE_Y

/-- R305, R310: coordinates stepped by one in the direction of a port (0 N, 1 E, 2 S, 3 W). -/
def stepXY (xy port : Nat) : Nat :=
  let x := xy % 16
  let y := xy / 16 % 16
  match port with
  | 0 => x + 16 * ((y + 15) % 16)
  | 1 => (x + 1) % 16 + 16 * y
  | 2 => x + 16 * ((y + 1) % 16)
  | _ => (x + 15) % 16 + 16 * y

/-- The mean of increments, an increment where there is none. -/
def meanInc (l : List Nat) (else' : Nat) : Nat := if l.isEmpty then else' else l.foldl (· + ·) 0 / l.length

/-- R334: the servo's state; a change sets SERVO_CHANGED. Holdover holds INCREMENT at its mean, and a locking drum in its own
holdover (R170). -/
def servoTo (s : State) (st : Nat) : State :=
  if s.get F.TIM_SERVO_STATE = st then s
  else
    let t := raiseIrq (s.set F.TIM_SERVO_STATE st) 0x110 0
    if st = 3 then
      let u := t.set F.TIM_INCREMENT_INC (meanInc t.tim.incs (t.get F.TIM_INCREMENT_INC))
      if u.get F.DRU_STATE_LOCK = 1 ∨ u.get F.DRU_STATE_LOCK = 2 then setLock u 3 else u
    else t

/-- R334: an acquisition starts. -/
def servoAcquire (s : State) : State := servoTo (s.setTim (fun x => { x with stepped := false, good := 0, bad := 0 })) 1

/-- R334: a member follows the head of its yard: a new one is acquired. -/
def servoMember (s : State) : State :=
  if ¬ s.get F.TIM_SERVO_STATE = 0 ∧ s.tim.head = s.get F.XSH_YARD_ID_ID then s
  else servoAcquire (s.setTim (fun x => { x with head := s.get F.XSH_YARD_ID_ID }))

/-- R308, R334: the role; a change is shown and sets ROLE_CHANGED, and the servo follows it. -/
def setRole (s : State) (r : Nat) : State :=
  if s.role = r then s
  else
    let t := raiseIrq (s.setAll [(F.XSH_ROLE_ROLE, r), (F.HIF_YARD_ROLE_ROLE, r)]) 0x100 5
    if r = 2 then servoMember t else if r = 3 then servoTo t 3 else servoTo t 0

/-- R308: is the controller a head candidate, and has it not yielded to another? An orphan is one with a link of its own (R309). -/
def candidate (s : State) : Bool :=
  s.pcie.linkUp && s.on F.XSH_ROLE_HEAD_PRIO && s.on F.XSH_CTRL_EN &&
    ((decide (s.role = 0) && s.yard.enum.isNone) || decide (s.role = 3))

/-- The ports that carry traffic. -/
def upPorts (s : State) : List Nat := (List.range 4).filter (portUp s)

/-- R322: a port's state; a change sets PORT_CHANGED. -/
def setYardPort (s : State) (k st : Nat) : State :=
  if s.get (F.XSH_PORT_STATE k) = st then s else raiseIrq (s.set (F.XSH_PORT_STATE k) st) 0x100 2

/-! ### Enumeration -/

/-- R319: an ENUM payload. -/
def enumBytes (id gen prio xy port hops digest : Nat) : List Byte :=
  leBytes 4 id ++ leBytes 1 gen ++ leBytes 1 prio ++ leBytes 1 xy ++ leBytes 1 port ++ leBytes 1 hops ++ leBytes 7 0 ++
  leBytes 8 digest ++ leBytes 8 0

/-- R310: an ENUM sent on a port: a device's own as candidate or head, else the one it follows, a hop further. -/
def sendEnum (s : State) (k : Nat) : State :=
  let own := leNat (identityDigest.take 8)
  let bs := match s.yard.enum with
    | some e => enumBytes e.id e.gen e.prio (myXY s) k (e.hops + 1) e.digest
    | none => enumBytes (own % 2 ^ 32) (s.get F.XSH_GEN_YARD_GEN) (s.get F.XSH_ROLE_HEAD_PRIO) (myXY s) k 0 own
  sendOn s k { mkFrame 0x20 0 0 0 0 0 0 0 bs with src := s.get F.XSH_ROLE_NUMBER, epoch := s.yard.cur.epoch % 2 }

/-- R308: a candidate floods ENUM. -/
def floodEnum (s : State) : State :=
  (upPorts s).foldl sendEnum (s.setYard (fun y => { y with enum := none, enumSent := true }))

/-- R310, R319: a device's ENUM_REPLY on its enumeration parent port. -/
def sendEnumReply (s : State) (parent senderPort : Nat) : State :=
  let bs := identityDigest ++ leBytes 1 (myXY s) ++ leBytes 1 (parent + 4 * senderPort) ++ leBytes 1 (s.get F.DRU_STATE_FACETS) ++
    leBytes 1 (s.get F.XSH_ROLE_HEAD_PRIO) ++ leBytes 2 (s.get F.GLB_DEVICE_ID_PART) ++
    leBytes 1 (s.get F.GLB_DEVICE_ID_STEP_MAJOR * 16 + s.get F.GLB_DEVICE_ID_STEP_MINOR) ++ leBytes 1 0 ++
    leBytes 8 (s.get F.PNL_PANEL_SERIAL_SERIAL)
  sendOn s parent { mkFrame 0x21 0 0 0 0 0 0 0 bs with src := s.get F.XSH_ROLE_NUMBER, epoch := s.yard.cur.epoch % 2 }

/-- R308: is an ENUM of another candidate or head better than this candidate's own? -/
def betterEnum (s : State) (e : EnumHeard) : Bool :=
  let own := leNat (identityDigest.take 8)
  decide (s.get F.XSH_ROLE_HEAD_PRIO < e.prio) ||
  (decide (s.get F.XSH_ROLE_HEAD_PRIO = e.prio) && decide (digestOrder e.digest < digestOrder own)) ||
  decide (s.get F.XSH_GEN_YARD_GEN < e.gen)

/-- R308, R310: does an ENUM take the place of the one a device follows: a later one of its head, or a better one? -/
def supersedes (h e : EnumHeard) : Bool :=
  if h.id = e.id ∧ h.digest = e.digest then !decide (h.gen = e.gen)
  else decide (h.gen < e.gen) || (decide (h.gen = e.gen) &&
    (decide (h.prio < e.prio) || (decide (h.prio = e.prio) && decide (digestOrder e.digest < digestOrder h.digest))))

/-- R310: a device takes its coordinates from an ENUM, forwards it and answers. -/
def followEnum (s : State) (e : EnumHeard) (senderXY senderPort : Nat) : State :=
  let xy := stepXY senderXY senderPort
  let t := (s.setAll [(F.XSH_ROLE_X, xy % 16), (F.XSH_ROLE_Y, xy / 16), (F.XSH_PORT_PEER_PORT e.port, senderPort),
    (F.XSH_YARD_ID_ID, e.id), (F.XSH_GEN_YARD_GEN, e.gen)]).setYard (fun y => { y with enum := some e, enumSent := false })
  let u := ((upPorts t).filter (fun k => !decide (k = e.port))).foldl sendEnum t
  sendEnumReply u e.port senderPort

/-- R308 to R310, R312: an ENUM received on a port. A member keeps to its head; the same ENUM once more on its parent port is answered
anew (the link has trained again). -/
def enumReceived (s : State) (k : Nat) (b : List Byte) : State :=
  let e : EnumHeard := ⟨leAt b 0 4, leAt b 4 1, leAt b 5 1, leAt b 0x10 8, k, leAt b 8 1⟩
  let xy := leAt b 6 1
  let j := leAt b 7 1 % 4
  let t := s.set (F.XSH_PORT_PEER_PORT k) j
  if j ≠ (k + 2) % 4 then raiseIrq (setYardPort t k 3) 0x100 3
  else if t.isHead then
    (if e.id = t.get F.XSH_YARD_ID_ID ∧ e.gen = t.get F.XSH_GEN_YARD_GEN ∧ stepXY xy j ≠ myXY t then setYardPort t k 3 else t)
  else
    match t.yard.enum with
    | some h =>
      if t.role = 3 then (if candidate t && !betterEnum t e then t else followEnum t e xy j)
      else if h.id = e.id ∧ h.gen = e.gen ∧ h.digest = e.digest then
        (if ¬ stepXY xy j = myXY t then setYardPort t k 3 else if k = h.port then followEnum t e xy j else t)
      else if t.role = 2 ∧ ¬ (h.id = e.id ∧ h.digest = e.digest) then t
      else if supersedes h e then followEnum t e xy j else t
    | none => if candidate t && !betterEnum t e then t else followEnum t e xy j

/-! ### The head's view of the yard -/

/-- A device of the yard with its place in the tree: yard number, coordinates, distance from the head, the port of its tree
parent. -/
structure TreeNode where
  number : Nat
  xy : Nat
  dist : Nat
  parent : Nat
deriving DecidableEq, Repr

/-- The devices present: the head and its members, by number and coordinates. -/
def yardDevices (s : State) : List (Nat × Nat) := (0, 0) :: s.yard.members.map (fun m => (m.number, m.xy))

/-- Is the link of a device's port to its neighbour live, and to which device does it lead? -/
def liveLink (s : State) (n xy port : Nat) : Option Nat :=
  match (yardDevices s).find? (fun d => decide (d.2 = stepXY xy port)) with
  | some d => if s.yard.downLinks.contains (n, port) || s.yard.downLinks.contains (d.1, (port + 2) % 4) then none else some d.1
  | none => none

/-- R306: the shortest-path tree of the live links, grown a distance at a time. -/
def growTree (s : State) : Nat → Nat → List TreeNode → List TreeNode
  | 0, _, t => t
  | fuel + 1, d, t =>
    let next := (yardDevices s).filterMap (fun e =>
      if t.any (fun x => decide (x.number = e.1)) then none
      else
        let ways := (List.range 4).filter (fun p => match liveLink s e.1 e.2 p with
          | some m => t.any (fun x => decide (x.number = m) && decide (x.dist = d))
          | none => false)
        if ways.isEmpty then none
        else some ⟨e.1, e.2, d + 1, ways.getD (Config.treeChoice (s.get F.XSH_GEN_EPOCH) e.1 % ways.length) 0⟩)
    if next.isEmpty then t else growTree s fuel (d + 1) (t ++ next)

/-- R306: the head's tree. -/
def yardTree (s : State) : List TreeNode := growTree s 64 0 [⟨0, 0, 0, 7⟩]

/-- A device of the tree. -/
def nodeOf (t : List TreeNode) (n : Nat) : Option TreeNode := t.find? (fun x => decide (x.number = n))

/-- The device that a tree node hangs from. -/
def parentOf (t : List TreeNode) (x : TreeNode) : Option TreeNode :=
  if x.parent = 7 then none else t.find? (fun y => decide (y.xy = stepXY x.xy x.parent))

/-- R306: the child port of device `n` whose subtree holds a device, if any: the walk from the device up. -/
def childToward (t : List TreeNode) (n : Nat) : Nat → TreeNode → Option Nat
  | 0, _ => none
  | fuel + 1, x =>
    match parentOf t x with
    | none => none
    | some y => if y.number = n then some ((x.parent + 2) % 4) else childToward t n fuel y

/-- R306: the next port by dimension order, X first. -/
def dimensionPort (from' dest : Nat) : Nat :=
  let dx := toSigned (dest % 16) 4 - toSigned (from' % 16) 4
  let dy := toSigned (dest / 16) 4 - toSigned (from' / 16) 4
  if 0 < dx then 1 else if dx < 0 then 3 else if 0 < dy then 2 else 0

/-- R306: is the yard a complete rectangle with every link inside it up? -/
def completeRectangle (s : State) : Bool :=
  let ds := yardDevices s
  let xs := ds.map (fun d => toSigned (d.2 % 16) 4)
  let ys := ds.map (fun d => toSigned (d.2 / 16) 4)
  let span (l : List Int) : Int := l.foldl max 0 - l.foldl min 0 + 1
  decide (span xs * span ys = (ds.length : Int)) &&
  !s.yard.downLinks.any (fun e => match ds.find? (fun d => decide (d.1 = e.1)) with
    | some d => ds.any (fun x => decide (x.2 = stepXY d.2 e.2))
    | none => false)

/-- R306, R319: a device's route table. -/
def tableFor (t : List TreeNode) (epoch mode : Nat) (x : TreeNode) : RouteTable :=
  let kids := t.filter (fun y => match parentOf t y with | some z => decide (z.number = x.number) | none => false)
  { epoch := epoch, mode := mode, parent := x.parent
    children := kids.foldl (fun v y => withBit v ((y.parent + 2) % 4)) 0
    downIn := if x.parent < 4 then 2 ^ x.parent else 0
    ports := (List.range 64).map (fun n => match nodeOf t n with
      | none => (7, 7, 7)
      | some y =>
        if n = x.number then (4, 4, 4)
        else
          let down := (childToward t x.number 64 y).getD 7
          if mode = 0 then (dimensionPort x.xy y.xy, dimensionPort x.xy y.xy, down)
          else (if down = 7 then x.parent else down, down, down)) }

/-- R319: a ROUTE payload. -/
def routeBytes (t : RouteTable) : List Byte :=
  leBytes 1 t.mode ++ leBytes 1 t.parent ++ leBytes 1 t.children ++ leBytes 1 t.downIn ++ leBytes 4 0 ++
  t.ports.flatMap (fun p => leBytes 1 p.1 ++ leBytes 1 p.2.1 ++ leBytes 1 p.2.2)

/-- R319: a route table from a ROUTE payload. -/
def routeOfBytes (epoch : Nat) (b : List Byte) : RouteTable :=
  ⟨epoch, leAt b 0 1, leAt b 1 1, leAt b 2 1, leAt b 3 1,
    (List.range 64).map (fun n => (leAt b (8 + 3 * n) 1, leAt b (9 + 3 * n) 1, leAt b (10 + 3 * n) 1))⟩

/-- R307 step 3, R330: frames that a port no longer up held unacknowledged, or had waiting, move to their new ports in their old
order, ahead of later frames; TIME frames are discarded. -/
def moveReplay (s : State) (k : Nat) : State :=
  let p := s.xport k
  let moved := (p.unacked ++ p.waiting).filter (fun f => !decide (f.typ = 0x40))
  let t := (s.setXport k (fun q => { q with unacked := [], waiting := [] })).setTim (fun x =>
    { x with sent := x.sent.filter (fun e => !decide (e.port = k)) })
  moved.reverse.foldl (fun u f =>
    let o := routeFrame u f none
    if o < 4 ∧ portUp u o then u.setXport o (fun q => { q with waiting := f :: q.waiting }) else u.bump (F.XSH_DROPS_COUNT 2)) t

/-- R307 step 3: a device applies a table; its tree parent port is the slave port of its clock (R329, R340). -/
def applyRoute (s : State) (t : RouteTable) : State :=
  let a := (s.setYard (fun y => { y with prev := y.cur, cur := t })).setAll [(F.XSH_GEN_EPOCH, t.epoch),
    (F.TIM_SERVO_PARENT, if t.parent < 4 then t.parent else s.get F.TIM_SERVO_PARENT)]
  let b := (List.range 4).foldl (fun u k => u.setAll [(F.XSH_PORT_PARENT k, b2n (decide (t.parent = k))),
    (F.XSH_PORT_CHILD k, b2n (hasBit t.children k))]) a
  let c := ((List.range 4).filter (fun k => !portUp b k)).foldl moveReplay b
  (upPorts c).foldl (fun u k => pumpPort ((u.xport k).waiting.length + 1) k u) c

/-! ### Epoch changes (R307) and leaves (R317) -/

/-- R313, R34: a forwarded read ends unanswered: all ones, logged with code 0x09. -/
def failRead (s : State) (r : FwdRead) : State :=
  (captureHost s 0x09 Master.pcie.code (r.addr / 0x1000 % 512) (r.addr % 0x1000)).emit
    (.hostData r.tag (List.replicate r.len 0xFF))

/-- R317: a member leaves. -/
def leaveMember (s : State) (n : Nat) : State :=
  let held := s.yard.idRoster.any (fun e => decide (e.number = n))
  let a := s.setAll [(F.HIF_SLOT_PRESENT_SLOTS, withoutBit (s.get F.HIF_SLOT_PRESENT_SLOTS) n), (F.XSH_MEMBER0_STATE n, if held then 4 else 0),
    (F.XSH_GEN_MEMBERSHIP, s.get F.XSH_GEN_MEMBERSHIP + 1)]
  let lost := a.yard.heldFrames.filter (fun f => decide (f.dst = n))
  let b := a.setYard (fun y =>
    { y with members := y.members.filter (fun m => !decide (m.number = n)), heldDests := y.heldDests.erase n,
             heldFrames := y.heldFrames.filter (fun f => !decide (f.dst = n)), joining := y.joining.erase n,
             ackAwait := y.ackAwait.erase n })
  let c := (b.bumpBy (F.XSH_DROPS_COUNT 2) lost.length).setCmp (fun x =>
    { x with copies := x.copies.filter (fun e => !decide (e.2 = n)), acks := x.acks.filter (fun e => !decide (e.2 = n)),
             acked := x.acked.filter (fun e => !decide (e.2 = n)), slots := x.slots.filter (fun e => !decide (e.1 / 8 = n)) })
  coastOwner (raiseIrq c 0x100 0) n

/-- R307 steps 1 and 2: an epoch change begins: devices without a path leave, the destinations whose tree path changes are
held, and every device is sent its table. -/
def startEpoch (s : State) : State :=
  if s.yard.epochRunning then s.setYard (fun y => { y with epochAgain := true })
  else
    let epoch := (s.get F.XSH_GEN_EPOCH + 1) % 4096
    let s1 := s.set F.XSH_GEN_EPOCH epoch
    let tree0 := yardTree s1
    let gone := (s1.yard.members.filter (fun m => (nodeOf tree0 m.number).isNone)).map (fun m => m.number)
    let s2 := gone.foldl leaveMember s1
    let tree := yardTree s2
    let mode := if s2.on F.XSH_CTRL_DOR_EN && completeRectangle s2 then 0 else 1
    let dests := s2.yard.members.map (fun m => m.number)
    let oldPort (n : Nat) : Nat := (s2.yard.cur.ports.getD n (7, 7, 7)).2.2
    let newPort (n : Nat) : Nat := match nodeOf tree n with | some x => (childToward tree 0 64 x).getD 7 | none => 7
    let held := dests.filter (fun n => !decide (oldPort n = newPort n))
    let s3 := s2.setYard (fun y => { y with epochRunning := true, ackAwait := dests, heldDests := held })
    let s4 := dests.foldl (fun u n => match nodeOf tree n with
      | some x =>
        let f := { mkFrame 0x23 0 n 0 0 0 epoch 0 (routeBytes (tableFor tree epoch mode x)) with dxy := x.xy, epoch := u.yard.cur.epoch % 2 }
        if u.yard.joining.contains n then (match mapGet u.yard.replyPorts x.xy with
          | some k => sendOn u k f
          | none => u)
        else originate u f
      | none => u) s3
    let s5 := match nodeOf tree 0 with
      | some x => applyRoute s4 (tableFor tree epoch mode x)
      | none => s4
    s5.setAll (dests.flatMap (fun n => match nodeOf tree n with | some x => [(F.XSH_MEMBER0_HOPS n, x.dist)] | none => []))

/-! ### Links -/

/-- R316, R317: the head learns that a device's port went up or down. -/
def linkChanged (s : State) (n port : Nat) (up : Bool) : State :=
  let links := if up then s.yard.downLinks.filter (fun e => !decide (e = (n, port)))
    else if s.yard.downLinks.contains (n, port) then s.yard.downLinks else s.yard.downLinks ++ [(n, port)]
  startEpoch (s.setYard (fun y => { y with downLinks := links }))

/-- R297, R302, R308, R316: a Xiesh group reaches ACTIVE: its port is up, its unacknowledged frames take new numbers. -/
def linkUp (s : State) (k : Nat) : State :=
  let old := s.xport k
  let t := setYardPort (s.setXport k (fun _ => { XPort.reset with waiting := old.unacked ++ old.waiting })) k 2
  let u := pumpPort (old.unacked.length + old.waiting.length + 1) k t
  if !u.on F.XSH_CTRL_EN then u
  else if u.isHead then linkChanged (sendEnum u k) 0 k true
  else if u.isMember && u.yard.enum.isSome then sendLinkEvent (sendEnum u k) k true
  else if candidate u then floodEnum u
  else if u.yard.enum.isSome then sendEnum u k
  else u

/-- R283, R307: a Xiesh group carries no traffic: its port is down. -/
def linkDown (s : State) (k st : Nat) : State :=
  if portUp s k then
    let t := setYardPort s k st
    if t.isHead then linkChanged t 0 k false else if t.isMember then sendLinkEvent t k false
    else if (upPorts t).isEmpty then setRole (t.setYard (fun y => { y with enum := none, enumSent := false })) 0 else t
  else setYardPort s k st

end Sys2Proof.Machine
end

