-- ==== Sys2Proof/Machine/Serial.lean ====
section
/-! DEFINITION. Machine/Serial.lean: the lane groups (R271 to R296): training, spare substitution, the back-channel's relock,
lane retrain, eye scans and loop-backs. Ordered sets leave as `Output.ordered` of kind 1 (TS), 3 (LM) and 4 (LOOP). -/

namespace Sys2Proof.Machine

/-! ### Groups -/

/-- A lane group. -/
def State.laneGroup (s : State) (g : Nat) : LaneGroup := s.ser.getD g LaneGroup.reset

/-- A lane group changed. -/
def State.setGroup (s : State) (g : Nat) (f : LaneGroup → LaneGroup) : State := { s with ser := modifyAt s.ser g f }

/-- R271: the transmit lanes of a group; the last is the spare at reset. -/
def txLanes (g : Nat) : Nat := if g < 12 then 13 else 9

/-- R271: the receive lanes of a group. -/
def rxLanes (g : Nat) : Nat := if g < 12 then 1 else 9

/-- R271, R244: the logical lanes a group transmits. -/
def logicalLanes (g : Nat) : Nat := txLanes g - 1

/-- R296: the physical transmit lane that carries a logical lane; the entry after the last names the spare. -/
def txLaneOf (s : State) (g l : Nat) : Nat := bitsOf (s.get (F.SER_TX_MAP_MAP g)) (4 * l) 4

/-- R296: the receive lane (less 16) that carries a logical lane of a Xiesh group. -/
def rxLaneOf (s : State) (g l : Nat) : Nat := bitsOf (s.get (F.SER_RX_MAP_MAP g)) (4 * l) 4

/-- R286: the physical transmit lane that is spare. -/
def txSpare (s : State) (g : Nat) : Nat := txLaneOf s g (logicalLanes g)

/-- A group's state. -/
def groupState (s : State) (g : Nat) : Nat := s.get (F.SER_GROUP_STATE_STATE g)

/-- R296: a lane is marked FAILED. -/
def failLane (s : State) (g p : Nat) : State :=
  raiseIrq (s.setAll [(F.SER_LANE_FAILED g p, 1), (F.SER_LANE_IN_SERVICE g p, 0), (F.SER_LANE_LOGICAL g p, 0xF)]) (0x0F0 + g) 0

/-- R442: an error of class LANE on a page of a group. -/
def laneError (s : State) (g lane code sev : Nat) : State :=
  raise s { page := 0x0F0 + g, cls := 0x07, code := code, sev := sev, unit := g * 32 + lane }

/-- R286: an LM set leaves: 1 BRIDGE, 2 READY, 3 SWAP, 4 ABORT, 5 REQUEST. -/
def sendLm (s : State) (g cmd logical spare : Nat) : State := s.emit (.ordered g 3 [cmd, logical, spare])

/-! ### Training -/

/-- R278: a training set leaves, on every lane with the lane's number: SOURCE, STAGE, REQ_LANE, REQUEST, STAT_LANE, STATUS
and the taps of STAT_LANE. -/
def sendTs (s : State) (g reqLane request statLane status : Nat) : State :=
  let toggle (b : Bool) : Nat := b2n b * 128
  let source := if g < 12 then g else (g - 12) + 2 * 16
  s.emit (.ordered g 1 [source, groupState s g, reqLane + toggle (s.laneGroup g).toggleSent, request,
    statLane + toggle (s.laneGroup g).toggleSeen, status, s.get (F.SER_LANE_C_PRE g statLane), s.get (F.SER_LANE_C_POST g statLane)])

/-- R281: every transmit lane starts from its preset. -/
def loadPresets (s : State) (g : Nat) : State :=
  s.setAll ((List.range (txLanes g)).flatMap (fun p =>
    [(F.SER_LANE_C_PRE g p, s.get (F.SER_TX_PRESET_C_PRE g p)), (F.SER_LANE_C_POST g p, s.get (F.SER_TX_PRESET_C_POST g p))]))

/-- A group's maps, lanes and spare as before any training. -/
def clearLanes (s : State) (g : Nat) : State :=
  let a := s.setAll ([(F.SER_TX_MAP_MAP g, 0xCBA9876543210), (F.SER_RX_MAP_MAP g, 0x876543210), (F.SER_GROUP_STATE_REVERSED g, 0),
    (F.SER_GROUP_STATE_SPARE g, 0), (F.SER_GROUP_STATE_SPARE_FOR g, 0xF)] ++
    (List.range 25).flatMap (fun p => [(F.SER_LANE_IN_SERVICE g p, 0), (F.SER_LANE_FAILED g p, 0), (F.SER_LANE_POL_INV g p, 0),
      (F.SER_LANE_LOGICAL g p, 0xF)]))
  if g < 12 then a.set (F.PNL_PORT_STATE_SPARE_IN_USE g) 0 else a

/-- R290: a group retrain ends a scan. -/
def endScan (s : State) (g : Nat) : State :=
  if s.on (F.SER_EYE_CTRL_BUSY g) then raiseIrq (s.setAll [(F.SER_EYE_CTRL_BUSY g, 0), (F.SER_EYE_CTRL_ABORTED g, 1)]) (0x0F0 + g) 4 else s

/-- R287: a group retrain aborts a substitution. -/
def abortSub (s : State) (g : Nat) : State :=
  if (s.laneGroup g).sub.isSome then
    (s.setAll [(F.SER_SUB_CMD_BUSY g, 0), (F.SER_SUB_CMD_RESULT g, 4)]).setGroup g (fun x => { x with sub := none })
  else s

/-- R277, R283: a training attempt begins. -/
def startAttempt (s : State) (g attempt : Nat) : State :=
  let a := clearLanes (abortSub (endScan s g) g) g
  let b := (loadPresets (a.setAll [(F.SER_GROUP_STATE_STATE g, 1), (F.SER_GROUP_STATE_REASON g, 0), (F.SER_GROUP_STATE_ATTEMPT g, attempt)]) g).bump
    (F.SER_TRAINS_COUNT g)
  sendTs (b.setGroup g (fun _ => LaneGroup.reset)) g 0 0 0 0

/-- R283: a group that leaves service: its panel port's band is dark, or its Xiesh port goes down or trains. -/
def leaveService (s : State) (g : Nat) (training : Bool) : State :=
  if g < 12 then
    let st := s.get (F.PNL_PORT_STATE_STATE g)
    if st = 0 ∨ st = 6 then s
    else if training then (if st = 1 then s else darkenBand (setPort s g 1) g)
    else holdPort s g 6
  else linkDown s (g - 12) (if training then 1 else 0)

/-- R283, R287, R288: a group fails. -/
def failGroup (s : State) (g reason lane : Nat) : State :=
  let a := (abortSub s g).setAll [(F.SER_GROUP_STATE_STATE g, 8), (F.SER_GROUP_STATE_REASON g, reason), (F.SER_CTRL_TRAIN g, 0)]
  let b := a.setAll ((List.range 25).map (fun p => (F.SER_LANE_IN_SERVICE g p, 0)))
  let c := leaveService (laneError (raiseIrq b (0x0F0 + g) 2) g lane reason 2) g false
  panelAdvance (c.setGroup g (fun x => { x with relocking := false }))

/-- R277, R283: an attempt ends: another follows, or the third was the last. -/
def endAttempt (s : State) (g reason : Nat) : State :=
  let n := s.get (F.SER_GROUP_STATE_ATTEMPT g)
  if n < 3 then startAttempt s g (n + 1) else failGroup s g reason 0

/-- A group trains. -/
def trainGroup (s : State) (g : Nat) : State := startAttempt (leaveService s g true) g 1

/-- A group is switched off. -/
def groupOff (s : State) (g : Nat) : State :=
  let a := (clearLanes (abortSub (endScan s g) g) g).setAll [(F.SER_GROUP_STATE_STATE g, 0), (F.SER_GROUP_STATE_REASON g, 0), (F.SER_CTRL_TRAIN g, 0)]
  panelAdvance (leaveService (a.setGroup g (fun _ => LaneGroup.reset)) g false)

/-- R296: the lanes that carry logical lanes are shown. -/
def showLanes (s : State) (g : Nat) : State :=
  let tx := (List.range (logicalLanes g)).foldl (fun t l =>
    t.setAll [(F.SER_LANE_IN_SERVICE g (txLaneOf t g l), 1), (F.SER_LANE_LOGICAL g (txLaneOf t g l), l)]) s
  if g < 12 then tx.setAll [(F.SER_LANE_IN_SERVICE g 16, 1), (F.SER_LANE_LOGICAL g 16, 0)]
  else (List.range 8).foldl (fun t l =>
    t.setAll [(F.SER_LANE_IN_SERVICE g (16 + rxLaneOf t g l), 1), (F.SER_LANE_LOGICAL g (16 + rxLaneOf t g l), l)]) tx

/-- R277, R283, R293: READY is complete: the group carries traffic, or a far-end loop is commanded. -/
def finishTraining (s : State) (g : Nat) : State :=
  let a := raiseIrq ((showLanes s g).set (F.SER_CTRL_TRAIN g) 0) (0x0F0 + g) 3
  let mode := s.get (F.SER_LOOP_MODE g)
  if 3 ≤ mode then
    raiseIrq ((a.emit (.ordered g 4 [mode, s.get (F.SER_LOOP_LANE g)])).set (F.SER_GROUP_STATE_STATE g) 7) (0x0F0 + g) 5
  else
    let b := a.set (F.SER_GROUP_STATE_STATE g) 6
    if 12 ≤ g then linkUp b (g - 12)
    else if b.pnl.step = 11 then panelAdvance b
    else if b.pnl.step < 11 ∧ b.get F.PNL_SEQ_STATE_STATE = 2 then latePort b g
    else if 12 ≤ b.pnl.step ∧ b.pnl.step < 20 then latePort b g
    else b

/-- R281: one step of a tap requested with a code (1 increase, 2 decrease): the tap, and what is reported. -/
def stepTap (code tap limit other : Nat) : Nat × Nat :=
  match code with
  | 1 => if tap < limit ∧ tap + other < 31 then (tap + 1, 1) else (tap, 3)
  | 2 => if tap = 0 then (tap, 2) else (tap - 1, 1)
  | _ => (tap, 0)

/-- R281: a request of the peer is applied to a transmit lane: the taps and STATUS. -/
def applyRequest (s : State) (g lane request : Nat) : State × Nat :=
  if hasBit request 4 then
    (s.setAll [(F.SER_LANE_C_PRE g lane, s.get (F.SER_TX_PRESET_C_PRE g lane)), (F.SER_LANE_C_POST g lane, s.get (F.SER_TX_PRESET_C_POST g lane))], 5)
  else
    let pre := stepTap (request % 4) (s.get (F.SER_LANE_C_PRE g lane)) 15 (s.get (F.SER_LANE_C_POST g lane))
    let post := stepTap (request / 4 % 4) (s.get (F.SER_LANE_C_POST g lane)) 31 pre.1
    (s.setAll [(F.SER_LANE_C_PRE g lane, pre.1), (F.SER_LANE_C_POST g lane, post.1)], pre.2 + 4 * post.2)

/-- R280, R282: a receive lane (less 16) that is found failed: its logical lane goes to the spare. -/
def failRxLane (s : State) (g i : Nat) : State :=
  let sp := (s.laneGroup g).rxSpare
  let a := failLane s g (16 + i)
  if i = sp then a.setGroup g (fun x => { x with rxSpareState := 3 })
  else match (List.range 8).find? (fun l => decide (rxLaneOf s g l = i)) with
    | some l => (a.set (F.SER_RX_MAP_MAP g) (withBits (a.get (F.SER_RX_MAP_MAP g)) (4 * l) 4 sp)).setGroup g (fun x => { x with rxSpareState := 2 })
    | none => a

/-- R280, R282: the receive lanes found failed by now in an attempt; none where there are two or more. -/
def judgeDead (s : State) (g dead : Nat) : Option State :=
  if g < 12 then some s
  else
    let old := (List.range 9).filter (fun i => s.on (F.SER_LANE_FAILED g (16 + i)))
    let new := (setBits dead 9).filter (fun i => !old.contains i)
    if 2 ≤ old.length + new.length then none else some (new.foldl (fun t i => failRxLane t g i) s)

/-- R279, R280: what ALIGN has found: inverted lanes and, on a Xiesh group, a reversal. -/
def alignLanes (s : State) (g : Nat) (seen : TsSeen) : State :=
  let a := s.setAll ((List.range (rxLanes g)).map (fun i => (F.SER_LANE_POL_INV g (16 + i), b2n (hasBit seen.inverted i))))
  if 12 ≤ g ∧ seen.order = 1 then
    let map := (List.range 9).foldl (fun m l => m + (8 - l) * 16 ^ l) 0
    (a.setAll [(F.SER_GROUP_STATE_REVERSED g, 1), (F.SER_RX_MAP_MAP g, map)]).setGroup g (fun x => { x with rxSpare := 0 })
  else a

/-- R277: a stage's outcome in this end: the attempt ends with a reason, the stage goes on, or it is complete. -/
inductive StageEnd where
  | fail (reason : Nat)
  | wait
  | done
deriving DecidableEq, Repr

/-- R277 to R282: a training set does its stage's work: the state, STATUS to report, and the stage's outcome. -/
def stageWork (s : State) (g : Nat) (set : Ts) (seen : TsSeen) : State × Nat × StageEnd :=
  let beyond := if seen.complete then StageEnd.done else .wait
  match groupState s g with
  | 2 =>
    if 12 ≤ g ∧ seen.order = 2 then (s, 0, .fail 2)
    else if !seen.complete then (s, 0, .wait)
    else match judgeDead (alignLanes s g seen) g seen.dead with
      | none => (s, 0, .fail 5)
      | some t => (t, 0, .done)
  | 3 =>
    let a := s.setGroup g (fun x => { x with ownDone := x.ownDone || seen.complete })
    let both := if (a.laneGroup g).ownDone && (a.laneGroup g).peerDone then StageEnd.done else .wait
    if set.toggle = (s.laneGroup g).toggleSeen then (a, 0, both)
    else
      let b := a.setGroup g (fun x => { x with toggleSeen := set.toggle })
      if set.reqLane < txLanes g then
        let r := applyRequest b g set.reqLane set.request
        (r.1, r.2, both)
      else (b, 0, both)
  | 4 =>
    if !seen.complete then (s, 0, .wait)
    else match judgeDead s g seen.dead with
      | none => (s, 0, .fail 5)
      | some t => (t, 0, .done)
  | _ => (s, 0, beyond)

/-- R281: the request this end makes in its next set: only in EQ, and only once its last was applied. -/
def nextRequest (s : State) (g : Nat) (set : Ts) (seen : TsSeen) : State × Nat × Nat :=
  let own := b2n (s.laneGroup g).ownDone * 32
  match seen.wish with
  | some (lane, req) =>
    if groupState s g = 3 ∧ set.statToggle = (s.laneGroup g).toggleSent then
      (s.setGroup g (fun x => { x with toggleSent := !x.toggleSent }), lane, req % 32 + own)
    else (s, 0, own)
  | none => (s, 0, own)

/-- R277: a training set received by a group that trains. -/
def trainingSet (s : State) (g : Nat) (set : Ts) (seen : TsSeen) : State :=
  let a := s.setGroup g (fun x => { x with peerStage := set.stage, peerDone := x.peerDone || hasBit set.request 5 })
  let r := stageWork a g set seen
  match r.2.2 with
  | .fail why => endAttempt r.1 g why
  | .wait =>
    let q := nextRequest r.1 g set seen
    sendTs q.1 g q.2.1 q.2.2 set.reqLane r.2.1
  | .done =>
    let st := groupState r.1 g
    if set.stage < st then
      let q := nextRequest r.1 g set seen
      sendTs q.1 g q.2.1 q.2.2 set.reqLane r.2.1
    else if st = 5 then finishTraining r.1 g
    else sendTs (r.1.set (F.SER_GROUP_STATE_STATE g) (st + 1)) g 0 (b2n (r.1.laneGroup g).ownDone * 32) set.reqLane r.2.1

/-- R293: a peer in a loop leaves it: its group reads OFF, and trains if it is enabled. -/
def leavePeerLoop (s : State) (g : Nat) : State :=
  let a := (s.set (F.SER_GROUP_STATE_STATE g) 0).setGroup g (fun x => { x with peerLoop := 0 })
  if a.on (F.SER_CTRL_ENABLE g) then trainGroup a g else a

/-- R277, R293: two identical training sets: a group in a peer's loop leaves it; one in service trains with its peer; one that
trains goes on. -/
def tsReceived (s : State) (g : Nat) (set : Ts) (seen : TsSeen) : State :=
  let st := groupState s g
  if ¬ (s.laneGroup g).peerLoop = 0 then leavePeerLoop s g
  else if 1 ≤ st ∧ st ≤ 5 then trainingSet s g set seen
  else if st = 6 then trainGroup s g
  else s

def execTs (group : Nat) (set : Ts) (seen : TsSeen) (s : State) : Host.Outcome State Fault Refusal :=
  live s (tsReceived s (group % 16) set seen)

/-- R277, R283: a stage passes its limit: the reason its attempt ends with; for READY the spec names none (a free value). -/
def stageTimeout (s : State) (g : Nat) : State :=
  match groupState s g with
  | 1 => endAttempt s g 1
  | 2 => endAttempt s g 2
  | 3 => endAttempt s g 3
  | 4 => endAttempt s g 4
  | 5 => endAttempt s.tookFree g (s.freeOf 4)
  | _ => s

def execTrainingStageTimeout (group : Nat) (s : State) : Host.Outcome State Fault Refusal := live s (stageTimeout s (group % 16))

/-! ### Lane retrain (R289) -/

/-- R289: a FAILED lane retrained while the spare of its direction is in use: it becomes the new spare, or stays FAILED. -/
def retrainLane (s : State) (g lane : Nat) (passed : Bool) : State :=
  if !passed || !s.on (F.SER_LANE_FAILED g lane) then s
  else if lane < txLanes g ∧ s.get (F.SER_GROUP_STATE_SPARE g) = 2 then
    let a := s.setAll [(F.SER_LANE_FAILED g lane, 0), (F.SER_GROUP_STATE_SPARE g, 0), (F.SER_GROUP_STATE_SPARE_FOR g, 0xF),
      (F.SER_TX_MAP_MAP g, withBits (s.get (F.SER_TX_MAP_MAP g)) (4 * logicalLanes g) 4 lane)]
    if g < 12 then a.set (F.PNL_PORT_STATE_SPARE_IN_USE g) 0 else a
  else if 12 ≤ g ∧ 16 ≤ lane ∧ lane < 25 ∧ (s.laneGroup g).rxSpareState = 2 then
    (s.set (F.SER_LANE_FAILED g lane) 0).setGroup g (fun x => { x with rxSpare := lane - 16, rxSpareState := 0 })
  else s

/-- R277, R289, R296: what a write of SER.CTRL starts: ENABLE trains an OFF group or switches it off, TRAIN retrains a group
that is on, RETRAIN one lane. -/
def serCtrlAfter (before : State) (w : Written) (g : Nat) (passed : Bool) : State :=
  let s := w.s
  let a := match w.tookField (F.SER_CTRL_ENABLE g) with
    | some 1 => if groupState s g = 0 then trainGroup s g else s
    | some _ => if before.on (F.SER_CTRL_ENABLE g) then groupOff s g else s
    | none => s
  let b := if w.tookField (F.SER_CTRL_TRAIN g) = some 1 then
      (if a.on (F.SER_CTRL_ENABLE g) then trainGroup a g else a.set (F.SER_CTRL_TRAIN g) 0)
    else a
  if w.tookField (F.SER_CTRL_RETRAIN g) = some 1 then retrainLane b g (b.get (F.SER_CTRL_RETRAIN_LANE g)) passed else b

/-- A write of SER.CTRL. -/
def serCtrlWrite (s : State) (m : Master) (g data : Nat) (passed : Bool) : State :=
  serCtrlAfter s (writeAccess s m (0xF0104 + 0x1000 * g) 4 data) g passed

def execSerEnable (m : Master) (group data : Nat) (s : State) : Host.Outcome State Fault Refusal :=
  live s (serCtrlWrite s m (group % 16) (withBit data 0) false)

def execSerTrain (m : Master) (group data : Nat) (s : State) : Host.Outcome State Fault Refusal :=
  live s (serCtrlWrite s m (group % 16) (withBit data 1) false)

def execSerRetrainLane (m : Master) (group data : Nat) (passed : Bool) (s : State) : Host.Outcome State Fault Refusal :=
  live s (serCtrlWrite s m (group % 16) (withBit data 2) passed)

/-! ### Spare substitution (R285 to R287) -/

/-- R285, R286: a substitution of a transmit lane begins if the spare is on standby and none runs; else RESULT says why not. -/
def startTxSub (s : State) (g l : Nat) : State :=
  if (s.laneGroup g).sub.isSome then s.set (F.SER_SUB_CMD_RESULT g) 5
  else if ¬ groupState s g = 6 ∨ ¬ s.get (F.SER_GROUP_STATE_SPARE g) = 0 ∨ logicalLanes g ≤ l then s.set (F.SER_SUB_CMD_RESULT g) 1
  else sendLm ((s.setAll [(F.SER_SUB_CMD_BUSY g, 1), (F.SER_GROUP_STATE_SPARE g, 1)]).setGroup g
    (fun x => { x with sub := some ⟨true, l⟩ })) g 1 l (txSpare s g)

/-- R285: a substitution of a receive lane of a Xiesh group: its transmitter is asked. -/
def startRxSub (s : State) (g l : Nat) : State :=
  if (s.laneGroup g).sub.isSome then s.set (F.SER_SUB_CMD_RESULT g) 5
  else if ¬ groupState s g = 6 ∨ g < 12 ∨ ¬ (s.laneGroup g).rxSpareState = 0 ∨ 8 ≤ l then s.set (F.SER_SUB_CMD_RESULT g) 1
  else sendLm s g 5 l (s.laneGroup g).rxSpare

/-- R285, R296: what follows a write of SER.SUB_CMD. -/
def subCmdAfter (g : Nat) (w : Written) : State :=
  if w.took.isEmpty then w.s
  else if w.s.on (F.SER_SUB_CMD_DIR g) then startRxSub w.s g (w.s.get (F.SER_SUB_CMD_LOGICAL g))
  else startTxSub w.s g (w.s.get (F.SER_SUB_CMD_LOGICAL g))

/-- R285, R296: a write of SER.SUB_CMD. -/
def subCmdWrite (s : State) (m : Master) (g data : Nat) : State := subCmdAfter g (writeAccess s m (0xF0118 + 0x1000 * g) 4 data)

def execSubCmd (m : Master) (group data : Nat) (s : State) : Host.Outcome State Fault Refusal :=
  live s (subCmdWrite s m (group % 16) data)

/-- R285, R287: a lock loss starts a substitution; with one running for another lane, or no spare on standby, the group fails. -/
def lockLossSub (s : State) (g l : Nat) (transmit : Bool) : State :=
  let ready := if transmit then decide (s.get (F.SER_GROUP_STATE_SPARE g) = 0) else decide ((s.laneGroup g).rxSpareState = 0)
  if (s.laneGroup g).sub = some ⟨transmit, l⟩ then s.set (F.SER_SUB_CMD_RESULT g) 5
  else if (s.laneGroup g).sub.isNone && ready then (if transmit then startTxSub s g l else startRxSub s g l)
  else failGroup s g 5 (if transmit then txLaneOf s g l else 16 + rxLaneOf s g l)

/-- R285: the failures of a logical lane counted over WINDOW_MS; with AUTO the lane that reaches THRESH is substituted. -/
def laneFailures (s : State) (g lanes : Nat) (transmit : Bool) : State :=
  let now := s.now
  let window := s.get (F.SER_SUB_CFG_WINDOW_MS g) * 1000000
  let hit := (setBits lanes 13).filter (fun l => decide (l < logicalLanes g))
  let a := s.setGroup g (fun x => { x with errs := x.errs.filter (fun e => decide (now < e.2 + window)) ++ hit.map (fun l => (l, now)) })
  if !a.on (F.SER_SUB_CFG_AUTO g) then a
  else match hit.find? (fun l => decide (a.get (F.SER_SUB_CFG_THRESH g) ≤ ((a.laneGroup g).errs.filter (fun e => decide (e.1 = l))).length)) with
    | none => a
    | some l =>
      let b := a.setGroup g (fun x => { x with errs := x.errs.filter (fun e => !decide (e.1 = l)) })
      if transmit then startTxSub b g l else startRxSub b g l

/-- R286, R287: LM BRIDGE on a Xiesh group: the spare receive lane is verified: READY, or ABORT with the spare FAILED. -/
def lmBridgeReceived (s : State) (g l : Nat) (good : Bool) : State :=
  let x := s.laneGroup g
  if g < 12 ∨ ¬ groupState s g = 6 ∨ x.sub.isSome = true ∨ ¬ x.rxSpareState = 0 ∨ 8 ≤ l then s
  else if good then
    sendLm ((s.set (F.SER_SUB_CMD_BUSY g) 1).setGroup g (fun y => { y with sub := some ⟨false, l⟩, rxSpareState := 1 })) g 2 l x.rxSpare
  else
    let a := (s.set (F.SER_SUB_CMD_RESULT g) 2).setGroup g (fun y => { y with rxSpareState := 3 })
    laneError (sendLm (failLane a g (16 + x.rxSpare)) g 4 l x.rxSpare) g (16 + x.rxSpare) 2 2

def execLmBridge (group logical : Nat) (good : Bool) (s : State) : Host.Outcome State Fault Refusal :=
  live s (lmBridgeReceived s (group % 16) logical good)

/-- R286: what a completed swap shows. -/
def swapDone (s : State) (g old new l : Nat) : State :=
  let a := failLane (s.setAll [(F.SER_LANE_IN_SERVICE g new, 1), (F.SER_LANE_LOGICAL g new, l), (F.SER_SUB_CMD_BUSY g, 0),
    (F.SER_SUB_CMD_RESULT g, 0)]) g old
  laneError (raiseIrq ((a.bump (F.SER_SUBS_COUNT g)).setGroup g (fun x => { x with sub := none })) (0x0F0 + g) 1) g old 0 1

/-- R286: LM READY on a transmit lane's behalf: LM SWAP is sent, and the spare carries the lane. -/
def lmReadyReceived (s : State) (g l : Nat) : State :=
  if (s.laneGroup g).sub = some ⟨true, l⟩ then
    let old := txLaneOf s g l
    let sp := txSpare s g
    let a := (sendLm s g 3 l sp).setAll [(F.SER_TX_MAP_MAP g, withBits (withBits (s.get (F.SER_TX_MAP_MAP g)) (4 * l) 4 sp) (4 * logicalLanes g) 4 old),
      (F.SER_GROUP_STATE_SPARE g, 2), (F.SER_GROUP_STATE_SPARE_FOR g, l)]
    let b := swapDone a g old sp l
    if g < 12 then b.set (F.PNL_PORT_STATE_SPARE_IN_USE g) 1 else b
  else s

def execLmReady (group logical : Nat) (s : State) : Host.Outcome State Fault Refusal := live s (lmReadyReceived s (group % 16) logical)

/-- R286: LM SWAP: the receiver takes the lane from the spare. -/
def lmSwapReceived (s : State) (g l : Nat) : State :=
  if (s.laneGroup g).sub = some ⟨false, l⟩ then
    let old := rxLaneOf s g l
    let sp := (s.laneGroup g).rxSpare
    let a := (s.set (F.SER_RX_MAP_MAP g) (withBits (s.get (F.SER_RX_MAP_MAP g)) (4 * l) 4 sp)).setGroup g
      (fun x => { x with rxSpare := old, rxSpareState := 2 })
    swapDone a g (16 + old) (16 + sp) l
  else s

def execLmSwap (group logical : Nat) (s : State) : Host.Outcome State Fault Refusal := live s (lmSwapReceived s (group % 16) logical)

/-- R287: LM ABORT: of a transmit substitution, the spare is FAILED; of a receive one, its transmitter has given up. -/
def lmAbortReceived (s : State) (g l : Nat) : State :=
  if (s.laneGroup g).sub = some ⟨true, l⟩ then
    let sp := txSpare s g
    let a := (s.setAll [(F.SER_SUB_CMD_BUSY g, 0), (F.SER_SUB_CMD_RESULT g, 2), (F.SER_GROUP_STATE_SPARE g, 3)]).setGroup g
      (fun x => { x with sub := none })
    laneError (failLane a g sp) g sp 2 2
  else if (s.laneGroup g).sub = some ⟨false, l⟩ then
    (s.setAll [(F.SER_SUB_CMD_BUSY g, 0), (F.SER_SUB_CMD_RESULT g, 4)]).setGroup g (fun x => { x with sub := none, rxSpareState := 0 })
  else s

def execLmAbort (group logical : Nat) (s : State) : Host.Outcome State Fault Refusal := live s (lmAbortReceived s (group % 16) logical)

/-- R285, R287: LM REQUEST: the peer has lost lock on a transmit lane. -/
def lmRequestReceived (s : State) (g l : Nat) : State :=
  if groupState s g = 6 ∧ l < logicalLanes g then lockLossSub s g l true else s

def execLmRequest (group logical : Nat) (s : State) : Host.Outcome State Fault Refusal := live s (lmRequestReceived s (group % 16) logical)

/-- R287: 200 µs pass after BRIDGE. -/
def subTimeout (s : State) (g : Nat) : State :=
  match (s.laneGroup g).sub with
  | some ⟨true, l⟩ =>
    let a := (s.setAll [(F.SER_SUB_CMD_BUSY g, 0), (F.SER_SUB_CMD_RESULT g, 3), (F.SER_GROUP_STATE_SPARE g, 0)]).setGroup g
      (fun x => { x with sub := none })
    laneError (sendLm a g 4 l (txSpare a g)) g (txLaneOf a g l) 3 0
  | _ => s

def execSubstitutionTimeout (group : Nat) (s : State) : Host.Outcome State Fault Refusal := live s (subTimeout s (group % 16))

/-! ### Symbol lock (R274, R284, R288) -/

/-- R274, R284, R285, R288: a receive lane loses symbol lock. -/
def lockLost (s : State) (g lane : Nat) : State :=
  if ¬ groupState s g = 6 then s
  else if g < 12 then (if lane = 16 then s.setGroup g (fun x => { x with relocking := true }) else s)
  else match (List.range 8).find? (fun l => decide (16 + rxLaneOf s g l = lane)) with
    | some l => lockLossSub s g l false
    | none => s

def execSymbolLockLoss (group lane : Nat) (s : State) : Host.Outcome State Fault Refusal := live s (lockLost s (group % 16) lane)

/-- R288: the back-channel is locked again. -/
def lockRegained (s : State) (g lane : Nat) : State :=
  if lane = 16 ∧ (s.laneGroup g).relocking = true then
    (s.bump (F.SER_RELOCKS_COUNT g)).setGroup g (fun x => { x with relocking := false })
  else s

def execSymbolLockRegained (group lane : Nat) (s : State) : Host.Outcome State Fault Refusal := live s (lockRegained s (group % 16) lane)

/-- R288: lock is not regained within 2 ms. -/
def relockTimeout (s : State) (g : Nat) : State := if (s.laneGroup g).relocking then failGroup s g 6 16 else s

def execBackchannelRelockTimeout (group : Nat) (s : State) : Host.Outcome State Fault Refusal := live s (relockTimeout s (group % 16))

/-! ### Eye scans (R290) -/

/-- R290: what follows a write of SER.EYE_CTRL. -/
def eyeCtrlAfter (g : Nat) (w : Written) : State :=
  if w.tookField (F.SER_EYE_CTRL_START g) = some 1 then w.s.setAll [(F.SER_EYE_CTRL_BUSY g, 1), (F.SER_EYE_CTRL_ABORTED g, 0)] else w.s

/-- R290: a write of SER.EYE_CTRL. -/
def eyeCtrlWrite (s : State) (m : Master) (g data : Nat) : State := eyeCtrlAfter g (writeAccess s m (0xF0300 + 0x1000 * g) 4 data)

def execEyeScanStart (m : Master) (group data : Nat) (s : State) : Host.Outcome State Fault Refusal :=
  live s (eyeCtrlWrite s m (group % 16) (withBit data 31))

/-- R290: a scan's dwell ends. -/
def eyeScanEnd (s : State) (g errors : Nat) : State :=
  if s.on (F.SER_EYE_CTRL_BUSY g) then
    raiseIrq (s.setAll [(F.SER_EYE_CTRL_BUSY g, 0), (F.SER_EYE_ERRORS_COUNT g, Nat.min errors (2 ^ 32 - 1))]) (0x0F0 + g) 4
  else s

def execEyeScanDone (group errors : Nat) (s : State) : Host.Outcome State Fault Refusal := live s (eyeScanEnd s (group % 16) errors)

/-! ### Loop-backs (R292 to R294) -/

/-- R293: the loop of a group ends: for a far-end loop LOOP(0) is sent first, and the group reads OFF. -/
def leaveLoop (s : State) (g mode : Nat) : State :=
  let a := if 3 ≤ mode ∧ groupState s g = 7 then s.emit (.ordered g 4 [0, s.get (F.SER_LOOP_LANE g)]) else s
  if groupState a g = 0 then a else groupOff a g

/-- R293: the loop of a mode is entered: the near-end modes at once, the far-end ones through training. -/
def enterLoop (s : State) (g mode : Nat) : State :=
  if mode = 0 then s
  else if mode < 3 then raiseIrq (s.set (F.SER_GROUP_STATE_STATE g) 7) (0x0F0 + g) 5
  else startAttempt s g 1

/-- R293: what follows a write of SER.LOOP. -/
def loopAfter (s : State) (g : Nat) (w : Written) : State :=
  let old := s.get (F.SER_LOOP_MODE g)
  match w.tookField (F.SER_LOOP_MODE g) with
  | some mode => if mode = old then w.s else enterLoop (if old = 0 then w.s else leaveLoop w.s g old) g mode
  | none => w.s

/-- R293: a write of SER.LOOP. -/
def loopWrite (s : State) (m : Master) (g data : Nat) : State := loopAfter s g (writeAccess s m (0xF0310 + 0x1000 * g) 4 data)

def execLoopModeWrite (m : Master) (group data : Nat) (s : State) : Host.Outcome State Fault Refusal :=
  live s (loopWrite s m (group % 16) data)

/-- R293: a LOOP set from a Xiesh peer: the loop is entered, or with mode 0 left. -/
def loopReceived (s : State) (g mode : Nat) : State :=
  if g < 12 then s
  else if mode = 0 then (if (s.laneGroup g).peerLoop = 0 then s else leavePeerLoop s g)
  else if (mode = 3 ∨ mode = 4) ∧ (groupState s g = 5 ∨ groupState s g = 6) then
    let a := linkDown s (g - 12) 1
    raiseIrq ((a.set (F.SER_GROUP_STATE_STATE g) 7).setGroup g (fun x => { x with peerLoop := mode })) (0x0F0 + g) 5
  else s

def execLoopCommand (group mode _lane : Nat) (s : State) : Host.Outcome State Fault Refusal := live s (loopReceived s (group % 16) mode)

/-- R293: 1 ms of electrical idle ends a peer's loop. -/
def loopIdle (s : State) (g : Nat) : State := if (s.laneGroup g).peerLoop = 0 then s else leavePeerLoop s g

def execLoopElectricalIdleTimeout (group : Nat) (s : State) : Host.Outcome State Fault Refusal := live s (loopIdle s (group % 16))

/-- R294: the checker has compared some bits and found some errors. -/
def countPattern (s : State) (g errors bits : Nat) : State :=
  let all := (s.laneGroup g).bits + bits
  ((s.bumpBy (F.SER_PAT_ERR_COUNT g) errors).bumpBy (F.SER_PAT_BITS_COUNT g) (all / 65536)).setGroup g (fun x => { x with bits := all % 65536 })

/-- R294, R295: the coded counter's segment of a logical lane of a LINE packet. -/
def counterSegment (lane : Nat) : List Byte := (List.range 2880).map (fun j => BitVec.ofNat 8 (2880 * lane + j))

/-- R295: an ECHO packet in a panel mode 4 loop, its segment compared with the one sent. -/
def echoReceived (s : State) (b lane : Nat) (segment : List Byte) : State :=
  if b < 12 ∧ groupState s b = 7 ∧ s.get (F.SER_LOOP_MODE b) = 4 ∧ s.get (F.SER_PAT_CTRL_GEN b) = 4 ∧ s.on (F.SER_PAT_CTRL_CHK_EN b) = true then
    let sent := counterSegment lane
    countPattern s b ((List.range 2880).filter (fun j => !decide (segment[j]? = sent[j]?))).length (2880 * 8)
  else s

def execEcho (port _line lane : Nat) (_failed : Bool) (segment : List Byte) (s : State) : Host.Outcome State Fault Refusal :=
  live s (echoReceived s port lane segment)

end Sys2Proof.Machine
end

