-- ==== Sys2Proof/Machine/Lines.lean ====
section
/-! DEFINITION. Machine/Lines.lean: from lots to panel lines: the points of a band's plan (R134 to R137, R140, R164, R165),
due lines (R135, R220, R256, R257), write windows and their line slots (R251), and strobes (R261, R263). -/

namespace Sys2Proof.Machine

/-! ### Lots and spans -/

/-- R163, R164, R266: RELEASE of a band is reached in light-field output. -/
def releasePoint (s : State) (b : Nat) : State :=
  if s.on F.DRU_STATE_LF_OUT ∧ s.pnl.step < 20 then releaseBand s b else s

def execReleasePoint (band : Nat) (s : State) : Host.Outcome State Fault Refusal := live s (releasePoint s band)

/-- R134, R164, R263: the next lot of a band is released. -/
def nextLot (s : State) (b : Nat) : State :=
  match planFor s b (fun p => decide (p.released < 68) && !p.closed && !decide (p.mode = 2)) with
  | some p => releaseLot s p
  | none => s

def execLotRelease (band : Nat) (s : State) : Host.Outcome State Fault Refusal := live s (nextLot s band)

def execLotDispatch (stall engine : Nat) (s : State) : Host.Outcome State Fault Refusal := live s (dispatchLot s stall engine)

/-- R460, R451: an error injected into the cache of a stall is met by the next read that fills it: corrected, or the line
fetched anew. -/
def cacheInjection (s : State) (stall : Nat) : State :=
  if injectArmed s 1 stall then injected s (fun t => macroError t (0x060 + stall) 1 stall) else s

/-- R137: an engine's lot takes its next span; a residue mismatch injected into the engine fails it (R140, R460). -/
def spanDone (s : State) (stall engine : Nat) : State :=
  match runningLot s stall engine with
  | some l =>
    if s.on F.ERR_INJECT_ARM && decide (s.get F.ERR_INJECT_KIND = 3) && decide (s.get F.ERR_INJECT_UNIT = stall * 16 + engine) then
      injected s (fun t => failEngine t stall engine 2)
    else depositSpan (cacheInjection s stall) l
  | none => s

def execSpanDeposit (stall engine : Nat) (s : State) : Host.Outcome State Fault Refusal := live s (spanDone s stall engine)

/-- R137: a band's next line leaves the assembly area. -/
def nextMove (s : State) (b : Nat) : State :=
  match planFor s b (fun p => decide (p.moved < 540) && !p.closed && !decide (p.mode = 2)) with
  | some p => moveLine s p
  | none => s

def execLineMove (band : Nat) (s : State) : Host.Outcome State Fault Refusal := live s (nextMove s band)

/-- R140: the code of an engine's failure. -/
def engineCode (why : EngineFault) : Nat := match why with | .storage => 1 | .residue => 2 | .sequencer => 4

def execEngineFailure (stall engine : Nat) (why : EngineFault) (s : State) : Host.Outcome State Fault Refusal :=
  live s (failEngine s stall engine (engineCode why))

/-- R140: an engine that has run its lot too long has failed. -/
def lotTimedOut (s : State) (stall engine : Nat) : State :=
  if (runningLot s stall engine).isSome then failEngine s stall engine 3 else s

def execLotTimeout (stall engine : Nat) (s : State) : Host.Outcome State Fault Refusal := live s (lotTimedOut s stall engine)

/-! ### Due lines -/

/-- The plan as State holds it now. -/
def planNow (s : State) (p : Plan) : Plan :=
  (s.drum.plans.find? (fun q => decide (q.band = p.band) && decide (q.subframe = p.subframe))).getD p

/-- R16: the last line of the lot that holds a line. -/
def lotLastLine (line : Nat) : Nat := Nat.min (line / 8 * 8 + 7) 539

/-- R136: a lot whose last line falls due is abandoned. -/
def abandonDue (s : State) (p : Plan) (line : Nat) : State :=
  if line = lotLastLine line then
    match lotOfLine s p line with
    | some l => if l.live then abandonLot s l else s
    | none => s
  else s

/-- R135, R137, R220, R256, R257: a band's next line falls due: what has come is moved, the missing spans are filled, the line
is composed and goes through overdrive. -/
def dueLine (s : State) (p : Plan) : State :=
  let line := p.due
  let a := if p.moved ≤ line then takeLine s p line else s
  let q := planNow a p
  let filled := fillLine q line
  let b := countUnderrun a p.band filled.2
  let c := protLine b q line
  let od := overdriveLine c p.subframe (540 * p.band + line) (composeLine c q line filled.1)
  let last := filled.1.getLast?.getD q.tail
  let d := setPlan od.1 p (fun x =>
    { x with due := line + 1, tail := last, buffer := x.buffer.filter (fun e => !decide (e.1 / 16 = line)),
             ready := x.ready ++ [(line, od.2)] })
  abandonDue d p line

/-- R135: a band's next line falls due. -/
def nextDue (s : State) (b : Nat) : State :=
  match planFor s b (fun p => decide (p.due < 540) && !p.closed && !decide (p.mode = 2)) with
  | some p => dueLine s p
  | none => s

def execLineDue (band : Nat) (s : State) : Host.Outcome State Fault Refusal := live s (nextDue s band)

/-! ### Windows -/

/-- R246: the header of a LINE, WINDOW_START or WINDOW_END packet of a plan. -/
def windowHeader (p : Plan) (typ length line arg : Nat) : List Byte :=
  folovHeader typ p.band 0 length line p.facet p.mode (p.subframe % 2 ^ 32) arg

/-- R263: a pulse train of parked output that still runs on a band is cut short at its next write start. -/
def cutTrain (s : State) (b : Nat) : State :=
  if s.drum.plans.any (fun p => decide (p.band = b) && decide (p.mode = 1) && p.closed) then
    (zoneOff (zoneOff s (2 * b)) (2 * b + 1)).setDrum (fun d =>
      { d with plans := d.plans.filter (fun p => !(decide (p.band = b) && decide (p.mode = 1) && p.closed)) })
  else s

/-- R251, R259: a band's write window starts. -/
def writeStart (s : State) (b : Nat) : State :=
  match planFor s b (fun p => !p.started && !p.closed) with
  | none => s
  | some p =>
    let a := cutTrain s b
    let c := if p.mode = 2 then a else latchTables a b
    (setPlan c p (fun x => { x with started := true })).emit (.folov b (windowHeader p 2 0 0 (p.period.toNat * 65536)))

def execWriteStartPoint (band : Nat) (s : State) : Host.Outcome State Fault Refusal := live s (writeStart s band)

/-- R265: a line at the neutral level. -/
def neutralLine (s : State) : List Nat := List.replicate 34560 (s.get F.PNL_NEUTRAL_LEVEL)

/-- R251, R257: a line leaves in its slot. -/
def sendLine (s : State) (p : Plan) (drive : List Nat) : State :=
  let line := p.sent
  let a := s.emit (.folovLine p.band (windowHeader p 1 34560 line 0) drive)
  passLine (setPlan a p (fun x => { x with sent := line + 1, ready := x.ready.filter (fun e => !decide (e.1 = line)) })) p.band line

/-- R251: a band's next line slot begins. A line always exists: one that has not fallen due is due now. -/
def lineSlot (s : State) (b : Nat) : State :=
  match planFor s b (fun p => p.started && !p.closed && decide (p.sent < 540)) with
  | none => s
  | some p =>
    if p.mode = 2 then sendLine s p (neutralLine s)
    else
      let a := if p.due ≤ p.sent then dueLine s p else s
      sendLine a p (driveLine a b ((assoc (planNow a p).ready p.sent).getD []))

def execLineSlotStart (band : Nat) (s : State) : Host.Outcome State Fault Refusal := live s (lineSlot s band)

/-- R136, R251: a band's write deadline passes: WINDOW_END, and its lots are abandoned. A neutral window is followed by the
next, or by the next step of its sequence. -/
def writeDeadline (s : State) (b : Nat) : State :=
  match planFor s b (fun p => p.started && !p.closed) with
  | none => s
  | some p =>
    let a := s.emit (.folov b (windowHeader p 3 0 0 0))
    if p.mode = 2 then
      (if a.pnl.step = 21 then
        offWindowsNext (a.setDrum (fun d => { d with plans := d.plans.filter (fun q => !(decide (q.band = b) && decide (q.mode = 2))) }))
       else neutralEnded a p)
    else offWindowsNext (setPlan (dropLots a p) p (fun x => { x with closed := true, ready := [], buffer := [] }))

def execWriteDeadlinePoint (band : Nat) (s : State) : Host.Outcome State Fault Refusal := live s (writeDeadline s band)

/-! ### Strobes -/

/-- R261: the zones of a plan begin to strobe. -/
def zonesOn (s : State) (p : Plan) : State :=
  let a := if hasBit p.zoneEn 0 then zoneOn s p (2 * p.band) else s
  if hasBit p.zoneEn 1 then zoneOn a p (2 * p.band + 1) else a

/-- R165: how far the drum has departed from a plan at its strobe, in sub-counts of the optical angle. -/
def planDeparture (s : State) (p : Plan) : Int :=
  let t := theta s.drum s.now
  iabs (t + corrOf s.drum.corr t - (p.xOn + corrOf s.drum.corr p.xOn))

/-- R165, R261, R263: a band's strobe is due to begin; in light-field output it is suppressed where the drum has departed from
the plan by more than PLAN_TOL counts. -/
def strobeOn (s : State) (b : Nat) : State :=
  match planFor s b (fun p => p.closed && decide (p.strobe = 0)) with
  | none => s
  | some p =>
    if p.mode = 0 ∧ ((s.get F.DRU_PLAN_TOL_COUNTS * 128 : Nat) : Int) < planDeparture s p then
      raiseIrq ((setPlan s p (fun x => { x with strobe := 2 })).bump F.DRU_STROBE_SKIPS_COUNT) 0x080 4
    else setPlan (zonesOn s p) p (fun x => { x with strobe := 1 })

def execStrobeOnPoint (band : Nat) (s : State) : Host.Outcome State Fault Refusal := live s (strobeOn s band)

/-- R261, R263: a band's strobe ends; a parked pulse is followed by the next of its train. -/
def strobeOff (s : State) (b : Nat) : State :=
  match planFor s b (fun p => decide (p.strobe = 1)) with
  | none => s
  | some p => setPlan (zoneOff (zoneOff s (2 * b)) (2 * b + 1)) p (fun x => { x with strobe := if p.mode = 1 ∧ s.pnl.step < 20 then 0 else 2 })

def execStrobeOffPoint (band : Nat) (s : State) : Host.Outcome State Fault Refusal := live s (strobeOff s band)

end Sys2Proof.Machine
end

