-- ==== Sys2Proof/Machine/Panels.lean ====
section
/-! DEFINITION. Machine/Panels.lean: what the panel drivers send on the back-channels (R249, R250, R252 to R255) and the host's
driver and power commands (R266 to R269). The SENSOR packets stand in Machine/Thermal.lean. -/

namespace Sys2Proof.Machine

/-- R266, R267: a sequence goes on once a port no longer keeps it waiting. -/
def settlePanel (s : State) : State := if s.pnl.step = 24 ∧ s.pnl.discharging = [] then goDark s else panelAdvance s

/-! ### The back-channel -/

/-- R252: failed segments and header mismatches counted, and the lanes' policy told. -/
def lineStatus (s : State) (b segments : Nat) (mismatch : Bool) : State :=
  let bad := setBits segments 12
  let a := bad.foldl (fun t l => t.bump (F.PNL_LANE_ERR_COUNT b l)) (s.bumpBy (F.PNL_SEG_ERRORS_COUNT b) bad.length)
  let c := if bad.isEmpty then a else raiseIrq a (0x0D0 + b) 1
  let d := if mismatch then c.bump (F.PNL_HDR_MISMATCH_COUNT b) else c
  laneFailures d b (segments % 4096) true

def execLineStatus (port _line segments : Nat) (mismatch : Bool) (s : State) : Host.Outcome State Fault Refusal :=
  live s (lineStatus s (port % 12) segments mismatch)

/-- R250: an ACK: done, refused, or sent again; one with an SEQ not outstanding is discarded. -/
def ackReceived (s : State) (b seq code : Nat) : State :=
  match ctrlOf s b seq with
  | none => s
  | some c =>
    if c.typ = 0x10 ∨ c.typ = 0x13 then
      (if code = 2 then settlePanel (retryCtrl s c)
       else if c.typ = 0x10 then drvDone (endCtrl s c) b (if code = 0 then 0 else 2)
       else endCtrl s c)
    else s

def execFolovAck (port seq code : Nat) (s : State) : Host.Outcome State Fault Refusal := live s (ackReceived s (port % 12) seq code)

/-- R250, R268: a register's value comes back. -/
def regDataReceived (s : State) (b seq value : Nat) : State :=
  match ctrlOf s b seq with
  | some c => if c.typ = 0x11 then drvDone ((endCtrl s c).set (F.PNL_DRV_DATA_DATA b) value) b 0 else s
  | none => s

def execRegData (port seq value : Nat) (s : State) : Host.Outcome State Fault Refusal := live s (regDataReceived s (port % 12) seq value)

/-- R255: a chunk whose CRC fails is read again up to three times; then the port is held. -/
def chunkFailed (s : State) (b off : Nat) : State :=
  let k := b * 2 ^ 32 + off
  let n := mapVal s.pnl.failed k
  if n < 3 then
    pumpModel 4 (s.setPnl (fun p => { p with failed := mapPut p.failed k (n + 1), toRead := (b, off) :: p.toRead })) b
  else holdPort s b 4

/-- R253 to R255, R265: the bytes of a MODEL_READ: a descriptor, or a chunk followed by its CRC. -/
def modelReceived (s : State) (b seq : Nat) (bytes : List Byte) : State :=
  match ctrlOf s b seq with
  | none => s
  | some c =>
    if ¬ c.typ = 0x12 then s
    else
      let a := endCtrl s c
      let off := c.arg % 2 ^ 32
      if c.arg / 2 ^ 32 = 256 then
        (if a.pnl.step = 12 then panelAdvance (a.setPnl (fun p => { p with descs := assocPut p.descs b bytes })) else lateDesc a b bytes)
      else if bytes.length = 4100 ∧ leAt bytes 4096 4 = crc32c (bytes.take 4096) then
        panelAdvance (pumpModel 4 (takeChunk a b off (bytes.take 4096)) b)
      else panelAdvance (chunkFailed a b off)

def execModelData (port seq : Nat) (bytes : List Byte) (s : State) : Host.Outcome State Fault Refusal :=
  live s (modelReceived s (port % 12) seq bytes)

/-- R249, R266, R268: an EVENT packet. -/
def eventReceived (s : State) (b code : Nat) : State :=
  let a := raiseIrq ((s.bump (F.PNL_DRV_EVENT_COUNT b)).set (F.PNL_DRV_EVENT_LAST b) code) (0x0D0 + b) 2
  let c := if code = 1 ∨ code = 2 ∨ code = 4 then raiseIrq a 0x0DC 2 else a
  if code = 3 then dischargeDone c b else c

def execPanelEvent (port code : Nat) (s : State) : Host.Outcome State Fault Refusal := live s (eventReceived s (port % 12) code)

/-- R250: an answer has not come in time. -/
def answerLate (s : State) (b seq : Nat) : State :=
  match ctrlOf s b seq with
  | some c => settlePanel (retryCtrl s c)
  | none => s

def execCtrlAnswerTimeout (port seq : Nat) (s : State) : Host.Outcome State Fault Refusal := live s (answerLate s (port % 12) seq)

/-! ### Commands -/

/-- R268: what an accepted write of PNL.DRV_CMD starts. -/
def startDrvCmd (s : State) (m : Master) (b : Nat) : State :=
  let addr := s.get (F.PNL_DRV_CMD_ADDR b)
  if s.on (F.PNL_DRV_CMD_BUSY b) then s.set (F.PNL_DRV_STATUS_CODE b) 3
  else if 0x8000 ≤ addr ∧ m.ozzizo = false then drvDone s b 4
  else if !portReady s b then drvDone s b 3
  else
    let a := s.set (F.PNL_DRV_CMD_BUSY b) 1
    if a.on (F.PNL_DRV_CMD_OP b) then sendCtrl a b 0x10 (addr + a.get (F.PNL_DRV_DATA_DATA b) * 65536) else sendCtrl a b 0x11 addr

/-- R268: what follows a write of PNL.DRV_CMD. -/
def drvCmdAfter (m : Master) (b : Nat) (w : Written) : State :=
  if w.took.isEmpty then w.s else startDrvCmd w.s m b

/-- R268: a write of PNL.DRV_CMD. -/
def drvCmdWrite (s : State) (m : Master) (b data : Nat) : State := drvCmdAfter m b (writeAccess s m (0xD0180 + 0x1000 * b) 4 data)

def execDrvRegRead (m : Master) (port addr : Nat) (s : State) : Host.Outcome State Fault Refusal :=
  live s (drvCmdWrite s m (port % 12) (addr % 65536))

def execDrvRegWrite (m : Master) (port addr : Nat) (s : State) : Host.Outcome State Fault Refusal :=
  live s (drvCmdWrite s m (port % 12) (2 ^ 24 + addr % 65536))

/-- R264, R269: what follows a write of PNL.LR_KICK. -/
def lrKickAfter (w : Written) : State :=
  if w.tookField F.PNL_LR_KICK_KICK = some 1 then w.s.setPnl (fun p => { p with changed := true }) else w.s

/-- R264, R269: a write of PNL.LR_KICK. -/
def lrKickWrite (s : State) (m : Master) (data : Nat) : State := lrKickAfter (writeAccess s m 0xDC10C 4 data)

def execLrKick (m : Master) (data : Nat) (s : State) : Host.Outcome State Fault Refusal := live s (lrKickWrite s m data)

end Sys2Proof.Machine
end

