-- ==== Sys2Proof/Machine/RayCmds.lean ====
section
/-! DEFINITION. Machine/RayCmds.lean: choosing a kernel (R131, R132), host lenslet builds (R122, R123), kernel packages (R133),
and what of them a subframe boundary puts into force (R23, R145, R146). -/

namespace Sys2Proof.Machine

/-! ### Kernels -/

/-- R145: an ARM of KSEL ends with a code. -/
def kselEnd (s : State) (code : Nat) : State := raiseIrq (s.set F.RSY_KSEL_STATUS_CODE code) 0x070 0

/-- R132: is a kernel in a slot, and may the host select it? -/
def kernelIn (s : State) (slot id : Nat) : Option Bool :=
  if s.on (F.RSY_PKG_INFO_VALID slot) then
    (((assoc s.rsy.packages slot).getD []).find? (fun k => decide (k.1 = id))).map Prod.snd
  else none

/-- R132: the bytes of a parameter block: of a kernel of the base package as many as its table gives, of another as many as
its header says. -/
def fetchBlock (s : State) (slot id addr : Nat) : State × Option (List Byte) :=
  if slot = 0 then dramFetch s 7 addr ((blockSize id).getD 4)
  else match dramFetch s 7 addr 4 with
    | (t, none) => (t, none)
    | (t, some h) => dramFetch t 7 addr (Nat.max (leAt h 2 2) 4)

/-- R132: the selection is checked, and its block read; the load runs, or the ARM ends with the reason. -/
def kselCheck (s : State) (m : Master) : State :=
  let slot := s.get F.RSY_KSEL_SLOT
  let id := s.get F.RSY_KSEL_KERNEL
  let addr := s.get F.RSY_KPARAM_ADDR_ADDR
  let load (t : State) (b : List Byte) : State :=
    (t.set F.RSY_KSEL_STATUS_BUSY 1).setRsy (fun r => { r with loading := some ⟨slot, id, addr, b⟩ })
  match kernelIn s slot id with
  | none => kselEnd s 1
  | some host =>
    if !host && !m.ozzizo then kselEnd s 2
    else if addr = 0 then load s []
    else match fetchBlock s slot id (addr * 64) with
      | (t, none) => kselEnd t 4
      | (t, some b) => if blockOk slot id b then load t b else kselEnd t 3

/-- R132, R145: what follows a write of RSY.KSEL_ARM. -/
def kselArmAfter (m : Master) (w : Written) : State :=
  if w.tookField F.RSY_KSEL_ARM_ARM = some 1 then
    (if w.s.on F.RSY_KSEL_STATUS_BUSY then kselEnd w.s 5 else kselCheck w.s m)
  else w.s

/-- R132, R145: a write of RSY.KSEL_ARM. -/
def kselArmWrite (s : State) (m : Master) (data : Nat) : State := kselArmAfter m (writeAccess s m 0x70118 4 data)

def execKselArm (m : Master) (data : Nat) (s : State) : Host.Outcome State Fault Refusal := live s (kselArmWrite s m data)

/-- R132: the block is in the parameter store; it comes into force at the next boundary. -/
def kselLoaded (s : State) : State :=
  match s.rsy.loading with
  | some k => kselEnd ((s.set F.RSY_KSEL_STATUS_BUSY 0).setRsy (fun r => { r with loading := none, loaded := some k })) 0
  | none => s

def execKselLoadDone (s : State) : Host.Outcome State Fault Refusal := live s (kselLoaded s)

/-- R132, R145: the band's kernel shown, but for a band that a groom pass has taken. -/
def showKernels (s : State) (taken : Option Nat) : State :=
  s.setAll ((List.range 12).flatMap (fun b =>
    if taken = some b then [(F.RSY_BAND_KERNEL_SLOT b, 0), (F.RSY_BAND_KERNEL_KERNEL b, 0x0200)]
    else [(F.RSY_BAND_KERNEL_SLOT b, s.rsy.kernel.slot), (F.RSY_BAND_KERNEL_KERNEL b, s.rsy.kernel.id)]))

/-- R132: the boundary puts a loaded kernel into force. -/
def boundaryKernel (s : State) : State :=
  match s.rsy.loaded with
  | none => s
  | some k =>
    let why := if s.rsy.slotLost then 3 else 0
    let a := s.setRsy (fun r => { r with kernel := k, loaded := none, slotLost := false })
    let b := if a.get F.RSY_KSEL_EFF_SLOT = k.slot ∧ a.get F.RSY_KSEL_EFF_KERNEL = k.id then a
      else setMirrors a 0x070 0x908 [(F.RSY_KSEL_EFF_SLOT, k.slot), (F.RSY_KSEL_EFF_KERNEL, k.id)] why
    moveMirror b 0x070 0x910 F.RSY_KPARAM_ADDR_EFF_ADDR k.addr why

/-! ### Host lenslet builds -/

/-- R145, R146: an ARM of LDELTA is refused. -/
def ldeltaRefuse (s : State) (code : Nat) : State := raiseIrq (s.set F.RSY_LDELTA_STATUS_CODE code) 0x070 1

/-- R85, R122: the bytes of an unpacked LENSLET_DELTA object. -/
def ldeltaObject (s : State) : State × Option (List Byte) :=
  let a := s.get F.RSY_LDELTA_ADDR_ADDR * 64
  match dramFetch s 7 a 16 with
  | (t, none) => (t, none)
  | (t, some h) => if auxLimit 0x32 < 16 + 32 * leAt h 0 4 then (t, some h) else dramFetch t 7 a (16 + 32 * leAt h 0 4)

/-- R123: a host build begins, or is held behind Ozzizo's. -/
def hostBuild (s : State) (host : List (Nat × LensDelta)) : State :=
  let a := s.set F.RSY_LDELTA_STATUS_CODE 0
  match a.rsy.lens.build with
  | some _ => (a.set F.RSY_LDELTA_STATUS_PENDING 1).setRsy (fun r => { r with lens := { r.lens with heldHost := some host } })
  | none => (a.set F.RSY_LDELTA_STATUS_BUSY 1).setRsy (fun r =>
      { r with lens := { r.lens with build := some ⟨true, r.lens.groom, host, none, false⟩ } })

/-- R122, R123: the object checked and built. -/
def ldeltaArm (s : State) (first : Nat) : State :=
  let busy := s.rsy.lens.heldHost.isSome || (match s.rsy.lens.build with | some b => b.fromHost | none => false)
  if busy then ldeltaRefuse s 5
  else if 647 < first then ldeltaRefuse s 3
  else match ldeltaObject s with
    | (t, none) => ldeltaRefuse t 4
    | (t, some b) => if lensObjectOk b first then hostBuild t (lensObjectApply t.rsy.lens.host b first) else ldeltaRefuse t 3

/-- R123, R145: what follows a write of RSY.LDELTA_ARM. -/
def ldeltaArmAfter (w : Written) : State :=
  if w.tookField F.RSY_LDELTA_ARM_ARM = some 1 then ldeltaArm w.s ((w.tookField F.RSY_LDELTA_ARM_FIRST_ROW).getD 0) else w.s

/-- R123, R145: a write of RSY.LDELTA_ARM. -/
def ldeltaArmWrite (s : State) (m : Master) (data : Nat) : State := ldeltaArmAfter (writeAccess s m 0x70128 4 data)

def execLdeltaArm (m : Master) (data : Nat) (s : State) : Host.Outcome State Fault Refusal := live s (ldeltaArmWrite s m data)

/-- R123: the build that runs is complete. -/
def buildDone (s : State) : State :=
  s.setRsy (fun r => { r with lens := { r.lens with build := r.lens.build.map (fun b => { b with complete := true }) } })

def execLensletBuildDone (s : State) : Host.Outcome State Fault Refusal := live s (buildDone s)

/-- R123, R402: the optics that accompany a table: TAN_PER_PITCH, FACET_SLOPE, the eight FACET_OFFSETs. -/
def applyOptics (s : State) (l : List Int) : State :=
  let a := (s.set F.RSY_TAN_PER_PITCH_VALUE (l.getD 0 0).toNat).setInt F.RSY_FACET_SLOPE_VALUE (l.getD 1 0)
  (List.range 8).foldl (fun t f => t.setInt (F.RSY_FACET_OFFSET_VALUE f) (l.getD (2 + f) 0)) a

/-- R123: the build that waited starts once the one before it is in force. -/
def nextBuild (s : State) (fromHost : Bool) : State :=
  let n := s.rsy.lens
  if fromHost then
    match n.heldGroom with
    | some b =>
      let next : LensBuild := { b with host := n.host }
      s.setRsy (fun r => { r with lens := { r.lens with build := some next, heldGroom := none } })
    | none => s
  else match n.heldHost with
    | some h =>
      let next : LensBuild := ⟨true, n.groom, h, none, false⟩
      (s.setAll [(F.RSY_LDELTA_STATUS_PENDING, 0), (F.RSY_LDELTA_STATUS_BUSY, 1)]).setRsy (fun r =>
        { r with lens := { r.lens with build := some next, heldHost := none } })
    | none => s

/-- R123: the copies exchange roles: a build comes into force. -/
def exchangeLens (s : State) (b : LensBuild) : State :=
  let a := s.setRsy (fun r => { r with lens := { r.lens with groom := b.groom, host := b.host, build := none } })
  let c := match b.optics with | some l => applyOptics a l | none => a
  let d := if b.fromHost then raiseIrq (c.set F.RSY_LDELTA_STATUS_BUSY 0) 0x070 1 else c
  nextBuild { d with pnl := { d.pnl with changed := true } } b.fromHost

/-- R123, R400: the boundary puts a complete host build into force, which abandons a groom pass; a groom build waits for its
correction set (R402). -/
def boundaryLens (s : State) : State :=
  match s.rsy.lens.build with
  | none => s
  | some b => if b.complete && b.fromHost then groomAbandon (exchangeLens s b) 3 else s

/-- R123: a groom build starts, or waits for the host build that runs, and then includes its deltas. -/
def groomBuild (s : State) (groom : List (Nat × LensDelta)) (optics : Option (List Int)) : State :=
  match s.rsy.lens.build with
  | none => s.setRsy (fun r => { r with lens := { r.lens with build := some ⟨false, groom, r.lens.host, optics, false⟩ } })
  | some _ => s.setRsy (fun r => { r with lens := { r.lens with heldGroom := some ⟨false, groom, r.lens.host, optics, false⟩ } })

/-! ### Kernel packages -/

/-- R145, R146: an install ends with a code. -/
def pkgEnd (s : State) (code : Nat) : State := raiseIrq (s.set F.RSY_PKG_STATUS_CODE code) 0x070 2

/-- R133: an install begins, or is refused. -/
def pkgStart (s : State) (busy : Bool) (slot : Nat) : State :=
  let names (k : Option Kernel) : Bool := match k with | some x => decide (x.slot = slot) | none => false
  if busy then pkgEnd s 5
  else if slot = 0 then pkgEnd s 8
  else if s.rsy.kernel.slot = slot ∨ names s.rsy.loading = true ∨ names s.rsy.loaded = true then pkgEnd s 7
  else (s.set F.RSY_PKG_CMD_BUSY 1).setRsy (fun r => { r with installing := some slot })

/-- R133: what follows a write of RSY.PKG_CMD. -/
def pkgCmdAfter (s : State) (w : Written) : State :=
  if w.took.isEmpty then w.s else pkgStart w.s (s.on F.RSY_PKG_CMD_BUSY) (w.s.get F.RSY_PKG_CMD_SLOT)

/-- R133: a write of RSY.PKG_CMD. -/
def pkgCmdWrite (s : State) (m : Master) (data : Nat) : State := pkgCmdAfter s (writeAccess s m 0x70138 4 data)

def execPkgCmd (m : Master) (slot : Nat) (s : State) : Host.Outcome State Fault Refusal := live s (pkgCmdWrite s m slot)

/-- R133: Ozzizo's verification ends. -/
def pkgDone (s : State) (o : PkgOutcome) : State :=
  match s.rsy.installing with
  | none => s
  | some slot =>
    let a := (s.set F.RSY_PKG_CMD_BUSY 0).setRsy (fun r => { r with installing := none })
    match o with
    | .fetchError => pkgEnd a 4
    | .badSignature => pkgEnd a 6
    | .ok version kernels =>
      pkgEnd ((a.setAll [(F.RSY_PKG_INFO_VERSION slot, version), (F.RSY_PKG_INFO_VALID slot, 1),
        (F.RSY_PKG_INFO_KERNELS slot, kernels.length)]).setRsy (fun r => { r with packages := assocPut r.packages slot kernels })) 0

def execPkgInstallDone (o : PkgOutcome) (s : State) : Host.Outcome State Fault Refusal := live s (pkgDone s o)

end Sys2Proof.Machine
end

