-- ==== Sys2Proof/Machine/Drums.lean ====
section
/-! DEFINITION. Machine/Drums.lean: the drum's events: encoder edges and the index (R149 to R157), loss and failure (R157,
R158), speeds (R167), parking (R168) and the swap of schedule banks (R162). -/

namespace Sys2Proof.Machine

/-- R157: may an encoder loss be detected: the drum turns or is to turn? -/
def drumTurning (s : State) : Bool := decide (1 ≤ s.get F.DRU_STATE_STATE) && decide (s.get F.DRU_STATE_STATE ≤ 4)

/-- R157: an encoder loss, while the drum turns. -/
def encoderLost (s : State) : State := if drumTurning s then drumLoss s 5 else s

/-- R155, R157: a glitch: the predictor coasts; too many within one revolution lose the encoder. -/
def glitch (s : State) : State :=
  let t := (s.bump F.DRU_GLITCHES_COUNT).setDrum (fun d => { d with coasting := true, keep := true, glitches := d.glitches + 1 })
  if s.get F.DRU_LIMITS_GLITCH_LIMIT < t.drum.glitches then encoderLost t else t

/-- R151: is an edge valid? `delta` is the quadrature step: 1 forward, 3 reverse, 2 both channels. -/
def edgeValid (s : State) (delta : Nat) : Bool :=
  !decide (delta = 2) && !(decide (delta = 3) && drumForward s) && !edgeTooEarly s.drum (s.now : Nat)

/-- R157: an index is missing when 10,240 counts pass without one; three in a row lose the encoder. -/
def checkIndex (s : State) : State :=
  let d := s.drum
  if d.lastIndex + 10240 * ((d.missed : Int) + 1) ≤ d.cnt then
    let t := s.setDrum (fun x => { x with missed := x.missed + 1 })
    if 3 ≤ t.drum.missed then encoderLost t else t
  else s

/-- R152, R155: a valid edge: the count moves by one, or, after coasting, to the quadrature state nearest the prediction, from
which the history restarts. -/
def countEdge (s : State) (delta quad : Nat) : State :=
  let d := s.drum
  let t : Int := (s.now : Nat)
  let cnt := if d.coasting then resumeCount d quad t else if delta = 1 then d.cnt + 1 else d.cnt - 1
  let base := if d.coasting then { d with hist := [] } else d
  checkIndex (showDrum (s.setDrum (fun _ => pushEdge base (windowEdges s) cnt t)))

/-- R149, R151: the encoder inputs reach a quadrature state. -/
def encoderEdge (s : State) (quad : Nat) : State :=
  let delta := (quad + 4 - s.drum.quad % 4) % 4
  if delta = 0 then s
  else
    let t := s.setDrum (fun d => { d with quad := quad })
    if edgeValid s delta then countEdge t delta quad else showDrum (glitch t)

def execEncoderEdge (quad : Nat) (s : State) : Host.Outcome State Fault Refusal := live s (encoderEdge s (quad % 4))

/-- R156: the count error at an index edge, in −4,096 … 4,095. -/
def indexError (d : Drum) : Int := (d.cnt + 4096) % 8192 - 4096

/-- R156: the count is set to 0 at the index. -/
def setIndex (d : Drum) (e : Int) (restart : Bool) : Drum :=
  let cnt := d.cnt - e
  { d with cnt := cnt, quadOff := ((cnt - (d.quad : Int)) % 4).toNat, hist := if restart then [] else d.hist,
           lastIndex := cnt, missed := 0, indexSeen := true, glitches := 0 }

/-- R156: what an index edge does to the count. -/
def takeIndex (s : State) : State :=
  let e := indexError s.drum
  if e = 0 then s.setDrum (fun d => setIndex d 0 false)
  else if iabs e ≤ (s.get F.DRU_LIMITS_INDEX_TOL : Int) then (s.setDrum (fun d => setIndex d e false)).bump F.DRU_INDEX_SLIPS_COUNT
  else glitch (s.setDrum (fun d => setIndex d e true))

/-- R156, R169, R170: an index edge: the phase error is measured, and the speed control sets DRUM_SPEED while the drum is
driven. -/
def indexEdge (s : State) (code : Nat) : State :=
  let a := servoRevolution (showDrum (takeIndex s))
  if 1 ≤ a.get F.DRU_STATE_STATE ∧ a.get F.DRU_STATE_STATE ≤ 4 ∧ a.on F.DRU_BRAKE_BRAKE = false then a.set F.DRU_SPEED_CODE_CODE code else a

def execIndexEdge (code : Nat) (s : State) : Host.Outcome State Fault Refusal := live s (indexEdge s code)

/-- R157: the predictor has coasted too long. -/
def coastTooLong (s : State) : State := if s.drum.coasting then encoderLost s else s

def execCoastTimeout (s : State) : Host.Outcome State Fault Refusal := live s (coastTooLong s)

/-- R157: the predictor has not become valid in time. -/
def spinUpTooLong (s : State) : State := if s.get F.DRU_STATE_STATE = 1 ∧ predValid s = false then drumLoss s 5 else s

def execSpinupValidTimeout (s : State) : Host.Outcome State Fault Refusal := live s (spinUpTooLong s)

/-- R157: the speed has been more than 5 % off for 1 s in RUNNING. -/
def speedDeviates (s : State) : State := if s.get F.DRU_STATE_STATE = 2 then drumLoss s 6 else s

def execSpeedDeviationTimeout (s : State) : Host.Outcome State Fault Refusal := live s (speedDeviates s)

/-- R157, R158: DRUM_FAULT_N changes. -/
def faultInput (s : State) (asserted : Bool) : State :=
  let t := s.setDrum (fun d => { d with faultPin := asserted })
  if asserted then drumLoss t 6 else t

def execDrumFaultInput (asserted : Bool) (s : State) : Host.Outcome State Fault Refusal := live s (faultInput s asserted)

/-- R158 steps 4 and 5: the drum has stopped, and parked output begins. -/
def stopWaited (s : State) : State :=
  if 5 ≤ s.get F.DRU_STATE_STATE ∧ s.on F.DRU_STATE_PARKED_OUT = false ∧ s.pnl.step = 0 then beginParkedOutput s true else s

def execStopWaitExpiry (s : State) : Host.Outcome State Fault Refusal := live s (stopWaited s)

/-- R167, R168: a speed is reached: light-field output begins or ends at a boundary, the state changes. -/
def speedReached (s : State) (t : DrumThreshold) : State :=
  let st := s.get F.DRU_STATE_STATE
  match t with
  | .lightOn => if st = 1 ∨ st = 2 then s.setDrum (fun d => { d with lightNext := some true }) else s
  | .target => if st = 1 then setDrumState s 2 else s
  | .lightOff => if st = 3 then s.setDrum (fun d => { d with lightNext := some false }) else s
  | .creep => if st = 3 then (setDrumState s 4).setDrum (fun d => { d with parkTries := 0 }) else s

def execDrumSpeedThreshold (t : DrumThreshold) (s : State) : Host.Outcome State Fault Refusal := live s (speedReached s t)

/-- R168 step 4: the drum is braked. -/
def parkBrake (s : State) : State :=
  if s.get F.DRU_STATE_STATE = 4 then s.setAll [(F.DRU_BRAKE_BRAKE, 1), (F.DRU_SPEED_CODE_CODE, 0)] else s

def execParkBrakePoint (s : State) : Host.Outcome State Fault Refusal := live s (parkBrake s)

/-- R168: how far the drum rests from E, in sub-counts. -/
def parkError (s : State) : Int := (s.drum.cnt * 128 - (s.get F.DRU_EDGE_ANGLE_E : Int) + 2 ^ 19) % revSub - 2 ^ 19

/-- R168 steps 5 and 6: the count is checked at rest: parked, or braked once more, at most three times. -/
def parkCheck (s : State) : State :=
  if ¬ s.get F.DRU_STATE_STATE = 4 ∨ s.on F.DRU_BRAKE_BRAKE = false then s
  else if iabs (parkError s) ≤ 256 then beginParkedOutput (setDrumState s 0) false
  else if s.drum.parkTries < 3 then (s.set F.DRU_BRAKE_BRAKE 0).setDrum (fun d => { d with parkTries := d.parkTries + 1 })
  else beginParkedOutput (setDrumState s 0) true

def execParkPositionCheck (s : State) : Host.Outcome State Fault Refusal := live s (parkCheck s)

/-- R162, R172: what follows a write of DRU.SCHED_SELECT. -/
def schedSelectAfter (w : Written) : State :=
  if w.tookField F.DRU_SCHED_SELECT_SWAP = some 1 then w.s.set F.DRU_SCHED_SELECT_PENDING 1 else w.s

/-- R162, R172: a write of DRU.SCHED_SELECT. -/
def schedSelectWrite (s : State) (m : Master) (data : Nat) : State := schedSelectAfter (writeAccess s m 0x8111C 4 data)

def execSchedSwap (m : Master) (data : Nat) (s : State) : Host.Outcome State Fault Refusal := live s (schedSelectWrite s m (withBit data 4))

/-- R162: the swap is made at a boundary. -/
def boundarySchedule (s : State) : State :=
  if s.on F.DRU_SCHED_SELECT_PENDING then
    s.setAll [(F.DRU_SCHED_SELECT_ACTIVE, 1 - s.get F.DRU_SCHED_SELECT_ACTIVE), (F.DRU_SCHED_SELECT_PENDING, 0), (F.DRU_SCHED_SELECT_SWAP, 0)]
  else s

/-- R158: a write of DRU.REQ: a new write of RUN is remembered until the request is evaluated. -/
def drumReqWritten (s : State) (w : Written) : State :=
  match w.tookField F.DRU_REQ_MODE with
  | some mode => s.setDrum (fun d => { d with rerun := decide (mode = 1) })
  | none => s

end Sys2Proof.Machine
end

