-- ==== Sys2Proof/Machine/LoftCmds.lean ====
section
/-! DEFINITION. Machine/LoftCmds.lean: the loft's commands (R369, R372 to R376, R388). The reads of LFT.BUF_DATA and
LFT.RD_DATA stand in Machine/Reads.lean. -/

namespace Sys2Proof.Machine

def execBufClaim (m : Master) (data : Nat) (s : State) : Host.Outcome State Fault Refusal :=
  live s (bufClaimWrite s m (withBit data 31))

def execBufRelease (m : Master) (data : Nat) (s : State) : Host.Outcome State Fault Refusal :=
  live s (bufClaimWrite s m (withBit data 30))

def execBufFill (m : Master) (data : Nat) (s : State) : Host.Outcome State Fault Refusal := live s (fillWrite s m 8 0 data)

def execBufFillDone (s : State) : Host.Outcome State Fault Refusal := live s (fillDone s)

def execStore (m : Master) (length holdupMv : Nat) (s : State) : Host.Outcome State Fault Refusal :=
  live s (storeWrite s m length (some holdupMv))

def execCommitDone (s : State) : Host.Outcome State Fault Refusal := live s (commitDone s)

/-- R369: what the read of a word of the array finds: corrected, it is counted and waits to be rewritten; uncorrectable, it is
poisoned, counted and logged. -/
def loftFound (s : State) (a found : Nat) : State :=
  match found with
  | 0 => s
  | 1 => (s.bump (F.LFT_COUNT_COUNT 2)).setLoft (fun l => { l with weak := insertNat l.weak a })
  | _ =>
    let t := raiseIrq (raise (s.bump (F.LFT_COUNT_COUNT 3))
      { page := 0x140, cls := 0x0F, code := 0x13, sev := 2, unit := a / 256, info := a }) 0x140 2
    { t with mem := { t.mem with badLoft := insertNat t.mem.badLoft a } }

/-- R369, R388: the word at LFT.RD_ADDR read by a master: the tack room reads zero for all but management processor 0 and is
logged; the address advances by 8. -/
def loftWordRead (s : State) (m : Master) (found : Nat) : State × Nat :=
  let a := s.get F.LFT_RD_ADDR_WORD * 8
  let own := match m with | .mp i => decide (i % 4 = 0) | _ => false
  if 0xBF0000 ≤ a ∧ a < 0xC00000 ∧ own = false then
    ((logAccess s m 0x140 0x148 0x04 0 8).step1 F.LFT_RD_ADDR_WORD, 0)
  else
    let t := loftFound s a (if s.mem.badLoft.contains a then 2 else found)
    (t.step1 F.LFT_RD_ADDR_WORD, if t.mem.badLoft.contains a then 0 else leNat (memRead t.mem.loft a 8))

/-- R369: the pages that hold corrected words, in rising order. -/
def weakPages (s : State) : List Nat := (s.loft.weak.map (fun w => w / 256)).foldl insertNat []

/-- R369: the scrub commit of a page. -/
def scrubPage (s : State) (page : Nat) : State :=
  if ownCheck s page 1 = 0 then loftPut (ownCommit s page 1).1 (page * 256) (memRead s.mem.loft (page * 256) 256) else s

/-- R369: once per 24 h the corrected pages are rewritten, where writing is permitted. -/
def loftScrubNow (s : State) : State := (weakPages s).foldl scrubPage s

def execLoftScrub (s : State) : Host.Outcome State Fault Refusal := live s (loftScrubNow s)

/-! ### Panel power (R266, R267) -/

/-- R266, R269: what follows a write of PNL.POWER_CMD. -/
def powerCmdAfter (w : Written) : State :=
  if w.tookField F.PNL_POWER_CMD_OFF = some 1 then beginPowerOff w.s .command else w.s

/-- R266, R269: a write of PNL.POWER_CMD. -/
def powerCmdWrite (s : State) (m : Master) (data : Nat) : State := powerCmdAfter (writeAccess s m 0xDC118 4 data)

def execPowerOffCmd (m : Master) (data : Nat) (s : State) : Host.Outcome State Fault Refusal := live s (powerCmdWrite s m (withBit data 0))

def execDischargeTimeout (s : State) : Host.Outcome State Fault Refusal := live s (dischargeTimeout s)

end Sys2Proof.Machine
end

