-- ==== Sys2Proof/Machine/Cal.lean ====
section
/-! DEFINITION. Machine/Cal.lean: groom passes and correction sets (R394 to R402), trims (R393), and the reference clock (R390,
R391). -/

namespace Sys2Proof.Machine

/-- Calibration changed. -/
def State.setCal (s : State) (f : Cal → Cal) : State := { s with cal := f s.cal }

/-! ### Trims -/

/-- R392: the bits of a trim converter. -/
def trimBits (i : Nat) : Nat := if i = 0 then 16 else if i ≤ 24 then 12 else if i = 25 ∨ i = 29 then 6 else 8

/-- R393: the code that converter i converts for the code its user sets; from 25 on the trim is the code. -/
def trimOut (s : State) (i code : Nat) : Int :=
  if i < 25 then
    clampInt (((code * s.get (F.CAL_TRIM_GAIN i) + 0x2000) / 2 ^ 14 : Nat) + s.getInt (F.CAL_TRIM_OFFSET i)) 0 (2 ^ trimBits i - 1)
  else (s.get (F.CAL_TRIM_OFFSET i) % 2 ^ trimBits i : Nat)

/-! ### Yard slots (R396) -/

/-- R396: RPM × N of the yard. -/
def slotRate (s : State) : Nat :=
  match s.yard.heard with
  | some h => if s.isMember then h.1 * h.2.1 else s.get F.DRU_REQ_EFF_RPM * s.get F.DRU_STATE_FACETS
  | none => s.get F.DRU_REQ_EFF_RPM * s.get F.DRU_STATE_FACETS

/-- R396: the yard time since EPOCH in units of 1/(RPM × N) subframe-minutes. -/
def slotUnits (s : State) : Nat := (((s.now : Int) - (s.get F.DRU_LOCK_EPOCH_EPOCH : Int)) * (slotRate s : Int)).toNat

/-- R396: the slot that a time lies in. -/
def slotNow (s : State) : Nat := slotUnits s / (640 * 60000000000) % 64

/-- R396: the subframe periods of the slot that have passed. -/
def slotPassed (s : State) : Nat := slotUnits s % (640 * 60000000000) / 60000000000

/-- R400: can `k` bands be measured before the slot closes? A standalone controller has no slots. -/
def slotFits (s : State) (k : Nat) : Bool := decide (s.role = 0) || decide (slotPassed s + 48 * k ≤ 640)

/-! ### Starting a pass -/

/-- R394: no viewer, candidate or overflow viewer in the yard. -/
def nobodyLooks (s : State) : Bool := s.roster.viewers.isEmpty && s.roster.candidates.isEmpty && s.roster.overflow.isEmpty

/-- R394: the pass that is due: full or of one band. -/
def passDue (s : State) : Option Bool :=
  let since := s.now - s.get F.CAL_LAST_PASS_NS
  let mode := s.get F.CAL_REQ_EFF_MODE
  if s.on F.CAL_REQ_NOW then some true
  else if mode = 0 then none
  else if nobodyLooks s && decide (600000000000 ≤ since) then some true
  else if decide (mode = 1) && s.on F.CAL_REQ_EFF_ALLOW_VIEWERS &&
      decide (s.get F.CAL_REQ_EFF_INTERVAL_H * 3600000000000 ≤ since) && decide (10000000000 + s.cal.lastBand ≤ s.now) then some false
  else none

/-- R395: do the conditions for a pass to start at this boundary hold? -/
def passMayStart (s : State) : Bool :=
  decide (s.get F.DRU_STATE_STATE = 2) && decide (1000000000 + s.cal.target.2 ≤ s.now) &&
  (decide (s.role = 0) || (decide (s.get F.DRU_STATE_LOCK = 2) && decide (slotNow s = s.get F.XSH_ROLE_NUMBER) && decide (slotPassed s = 0))) &&
  !s.on F.CAL_APPLY_PENDING && s.rsy.lens.heldHost.isNone && (match s.rsy.lens.build with | some b => !b.fromHost | none => true) &&
  decide (s.get F.PNL_SEQ_STATE_STATE = 2) && !decide (s.get F.PNL_BRIGHTNESS_EFF_LEVEL < s.get F.PNL_BRIGHTNESS_LEVEL) &&
  !s.on F.DMC_SPEED_BUSY && s.cal.pass.isNone && s.cal.ended.isNone && s.cal.applying.isNone

/-- Is a band's port in service for a pass? -/
def bandServed (s : State) (b : Nat) : Bool := !decide (s.get (F.PNL_PORT_STATE_STATE b) = 5)

/-- R395, R397: a pass begins: its first band has yet to have its first subframe. -/
def startPass (s : State) (full : Bool) : State :=
  let order := if full then List.range 12 else (List.range 12).map (fun i => (s.cal.nextBand + i) % 12)
  let bands := (order.filter (bandServed s)).take (if full then 12 else 1)
  match bands with
  | [] => s
  | b :: bs =>
    let p : Pass := ⟨full, s.cal.passes, bs, b, 0, [], false, []⟩
    let t := s.setCal (fun c =>
      { c with pass := some p, passes := c.passes + 1, nextBand := if full then c.nextBand else (b + 1) % 12,
               lastBand := if full then c.lastBand else s.now })
    let u := t.setAll [(F.CAL_STATE_STATE, 2), (F.CAL_STATE_BAND, b), (F.CAL_STATE_SUBFRAME, 0)]
    if full then moveMirror (u.set F.CAL_REQ_NOW 0) 0x150 0x900 F.CAL_REQ_EFF_NOW 0 0 else u

/-- R394, R395: a pass that is due waits for its boundary; at the next boundary at which the conditions hold it starts. -/
def execGroomPassStart (s : State) : Host.Outcome State Fault Refusal :=
  live s (if (passDue s).isSome && s.cal.pass.isNone && s.cal.ended.isNone && s.cal.applying.isNone then s.set F.CAL_STATE_STATE 1 else s)

/-! ### A pass at a boundary -/

/-- R397: the band that the subframe begun last measures, its window and the pass's number. -/
def measuredNow (s : State) : Option (Nat × Nat × Nat) :=
  match s.cal.pass with
  | some p => if 1 ≤ p.sub ∧ p.sub ≤ 48 then some (p.band, (p.sub - 1) / 12, p.number) else none
  | none => none

/-- The pass goes on with a band's first subframe. -/
def passBand (s : State) (p : Pass) (b : Nat) (left : List Nat) : State :=
  (s.setCal (fun c => { c with pass := some { p with band := b, left := left, sub := 1 } })).setAll
    [(F.CAL_STATE_BAND, b), (F.CAL_STATE_SUBFRAME, 0)]

/-- R397, R400: the next band of a pass; then the bands to be measured again, if they can end within the slot; then its end. -/
def passNext (s : State) (p : Pass) : State :=
  match p.left.filter (bandServed s) with
  | b :: bs => passBand s p b bs
  | [] =>
    match p.again.filter (bandServed s) with
    | [] => s.setCal (fun c => { c with pass := none, ended := some (p.full, p.measured, s.now) })
    | b :: bs =>
      if slotFits s (bs.length + 1) then passBand s { p with again := [], rerun := true } b bs
      else groomAbandon s 1

/-- R397, R400: a boundary in a pass: the next subframe of its band; a band whose port is held is given up. -/
def passBoundary (s : State) (p : Pass) : State :=
  if !bandServed s p.band then passNext s p
  else if p.sub < 48 then
    (s.setCal (fun c => { c with pass := some { p with sub := p.sub + 1 } })).set F.CAL_STATE_SUBFRAME p.sub
  else passNext s { p with measured := if p.again.contains p.band then p.measured else p.measured ++ [p.band] }

/-- R213: the zones of a band that a pass measures have factor 256. -/
def measuredZones (s : State) : State :=
  match measuredNow s with
  | some m => s.setAll [(F.VWB_ZONE_FACTOR (2 * m.1), 256), (F.VWB_ZONE_FACTOR (2 * m.1 + 1), 256)]
  | none => s

/-- R395, R400: the target speed is watched. -/
def watchTarget (s : State) : State :=
  let r := s.get F.DRU_REQ_EFF_RPM
  if s.cal.target.1 = r then s else (groomAbandon s 2).setCal (fun c => { c with target := (r, s.now) })

/-- R394 to R400: groom passes at a light-field boundary. -/
def boundaryGroom (s : State) : State :=
  let t := watchTarget s
  let u := match t.cal.pass with
    | some p => passBoundary t p
    | none =>
      if t.get F.CAL_STATE_STATE = 1 ∧ passMayStart t = true then
        match passDue t with
        | some full =>
          let v := startPass t full
          match v.cal.pass with
          | some p => passBoundary v p
          | none => v
        | none => t
      else t
  measuredZones u

/-- R400: the frame of a window on a calibration camera is unusable: the band is to be measured again; a second failure abandons
the pass. -/
def groomFrameBad (s : State) : State :=
  match s.cal.pass with
  | none => s
  | some p =>
    if p.rerun then groomAbandon s 1
    else s.setCal (fun c => { c with pass := some { p with again := insertNat p.again p.band } })

/-- R400: the last band has been measured: analysis begins, PASS_DONE. -/
def groomPassEnd (s : State) : State :=
  match s.cal.ended with
  | some _ => if s.get F.CAL_STATE_STATE = 2 then raiseIrq (s.set F.CAL_STATE_STATE 3) 0x150 0 else s
  | none => s

def execGroomPassEnd (s : State) : Host.Outcome State Fault Refusal := live s (groomPassEnd s)

/-- R394: a write of CAL.REQ. -/
def execGroomNow (m : Master) (data : Nat) (s : State) : Host.Outcome State Fault Refusal :=
  live s (writeAccess s m 0x150100 4 (withBit data 4)).s

/-! ### Corrections (R401) -/

/-- R401: a lenslet's new groom delta, with the fields that a pass does not correct as they were. -/
def newDelta (old : LensDelta) (vals : List Int) : LensDelta :=
  { old with vals := (List.range 12).map (fun i =>
      if [0, 1, 2, 6, 7, 8, 10, 11].contains i then vals.getD i 0 else old.vals.getD i 0) }

/-- R401: does a new delta keep the limits? -/
def deltaWithin (f : LensRec) (old new : LensDelta) : Bool :=
  let change (i : Nat) : Nat := (new.vals.getD i 0 - old.vals.getD i 0).natAbs
  let gain (i : Nat) : Int := (lensInUse f new LensDelta.zero).at i
  decide (change 0 ≤ 512) && decide (change 1 ≤ 512) && [2, 10, 11].all (fun i => decide (change i ≤ 1024)) &&
  [6, 7, 8].all (fun i => decide (8192 ≤ gain i) && decide (gain i ≤ 24576))

/-- The band of a lenslet. -/
def lensBand (n : Nat) : Nat := n / 1152 / 54

/-- R401: the lenslets of a pass's bands whose new values exceed a limit. -/
def exceeding (s : State) (bands : List Nat) (r : GroomResult) : List Nat :=
  ((r.lens.filter (fun e => bands.contains (lensBand e.1))).filter (fun e =>
    let old := (assoc s.rsy.lens.groom e.1).getD LensDelta.zero
    !deltaWithin ((assoc s.rsy.lens.factory e.1).getD LensRec.zero) old (newDelta old e.2))).map Prod.fst

/-- R401: a pass is rejected when more than 1 % of a measured band's lenslets exceed their limits. -/
def passRejected (bands bad : List Nat) : Bool :=
  bands.any (fun b => decide (62208 < 100 * (bad.filter (fun n => decide (lensBand n = b))).length))

/-- R401: the groom deltas that a set brings. -/
def groomDeltas (s : State) (bands bad : List Nat) (r : GroomResult) : List (Nat × LensDelta) :=
  r.lens.foldl (fun g e =>
    if bands.contains (lensBand e.1) && !bad.contains e.1 then
      assocPut g e.1 (newDelta ((assoc s.rsy.lens.groom e.1).getD LensDelta.zero) e.2)
    else g) s.rsy.lens.groom

/-- An error of Ozzizo's calibration, by zone, converter or band. -/
def calError (s : State) (unit : Nat) : State := raise s { page := 0x150, cls := 0x08, code := 0, sev := 0, unit := unit }

/-- R253: the factory's reference of a zone. -/
def zoneRef (s : State) (z : Nat) : Nat :=
  match assoc s.pnl.descs (z / 2) with
  | some d => leAt d (0x50 + 2 * (z % 2)) 2
  | none => 0

/-- R401: the zone references of the measured bands staged. -/
def stageZones (s : State) (bands : List Nat) (r : GroomResult) : State :=
  (r.zones.filter (fun e => bands.contains (e.1 / 2))).foldl (fun t e =>
    if 4 * absDiff e.2 (zoneRef t e.1) ≤ zoneRef t e.1 then t.set (F.CAL_STAGE_ZONE_CODE e.1) e.2 else calError t e.1) s

/-- R393, R401: the trims staged: those of converters 1 to 24 for the measured bands, the others by a full pass. -/
def stageTrims (s : State) (full : Bool) (bands : List Nat) (r : GroomResult) : State :=
  (r.trims.filter (fun e => decide (e.1 < 30) &&
    (if 1 ≤ e.1 ∧ e.1 ≤ 24 then bands.contains ((e.1 - 1) / 2) else full))).foldl (fun t e =>
    if 25 ≤ e.1 then t.setInt (F.CAL_STAGE_TRIM_OFFSET e.1) e.2.2
    else if 0x3800 ≤ e.2.1 ∧ e.2.1 ≤ 0x4800 ∧ e.2.2.natAbs ≤ 64 then
      (if e.1 = 0 then t else t.set (F.CAL_STAGE_TRIM_GAIN e.1) e.2.1).setInt (F.CAL_STAGE_TRIM_OFFSET e.1) e.2.2
    else calError t e.1) s

/-- R401: the drum's correction table staged by a full pass, if every entry keeps its limit. -/
def stageAngles (s : State) (r : GroomResult) : State :=
  match r.angles with
  | some l => if l.length = 64 ∧ l.all (fun a => decide (a.natAbs ≤ 2048)) = true then
      (List.range 64).foldl (fun t k => t.setInt (F.CAL_STAGE_ANGLE_VALUE k) (l.getD k 0)) s else s
  | none => s

/-- R401: within ±2 % of a factory value? -/
def within2 (x f : Int) : Bool := decide (50 * (x - f).natAbs ≤ f.natAbs)

/-- R401: the facet values that accompany the table: the pass's, or the factory's where one is beyond its limit. -/
def facetOptics (s : State) (r : GroomResult) : List Int :=
  let m := s.pnl.model
  let fac : List Int := (leAt m 0x24 4 : Int) :: (List.range 8).map (fun f => toSigned (leAt m (0x28 + 4 * f) 4) 32)
  let tan : Int := s.get F.RSY_TAN_PER_PITCH_VALUE
  match r.optics with
  | some l => if l.length = 9 ∧ (List.range 9).all (fun i => within2 (l.getD i 0) (fac.getD i 0)) = true then tan :: l else tan :: fac
  | none => opticsNow s

/-- R259, R401: the bytes of the panel's own table set. -/
def modelTables (s : State) : List Byte := ((List.range 13).flatMap (fun i => (assoc s.pnl.odChunks i).getD [])).take 52272

/-- R401: is every node of a table set within ±256 of the model's? -/
def tablesWithin (model new : List Byte) : Bool :=
  decide (new.length = 52272) && lutWordsOk new &&
  (List.range 26136).all (fun i => decide (absDiff (leAt new (2 * i) 2) (leAt model (2 * i) 2) ≤ 256))

/-- R401, R402: the overdrive set put into the inactive bank, the model's where the new one is beyond its limits. -/
def stageTables (s : State) (r : GroomResult) : State :=
  match r.overdrive with
  | none => s.set F.CAL_APPLY_OVD 0
  | some bs =>
    let set := if tablesWithin (modelTables s) bs then bs else modelTables s
    (s.setPnl (fun p => { p with banks := p.banks.set (1 - s.get F.OVD_TABLE_SWAP_ACTIVE) set })).set F.CAL_APPLY_OVD 1

/-- R402: the staging registers hold the values in force. -/
def stageInForce (s : State) : State :=
  let a := (List.range 24).foldl (fun t z => t.set (F.CAL_STAGE_ZONE_CODE z) (t.get (F.PNL_ZONE_CAL_CODE z))) s
  let b := (List.range 64).foldl (fun t k => t.set (F.CAL_STAGE_ANGLE_VALUE k) (t.get (F.DRU_ANGLE_CORR_VALUE k))) a
  (List.range 30).foldl (fun t i => t.setAll [(F.CAL_STAGE_TRIM_GAIN i, t.get (F.CAL_TRIM_GAIN i)),
    (F.CAL_STAGE_TRIM_OFFSET i, t.get (F.CAL_TRIM_OFFSET i))]) b

/-- R402: Ozzizo prepares a correction set and arms it. -/
def prepareSet (s : State) (full : Bool) (bands bad : List Nat) (r : GroomResult) : State :=
  let a := stageTrims (stageZones (stageInForce s) bands r) full bands r
  let b := if full then stageAngles a r else a
  let optics := if full then facetOptics b r else opticsNow b
  let c := groomBuild (stageTables b r) (groomDeltas b bands bad r) (some optics)
  c.setAll [(F.CAL_APPLY_LENSLET, 1), (F.CAL_APPLY_ARM, 1), (F.CAL_APPLY_PENDING, 1), (F.CAL_STATE_STATE, 4)]

/-- R401: the analysis ends: a correction set is prepared, or the pass is rejected. -/
def analysisDone (s : State) (r : GroomResult) : State :=
  match s.cal.ended with
  | none => s
  | some (full, bands, ended) =>
    let t := s.setCal (fun c => { c with ended := none })
    let bad := exceeding t bands r
    if passRejected bands bad then
      calError ((t.setAll [(F.CAL_STATE_STATE, 0), (F.CAL_STATE_RESULT, 2)]).bump (F.CAL_COUNT_COUNT 3)) 0xFF
    else prepareSet (t.setCal (fun c => { c with applying := some (full, ended) })) full bands bad r

def execGroomAnalysisDone (r : GroomResult) (s : State) : Host.Outcome State Fault Refusal := live s (analysisDone s r)

/-! ### Correction sets (R402) -/

/-- R402, R412: what follows a write of CAL.APPLY; an accepted ARM makes the set pending. -/
def applyAfter (w : Written) : State :=
  if w.tookField F.CAL_APPLY_ARM = some 1 then w.s.set F.CAL_APPLY_PENDING 1 else w.s

/-- R402, R412: a write of CAL.APPLY; an accepted ARM makes the set pending. -/
def applyWrite (s : State) (m : Master) (data : Nat) : State := applyAfter (writeAccess s m 0x151100 4 data)

def execCalApplyArm (m : Master) (data : Nat) (s : State) : Host.Outcome State Fault Refusal := live s (applyWrite s m (withBit data 8))

/-- R402: has the groom build of the pending set completed, where it has one? -/
def setReady (s : State) : Bool :=
  s.on F.CAL_APPLY_PENDING && !s.on F.OVD_TABLE_SWAP_PENDING &&
  (!s.on F.CAL_APPLY_LENSLET || (match s.rsy.lens.build with | some b => b.complete && !b.fromHost | none => false))

/-- R371, R402: the groom deltas are stored in the loft; refused, they are lost at a reset. -/
def storeGroom (s : State) : State :=
  let k := ownCommit s 0x8000 257
  if k.2 = 0 then k.1.setNv (fun n => { n with groom := s.rsy.lens.groom }) else k.1

/-- R402: the staged registers take force at boundary n. -/
def applyStage (s : State) (n : Nat) : State :=
  let before := (List.range 24).map (fun z => s.get (F.PNL_ZONE_CAL_CODE z))
  let a := (List.range 24).foldl (fun t z => t.set (F.PNL_ZONE_CAL_CODE z) (t.get (F.CAL_STAGE_ZONE_CODE z)))
    (s.setCal (fun c => { c with zonesBefore := some (n, before) }))
  let b := (List.range 64).foldl (fun t k => t.set (F.DRU_ANGLE_CORR_VALUE k) (t.get (F.CAL_STAGE_ANGLE_VALUE k))) a
  (List.range 30).foldl (fun t i => t.setAll [(F.CAL_TRIM_GAIN i, t.get (F.CAL_STAGE_TRIM_GAIN i)),
    (F.CAL_TRIM_OFFSET i, t.get (F.CAL_STAGE_TRIM_OFFSET i))]) b

/-- R402: a pass whose set is in force is done. -/
def passApplied (s : State) : State :=
  match s.cal.applying with
  | none => s
  | some (full, ended) =>
    let t := (s.setAll [(F.CAL_STATE_STATE, 0), (F.CAL_STATE_RESULT, 0)]).setCal (fun c => { c with applying := none })
    if full then (t.bump (F.CAL_COUNT_COUNT 0)).set F.CAL_LAST_PASS_NS ended else t.bump (F.CAL_COUNT_COUNT 1)

/-- R402: the pending set is applied at the first boundary at which it is ready. -/
def boundaryCal (s : State) (n : Nat) : State :=
  if !setReady s then s
  else
    let a := groomAbandon s 3
    let b := if a.on F.CAL_APPLY_LENSLET then
      (match a.rsy.lens.build with | some x => storeGroom (exchangeLens a x) | none => a) else a
    let c := applyStage b n
    let d := if c.on F.CAL_APPLY_OVD then tableSwapAfter c else c
    let e := (d.step1 F.CAL_GEN_COUNT).setAll [(F.CAL_LAST_APPLY_SUBFRAME, n), (F.CAL_APPLY_PENDING, 0), (F.CAL_APPLY_ARM, 0)]
    passApplied (raiseIrq e 0x150 1)

/-! ### The reference clock (R390, R391) -/

/-- R391: the reference PLL switches to the external input. -/
def refExternal (s : State) : State :=
  raise (raiseIrq ((s.set F.CAL_REF_SOURCE 1).bump (F.CAL_COUNT_COUNT 4)) 0x150 3)
    { page := 0x150, cls := 0x0A, code := 0x11, sev := 0, unit := 0xFF }

/-- R390, R391: the crystal is flagged bad. -/
def xtalBad (s : State) : State :=
  let t := s.set F.CAL_REF_XTAL_BAD 1
  if ¬ t.get F.CAL_REF_SOURCE = 0 then t
  else if t.on F.CAL_REF_EXT then refExternal t else t.set F.CAL_REF_SOURCE 2

def execXtalBad (s : State) : Host.Outcome State Fault Refusal := live s (xtalBad s)

/-- R390: the frequency a window's count of edges means: 1 for 10 MHz, 2 for 25 MHz, 0 for neither. -/
def refFrequency (edges : Nat) : Nat :=
  if 9950 ≤ edges ∧ edges ≤ 10050 then 1 else if 24875 ≤ edges ∧ edges ≤ 25125 then 2 else 0

/-- R390, R391: the external input becomes present or absent. -/
def refPresent (s : State) (ext : Nat) : State :=
  let t := s.set F.CAL_REF_EXT ext
  if ext = 0 then
    (if t.get F.CAL_REF_SOURCE = 1 ∧ t.get F.CAL_REF_XTAL_BAD = 1 then t.set F.CAL_REF_SOURCE 2 else t)
  else if t.get F.CAL_REF_SOURCE = 2 then refExternal t else t

/-- R390: a window of the detector ends. `offset` is the crystal's offset from the input in 0.1 ppm. -/
def refWindow (s : State) (edges : Nat) (offset : Int) : State :=
  let f := refFrequency edges
  let run := if f = 0 then 0 else if f = s.cal.refFreq then Nat.min (s.cal.refRun + 1) 10 else 1
  let a := s.setCal (fun c => { c with refFreq := f, refRun := run })
  let b := if f = 0 then refPresent a 0 else if run = 10 then refPresent a f else a
  if b.on F.CAL_REF_EXT && !b.on F.CAL_REF_XTAL_BAD then b.setInt F.CAL_REF_OFFSET offset
  else if b.on F.CAL_REF_EXT then b else b.set F.CAL_REF_OFFSET 0

def execRefWindow (edges : Nat) (offset : Int) (s : State) : Host.Outcome State Fault Refusal := live s (refWindow s edges offset)

/-- R391: holdover has lasted 1 s. -/
def refTimeout (s : State) : State :=
  if s.get F.CAL_REF_SOURCE = 2 then deviceFailure s 4 { page := 0x150, cls := 0x0A, code := 0x12, sev := 4, unit := 0xFF } else s

def execRefHoldoverTimeout (s : State) : Host.Outcome State Fault Refusal := live s (refTimeout s)

/-- R391: the crystal has been good for 60 s. -/
def xtalRecovered (s : State) : State :=
  let t := s.set F.CAL_REF_XTAL_BAD 0
  if t.get F.CAL_REF_SOURCE = 1 then t.set F.CAL_REF_SOURCE 0 else t

def execXtalRecovered (s : State) : Host.Outcome State Fault Refusal := live s (xtalRecovered s)

end Sys2Proof.Machine
end

