-- ==== Sys2Proof/Machine/Thermal.lean ====
section
/-! DEFINITION. Machine/Thermal.lean: temperature inputs and their judgement (R403 to R406), throttle steps (R407, R408), the
critical sequence (R409) and analogue inputs (R410). Temperatures are in 1/16 °C. -/

namespace Sys2Proof.Machine

/-- Thermal management changed. -/
def State.setTherm (s : State) (f : Therm → Therm) : State := { s with therm := f s.therm }

/-- R403: an input's state: 0 OK, 1 SUSPECT, 2 FAILED, 3 ABSENT. -/
def sensorState (s : State) (i : Nat) : Nat := s.get (F.THM_SENSOR_STATE i)

/-- R405, R414: the neighbours of an input. -/
def nbrInputs (s : State) (i : Nat) : List Nat :=
  [s.get (F.THM_NBR_NBR0 i), s.get (F.THM_NBR_NBR1 i), s.get (F.THM_NBR_NBR2 i), s.get (F.THM_NBR_NBR3 i)].filter (fun n => decide (n < 80))

/-- A rising list with a number inserted. -/
def insertInt : List Int → Int → List Int
  | [], x => [x]
  | y :: ys, x => if x ≤ y then x :: y :: ys else y :: insertInt ys x

/-- R405: the median of some readings; of an even number the mean of the two middle ones, rounded toward minus infinity. -/
def medianOf (l : List Int) : Int :=
  let r := l.foldl insertInt []
  let n := r.length
  if n % 2 = 1 then r.getD (n / 2) 0 else Int.fdiv (r.getD (n / 2 - 1) 0 + r.getD (n / 2) 0) 2

/-- R405: the raw readings of an input's usable neighbours, by the states before the sample; `dead` are the inputs whose sample
was not completed, which have no reading of this instant. -/
def usable (before s : State) (dead : List Nat) (i : Nat) : List Int :=
  ((nbrInputs before i).filter (fun n => decide (sensorState before n ≠ 1) && decide (sensorState before n ≠ 2) &&
    decide (sensorState s n ≠ 3) && !dead.contains n)).map (fun n => s.getInt (F.THM_RAW_TEMP n))

/-- R404, R405: an input fails. -/
def sensorFail (s : State) (i : Nat) : State :=
  if sensorState s i = 2 then s
  else raise ((s.set (F.THM_SENSOR_STATE i) 2).bump (F.THM_COUNT_COUNT 4))
    { page := 0x160, cls := 0x10, code := 4, sev := 0, unit := i }

/-- R410: an analogue input's temperature. -/
def ainTemp (s : State) (a code : Nat) : Int :=
  ((code % 4096 * s.get (F.THM_AIN_CFG_SCALE a) / 2 ^ 16 : Nat) : Int) + s.getInt (F.THM_AIN_CFG_OFFSET a)

/-- R403, R404, R410: a reading arrives: out of range or not completed, the input fails; an analogue input without SCALE is absent.
`v` is a temperature, for an analogue input its code. -/
def takeReading (s : State) (i : Nat) (v : Option Int) : State :=
  if 72 ≤ i ∧ s.get (F.THM_AIN_CFG_SCALE (i - 72)) = 0 then (if sensorState s i = 2 then s else s.set (F.THM_SENSOR_STATE i) 3)
  else match v with
    | none => sensorFail s i
    | some x =>
      let t := if 72 ≤ i then ainTemp s (i - 72) x.toNat else x
      let u := s.setInt (F.THM_RAW_TEMP i) t
      if t < -880 ∨ 2400 < t then sensorFail u i
      else if sensorState u i = 3 then u.set (F.THM_SENSOR_STATE i) 0 else u

/-- R405: a SUSPECT input's return, or an input's way to SUSPECT. -/
def checkedSensor (s : State) (i : Nat) (d : Nat) : State :=
  if d ≤ 128 then
    let t := s.setTherm (fun h => { h with far := mapDel h.far i })
    if sensorState t i = 1 then
      let n := if d ≤ 64 then mapVal t.therm.near i + 1 else 0
      if 1024 ≤ n then (t.set (F.THM_SENSOR_STATE i) 0).setTherm (fun h => { h with near := mapDel h.near i })
      else t.setTherm (fun h => { h with near := mapPut h.near i n })
    else t
  else
    let n := mapVal s.therm.far i + 1
    let t := s.setTherm (fun h => { h with far := mapPut h.far i n, near := mapDel h.near i })
    if n = 16 ∧ sensorState t i = 0 then
      raise (raiseIrq ((t.set (F.THM_SENSOR_STATE i) 1).bump (F.THM_COUNT_COUNT 3)) 0x160 3)
        { page := 0x160, cls := 0x10, code := 3, sev := 0, unit := i }
    else t

/-- R405: an input judged: its judged value, its state. -/
def judgeSensor (before s : State) (dead : List Nat) (i : Nat) : State :=
  if 2 ≤ sensorState s i then s
  else
    let raw := s.getInt (F.THM_RAW_TEMP i)
    let us := usable before s dead i
    if us.length < 2 then
      let t := (s.set (F.THM_SENSOR_UNCHECKED i) 1).setTherm (fun h => { h with far := mapDel h.far i })
      if sensorState t i = 1 then sensorFail t i else t.setInt (F.THM_SENSOR_TEMP i) raw
    else
      let m := medianOf us
      let d := (raw - m).natAbs
      checkedSensor ((s.set (F.THM_SENSOR_UNCHECKED i) 0).setInt (F.THM_SENSOR_TEMP i) (if d ≤ 128 then raw else m)) i d

/-- R404: the thresholds that apply to an input. -/
def thresholds (s : State) (i : Nat) : List Int :=
  if i < 48 then [1520, 1600, 1760] ++ (if i = 40 then [0, 1440, -320, 1600] else [])
  else if 72 ≤ i then [s.getInt (F.THM_AIN_CFG_WARN (i - 72)), s.getInt (F.THM_AIN_CFG_CRIT (i - 72))] else []

/-- R404: an input within 5 °C of a threshold is sampled at 16 kHz. -/
def followFast (s : State) (i : Nat) : State :=
  s.set (F.THM_SENSOR_FAST i) (b2n ((thresholds s i).any (fun t => decide ((s.getInt (F.THM_SENSOR_TEMP i) - t).natAbs ≤ 80))))

/-! ### Derived temperatures (R406) -/

/-- R403: the inputs of a die. -/
def dieInputs (d : Nat) : List Nat :=
  if d = 2 then (List.range 8).map (fun i => 40 + i) else (List.range 20).map (fun i => 20 * d + i)

/-- R406: the highest judged value of a die's inputs, if any has one. -/
def dieTemp (s : State) (d : Nat) : Option Int :=
  ((dieInputs d).filter (fun i => decide (sensorState s i ≤ 1))).foldl (fun b i =>
    let t := s.getInt (F.THM_SENSOR_TEMP i)
    match b with
    | none => some t
    | some x => some (if x < t then t else x)) none

/-- R406: a die with fewer than 4 inputs that have not failed. -/
def dieBlind (s : State) (d : Nat) : Bool := decide (((dieInputs d).filter (fun i => !decide (sensorState s i = 2))).length < 4)

/-- R406: die temperatures and T_hot shown. -/
def showTemps (s : State) : State :=
  let t := (List.range 3).foldl (fun u d => match dieTemp u d with | some x => u.setInt (F.THM_DIE_TEMP_TEMP d) x | none => u) s
  let hots := (List.range 3).filterMap (dieTemp t)
  match hots with
  | [] => t
  | h :: hs => t.setInt F.THM_STATE_T_HOT (hs.foldl (fun a x => if a < x then x else a) h)

/-- R377: writing and charging follow the loft's temperature; a replay held for it runs. -/
def followLoftTemp (s : State) : State :=
  let t := if sensorState s 40 ≤ 1 then some (s.getInt (F.THM_SENSOR_TEMP 40)) else none
  let ok := match t with | some x => decide (0 ≤ x) && decide (x ≤ 1440) | none => false
  let a := (s.set F.LFT_STATUS_TEMP_OK (b2n ok)).setLoft (fun l => { l with temp := t })
  let b := a.set F.LFT_STATUS_CHARGING (b2n (chargerRuns a))
  if ok then
    match b.loft.journal with
    | some (x, bs) => journalReplay b x bs
    | none => b
  else b

/-! ### Throttle steps -/

/-- R407, R408: the throttle level: the step, one more for the lane clock of 1.2 GHz. -/
def throttleLevel (s : State) : Nat := s.get F.THM_STATE_STEP + (if s.get F.THM_STATE_LANE_CLOCK = 2 then 1 else 0)

/-- R407: the level takes effect: STEP, the lane clock of every active stall, the view budget. -/
def setLevel (s : State) (l : Nat) : State :=
  let clk := l - 2
  let a := s.setAll [(F.THM_STATE_STEP, Nat.min l 3), (F.THM_STATE_LANE_CLOCK, clk)]
  let b := (List.range 12).foldl (fun t k => if t.get (F.STL_STATE_STATE k) = 0 then t.set (F.STL_STATE_LANE_CLOCK k) clk else t) a
  evaluateBudget (b.setTherm (fun h => { h with changed := s.now }))

/-- R408: a step up or down: counted, STEP_CHANGED. -/
def moveLevel (s : State) (l : Nat) : State :=
  let up := throttleLevel s < l
  raiseIrq (raise ((setLevel s l).bump (F.THM_COUNT_COUNT (if up then 1 else 2)))
    { page := 0x160, cls := 0x10, code := 2, sev := 0, unit := 40 }) 0x160 1

/-- R407: the warn level. -/
def followWarn (s : State) (hot : Int) : State :=
  if !s.on F.THM_STATE_WARN && decide (1520 ≤ hot) then
    raise (raiseIrq ((s.set F.THM_STATE_WARN 1).bump (F.THM_COUNT_COUNT 0)) 0x160 0)
      { page := 0x160, cls := 0x10, code := 1, sev := 0, unit := 40 }
  else if s.on F.THM_STATE_WARN && decide (hot < 1488) then s.set F.THM_STATE_WARN 0 else s

/-- R408: steps follow T_hot. -/
def followSteps (s : State) (hot : Int) : State :=
  let l := throttleLevel s
  let a := s.setTherm (fun h => { h with cool := if hot < 1520 then some (h.cool.getD s.now) else none })
  if 1600 ≤ hot then
    (if l = 0 then moveLevel a 1
     else if l < 4 ∧ 500000000 + s.therm.changed ≤ s.now then moveLevel a (l + 1) else a)
  else match a.therm.cool with
    | some c => if 1 ≤ l ∧ 2000000000 + Nat.max c a.therm.changed ≤ s.now then moveLevel a (l - 1) else a
    | none => a

/-- R406: a blind die counts as T_hot at the throttle threshold with step 3 in force; an error is logged when it begins. -/
def followThrottle (s : State) : State :=
  let hot := s.getInt F.THM_STATE_T_HOT
  let blind := (List.range 3).filter (dieBlind s)
  let t := (blind.filter (fun d => !s.therm.blind.contains d)).foldl (fun u d => raise u
    { page := 0x160, cls := 0x10, code := 4, sev := 2, unit := 20 * d }) (s.setTherm (fun h => { h with blind := blind }))
  if !blind.isEmpty then
    let h := if hot < 1600 then 1600 else hot
    if throttleLevel t < 3 then moveLevel (followWarn t h) 3 else followSteps (followWarn t h) h
  else followSteps (followWarn t hot) hot

/-! ### Critical shutdown -/

/-- R409, R477: the critical sequence starts: its entry is placed in the shadow block, and the power-off sequence runs; in a panel
already dark its later steps follow at once. -/
def critical (s : State) (input : Nat) : State :=
  if s.power.critical then s
  else
    let x : Err := { page := 0x160, cls := 0x10, code := 5, sev := 2, unit := input }
    let a := (raiseIrq (s.set F.THM_STATE_CRITICAL 1) 0x160 2).setPower (fun p => { p with critical := true })
    let b := (raise a x).setErr (fun r => { r with toLoft := r.toLoft ++ [x.entry 0 a.now false] })
    if b.pnl.step = 30 then criticalHold b
    else if 20 ≤ b.pnl.step then b.setPower (fun p => { p with off := .critical })
    else beginPowerOff b .critical

/-- R409: the fourth consecutive critical sample starts the sequence; a sample of the die inputs, of the analogue inputs, or of
both. -/
def followCritical (s : State) (dies ains : Bool) : State :=
  let die := (List.range 48).find? (fun i => decide (sensorState s i ≤ 1) && decide (1760 ≤ s.getInt (F.THM_SENSOR_TEMP i)))
  let ain := (List.range 8).find? (fun a => s.on (F.THM_AIN_CFG_CRIT_EN a) && decide (sensorState s (72 + a) ≤ 1) &&
    decide (s.getInt (F.THM_AIN_CFG_CRIT a) ≤ s.getInt (F.THM_SENSOR_TEMP (72 + a))))
  let t := s.setTherm (fun h => { h with dieCrit := if !dies then h.dieCrit else if die.isSome then h.dieCrit + 1 else 0,
                                         ainCrit := if !ains then h.ainCrit else if ain.isSome then h.ainCrit + 1 else 0 })
  if 4 ≤ t.therm.dieCrit then critical t (die.getD 0)
  else if 4 ≤ t.therm.ainCrit then critical t (72 + ain.getD 0) else t

/-- R410: an analogue input that reaches WARN sets AIN_WARN. -/
def followAin (s : State) : State :=
  let high := (List.range 8).filter (fun a => decide (sensorState s (72 + a) ≤ 1) &&
    decide (s.getInt (F.THM_AIN_CFG_WARN a) ≤ s.getInt (F.THM_SENSOR_TEMP (72 + a))))
  let new := high.any (fun a => !s.therm.ainWarn.contains a)
  let t := s.setTherm (fun h => { h with ainWarn := high })
  if new then raiseIrq t 0x160 4 else t

/-! ### Samples -/

/-- R405: some inputs are read at one instant and judged by the states before it. -/
def sampleInputs (s : State) (readings : List (Nat × Option Int)) : State :=
  let mine := readings.filter (fun r => decide (r.1 < 80))
  let t := mine.foldl (fun u r => takeReading u r.1 r.2) s
  let dead := (mine.filter (fun r => r.2.isNone)).map Prod.fst
  (mine.map Prod.fst).foldl (fun u i => followFast (judgeSensor s u dead i) i) t

/-- R406: the panel temperature, its band (R259) and the brightness limit (R262) follow the panel inputs. -/
def followPanelTemp (s : State) : State :=
  let t := followBrightness (evaluateTband s)
  match panelSensors t with
  | [] => t
  | l => t.setInt F.THM_PANEL_TEMP_TEMP (Int.fdiv (l.foldl (fun a b => a + b) 0) (l.length : Int))

/-- R404 to R410: a sample of the die and analogue inputs. -/
def sensorSample (s : State) (readings : List (Nat × Option Int)) : State :=
  let mine := readings.filter (fun r => decide (r.1 < 48) || decide (72 ≤ r.1))
  followCritical (followAin (followThrottle (followLoftTemp (showTemps (sampleInputs s mine)))))
    (mine.any (fun r => decide (r.1 < 48))) (mine.any (fun r => decide (72 ≤ r.1)))

def execSensorSample (readings : List (Nat × Option Int)) (s : State) : Host.Outcome State Fault Refusal :=
  live s (sensorSample s readings)

/-- R249, R259, R403: a SENSOR packet: a panel input's reading. -/
def panelSensor (s : State) (b sensor : Nat) (temp : Int) : State :=
  if s.get (F.PNL_PORT_STATE_SENSORS b) ≤ sensor ∨ 2 ≤ sensor then s
  else
    let i := 48 + 2 * b + sensor
    let t := sampleInputs s [(i, some temp)]
    followPanelTemp ((t.set (F.PNL_SENSOR_VALID b sensor) (b2n (decide (sensorState t i ≤ 1)))).setInt (F.PNL_SENSOR_TEMP b sensor) temp)

def execPanelSensor (port sensor : Nat) (temp : Int) (s : State) : Host.Outcome State Fault Refusal :=
  live s (panelSensor s (port % 12) sensor temp)

end Sys2Proof.Machine
end

