-- ==== Sys2Proof/Machine/SecOps.lean ====
section
/-! DEFINITION. Machine/SecOps.lean: signed images (R419), the tack room's entries (R423), and the attestation exchange: its
messages, fragments and keys (R424 to R426). -/

namespace Sys2Proof.Machine

/-- Security changed. -/
def State.setSec (s : State) (f : Sec → Sec) : State := { s with sec := f s.sec }

/-! ### Signed images (R419) -/

/-- R419: is a key index a fused key that is not revoked and has the digest of a public key? -/
def fusedKey (index : Nat) (key : List Byte) : Bool :=
  decide (index < 4) && !hasBit Config.keysRevoked index && decide (Config.sha384 key = Config.fuseDigest index)

/-- R419: the length that an image's header gives it. -/
def imageLength (h : List Byte) : Nat := 512 + leAt h 0x10 4

/-- R419: is an image valid for a KIND and a least ROLLBACK? -/
def imageValid (kind least : Nat) (b : List Byte) : Bool :=
  let limit := if kind = 1 then 0x1FFE00 else 0xFFFE00
  decide (leAt b 0 4 = 0x4F5A5A31) && decide (leAt b 4 2 = kind) && decide (leAt b 7 1 = 0) && decide (leAt b 0x10 4 ≤ limit) &&
  decide (b.length = imageLength b) && decide (leAt b 0x14 12 = 0) && decide (leAt b 0xB1 15 = 0) && decide (leAt b 0x120 224 = 0) &&
  fusedKey (leAt b 6 1) ((b.drop 0x50).take 97) &&
  Config.verifies ((b.drop 0x50).take 97) (Config.sha384 (b.take 0xC0)) ((b.drop 0xC0).take 96) &&
  decide (Config.sha384 (b.drop 512) = (b.drop 0x20).take 48) && (decide (kind = 2) || decide (least ≤ leAt b 0x0C 4))

/-- R420: the loft address of a firmware slot (0 A, 1 B). -/
def imageBase (k : Nat) : Nat := if k = 0 then 0xC00000 else 0xE00000

/-- R420: the bytes of the image in a slot. -/
def slotImage (s : State) (k : Nat) : List Byte :=
  memRead s.mem.loft (imageBase k) (Nat.min (imageLength (memRead s.mem.loft (imageBase k) 0x20)) 0x200000)

/-! ### Attestation -/

/-- R424: may the controller sign with its identity key? -/
def canAttest (s : State) : Bool := s.on F.SEC_STATE_IDENTITY_OK && s.sec.keys

/-- R435: SEC.STATE as a word. -/
def secStateWord (s : State) : Nat :=
  s.get F.SEC_STATE_BOOT * 2 ^ 30 + s.get F.SEC_STATE_OWNED * 2 ^ 29 + s.get F.SEC_STATE_DEBUG_UNLOCKED * 2 ^ 28 +
  s.get F.SEC_STATE_DEBUG_DISABLED * 2 ^ 27 + s.get F.SEC_STATE_STAGED * 2 ^ 26 + s.get F.SEC_STATE_IDENTITY_OK * 2 ^ 25 +
  s.get F.SEC_STATE_KEYS_REVOKED

/-- R425: a message sent in fragments: to a member, or from a device to the head. -/
def sendMessage (s : State) (dst msg : Nat) (nonce payload : List Byte) : State :=
  let count := Nat.max ((payload.length + 1023) / 1024) 1
  (List.range count).foldl (fun t i =>
    originate t (mkFrame 0x50 0 dst 0 0 (msg + i * 256 + count * 65536) (leNat (nonce.take 8)) 0 ((payload.drop (1024 * i)).take 1024))) s

/-- R425: a CHALLENGE. -/
def challengeBytes (nonce qh : List Byte) : List Byte :=
  nonce ++ qh ++ leBytes 3 0 ++ leBytes 2 Config.identityCert.length ++ leBytes 2 0 ++ Config.identityCert

/-- R425: a STATEMENT without its signature. -/
def statementBody (s : State) (nonce qd : List Byte) : List Byte :=
  nonce ++ leBytes 4 (s.get F.XSH_YARD_ID_ID) ++ leBytes 1 (s.get F.XSH_GEN_YARD_GEN) ++ leBytes 1 (myXY s) ++ leBytes 2 0 ++
  leBytes 4 (s.get F.SEC_FW_VERSION_VERSION) ++ Config.sha384 (slotImage s (s.get F.SEC_STATE_BOOT)) ++ leBytes 4 (secStateWord s) ++
  qd ++ leBytes 3 0 ++ leBytes 2 Config.identityCert.length ++ leBytes 2 0 ++ Config.identityCert

/-- R425: a signed STATEMENT. -/
def statementBytes (s : State) (nonce qd : List Byte) : List Byte :=
  let b := statementBody s nonce qd
  b ++ Config.identitySign s.free (Config.sha384 b)

/-- R424: the head sends a device a CHALLENGE, which starts its exchange afresh. -/
def attestDevice (s : State) (n : Nat) : State :=
  let nonce := Config.freeBytes s.free 32
  let x : Exchange := ⟨nonce, s.free, [], 0, 0, []⟩
  sendMessage (s.tookFree.setSec (fun c => { c with heads := assocPut c.heads n x })) n 1 nonce
    (challengeBytes nonce (Config.ephemeralKey s.free))

/-- R424: the AES key that two ephemeral keys give. -/
def sessionKey (ephemeral : Nat) (peer : List Byte) : List Byte := (Config.sha384 (Config.ecdh ephemeral peer)).take 32

/-- R430, R435: a new yard key. -/
def makeYardKey (s : State) : State :=
  (s.tookFree.setSec (fun c => { c with yardKey := some (Config.freeBytes s.free 32) })).step1 F.SEC_YARD_KEY_GEN_GEN

/-- R430, R435: the yard key, made at its first need. -/
def needYardKey (s : State) : State := if s.sec.yardKey.isSome then s else makeYardKey s

/-- R424, R425: the head sends KEYS to a device. -/
def sendKeys (s : State) (n : Nat) (x : Exchange) : State :=
  let t := needYardKey s
  let plain := t.sec.owner.getD (List.replicate 97 0) ++ t.sec.yardKey.getD [] ++ leBytes 4 (t.get F.SEC_YARD_KEY_GEN_GEN)
  sendMessage t n 3 x.nonce (leBytes 2 133 ++ leBytes 14 0 ++
    Config.gcmSeal (sessionKey x.ephemeral x.peerKey) (x.nonce.take 12) x.nonce plain)

/-- R425: a device's DONE. -/
def sendDone (s : State) (nonce : List Byte) (status : Nat) : State :=
  sendMessage s 0 4 nonce (leBytes 1 status ++ leBytes 15 0)

/-! ### Members known and strange -/

/-- R314, R323: a present member's standing changes: KNOWN or STRANGER. -/
def setKnown (s : State) (n : Nat) (known : Bool) : State :=
  (s.setYard (fun y => { y with members := y.members.map (fun m => if m.number = n then { m with known := known } else m) })).set
    (F.XSH_MEMBER0_STATE n) (if known then 1 else 2)

/-- R315, R324: a stranger is reported; the first since VALID was cleared is captured. -/
def showStranger (s : State) (n : Nat) (digest : List Byte) : State :=
  let word (i : Nat) : Nat := leAt digest (4 * i) 4
  let t := if s.on F.XSH_STRANGER_VALID then s
    else s.setAll ([(F.XSH_STRANGER_VALID, 1), (F.XSH_STRANGER_NUMBER, n)] ++
      (List.range 12).map (fun i => (F.XSH_STRANGER_DIGEST_BYTES i, word i)))
  raiseIrq t 0x100 1

/-- R315, R426: a device whose attestation fails is a stranger, and an error is logged. -/
def attestFailed (s : State) (n : Nat) : State :=
  let t := setKnown (s.setSec (fun c => { c with heads := c.heads.filter (fun e => !decide (e.1 = n)) })) n false
  let u := match t.yard.members.find? (fun m => decide (m.number = n)) with
    | some m => showStranger t n m.digest
    | none => t
  raise (raiseIrq u 0x170 1) { page := 0x170, cls := 0x11, code := 2, sev := 0, unit := 0x170 }

end Sys2Proof.Machine
end

