-- ==== Sys2Proof/Machine/YardRx.lean ====
section
/-! DEFINITION. Machine/YardRx.lean: how a Xiesh frame that reaches a port is checked, acknowledged, forwarded or delivered (R299 to
R303, R306, R319). -/

namespace Sys2Proof.Machine

/-- R300: the frame types that are not reserved. -/
def frameTypes : List Nat :=
  [0x01, 0x02, 0x03, 0x04, 0x05, 0x06, 0x07, 0x08, 0x09, 0x0A, 0x0B, 0x20, 0x21, 0x22, 0x23, 0x24, 0x25, 0x26, 0x30, 0x31, 0x32,
   0x38, 0x39, 0x3A, 0x40, 0x50, 0x7E, 0x7F]

/-- R302: a frame with the expected LSEQ fails: its lane parts are counted, and a NAK is due. -/
def frameFailed (s : State) (k badLanes : Nat) : State :=
  let t := laneFailures s (12 + k) badLanes false
  sendLink ((t.bump (F.XSH_COUNT3_COUNT k)).setXport k (fun p => { p with nakDue := true })) k

/-- R302, R303: a frame is accepted: acknowledged, and its buffer freed. -/
def frameAccepted (s : State) (k : Nat) (f : Frame) : State :=
  sendLink ((s.bump (F.XSH_COUNT1_COUNT k)).setXport k (fun p =>
    { p with rxExpect := (p.rxExpect + 1) % 4096, rxFreed := p.rxFreed.modify (f.vc % 4) (fun c => (c + frameCredits f) % 4096) })) k

/-- R274: each symbol error is counted on its lane. -/
def countSymbols (s : State) (r : Rx) : State :=
  r.symbols.foldl (fun t p => if 16 ≤ p ∧ p ≤ 24 then t.bump (F.SER_SYM_ERR_COUNT (12 + r.port % 4) (p - 16)) else t) s

/-- R301, R302: the link layer's part: whether the frame goes on. -/
def linkReceive (s0 : State) (r : Rx) : State × Bool :=
  let s := countSymbols s0 r
  let k := r.port % 4
  let up := portUp s k
  let partly := decide (s.get (F.XSH_PORT_STATE k) = 4) && [0x20, 0x22].contains r.frame.typ
  if !up && !partly then (s, false)
  else if r.aborted then (s.bump (F.XSH_COUNT4_COUNT k), false)
  else if ¬ r.frame.lseq = (s.xport k).rxExpect ∧ r.headerOk = true then (sendLink s k, false)
  else if !r.headerOk || !decide (r.badLanes = 0) then (frameFailed s k r.badLanes, false)
  else (frameAccepted s k r.frame, true)

/-- R299, R301: a frame goes on to another device; one that has crossed 28 links is discarded. -/
def passOn (s : State) (f : Frame) (k : Nat) : State :=
  if 28 ≤ f.hops + 1 then s.bump (F.XSH_DROPS_COUNT 1) else forwardFrame s { f with hops := f.hops + 1 } (some k)

/-- R306, R319: a broadcast: down the tree from the head or the parent; up to the head from a child. The device that it reaches
on its way down keeps it. -/
def passBroadcast (s : State) (f : Frame) (k : Nat) : State × Bool :=
  if s.isHead then (broadcastDown s f, true)
  else if s.yard.cur.parent = k then
    (((setBits s.yard.cur.children 4).filter (portUp s)).foldl (fun t c => sendOn t c { f with hops := f.hops + 1 }) s, true)
  else (if 28 ≤ f.hops + 1 then s.bump (F.XSH_DROPS_COUNT 1) else sendOn s s.yard.cur.parent { f with hops := f.hops + 1 }, false)

/-- R307: the stream sequence of a VC1 frame that reaches its member; a gap is counted, and the frame still taken. -/
def checkStream (s : State) (f : Frame) : State :=
  if f.vc = 1 ∧ s.isMember = true then
    let t := s.setYard (fun y => { y with sseqRx := some f.sseq })
    match s.yard.sseqRx with
    | some q =>
      if f.sseq = (q + 1) % 65536 then t
      else raise (raiseIrq (t.bump (F.XSH_DROPS_COUNT 3)) 0x100 4) { page := 0x100, cls := 0x09, code := 3, sev := 0, unit := t.get F.XSH_ROLE_NUMBER }
    | none => t
  else s

/-- R299: a frame at its destination: a reserved type or a reserved field that is not zero discards it. -/
def deliver (s : State) (r : Rx) : State × Option Frame :=
  if r.reservedZero && frameTypes.contains r.frame.typ then (checkStream s r.frame, some r.frame)
  else (s.bump (F.XSH_DROPS_COUNT 0), none)

/-- R300: link-local frames, and those of enumeration, which their own rules pass on. -/
def ownWay (typ : Nat) : Bool := [0x20, 0x21, 0x22, 0x40].contains typ

/-- R322: ENUM and TIME frames come from the neighbour itself, whose yard number they show. -/
def peerSeen (s : State) (k : Nat) (f : Frame) : State :=
  if f.typ = 0x20 ∨ f.typ = 0x40 then s.set (F.XSH_PORT_PEER_NUMBER k) f.src else s

/-- R319: a ROUTE for another device: by the current table, or, to a device admitted since the last epoch, on the port recorded for
its coordinates. -/
def passRoute (s : State) (f : Frame) (k : Nat) : State :=
  let o := routeFrame s f (some k)
  if o < 4 ∧ portUp s o = true then passOn s f k
  else match mapGet s.yard.replyPorts f.dxy with
    | some p => sendOn s p { f with hops := f.hops + 1 }
    | none => passOn s f k

/-- A frame that reaches a port: the state after the link layer and forwarding, and the frame where it is for this device. -/
def acceptFrame (s : State) (r : Rx) : State × Option Frame :=
  let a := linkReceive s r
  if !a.2 then (a.1, none)
  else if ownWay r.frame.typ then deliver (peerSeen a.1 (r.port % 4) r.frame) r
  else if r.frame.bcast then
    let b := passBroadcast a.1 r.frame (r.port % 4)
    if b.2 then deliver b.1 r else (b.1, none)
  else if r.frame.dst = a.1.get F.XSH_ROLE_NUMBER then deliver a.1 r
  else if r.frame.typ = 0x23 then (passRoute a.1 r.frame (r.port % 4), none)
  else (passOn a.1 r.frame (r.port % 4), none)

/-- A frame of one type handled at its destination. -/
def onFrame (s : State) (r : Rx) (typ : Nat) (f : State → Frame → State) : State :=
  match acceptFrame s { r with port := r.port % 4, frame := { r.frame with typ := typ } } with
  | (t, some x) => f t x
  | (t, none) => t

end Sys2Proof.Machine
end

