-- ==== Sys2Proof/Machine/Attest.lean ====
section
/-! DEFINITION. Machine/Attest.lean: the messages of an attestation exchange (R424 to R426). -/

namespace Sys2Proof.Machine

/-- R425: a fragment joins the message that is arriving; the message, once whole. -/
def collect (x : Exchange) (msg : Nat) (f : Frame) : Exchange × Option (List Byte) :=
  let count := f.arg / 65536 % 256
  let y : Exchange := if x.message = msg ∧ x.count = count then x else { x with message := msg, count := count, parts := [] }
  let z : Exchange := { y with parts := assocPut y.parts (f.arg / 256 % 256) f.payload }
  if (List.range count).all (fun i => (assoc z.parts i).isSome) && decide (0 < count) then
    ({ z with parts := [] }, some ((List.range count).flatMap (fun i => (assoc z.parts i).getD [])))
  else (z, none)

/-- R425: is a frame of the exchange whose nonce begins with its ADDR? -/
def ofExchange (x : Exchange) (f : Frame) : Bool := decide (leNat (x.nonce.take 8) = f.addr)

/-- R424, R425: a CHALLENGE is whole: NO_IDENTITY, BAD_CHALLENGE, or the STATEMENT. -/
def challengeWhole (s : State) (b : List Byte) : State :=
  let nonce := b.take 32
  let qh := (b.drop 0x20).take 97
  if !canAttest s then sendDone (s.setSec (fun c => { c with device := none })) nonce 4
  else if ¬ b.length = 0x88 + leAt b 0x84 2 ∨ ¬ leAt b 0x81 3 = 0 ∨ ¬ leAt b 0x86 2 = 0 ∨ (Config.certKey (b.drop 0x88)).isNone = true then
    sendDone (s.setSec (fun c => { c with device := none })) nonce 1
  else
    let t := s.tookFree.setSec (fun c => { c with device := some ⟨nonce, s.free, qh, 0, 0, []⟩ })
    sendMessage t.tookFree 0 2 nonce (statementBytes t nonce (Config.ephemeralKey s.free))

/-- R424, R425: a fragment of a CHALLENGE; one of another nonce restarts the exchange. -/
def challengeFrame (s : State) (f : Frame) : State :=
  let fresh : Exchange := ⟨leBytes 8 f.addr, 0, [], 1, 0, []⟩
  let x := match s.sec.device with
    | some y => if ofExchange y f && decide (y.message = 1) then y else fresh
    | none => fresh
  match collect x 1 f with
  | (y, none) => s.setSec (fun c => { c with device := some y })
  | (_, some b) => challengeWhole s b

def execAttestChallenge (rx : Rx) (s : State) : Host.Outcome State Fault Refusal := live s (onFrame s rx 0x50 challengeFrame)

/-- R426: may KEYS be sent for a STATEMENT? -/
def statementGood (s : State) (n : Nat) (x : Exchange) (b : List Byte) : Bool :=
  let len := leAt b 0xC4 2
  let body := b.take (0xC8 + len)
  match Config.certKey ((b.drop 0xC8).take len), s.yard.members.find? (fun m => decide (m.number = n)) with
  | some key, some m =>
    decide (b.length = 0xC8 + len + 96) && decide (b.take 32 = x.nonce) && decide (leAt b 0x26 2 = 0) && decide (leAt b 0xC1 3 = 0) &&
    decide (leAt b 0xC6 2 = 0) && decide (Config.sha384 key = m.digest) &&
    Config.verifies key (Config.sha384 body) (b.drop (0xC8 + len)) &&
    s.yard.idRoster.any (fun e => decide (e.digest = m.digest) && e.enrolled) && !hasBit (leAt b 0x5C 4) 28 &&
    decide (s.get F.SEC_MIN_ROLLBACK_LEVEL ≤ leAt b 0x28 4)
  | _, _ => false

/-- R424, R426: a STATEMENT is whole: KEYS, or the device is a stranger. -/
def statementWhole (s : State) (n : Nat) (x : Exchange) (b : List Byte) : State :=
  if statementGood s n x b then
    let y : Exchange := { x with peerKey := (b.drop 0x60).take 97 }
    sendKeys (s.setSec (fun c => { c with heads := assocPut c.heads n y })) n y
  else attestFailed s n

/-- R425: a fragment of a message from a device, on the head. -/
def headFrame (s : State) (msg : Nat) (f : Frame) (whole : State → Nat → Exchange → List Byte → State) : State :=
  match assoc s.sec.heads f.src with
  | none => s
  | some x =>
    if !ofExchange x f then s
    else match collect x msg f with
      | (y, none) => s.setSec (fun c => { c with heads := assocPut c.heads f.src y })
      | (y, some b) => whole (s.setSec (fun c => { c with heads := assocPut c.heads f.src y })) f.src y b

def execAttestStatement (rx : Rx) (s : State) : Host.Outcome State Fault Refusal :=
  live s (onFrame s rx 0x50 (fun t f => headFrame t 2 f statementWhole))

/-- R426: a device stores an owner key only where entry 2 is empty or equal to it. -/
def storeOwner (s : State) (key : List Byte) : State :=
  if s.sec.owner = some key then s
  else
    let k := ownCommit s 0xBF00 1
    let t := if k.2 = 0 then k.1.setNv (fun n => { n with owner := some key }) else k.1
    (t.setSec (fun c => { c with owner := some key })).set F.SEC_STATE_OWNED 1

/-- R424, R426: KEYS is whole: the owner key and the yard key are taken, DONE. -/
def keysWhole (s : State) (x : Exchange) (b : List Byte) : State :=
  let t := s.setSec (fun c => { c with device := none })
  match Config.gcmOpen (sessionKey x.ephemeral x.peerKey) (x.nonce.take 12) x.nonce ((b.drop 0x10).take 149) with
  | none => sendDone t x.nonce 2
  | some p =>
    if s.sec.owner.isSome ∧ ¬ s.sec.owner = some (p.take 97) then sendDone t x.nonce 3
    else
      let u := (storeOwner t (p.take 97)).setSec (fun c => { c with yardKey := some ((p.drop 97).take 32) })
      sendDone (u.step1 F.SEC_YARD_KEY_GEN_GEN) x.nonce 0

/-- R425: a fragment of KEYS. -/
def keysFrame (s : State) (f : Frame) : State :=
  match s.sec.device with
  | none => s
  | some x =>
    if !ofExchange x f then s
    else match collect x 3 f with
      | (y, none) => s.setSec (fun c => { c with device := some y })
      | (y, some b) => keysWhole s y b

def execAttestKeys (rx : Rx) (s : State) : Host.Outcome State Fault Refusal := live s (onFrame s rx 0x50 keysFrame)

/-- R424 to R426: DONE is whole: the device is known, or a stranger. -/
def doneWhole (s : State) (n : Nat) (_x : Exchange) (b : List Byte) : State :=
  if leAt b 0 1 = 0 then setKnown (s.setSec (fun c => { c with heads := c.heads.filter (fun e => !decide (e.1 = n)) })) n true
  else attestFailed s n

def execAttestDone (rx : Rx) (s : State) : Host.Outcome State Fault Refusal :=
  live s (onFrame s rx 0x50 (fun t f => headFrame t 4 f doneWhole))

/-- R426: the head attests every member anew. -/
def reattestAll (s : State) : State :=
  if s.isHead then (s.yard.members.map (fun m => m.number)).foldl attestDevice s else s

def execReattestTimer (s : State) : Host.Outcome State Fault Refusal := live s (reattestAll s)

end Sys2Proof.Machine
end

