-- ==== Sys2Proof/Machine/Mailbox.lean ====
section
/-! DEFINITION. Machine/Mailbox.lean: the signed mailbox (R427 to R434): a request is checked when GO is written, and its command
carried out by Ozzizo when it is handled. -/

namespace Sys2Proof.Machine

/-- What a command comes to: the state, STATUS, DETAIL, and the response's payload. -/
structure Answer where
  s : State
  code : Nat
  detail : Nat
  payload : List Byte

/-- A command that ends with a code alone. -/
def answer (s : State) (code : Nat) : Answer := ⟨s, code, 0, []⟩

/-- R432: a loft refusal. -/
def loftRefused (s : State) (code : Nat) : Answer := ⟨s, 11, code, []⟩

/-- R432: a fresh nonce. -/
def freshNonce (s : State) : State := (List.range 4).foldl (fun t i => t.setFree (F.HIF_MBX_NONCE_NONCE i)) s

/-- R429: a response is written. -/
def writeResponse (s : State) (bs : List Byte) : State :=
  let a := s.get F.HIF_MBX_RESP_ADDR * 64
  if s.on F.HIF_MBX_RESP_HOST then hostSend s a bs
  else if dramBehind s a bs.length then dramWrite s a bs else s

/-- R429, R432: a request completes. -/
def mbxComplete (r : Answer) (cmd : Nat) : State :=
  let bs := leBytes 4 0x4D425831 ++ leBytes 2 cmd ++ leBytes 2 r.code ++ leBytes 4 (16 + r.payload.length) ++ leBytes 1 r.detail ++
    leBytes 3 0 ++ r.payload
  let t := freshNonce (writeResponse (r.s.setSec (fun c => { c with request := none })) bs)
  raiseIrq (t.setAll [(F.HIF_MBX_CMD_BUSY, 0), (F.HIF_MBX_STATUS_DONE, 1), (F.HIF_MBX_STATUS_CODE, r.code),
    (F.HIF_MBX_STATUS_DETAIL, r.detail)]) 0x002 0

/-! ### The checks of a request -/

/-- R430, R431: a command's payload length, and whether it must be signed. -/
def commandShape (cmd : Nat) : Option (Nat × Bool) :=
  match cmd with
  | 0x0001 => some (0, false)
  | 0x0002 => some (32, false)
  | 0x0010 => some (100, true)
  | 0x0011 => some (100, true)
  | 0x0012 => some (0, true)
  | 0x0020 => some (8, true)
  | 0x0031 => some (4, true)
  | 0x0030 => some (8, false)
  | 0x0040 => some (16, true)
  | 0x0050 => some (56, true)
  | 0x0051 => some (48, true)
  | 0x0052 => some (0, true)
  | 0x0060 => some (80, true)
  | 0x0070 => some (0, true)
  | 0x0071 => some (0, false)
  | _ => none

/-- R431: the reserved bytes of a command's payload: offset and length. -/
def reservedBytes (cmd : Nat) : Nat × Nat :=
  match cmd with
  | 0x0010 => (0x61, 3)
  | 0x0011 => (0x61, 3)
  | 0x0020 => (0x06, 2)
  | 0x0031 => (0x01, 3)
  | 0x0040 => (0x0D, 3)
  | 0x0050 => (0x31, 7)
  | 0x0060 => (0x48, 8)
  | _ => (0, 0)

/-- R431: are a payload's fields within their ranges? -/
def payloadOk (cmd : Nat) (p : List Byte) : Bool :=
  decide (leAt p (reservedBytes cmd).1 (reservedBytes cmd).2 = 0) &&
  match cmd with
  | 0x0020 => decide (leAt p 0 2 < 0x1B0) && decide (1 ≤ leAt p 2 2) && decide (leAt p 0 2 + leAt p 2 2 ≤ 0x1B0) &&
      decide (leAt p 4 1 < 2) && decide (leAt p 5 1 < 2)
  | 0x0031 => decide (leAt p 0 1 < 4)
  | 0x0030 => decide (1 ≤ leAt p 4 4) && decide (leAt p 4 4 ≤ 65520)
  | 0x0040 => decide (leAt p 0 8 % 64 = 0) && decide (leAt p 0x0C 1 < 2)
  | 0x0050 => decide (1 ≤ leAt p 0x30 1) && decide (leAt p 0x30 1 ≤ 63)
  | 0x0060 => decide (leAt p 0 8 % 64 = 0)
  | _ => true

/-- R429: a request's command. -/
def reqCommand (b : List Byte) : Nat := leAt b 4 2

/-- R429: is a request SIGNED? -/
def reqSigned (b : List Byte) : Bool := hasBit (leAt b 6 2) 0

/-- R429: a request's payload. -/
def reqPayload (b : List Byte) : List Byte := (b.drop 0x20).take (b.length - 0x20 - (if reqSigned b then 96 else 0))

/-- R429, R431: is a request well formed? -/
def reqFormatOk (b : List Byte) : Bool :=
  match commandShape (reqCommand b) with
  | none => false
  | some shape =>
    decide (leAt b 0 4 = 0x4D425831) && decide (leAt b 6 2 < 2) && decide (leAt b 8 4 = b.length) && decide (leAt b 12 4 = 0) &&
    decide (b.length = 0x20 + shape.1 + (if reqSigned b then 96 else 0)) && payloadOk (reqCommand b) (reqPayload b)

/-- R421: is the controller in recovery? -/
def inRecovery (s : State) : Bool := decide (s.get F.SEC_STATE_BOOT = 2)

/-- R427, R430, R433: the code with which a request's signature fails, 0 where it passes. -/
def signatureCode (s : State) (b : List Byte) : Nat :=
  let cmd := reqCommand b
  let digest := Config.sha384 (b.take (b.length - 96))
  let sig := b.drop (b.length - 96)
  let need := ((commandShape cmd).map Prod.snd).getD false && !(inRecovery s && decide (cmd = 0x0040))
  if !reqSigned b then (if need then 4 else 0)
  else if cmd = 0x0010 then (if Config.verifies ((reqPayload b).take 97) digest sig then 0 else 4)
  else match s.sec.owner with
    | some key => if Config.verifies key digest sig then 0 else 4
    | none =>
      if cmd = 0x0070 then (if Config.himiwickSigned digest sig then 0 else 4)
      else if need then 5 else 0

/-- R432: the nonce as 16 bytes. -/
def nonceBytes (s : State) : List Byte := (List.range 4).flatMap (fun i => leBytes 4 (s.get (F.HIF_MBX_NONCE_NONCE i)))

/-- R429 to R432: the code with which a request fails before its command is carried out, 0 where it goes on. -/
def reqCode (s : State) (b : List Byte) : Nat :=
  if !reqFormatOk b then 2
  else if ¬ (b.drop 0x10).take 16 = nonceBytes s then 3
  else if inRecovery s && !([0x0001, 0x0040].contains (reqCommand b)) then 6
  else signatureCode s b

/-- R429: bytes of a request or an image read by Ozzizo. -/
def ozzizoFetch (s : State) (host : Bool) (a n : Nat) : State × Option (List Byte) :=
  if host then blockFetch s true a n else dramFetchSecure s a n

/-- R429: a request is fetched and checked; one that fails completes at once. -/
def mbxStart (s : State) : State :=
  let t := s.set F.HIF_MBX_CMD_BUSY 1
  let a := t.get F.HIF_MBX_REQ_ADDR * 4
  let host := t.on F.HIF_MBX_REQ_HOST
  match ozzizoFetch t host a 32 with
  | (u, none) => mbxComplete (answer u 12) 0
  | (u, some h) =>
    if leAt h 8 4 < 32 ∨ 65536 < leAt h 8 4 then mbxComplete (answer u 2) (reqCommand h)
    else match ozzizoFetch u host a (leAt h 8 4) with
      | (v, none) => mbxComplete (answer v 12) (reqCommand h)
      | (v, some b) =>
        let c := reqCode v b
        if c = 0 then v.setSec (fun x => { x with request := some b }) else mbxComplete (answer v c) (reqCommand b)

/-- R429, R434: what follows a write of HIF.MBX_CMD. -/
def mbxCmdAfter (w : Written) : State :=
  if w.tookField F.HIF_MBX_CMD_GO = some 1 then mbxStart w.s else w.s

/-- R429, R434: a write of HIF.MBX_CMD. -/
def mbxCmdWrite (s : State) (m : Master) (data : Nat) : State := mbxCmdAfter (writeAccess s m 0x2110 4 data)

/-- R430: Ozzizo handles the request that runs, where it is of a command. -/
def mbxRun (s : State) (cmd : Nat) (f : State → List Byte → Answer) : State :=
  match s.sec.request with
  | none => s
  | some b => if reqCommand b = cmd then mbxComplete (f s (reqPayload b)) cmd else s

/-! ### Commands (R430, R431) -/

/-- R431: GET_IDENTITY. -/
def doGetIdentity (s : State) (_p : List Byte) : Answer :=
  ⟨s, 0, 0, identityDigest ++ Config.identityKey ++ leBytes 3 0 ++ leBytes 2 Config.identityCert.length ++ leBytes 2 0 ++
    Config.identityCert⟩

def execGetIdentity (s : State) : Host.Outcome State Fault Refusal := live s (mbxRun s 0x0001 doGetIdentity)

/-- R431: ATTEST. -/
def doAttest (s : State) (p : List Byte) : Answer :=
  if canAttest s then ⟨s.tookFree, 0, 0, statementBytes s p (List.replicate 97 0)⟩ else answer s 6

def execMbxAttest (s : State) : Host.Outcome State Fault Refusal := live s (mbxRun s 0x0002 doAttest)

/-- R423, R427: entry 2 takes a key, or none, by a tack room commit. -/
def setOwner (s : State) (key : Option (List Byte)) : Answer :=
  let k := ownCommit s 0xBF00 1
  if k.2 = 0 then
    answer (((k.1.setNv (fun n => { n with owner := key })).setSec (fun c => { c with owner := key })).set F.SEC_STATE_OWNED (b2n key.isSome)) 0
  else loftRefused k.1 k.2

def execClaimOwner (s : State) : Host.Outcome State Fault Refusal :=
  live s (mbxRun s 0x0010 (fun t p => if t.sec.owner.isSome then answer t 6 else setOwner t (some (p.take 97))))

def execReplaceOwner (s : State) : Host.Outcome State Fault Refusal :=
  live s (mbxRun s 0x0011 (fun t p => setOwner t (some (p.take 97))))

/-- R314: the roster changes in the loft and in use, by a commit of record 1: the refusal code, 0 when made. -/
def setRoster (s : State) (ids : List IdEntry) : State × Nat :=
  let k := ownCommit s (copyBase 1 0 / 256) 17
  if k.2 = 0 then ((k.1.setNv (fun n => { n with ids := ids })).setYard (fun y => { y with idRoster := ids }), 0) else k

/-- R427: RELEASE_OWNER: the roster emptied, the yard key discarded; no member is known any more. -/
def doReleaseOwner (s : State) (_p : List Byte) : Answer :=
  let a := setOwner s none
  if a.code ≠ 0 then a
  else
    let k := setRoster a.s []
    if k.2 ≠ 0 then loftRefused k.1 k.2
    else
      let t := k.1.setSec (fun c => { c with yardKey := none })
      answer ((t.yard.members.map (fun m => m.number)).foldl (fun u n => setKnown u n false) t) 0

def execReleaseOwner (s : State) : Host.Outcome State Fault Refusal := live s (mbxRun s 0x0012 doReleaseOwner)

/-- R430, R416: SET_PAGE. -/
def doSetPage (s : State) (p : List Byte) : Answer :=
  let pages := (List.range (leAt p 2 2)).map (fun i => leAt p 0 2 + i)
  if pages.any (fun x => fixedHostPage x || fixedSecurePage x) then answer s 6
  else
    let k := ownCommit s (copyBase 0 0 / 256) 4
    if k.2 ≠ 0 then loftRefused k.1 k.2
    else
      let kept := k.1.nv.pages.filter (fun e => !pages.contains e.1)
      let t := k.1.setNv (fun n => { n with pages := kept ++ pages.map (fun x => (x, leAt p 4 1, leAt p 5 1)) })
      answer (pages.foldl (fun u x => u.setAll [(F.PAGE_SEC_WORLD x, leAt p 4 1), (F.PAGE_OWNER_OWNER x, leAt p 5 1)]) t) 0

def execSetPage (s : State) : Host.Outcome State Fault Refusal := live s (mbxRun s 0x0020 doSetPage)

/-- R371, R430: SET_LOFT_PROTECT: the value waits in the shadow block, saved at once. -/
def doSetLoftProtect (s : State) (p : List Byte) : Answer :=
  if loftTempOk s then
    let sh : Shadow := { s.loft.shadow with bp := some (leAt p 0 1) }
    answer (shadowSave (s.setLoft (fun l => { l with shadow := sh }))) 0
  else loftRefused s 7

def execSetLoftProtect (s : State) : Host.Outcome State Fault Refusal := live s (mbxRun s 0x0031 doSetLoftProtect)

/-- R430: LOFT_READ: bytes of partitions 2 and 3; a byte of an uncorrectable word reads zero. -/
def doLoftRead (s : State) (p : List Byte) : Answer :=
  let a := leAt p 0 4
  let n := leAt p 4 4
  if a < 0x012400 ∨ 0xBF0000 < a + n then answer s 6
  else ⟨s, 0, 0, (List.range n).map (fun i => if s.mem.badLoft.contains ((a + i) / 8 * 8) then 0 else memGet s.mem.loft (a + i))⟩

def execLoftRead (s : State) : Host.Outcome State Fault Refusal := live s (mbxRun s 0x0030 doLoftRead)

/-- R374, R421, R422: an image is committed in pieces of 64 KiB from a loft address on: the refusal code, 0 when all are made. -/
def commitImage (s : State) (a : Nat) (img : List Byte) : State × Nat :=
  (List.range ((img.length + 65535) / 65536)).foldl (fun acc i =>
    if acc.2 ≠ 0 then acc
    else
      let piece := (img.drop (65536 * i)).take 65536
      let k := ownCommit acc.1 ((a + 65536 * i) / 256) (loftPages (a + 65536 * i) piece.length)
      if k.2 = 0 then (loftPut k.1 (a + 65536 * i) piece, 0) else k) (s, 0)

/-- R421: FW_UPDATE in recovery: slot A is written and checked. -/
def recoverImage (s : State) (img : List Byte) : Answer :=
  let k := commitImage s (imageBase 0) img
  if k.2 ≠ 0 then loftRefused k.1 k.2
  else if imageValid 1 (k.1.get F.SEC_MIN_ROLLBACK_LEVEL) (slotImage k.1 0) then answer k.1 0 else answer k.1 7

/-- R422: FW_UPDATE in normal operation: the image is staged and marked. -/
def stageImage (s : State) (img : List Byte) : Answer :=
  let k := commitImage s 0x400000 img
  if k.2 ≠ 0 then loftRefused k.1 k.2
  else
    let r := ownCommit k.1 (copyBase 10 0 / 256) 1
    if r.2 ≠ 0 then loftRefused r.1 r.2
    else answer ((r.1.setNv (fun n => { n with staged := some img.length })).set F.SEC_STATE_STAGED 1) 0

/-- R422, R430: FW_UPDATE. -/
def doFwUpdate (s : State) (p : List Byte) : Answer :=
  match ozzizoFetch s (hasBit (leAt p 0x0C 1) 0) (leAt p 0 8) (leAt p 8 4) with
  | (t, none) => answer t 12
  | (t, some img) =>
    if !imageValid 1 0 img then answer t 7
    else if leAt img 0x0C 4 < t.get F.SEC_MIN_ROLLBACK_LEVEL then answer t 8
    else if inRecovery t then recoverImage t img else stageImage t img

/-- R421, R471: after FW_UPDATE in recovery the controller resets. -/
def fwUpdate (s : State) : State :=
  let t := mbxRun s 0x0040 doFwUpdate
  if s.sec.request.isSome && t.sec.request.isNone && inRecovery t && decide (t.get F.HIF_MBX_STATUS_CODE = 0) then resetState t .device else t

def execFwUpdate (s : State) : Host.Outcome State Fault Refusal := live s (fwUpdate s)

/-- R428: the roster with an entry for a digest and a number. -/
def enrolled (ids : List IdEntry) (digest : List Byte) (n xy : Nat) : List IdEntry :=
  ids.filter (fun e => !decide (e.number = n) && !decide (e.digest = digest)) ++ [⟨digest, n, true, xy⟩]

/-- R428: ENROL. -/
def doEnrol (s : State) (p : List Byte) : Answer :=
  let digest := p.take 48
  let n := leAt p 0x30 1
  let held := s.yard.idRoster.any (fun e => decide (e.number = n) && !decide (e.digest = digest) &&
    s.yard.members.any (fun m => decide (m.digest = e.digest)))
  if !s.isHead ∨ held = true then answer s 6
  else
    let here := s.yard.members.find? (fun m => decide (m.digest = digest))
    let k := setRoster s (enrolled s.yard.idRoster digest n ((here.map (fun m => m.xy)).getD 0))
    if k.2 ≠ 0 then loftRefused k.1 k.2
    else match here with
      | some m => answer (attestDevice k.1 m.number) 0
      | none => answer k.1 0

def execEnrol (s : State) : Host.Outcome State Fault Refusal := live s (mbxRun s 0x0050 doEnrol)

/-- R428: UNENROL. -/
def doUnenrol (s : State) (p : List Byte) : Answer :=
  let digest := p.take 48
  if !s.isHead then answer s 6
  else if s.yard.idRoster.any (fun e => decide (e.digest = digest)) = false then answer s 10
  else
    let k := setRoster s (s.yard.idRoster.filter (fun e => !decide (e.digest = digest)))
    if k.2 ≠ 0 then loftRefused k.1 k.2
    else match k.1.yard.members.find? (fun m => decide (m.digest = digest)) with
      | some m => answer (showStranger (setKnown k.1 m.number false) m.number digest) 0
      | none => answer k.1 0

def execUnenrol (s : State) : Host.Outcome State Fault Refusal := live s (mbxRun s 0x0051 doUnenrol)

/-- R430, R432: ROTATE_YARD_KEY. -/
def doRotateYardKey (s : State) (_p : List Byte) : Answer :=
  if s.isMember then answer s 6
  else
    let t := makeYardKey s
    answer (((t.yard.members.filter (fun m => m.known)).map (fun m => m.number)).foldl attestDevice t) 0

def execRotateYardKey (s : State) : Host.Outcome State Fault Refusal := live s (mbxRun s 0x0052 doRotateYardKey)

/-- R231, R430: the CRC of a band's protected pixels as they stand in DRAM. -/
def protRef (s : State) (p : Plane) (b : Nat) : Nat :=
  crc32c ((List.range 540).flatMap (fun line =>
    let row := (540 * b + line) / 10
    if planeCovers p row then dramRead s (lumaRange p row).1 (lumaRange p row).2 else []))

/-- R229, R430: PROTECTED_LOAD: the surface is copied into a secure region and checked, the back registers and references are
written, then SWAP. -/
def doProtectedLoad (s : State) (p : List Byte) : Answer :=
  match dramFetchSecure s (leAt p 0 8) (leAt p 8 4) with
  | (t, none) => answer t 12
  | (t, some bs) =>
    if ¬ Config.sha384 bs = (p.drop 0x10).take 48 then answer t 7
    else
      let a := Config.protSurface t.free % 2 ^ 30
      let u := if dramBehind t (64 * a) bs.length then dramWrite t.tookFree (64 * a) bs else t.tookFree
      let v := u.setAll [(F.CMP_PROT_ADDR_ADDR, a), (F.CMP_PROT_PITCH_BYTES, leAt p 0x0C 4),
        (F.CMP_PROT_DST_DST_X, bitsOf (leAt p 0x40 4) F.CMP_PROT_DST_DST_X.lo F.CMP_PROT_DST_DST_X.w),
        (F.CMP_PROT_DST_DST_Y, bitsOf (leAt p 0x40 4) F.CMP_PROT_DST_DST_Y.lo F.CMP_PROT_DST_DST_Y.w),
        (F.CMP_PROT_SIZE_W, bitsOf (leAt p 0x44 4) F.CMP_PROT_SIZE_W.lo F.CMP_PROT_SIZE_W.w),
        (F.CMP_PROT_SIZE_H, bitsOf (leAt p 0x44 4) F.CMP_PROT_SIZE_H.lo F.CMP_PROT_SIZE_H.w), (F.CMP_PROT_CTRL_EN, 1)]
      let plane := (protBack v).localTo v
      let x := (List.range 12).foldl (fun y b => y.set (F.CMP_PROT_CRC_REF_CRC b) (protRef v plane b)) v
      answer (x.set F.CMP_PROT_CTRL_SWAP 1) 0

def execProtectedLoad (s : State) : Host.Outcome State Fault Refusal := live s (mbxRun s 0x0060 doProtectedLoad)

/-- R433: the bytes of a protected surface zeroed. -/
def zeroSurface (s : State) (p : Plane) : State :=
  let n := p.pitch * p.h
  if n ≠ 0 ∧ dramBehind s p.addr n = true then dramWrite s p.addr (List.replicate n 0) else s

/-- R433: DEBUG_UNLOCK. -/
def doDebugUnlock (s : State) (_p : List Byte) : Answer :=
  if Config.debugDisable then answer s 6
  else
    let surfaces := protBack s :: (s.cmp.prot.toList.map Prod.fst)
    let a := surfaces.foldl zeroSurface ((s.setAll [(F.CMP_PROT_CTRL_EN, 0), (F.CMP_PROT_CTRL_SWAP, 0), (F.CMP_STATUS_PROT_ACTIVE, 0)]).setCmp
      (fun c => { c with prot := none, protTaken := none }))
    let b := a.setSec (fun c => { c with yardKey := none, keys := false })
    answer (raise (raiseIrq (b.set F.SEC_STATE_DEBUG_UNLOCKED 1) 0x170 2)
      { page := 0x170, cls := 0x11, code := 3, sev := 0, unit := 0x170 }) 0

def execDebugUnlock (s : State) : Host.Outcome State Fault Refusal := live s (mbxRun s 0x0070 doDebugUnlock)

def execDebugLock (s : State) : Host.Outcome State Fault Refusal := live s (mbxRun s 0x0071 (fun t _ => answer t 0))

end Sys2Proof.Machine
end

