-- ==== Sys2Proof/Machine/Dram.lean ====
section
/-! DEFINITION. Machine/Dram.lean: the DRAM controller's own work: refresh (R354, R355), read centring (R350), scrubbing (R351),
changes of speed (R356, R357), rank sparing (R358 to R364), the rebuilding of words (R361, R451) and the pattern loops (R365). -/

namespace Sys2Proof.Machine

/-- The DRAM controller changed. -/
def State.setDmc (s : State) (f : Dmc → Dmc) : State := { s with dmc := f s.dmc }

/-! ### Refresh -/

/-- R354: is a rank populated? -/
def rankPresent (s : State) (unit : Nat) : Bool := hasBit (s.get (F.DMC_CH_STATE_RANK_PRESENT (unit / 4))) (unit % 4)

/-- R355: a bank that has stayed in use: its debt rises by one, and at 8 one forced refresh lowers it. -/
def bankDebt (s : State) (k : Nat) : State :=
  let d := mapVal s.dmc.debts k + 1
  let c := k / 48
  let t := s.raiseTo (F.DMC_REF_DEBT_MAX_DEBT c) (Nat.min d 8)
  if d < 8 then t.setDmc (fun x => { x with debts := mapPut x.debts k d })
  else (t.bump (F.DMC_REF_FORCED_COUNT c)).setDmc (fun x => { x with debts := mapPut x.debts k 7 })

/-- R354: tREFIpb passes: the banks not in use have paid their debts in free slots. -/
def refreshInterval (s : State) (inUse : List Nat) : State :=
  let used := inUse.filter (fun k => decide (k < 768) && rankPresent s (k / 48 * 4 + k / 16 % 3))
  let t := s.setDmc (fun x => { x with debts := x.debts.filter (fun e => used.contains e.1) })
  let u := (List.range 16).foldl (fun v c =>
    if s.get (F.DMC_CH_STATE_STATE c) = 2 then v.raiseTo (F.DMC_REF_DEBT_MAX_DEBT c) 1 else v) t
  (used.foldl insertNat []).foldl bankDebt u

def execRefreshInterval (inUse : List Nat) (s : State) : Host.Outcome State Fault Refusal := live s (refreshInterval s inUse)

/-- R350: a rank's delays move by at most one sixty-fourth of a unit interval. -/
def centreRank (s : State) (unit : Nat) (step : Int) : State :=
  let old := (assoc s.dmc.centring unit).getD 0
  s.setDmc (fun x => { x with centring := assocPut x.centring unit (old + clampInt step (-1) 1) })

def execReadCentringCheck (channel rank : Nat) (step : Int) (s : State) : Host.Outcome State Fault Refusal :=
  live s (centreRank s (channel % 16 * 4 + rank % 3) step)

/-! ### Speed -/

/-- R356: may the timing sets be exchanged now? -/
def speedAllowed (s : State) : Bool :=
  !s.on F.DMC_SPEED_BUSY && s.drum.plans.all (fun p => !p.started || p.closed) && s.cal.pass.isNone

/-- R357: the states of the channels in service change together. -/
def moveChannels (s : State) (a b : Nat) : State :=
  (List.range 16).foldl (fun t c =>
    if t.get (F.DMC_CH_STATE_STATE c) = a then t.set (F.DMC_CH_STATE_STATE c) b else t) s

/-- R356, R357: a change of speed begins, or is refused. -/
def speedGo (s : State) : State :=
  if speedAllowed s then
    (moveChannels (s.setAll [(F.DMC_STATE_GO_REFUSED, 0), (F.DMC_SPEED_BUSY, 1)]) 2 3).setDmc (fun x => { x with debts := [] })
  else s.set F.DMC_STATE_GO_REFUSED 1

/-- R357, R366: what follows a write of DMC.SPEED. -/
def speedAfter (w : Written) : State :=
  if w.tookField F.DMC_SPEED_GO = some 1 then speedGo w.s else w.s

/-- R357, R366: a write of DMC.SPEED. -/
def speedWrite (s : State) (m : Master) (data : Nat) : State := speedAfter (writeAccess s m 0x1301B0 4 data)

def execSpeedGo (m : Master) (data : Nat) (s : State) : Host.Outcome State Fault Refusal := live s (speedWrite s m (withBit data 31))

/-- R357 steps 5 to 7: the sets exchange roles. -/
def speedDone (s : State) : State :=
  if s.on F.DMC_SPEED_BUSY then
    let a := 1 - s.get F.DMC_SPEED_ACTIVE
    raiseIrq (moveChannels (s.setAll [(F.DMC_SPEED_BUSY, 0), (F.DMC_SPEED_ACTIVE, a)]) 3 2) 0x130 3
  else s

def execSpeedChangeDone (s : State) : Host.Outcome State Fault Refusal := live s (speedDone s)

/-! ### Sparing -/

/-- R347: the interleave set in which a rank of the address map lies. -/
def rankSet (s : State) (unit : Nat) : Option Nat :=
  (List.range 8).find? (fun i =>
    s.on (F.DMC_ISET_EN i) && decide (s.get (F.DMC_ISET_RANK i) = unit % 4) && decide (s.get (F.DMC_ISET_CH_BASE i) ≤ unit / 4) &&
    decide (unit / 4 < s.get (F.DMC_ISET_CH_BASE i) + 2 ^ s.get (F.DMC_ISET_WAYS_LOG2 i)))

/-- R367: has a rank been taken out of service? -/
def rankFailed (s : State) (unit : Nat) : Bool := hasBit (s.get (F.DMC_CH_STATE_RANK_FAILED (unit / 4))) (unit % 4)

/-- A rank is marked failed. -/
def failRank (s : State) (unit : Nat) : State :=
  s.set (F.DMC_CH_STATE_RANK_FAILED (unit / 4)) (withBit (s.get (F.DMC_CH_STATE_RANK_FAILED (unit / 4))) (unit % 4))

/-- R346: the standby spares, lowest first. -/
def standby (s : State) : List Nat :=
  (List.range 64).filter (fun u => decide (u % 4 < 3) && hasBit (s.get F.DMC_SPARE_SET_RANKS) (3 * (u / 4) + u % 4) && !rankFailed s u)

/-- R365: a rank is no longer a standby spare. -/
def dropStandby (s : State) (u : Nat) : State :=
  s.setAll [(F.DMC_SPARE_SET_RANKS, withoutBit (s.get F.DMC_SPARE_SET_RANKS) (3 * (u / 4) + u % 4)),
    (F.DMC_CH_STATE_RANK_SPARE (u / 4), withoutBit (s.get (F.DMC_CH_STATE_RANK_SPARE (u / 4))) (u % 4))]

/-- R358: the remap entries that are free. -/
def freeEntries (s : State) : List Nat :=
  (List.range 4).filter (fun e => decide (s.get (F.DMC_REMAP_STATE e) = 0) || decide (s.get (F.DMC_REMAP_STATE e) = 3))

/-- The source and target ranks of a remap entry. -/
def entryFrom (s : State) (e : Nat) : Nat := s.get (F.DMC_REMAP_FROM_CH e) * 4 + s.get (F.DMC_REMAP_FROM_RANK e)
def entryTo (s : State) (e : Nat) : Nat := s.get (F.DMC_REMAP_TO_CH e) * 4 + s.get (F.DMC_REMAP_TO_RANK e)

/-- R359: a remap entry is written, with a state. -/
def writeEntry (s : State) (e st from' to' : Nat) : State :=
  s.setAll [(F.DMC_REMAP_FROM_CH e, from' / 4), (F.DMC_REMAP_FROM_RANK e, from' % 4), (F.DMC_REMAP_TO_CH e, to' / 4),
    (F.DMC_REMAP_TO_RANK e, to' % 4), (F.DMC_REMAP_POINTER e, 0), (F.DMC_REMAP_STATE e, st)]

/-- R358: the remap table is kept in the loft (record 2). -/
def keepRemap (s : State) : State :=
  let k := ownCommit s (copyBase 2 0 / 256) 1
  if k.2 = 0 then k.1.setNv (fun n => { n with
      remap := (List.range 4).map (fun e => (s.get (F.DMC_REMAP_STATE e), entryFrom s e, entryTo s e, s.get (F.DMC_REMAP_POINTER e)))
      sparing := s.dmc.event })
  else k.1

/-- R359: the other rank of a channel that lies in another set than 0 and is in service where it stands. -/
def cascadeRank (s : State) (unit : Nat) : Option Nat :=
  ((List.range 3).map (fun r => unit / 4 * 4 + r)).find? (fun u =>
    !decide (u = unit) && !rankFailed s u && decide (servingRank s u = u) &&
    (match rankSet s u with | some i => !decide (i = 0) | none => false))

/-- R358: the rank of the address map that a rank serves. -/
def servedRank (s : State) (unit : Nat) : Nat :=
  match (List.range 64).find? (fun u => !decide (u = unit) && (rankSet s u).isSome && decide (servingRank s u = unit)) with
  | some u => u
  | none => unit

/-- R364: no spare or no entry is left: the rank stays in service, and the controller is degraded. -/
def noSpareRank (s : State) (unit : Nat) : State :=
  enterDegraded (raiseIrq (s.set F.DMC_STATE_DEGRADED 1) 0x130 2) 2 0x130 0x02 2 unit

/-- R359: the sparing of a failed rank begins, by cascade or direct. -/
def startEvent (s : State) (unit : Nat) : State :=
  let src := servedRank s unit
  let begin' (t : State) (spare : Nat) (es : List Nat) : State :=
    keepRemap (((dropStandby t spare).set F.DMC_STATE_MIGRATING 1).setDmc (fun x => { x with event := some (unit, es) }))
  let cascade := if src = unit ∧ rankSet s unit = some 0 then cascadeRank s unit else none
  match standby s, freeEntries s, cascade with
  | spare :: _, e :: f :: _, some other => begin' (writeEntry (writeEntry s e 1 other spare) f 0 unit other) spare [e, f]
  | spare :: _, e :: _, none => begin' (writeEntry s e 1 src spare) spare [e]
  | _, _, _ => noSpareRank s unit

/-- R363: one sparing event runs at a time; the first request that waits is taken up, and one that cannot be met is closed. -/
def spareNext (s : State) : State :=
  match s.dmc.event, s.dmc.requests with
  | none, unit :: rest =>
    let t := startEvent s unit
    if t.dmc.event.isSome then t else t.setDmc (fun x => { x with requests := rest })
  | _, _ => s

/-- R360: the uncorrectable words of the source rank arrive poisoned in the target, and join the rebuild list. -/
def poisonRank (s : State) (unit : Nat) : State :=
  let ws := s.mem.badDram.filter (fun w => decide (rankOf s w = some unit))
  { s with mem := { s.mem with badDram := s.mem.badDram.filter (fun w => !ws.contains w)
                               poisonDram := ws.foldl insertNat s.mem.poisonDram }
           dmc := { s.dmc with rebuild := ws.foldl insertNat s.dmc.rebuild } }

/-- R360: a remap entry becomes DONE in place of another that served the same source. -/
def entryDone (s : State) (e : Nat) : State :=
  let t := (List.range 4).foldl (fun t g =>
    if t.get (F.DMC_REMAP_STATE g) = 2 ∧ entryFrom t g = entryFrom s e then t.set (F.DMC_REMAP_STATE g) 0 else t) s
  t.setAll [(F.DMC_REMAP_STATE e, 2), (F.DMC_REMAP_POINTER e, 16384)]

/-- R360, R363: the running copy is complete: the next step of the event begins, or the event ends. -/
def migrationDone (s : State) : State :=
  match s.dmc.event with
  | some (unit, e :: rest) =>
    if s.on F.DMC_SPEED_BUSY then s
    else
      let t := raiseIrq (entryDone (poisonRank s (servingRank s (entryFrom s e))) e) 0x130 1
      match rest with
      | f :: _ => keepRemap ((t.set (F.DMC_REMAP_STATE f) 1).setDmc (fun x => { x with event := some (unit, rest) }))
      | [] =>
        let u := (failRank t unit).setAll [(F.DMC_STATE_MIGRATING, 0), (F.DMC_STATE_SPARES_LEFT, t.get F.DMC_STATE_SPARES_LEFT - 1)]
        spareNext (keepRemap (u.setDmc (fun x =>
          { x with event := none, requests := x.requests.filter (fun r => !decide (r = unit)) })))
  | _ => s

def execMigrationDone (s : State) : Host.Outcome State Fault Refusal := live s (migrationDone s)

/-- R363: an uncorrectable word in a rank that does not serve the address map: a running copy to it is aborted and its event
restarted with another spare. -/
def spareUe (s : State) (unit : Nat) : State :=
  let t := raise (s.bump (F.DMC_UE_COUNT_COUNT (unit / 4) (unit % 4)))
    { page := 0x120 + unit / 4, cls := 0x02, code := 6, sev := 2, unit := unit }
  match t.dmc.event with
  | some (_, e :: _) =>
    if entryTo t e = unit then
      let u := raiseIrq (failRank (t.setAll [(F.DMC_REMAP_STATE e, 3), (F.DMC_STATE_MIGRATING, 0)]) unit) 0x130 4
      spareNext (keepRemap (u.setDmc (fun x => { x with event := none })))
    else t
  | _ => t

/-! ### Scrubbing and rebuilding -/

/-- R451: the kernel package of a slot is lost: slot 0 is loaded anew, and bands running one of its kernels run LAYERED with
defaults from the next boundary. -/
def packageLost (s : State) (slot : Nat) : State :=
  let t := raise (s.set (F.RSY_PKG_INFO_VALID slot) (if slot = 0 then 1 else 0)) { page := 0x070, cls := 0x0E, code := 2, sev := 2, unit := slot }
  if t.rsy.kernel.slot = slot then t.setRsy (fun r => { r with loaded := some Kernel.reset, slotLost := true }) else t

/-- R451: a camera model is lost until Ozzizo's service has loaded it anew. -/
def modelLost (s : State) (port : Nat) : State :=
  (raise s { page := 0x090 + port, cls := 0x0C, code := 0, sev := 1, unit := port }).setDmc (fun x =>
    { x with lostModels := insertNat x.lostModels port })

/-- R351, R358: what the scrubber finds in a word of device memory. -/
def scrubFound (s : State) (a found : Nat) : State :=
  let w := a / 8 * 8
  if s.mem.badDram.contains w then dramUe s w
  else if s.mem.poisonDram.contains w then s
  else if s.mem.weakDram.contains w then dramCe s w
  else match found with
    | 0 => s
    | 1 => dramCe s w
    | _ => dramUe { s with mem := { s.mem with badDram := insertNat s.mem.badDram w } } w

/-- R351, R451: the scrubber's word. -/
def scrubWord (s : State) (word : ScrubWord) (found : Nat) : State :=
  match word with
  | .plain a => scrubFound s a found
  | .spare u =>
    match found with
    | 0 => s
    | 1 => rankCe s (u % 64) 0
    | _ => spareUe s (u % 64)
  | .lenslet a n =>
    let t := scrubFound s a found
    if found < 2 then t else t.setDmc (fun x => { x with badLens := insertNat x.badLens n })
  | .package a slot =>
    let t := scrubFound s a found
    if found < 2 then t else packageLost t (slot % 4)
  | .model a port =>
    let t := scrubFound s a found
    if found < 2 then t else modelLost t (port % 8)

def execScrubPass (word : ScrubWord) (found : Nat) (s : State) : Host.Outcome State Fault Refusal := live s (scrubWord s word found)

/-- R361: words written anew into device memory, whose check is then good. -/
def rewriteWord (s : State) (a : Nat) (bs : List Byte) : State :=
  (dramWrite s a bs).setDmc (fun x =>
    { x with rebuild := x.rebuild.filter (fun w => !(decide (a ≤ w) && decide (w < a + bs.length))) })

/-- R361, R104, R451: a tile's slot is decompressed anew from its retained copy; an unretained one is filled with zeros. -/
def rebuildTile (s : State) (n slot a : Nat) : State :=
  let t := tileOf s n
  let block := dramRead s (retainAddr s n slot) 4096
  let kept := (if slot = 0 then t.retainedA else t.retainedB) && !dramBad s (retainAddr s n slot) (blockLength (headerOf block).payloadLen)
  match if kept then decodeTile (headerOf block).kind (payloadOf block) else none with
  | some bytes => rewriteWord s (slotAddr s n slot) bytes
  | none =>
    let u := setTile (rewriteWord s (slotAddr s n slot) (List.replicate 4096 0)) n (fun x => x.withSlot slot true true false)
    raise u { page := 0x130, cls := 0x02, code := 5, sev := 2, unit := (rankOf s a).getD 0, info := a }

/-- R451: the context of a queue is lost: it is disabled and empty, and nothing of it retires. -/
def contextLost (s : State) (q : Nat) : State :=
  let c := { ctxOf s q with enable := false, head := 0, tail := 0, lastSeq := 0 }
  let t := s.setScene (fun x => { x with
    ctxs := assocPut x.ctxs q c
    runs := x.runs.filter (fun r => !decide (r.queue = q))
    skipped := x.skipped.filter (fun e => !decide (e.1 = q))
    aborted := x.aborted.filter (fun e => !decide (e.1 = q))
    commits := x.commits.filter (fun m => !decide (m.queue = q)) })
  raise (showUnits (showCommits t)) { page := 0x020, cls := 0x0E, code := 1, sev := 2, unit := q }

/-- R361, R451: a word of the rebuild list is rebuilt from its source; a lenslet's record is read again; any other is left
poisoned. -/
def rebuildWord (s : State) (a : Nat) : State :=
  let w := a / 8 * 8
  let tiles := s.get F.LAY_TILE_BASE_ADDR * 4096
  let ctx := s.get F.QMG_CTX_BASE_ADDR * 0x800000
  let hist := s.get F.OVD_HIST_BASE_ADDR * 4096
  if tiles ≤ w ∧ w < tiles + 4 * 0x70800000 then
    let i := (w - tiles) % 0x70800000 / 4096
    rebuildTile s ((w - tiles) / 0x70800000 * 230400 + i / 2) (i % 2) w
  else if ctx ≤ w ∧ w < ctx + 0x800000 then contextLost (rewriteWord s w (List.replicate 8 0)) ((w - ctx) / 32)
  else if hist ≤ w ∧ w < hist + 6480 * 11520 then rewriteWord s w (List.replicate 8 0)
  else
    { s with mem := { s.mem with badDram := s.mem.badDram.filter (fun x => !decide (x = w)), poisonDram := insertNat s.mem.poisonDram w }
             dmc := { s.dmc with rebuild := s.dmc.rebuild.filter (fun x => !decide (x = a)) } }

/-- R361, R255: the bands whose lenslet records are to be read again. -/
def rereadLenses (s : State) : State :=
  let bands := (List.range 12).filter (fun b => s.dmc.badLens.any (fun n => decide (n / 62208 = b)))
  if bands.isEmpty || s.pnl.toRead.isEmpty = false then s else readModels s bands 12

/-- R447: Ozzizo's service of the DRAM's errors: every word of the list is rebuilt, and a sparing begins if none runs. -/
def serviceDram (s : State) : State := rereadLenses (spareNext (s.dmc.rebuild.foldl rebuildWord s))

/-! ### Loops -/

/-- R365: what follows a write of DMC.LOOP. -/
def loopCmdAfter (c : Nat) (w : Written) : State :=
  if w.tookField (F.DMC_LOOP_START c) = some 1 then w.s.set (F.DMC_LOOP_BUSY c) 1 else w.s

/-- R365: a write of DMC.LOOP. -/
def loopCmdWrite (s : State) (m : Master) (c data : Nat) : State := loopCmdAfter c (writeAccess s m (0x120140 + 0x1000 * c) 4 data)

def execDmcLoop (m : Master) (channel data : Nat) (s : State) : Host.Outcome State Fault Refusal :=
  live s (loopCmdWrite s m (channel % 16) (withBit data 31))

/-- R365: a loop ends; a standby spare with any bit error is no spare any more. -/
def loopCmdDone (s : State) (c errors lane : Nat) : State :=
  if s.on (F.DMC_LOOP_BUSY c) then
    let u := 4 * c + s.get (F.DMC_LOOP_RANK c)
    let t := raiseIrq (s.setAll [(F.DMC_LOOP_BUSY c, 0), (F.DMC_LOOP_ERR_COUNT c, Nat.min errors (2 ^ 32 - 1)),
      (F.DMC_LOOP_LANE_WORST_LANE c, lane % 72)]) (0x120 + c) 1
    if 0 < errors ∧ (standby t).contains u = true then
      (dropStandby t u).set F.DMC_STATE_SPARES_LEFT (t.get F.DMC_STATE_SPARES_LEFT - 1)
    else t
  else s

def execDmcLoopDone (channel errors lane : Nat) (s : State) : Host.Outcome State Fault Refusal :=
  live s (loopCmdDone s (channel % 16) errors lane)

end Sys2Proof.Machine
end

