-- ==== Sys2Proof/Machine/Errors.lean ====
section
/-! DEFINITION. Machine/Errors.lean: the service of the error ring and the logs (R445 to R448), the arming of an injection (R460)
and the muck-out (R456 to R458). -/

namespace Sys2Proof.Machine

/-! ### Service -/

/-- R444, R445: a held entry, FOLDED and its repeats with it, is posted as the next one of the ring, or coalesced with an unserviced
entry of the same error, and its source captures it. -/
def postHeld (s : State) (page : Nat) (e : ErrEntry) : State :=
  let t := s.setErr (fun r => { r with held := r.held.filter (fun h => !decide (h.1 = page)) })
  let like (x : ErrEntry) : Bool := decide (x.cls = e.cls) && decide (x.code = e.code) && decide (x.unit = e.unit)
  match t.err.ring.find? like with
  | some old =>
    let u := showRing (t.setErr (fun r => { r with ring := r.ring.map (fun x => if like x then { x with rep := Nat.min (x.rep + 1 + e.rep) 0xFFFF } else x) }))
    captureSeq u page old.seq
  | none =>
    let u := admitEntry t e
    captureSeq u page (u.get F.ERR_SEQ_SEQ)

/-- R445: the oldest held entry is posted once the ring has room. -/
def heldPost (s : State) : State :=
  match s.err.held with
  | (page, e) :: _ => if s.err.ring.length < 64 then postHeld s page e else s
  | [] => s

def execHeldEntryPost (s : State) : Host.Outcome State Fault Refusal := live s (heldPost s)

/-- R446: the entry presented: the highest severity, the oldest among equals. The ring is in the order of SEQ. -/
def presented (ring : List ErrEntry) : Option ErrEntry :=
  ring.foldl (fun b e =>
    match b with
    | none => some e
    | some c => if c.sev < e.sev then some e else some c) none

/-- R443: the ACTION that Ozzizo writes: FAILED and DEGRADED by severity, SPARE for an engine or lane replaced, UNIT_LOST for a
stall or barn, SPARING_STARTED for a rank, RELOAD_NEEDED for what host software must resend, CORRECTED for a corrected word,
REBUILT for a model or tile loaded anew (log entry 27). -/
def actionOf (e : ErrEntry) : Nat :=
  if e.sev = 4 then 8
  else if e.sev = 3 then 7
  else match e.cls, e.code with
    | 0x01, _ => if e.sev = 0 then 1 else 5
    | 0x02, 1 => 1
    | 0x02, 5 => 6
    | 0x02, _ => 4
    | 0x03, _ => 2
    | 0x04, _ => if e.sev = 2 then 3 else 2
    | 0x05, _ => 3
    | 0x07, _ => if e.sev = 1 then 2 else 0
    | 0x0C, 0 => if e.sev = 1 then 5 else 0
    | 0x0D, 2 => 6
    | 0x0E, _ => 6
    | _, _ => 0

/-- R447: the policy that an entry's service carries out: rank sparing and rebuild, the reload of a camera model, the in-service
failure record. -/
def servicePolicy (s : State) (e : ErrEntry) : State :=
  match e.cls with
  | 0x02 => if e.code = 1 ∨ e.code = 5 then s else serviceDram s
  | 0x03 => if s.power.losses.isEmpty then s else (muckCommit s (muckNow s)).1
  | 0x04 => if s.power.losses.isEmpty then s else (muckCommit s (muckNow s)).1
  | 0x05 => if s.power.losses.isEmpty then s else (muckCommit s (muckNow s)).1
  | 0x0C => if e.code = 0 ∧ e.sev = 1 then s.setDmc (fun x => { x with lostModels := x.lostModels.filter (fun p => !decide (p = e.unit)) }) else s
  | _ => s

/-- R448: an entry enters the host log, over the oldest when 256 stand in it. -/
def hostLogPut (s : State) (e : ErrEntry) : State :=
  let full := decide (256 ≤ s.err.hostLog.length)
  let t := (s.step1 F.ERR_LOG_COUNT_COUNT).setErr (fun r => { r with hostLog := (if full then r.hostLog.drop 1 else r.hostLog) ++ [e] })
  if full then raiseIrq (t.bump F.ERR_LOG_LOST_COUNT) 0x180 4 else t

/-- R448: an entry of severity 1 or above waits for the loft log, if it is not there yet; one of severity 0 is counted by
class. -/
def loftLogPut (s : State) (e : ErrEntry) : State :=
  if e.sev = 0 then s.setErr (fun r => { r with sev0 := mapPut r.sev0 e.cls (mapVal r.sev0 e.cls + 1 + e.rep) })
  else if s.err.toLoft.any (fun x => decide (x.cls = e.cls) && decide (x.code = e.code) && decide (x.time = e.time) && decide (x.unit = e.unit)) then s
  else s.setErr (fun r => { r with toLoft := r.toLoft ++ [e] })

/-- R45: Ozzizo releases the captures that name a serviced entry on the pages it owns. -/
def releaseCaptures (s : State) (seq : Nat) : State :=
  let named (p : Nat) : Bool := s.on (F.ERR_FIRST_VALID p) && decide (s.get (F.ERR_FIRST_CODE p) = 0x7F) &&
    decide (s.get (F.ERR_INFO p 0) = seq) && !s.on (F.PAGE_OWNER_OWNER p)
  ((List.range 0x1B0).filter named).foldl (fun t p => t.set (F.ERR_FIRST_VALID p) 0) s

/-- R446, R448: the entry presented is serviced, leaves the ring with ACTION and SERVICED, and is logged. -/
def serviceEntry (s : State) : State :=
  match presented s.err.ring with
  | none => s
  | some e =>
    let t := showRing ((servicePolicy s e).setErr (fun r => { r with ring := r.ring.erase e }))
    let d := { e with action := actionOf e, serviced := true }
    let u := releaseCaptures (loftLogPut (hostLogPut t d) d) e.seq
    if u.get F.ERR_CFG_IRQ_LEVEL ≤ e.sev then raiseIrq u 0x180 0 else u

def execEntryService (s : State) : Host.Outcome State Fault Refusal := live s (serviceEntry s)

def execLogCommit (hour : Bool) (s : State) : Host.Outcome State Fault Refusal :=
  live s (if hour then commitCounts (commitLog s) else commitLog s)

/-- R461: a word of the entry that LOG_INDEX names: 0 the newest of the host log. -/
def logEntryWord (s : State) (w : Nat) : Nat :=
  match s.err.hostLog.reverse[s.get F.ERR_LOG_INDEX_INDEX]? with
  | none => 0
  | some e =>
    match w with
    | 0 => e.seq
    | 1 => e.cls + e.sev * 2 ^ 8 + e.code * 2 ^ 16
    | 2 => e.time % 2 ^ 32
    | 3 => e.time / 2 ^ 32 % 2 ^ 32
    | 4 => e.unit
    | 5 => e.rep + (e.action + b2n e.serviced * 16 + b2n e.escalated * 32 + b2n e.afterDrop * 64 + b2n e.injected * 128 +
        b2n e.folded * 256) * 2 ^ 16
    | 6 => e.info % 2 ^ 32
    | _ => e.info / 2 ^ 32 % 2 ^ 32

/-! ### Injection -/

/-- R460: what follows a write of ERR.INJECT: a new ARM clears DONE. -/
def injectAfter (w : Written) : State :=
  if w.tookField F.ERR_INJECT_ARM = some 1 then w.s.set F.ERR_INJECT_DONE 0 else w.s

/-- R460: a write of ERR.INJECT: a new ARM clears DONE. -/
def injectWrite (s : State) (m : Master) (data : Nat) : State := injectAfter (writeAccess s m 0x1801D0 4 data)

def execErrInjectArm (m : Master) (data : Nat) (s : State) : Host.Outcome State Fault Refusal := live s (injectWrite s m (withBit data 31))

/-! ### The muck-out -/

/-- R456 steps 2 and 3: processors and engines halt, and the secrets, the shadow block and the commit buffer are cleared. -/
def muckClear (s : State) : State :=
  let t := (s.set F.BST_STATE_STATE 2).setSec (fun x => { x with keys := false, yardKey := none, heads := [], device := none })
  t.setLoft (fun l => { l with
    shadow := Shadow.reset
    badBuf := []
    buf := []
    zeroBuf := true })

/-- R462: what follows a write of BST.CTRL. -/
def bstCtrlAfter (w : Written) : State :=
  if w.tookField F.BST_CTRL_GO = some 1 then muckClear w.s else w.s

/-- R462: a write of BST.CTRL. -/
def bstCtrlWrite (s : State) (m : Master) (data : Nat) : State := bstCtrlAfter (writeAccess s m 0x190100 4 data)

def execMuckOutGo (m : Master) (data : Nat) (s : State) : Host.Outcome State Fault Refusal := live s (bstCtrlWrite s m (withBit data 31))

/-- R458: the result that the PART words give. -/
def muckResult (why : Nat) (parts : List Nat) : Nat :=
  if ¬ why = 0 then 3
  else if parts.any (fun p => decide (bitsOf p 30 2 = 1)) then 2
  else if parts.all (fun p => decide (bitsOf p 30 2 = 0)) then 1 else 4

/-- R455, R457, R458: the PART words recorded: with the read-back failed none has been run, and an UNTESTED partition keeps what
an earlier muck-out found in it. -/
def muckParts (s : State) (readBack : Bool) (parts : List Nat) : List Nat :=
  (List.range 24).map (fun i =>
    let p := parts.getD i 0xC0000000
    if !readBack then 0xC0000000
    else if bitsOf p 30 2 = 2 then bitsOf p 28 4 * 2 ^ 28 + (muckNow s).parts.getD i 0 % 2 ^ 17
    else bitsOf p 28 4 * 2 ^ 28 + p % 2 ^ 17)

/-- R456 steps 6 and 7, R457: the records are committed and the clocks stop; a reset that waits takes effect. -/
def muckFinish (s : State) (readBack : Bool) (mhz : Nat) (parts repairs : List Nat) : State :=
  if s.get F.BST_STATE_STATE = 2 then
    let why := if s.power.muckWhy = 0 then b2n (!readBack) else s.power.muckWhy
    let ps := muckParts s readBack parts
    let t := muckRecord (s.set F.BST_STATE_TEST_MHZ mhz) (muckResult why ps) why mhz ps (repairs.map (fun r => r % 2 ^ 32))
    match t.power.waiting with
    | some c => resetState t c
    | none =>
      let u := (t.set F.BST_STATE_STATE 6).setPower (fun p => { p with stopped := true })
      { u with pcie := { u.pcie with linkUp := false } }
  else s

def execMuckOutDone (readBack : Bool) (mhz : Nat) (parts repairs : List Nat) (s : State) : Host.Outcome State Fault Refusal :=
  live s (muckFinish s readBack mhz parts repairs)

end Sys2Proof.Machine
end

