-- ==== Sys2Proof/Machine/PowerCmds.lean ====
section
/-! DEFINITION. Machine/PowerCmds.lean: resets as they are asked for (R471, R477, R478), the PCI Express link (R308, R473), start-up
(R420 to R422, R459, R474), the power-fail warning (R466), the rails (R465, R492) and the PLLs (R470). -/

namespace Sys2Proof.Machine

/-! ### Resets -/

/-- R381: a commit that runs when the supplies fall. -/
def commitFate (s : State) (fate : CommitFate) : State :=
  match s.loft.commit, fate with
  | some _, .beforePoint => s.setLoft (fun l => { l with commit := none, torn := true })
  | some c, .afterPoint => s.setLoft (fun l => { l with commit := none, journal := some c })
  | _, _ => s

/-- R488: TEST_EN is sampled at the end of a power-on reset. -/
def execPowerOnReset (testEn : Bool) (fate : CommitFate) (s : State) : Host.Outcome State Fault Refusal :=
  .next ((resetState (commitFate s fate) .powerOn).setPower (fun p => { p with test := testEn }))

/-- R457, R471: a reset asked for: at once before panel bring-up, in the dark, in a hold or with the clocks stopped; else once
the panel is dark; a muck-out that runs ends first. -/
def requestReset (s : State) (c : Cause) : State :=
  if s.power.stopped || s.power.held then resetState s c
  else if s.get F.BST_STATE_STATE = 1 then muckAborted s c
  else if 2 ≤ s.get F.BST_STATE_STATE ∧ s.get F.BST_STATE_STATE ≤ 5 then
    s.setPower (fun p => { p with waiting := some (p.waiting.getD c), muckWhy := if p.muckWhy = 0 then 3 else p.muckWhy })
  else if s.pnl.step = 30 ∨ (s.pnl.step = 0 ∧ ¬ s.get F.PNL_SEQ_STATE_STATE = 2) then resetState s c
  else beginPowerOff (s.setPower (fun p => { p with waiting := some (p.waiting.getD c) })) .reset

/-- PERST# asserted. -/
def execPerstAssert (s : State) : Host.Outcome State Fault Refusal :=
  .next ((requestReset s .perst).setPower (fun p => { p with perst := true }))

/-- R478: what follows a write of GLB.RESET. -/
def resetAfter (w : Written) : State :=
  if w.tookField F.GLB_RESET_DO = some 1 then requestReset w.s .device else w.s

/-- R478: a write of GLB.RESET. -/
def resetWrite (s : State) (m : Master) (data : Nat) : State := resetAfter (writeAccess s m 0x110 4 data)

def execDeviceReset (m : Master) (data : Nat) (s : State) : Host.Outcome State Fault Refusal := live s (resetWrite s m data)

def execLinkReset (s : State) : Host.Outcome State Fault Refusal := live s (linkReset s)

/-- R308: the link is at L0; a head candidate with an active port floods ENUM. -/
def pcieUp (s : State) : State :=
  let t : State := { s with pcie := { s.pcie with linkUp := true } }
  if candidate t && !(upPorts t).isEmpty && !t.yard.enumSent then floodEnum t else t

def execPcieLinkUp (s : State) : Host.Outcome State Fault Refusal := live s (pcieUp s)

/-! ### Start-up: the loft -/

/-- R383: the journal examined before the loft answers any read. -/
def recoverJournal (s : State) : State :=
  if s.loft.torn then journalDiscard s
  else match s.loft.journal with
    | none => s
    | some (a, bs) => if s.on F.LFT_STATUS_TEMP_OK then journalReplay s a bs else s.set F.LFT_STATUS_JOURNAL 3

/-- R377, R474: the loft's temperature as start-up finds it, and the charger started. -/
def startLoft (s : State) (x : Start) : State :=
  let ok := decide (0 ≤ x.loftTemp) && decide (x.loftTemp ≤ 1440)
  (s.set F.LFT_STATUS_TEMP_OK (b2n ok)).setLoft (fun l => { l with temp := some x.loftTemp, charger := true })

/-- R380: the later valid copy of the shadow block is loaded; with none the block starts from zero, SHADOW_STALE is set and an
error is logged. -/
def loadShadow (s : State) : State :=
  match if copyALater s.nv then s.nv.copyA else s.nv.copyB with
  | none =>
    raise ((s.set F.LFT_STATUS_SHADOW_STALE 1).setLoft (fun l => { l with shadow := { Shadow.reset with starts := 1 } }))
      { page := 0x140, cls := 0x0F, code := 0x16, sev := 2, unit := 0 }
  | some c =>
    let t := (s.setAll ((List.range 9).map (fun i => (F.LFT_COUNT_COUNT i, s.get (F.LFT_COUNT_COUNT i) + c.counters.getD i 0)))).setLoft (fun l =>
      { l with shadow := { c.block with starts := c.block.starts + 1 } })
    let times := c.block.rankCe.flatMap (fun e => List.replicate e.2 (e.1, s.now))
    (t.setErr (fun r => { r with toLoft := c.entries ++ r.toLoft, sev0 := c.sev0 })).setDmc (fun d => { d with ceTimes := times })

/-- R358, R360: the remap table and the sparing event that record 2 and the shadow block keep: an event goes on where it stood,
and the ranks that DONE entries have moved away from are out of service. -/
def loadRemap (s : State) : State :=
  let t := (List.range s.nv.remap.length).foldl (fun u e =>
    let r := s.nv.remap.getD e (0, 0, 0, 0)
    writeEntry u e r.1 r.2.1 r.2.2.1) s
  let done := (List.range 4).filter (fun e => decide (t.get (F.DMC_REMAP_STATE e) = 2))
  let gone := (done.map (entryFrom t)).filter (fun u => !(done.map (entryTo t)).contains u)
  let u := (if s.nv.remap.isEmpty then [] else gone).foldl failRank t
  (u.set F.DMC_STATE_MIGRATING (b2n s.nv.sparing.isSome)).setDmc (fun d => { d with event := s.nv.sparing })

/-- R385, R474 steps 2 and 4: records 0 to 11 are read, and with them every "L" field, page and setting. -/
def loadRecords (s : State) : State :=
  let t := (List.range 12).foldl (fun u r => (recordRead u r).1) s
  let u : State := { t with
    mech := { t.mech with loaded := some t.mem.loft, pages := t.nv.pages }
    yard := { t.yard with idRoster := t.nv.ids }
    rsy := { t.rsy with lens := { t.rsy.lens with groom := t.nv.groom } } }
  let v := loadRemap (loadShadow u)
  v.setAll ([(F.DRU_REQ_EFF_MODE, 0), (F.CAL_REQ_EFF_MODE, v.get F.CAL_REQ_MODE)] ++
    (List.range 64).map (fun i => (F.SEC_REGION_LOCK i, 1)))

/-! ### Start-up: boot and the tack room -/

/-- R420: the slot the boot ROM runs: the valid image with the higher VERSION, slot A on a tie. -/
def bootSlot (s : State) : Option Nat :=
  let a := slotImage s 0
  let b := slotImage s 1
  match imageValid 1 s.nv.minRollback a, imageValid 1 s.nv.minRollback b with
  | true, true => if leAt a 8 4 < leAt b 8 4 then some 1 else some 0
  | true, false => some 0
  | false, true => some 1
  | false, false => none

/-- R419, R423, R435: the tack room is unsealed, and the SEC registers show it and the image that runs. -/
def openTackRoom (s : State) (slot : Nat) : State :=
  let img := slotImage s slot
  let t := s.setAll [(F.SEC_STATE_BOOT, slot), (F.SEC_STATE_OWNED, b2n s.nv.owner.isSome), (F.SEC_STATE_STAGED, b2n s.nv.staged.isSome),
    (F.SEC_STATE_KEYS_REVOKED, Config.keysRevoked), (F.SEC_STATE_DEBUG_DISABLED, b2n Config.debugDisable),
    (F.SEC_FW_VERSION_VERSION, leAt img 8 4), (F.SEC_MIN_ROLLBACK_LEVEL, s.nv.minRollback)]
  t.setSec (fun x => { x with keys := t.on F.SEC_STATE_IDENTITY_OK, owner := t.nv.owner, rollback := leAt img 0x0C 4 })

/-- R422: a staged image, still valid, is copied into the slot not booted by commits of 64 KiB, and its mark cleared; refused by
the loft, it stays staged. -/
def applyStaged (s : State) (slot : Nat) : State :=
  match s.nv.staged with
  | none => s
  | some n =>
    let img := memRead s.mem.loft 0x400000 n
    if imageValid 1 s.nv.minRollback img && decide (ownCheck s 0xC000 257 = 0) then
      let t := loftPut s (imageBase (1 - slot)) img
      let u := (List.range ((n + 65535) / 65536 + 1)).foldl (fun v _ => commitCounted v) t
      (u.setNv (fun v => { v with staged := none })).set F.SEC_STATE_STAGED 0
    else s

/-- R371: BP is set: a value that waits in the shadow block is committed to record 9 first; then the page is locked. -/
def setProtect (s : State) : State :=
  match s.loft.shadow.bp with
  | some v =>
    let k := ownCommit s (copyBase 9 0 / 256) 1
    let t := if k.2 = 0 then (k.1.setNv (fun n => { n with bp := v })).setLoft (fun l => { l with shadow := { l.shadow with bp := none } })
      else k.1
    t.setAll [(F.LFT_CTRL_BP, v), (F.PAGE_SEC_LOCK 0x140, 1)]
  | none => s.setAll [(F.LFT_CTRL_BP, s.nv.bp), (F.PAGE_SEC_LOCK 0x140, 1)]

/-! ### Start-up: record 4 -/

/-- R459: the PART words in use: where the record shows another RESULT than PASSED or FAILED, the boot ROM's self-test gives
those of the stall and barn partitions that it does not show as PASS or FAIL. -/
def partsInUse (s : State) (x : Start) : List Nat :=
  let m := muckNow s
  (List.range 24).map (fun p =>
    let w := m.parts.getD p 0xC0000000
    if (m.result = 1 ∨ m.result = 2) ∨ bitsOf w 30 2 ≤ 1 ∨ 16 ≤ p then w else x.selfTest.getD p 0 % 2 ^ 32)

/-- R459: the engines of a stall that are mapped out. -/
def failedEngines (m : MuckRec) (w k : Nat) : List Nat :=
  (List.range 16).filter (fun e =>
    (decide (bitsOf w 30 2 = 1) && hasBit w e) || decide (2 ≤ m.engineFails.getD (k * 16 + e) 0))

/-- R141, R459: a stall's engines with some mapped out: spares take the places of render engines and of the service engine. -/
def stallWithout (k : Nat) (bad : List Nat) : StallEng :=
  let e0 := StallEng.reset k
  let good := e0.spares.filter (fun e => !bad.contains e)
  let lost := (e0.render.filter (fun e => bad.contains e)).length
  let render := e0.render.filter (fun e => !bad.contains e) ++ good.take lost
  let left := good.drop lost
  match e0.dutyEngine with
  | some d => if bad.contains d then ⟨render, left.drop 1, left.head?, false⟩ else ⟨render, left, some d, false⟩
  | none => ⟨render, left, none, false⟩

/-- R459: is a stall mapped out, by its own partition or its barn's? -/
def stallOut (m : MuckRec) (parts : List Nat) (k : Nat) : Bool :=
  let w := parts.getD k 0
  let b := parts.getD (12 + k / 3) 0
  (decide (bitsOf w 30 2 = 1) && hasBit w 16) || decide ((StallEng.reset k).spares.length < (failedEngines m w k).length) ||
  decide (2 ≤ m.stallFails.getD k 0) || decide (bitsOf b 30 2 = 1) || decide (2 ≤ m.barnFails.getD (k / 3) 0)

/-- R147, R459: a stall's engines and registers at start-up. -/
def startStall (m : MuckRec) (parts : List Nat) (s : State) (k : Nat) : State :=
  let bad := failedEngines m (parts.getD k 0) k
  let out := stallOut m parts k
  let e := stallWithout k bad
  let up := (List.range 16).foldl (fun v i => if bad.contains i then v else v + 2 ^ i) 0
  let duty := if k < 6 then 0 else if k = 6 then 1 else if k = 7 then 2 else 3
  let t := s.setAll [(F.STL_STATE_STATE k, if out then 3 else 0), (F.STL_STATE_ENGINES k, if out then 0 else up),
    (F.STL_STATE_SPARES k, if out then 0 else e.spares.length), (F.STL_STATE_DUTY k, duty), (F.STL_BANDS_OWN_VALID k, b2n (!out))]
  t.setRsy (fun r => { r with
    stalls := modifyAt r.stalls k (fun _ => e)
    duties := if k < 8 then assocPut r.duties k (some (k, e.dutyEngine.getD 13)) else r.duties })

/-- R26, R142, R143, R459: the band of a stall mapped out goes to its takers and its duty to another engine. -/
def startTakers (s : State) (k : Nat) : State :=
  if s.get (F.STL_STATE_STATE k) = 3 then moveDuties (divideBand s k) 1 k else s

/-- R459: each FAIL or UNTESTED partition makes an entry. -/
def selfTestEntry (m : MuckRec) (parts : List Nat) (s : State) (p : Nat) : State :=
  let st := bitsOf (parts.getD p 0) 30 2
  let fresh := !decide (m.parts.getD p 0xC0000000 = parts.getD p 0)
  if st = 1 then raise s { page := 0x190, cls := 0x14, code := if fresh then 3 else 1, sev := 1, unit := p }
  else if st = 2 then raise s { page := 0x190, cls := 0x14, code := 2, sev := 1, unit := p }
  else s

/-- R459: record 4 is applied. -/
def applyMuck (s : State) (x : Start) : State :=
  let m := muckNow s
  let parts := partsInUse s x
  let count (f : Nat → Bool) : Nat := (parts.filter (fun w => f (bitsOf w 30 2))).length
  let a := (List.range 12).foldl (startStall m parts) s
  let b := (List.range 12).foldl startTakers a
  let mapped := (List.range 12).foldl (fun n k => n + (16 - (setBits (b.get (F.STL_STATE_ENGINES k)) 16).length)) 0
  let c := b.setAll ([(F.ERR_MUCK_RESULT, m.result), (F.ERR_MUCK_UNTESTED, count (fun st => decide (2 ≤ st))),
    (F.ERR_MUCK_FAILED, count (fun st => decide (st = 1))), (F.ERR_MUCK_MAPPED, mapped),
    (F.GLB_START_SELF_TEST, b2n (!(decide (m.result = 1) || decide (m.result = 2))))] ++
    (List.range 24).map (fun p => (F.BST_PART_RESULT p, parts.getD p 0)))
  let d := (List.range 24).foldl (selfTestEntry m parts) c
  let e := if (surviving d).length < 9 then checkStalls d else d
  if (List.range 8).any (fun g => !decide (g = 2) && decide (bitsOf (parts.getD (16 + g) 0) 30 2 = 1)) then
    deviceFailure e 6 { page := 0x190, cls := 0x14, code := 1, sev := 4, unit := 16 }
  else e

/-! ### Start-up: the whole -/

/-- R346, R350, R358: the channels have trained: one that cannot be trained is a device failure, a rank that fails is to be
spared. -/
def trainDram (s : State) (x : Start) : State :=
  let a := (List.range 16).foldl (fun t c =>
    raiseIrq (t.set (F.DMC_CH_STATE_STATE c) (if x.channels.contains c then 4 else 2)) (0x120 + c) 2) s
  let b := ((List.range 64).filter (fun u => x.ranks.contains u && decide (u % 4 < 3))).foldl (fun t u =>
    requestSparing (raise t { page := 0x120 + u / 4, cls := 0x02, code := 4, sev := 2, unit := u }) u) a
  match (List.range 16).find? (fun c => x.channels.contains c) with
  | some c => deviceFailure b 2 { page := 0x120 + c, cls := 0x02, code := 4, sev := 4, unit := 4 * c }
  | none => b

/-- R131, R474 step 5: kernel slot 0 is loaded from the loft. -/
def loadKernels (s : State) : State :=
  s.setAll ([(F.RSY_PKG_INFO_VALID 0, 1), (F.RSY_PKG_INFO_KERNELS 0, basePackage.length)] ++
    [1, 2, 3].flatMap (fun k => [(F.RSY_PKG_INFO_VALID k, 0), (F.RSY_PKG_INFO_KERNELS k, 0), (F.RSY_PKG_INFO_VERSION k, 0)]))

/-- R420, R474 steps 3 to 5: with an image to run, Ozzizo starts, loads its records, and prepares the panel wait. -/
def startOzzizo (s : State) (x : Start) (slot : Nat) : State :=
  let a := applyMuck (loadRecords s) x
  let b := setProtect (applyStaged (measureHoldup (openTackRoom a slot) x.holdupMv) slot)
  let c := trainDram (loadKernels b) x
  if c.on F.ERR_STATE_FAILED then c
  else c.setAll [(F.CKP_PNL_PWR_EN, 1), (F.GLB_START_STAGE, 3)]

/-- R474, R488: PERST# is released: the straps are sampled, and t₀ is now. -/
def releasePerst (s : State) (x : Start) : State :=
  (s.set F.GLB_STRAPS_LINKW x.linkw).setPower (fun p => { p with t0 := s.now, perst := false })

/-- R421, R474, R488: start-up after a reset, once; with TEST_EN high it stops at the end of step 1, and with no valid image the
controller is in recovery. -/
def startUp (s : State) (x : Start) : State :=
  if s.mech.loaded.isSome ∨ ¬ s.get F.GLB_START_STAGE = 0 ∨ s.power.stopped = true then s
  else if s.power.test then releasePerst s x
  else
    let a := recoverJournal (startLoft (releasePerst s x) x)
    match bootSlot a with
    | none => a.setAll [(F.SEC_STATE_BOOT, 2), (F.GLB_START_STAGE, 6)]
    | some slot => startOzzizo a x slot

def execStartUp (x : Start) (s : State) : Host.Outcome State Fault Refusal := live s (startUp s x)

/-- R474 step 7: panel bring-up begins. -/
def panelWaitEnd (s : State) : State :=
  if s.get F.GLB_START_STAGE = 3 then settlePanel (startPanel (s.set F.GLB_START_STAGE 4)) else s

def execPanelWaitEnd (s : State) : Host.Outcome State Fault Refusal := live s (panelWaitEnd s)

/-! ### The power-fail warning -/

/-- R379: the loft's sequence: later commits are refused, and the shadow is saved, after a commit that runs. -/
def loftWarned (s : State) : State :=
  let t := raiseIrq (s.set F.LFT_STATUS_POWER_DOWN 1) 0x140 5
  if t.loft.commit.isSome then t.setLoft (fun l => { l with saveDue := true }) else shadowSave t

/-- R457, R466: the warning is asserted. -/
def pwrfailAssert (s : State) : State :=
  if s.on F.CKP_PNL_PWR_WARN then s
  else
    let sh : Shadow := { s.loft.shadow with warnings := s.loft.shadow.warnings + 1 }
    let t := ((raiseIrq (s.set F.CKP_PNL_PWR_WARN 1) 0x1A0 2).setPower (fun p => { p with warned := true })).setLoft (fun l =>
      { l with shadow := sh })
    if 2 ≤ t.get F.BST_STATE_STATE ∧ t.get F.BST_STATE_STATE ≤ 5 then
      t.setPower (fun p => { p with muckWhy := if p.muckWhy = 0 then 2 else p.muckWhy })
    else
      let u := loftWarned t
      if u.power.held || u.on F.ERR_STATE_FAILED || u.power.critical then u
      else if u.get F.GLB_START_STAGE < 4 then u.setAll [(F.GLB_START_STAGE, 7), (F.CKP_PNL_PWR_EN, 0)]
      else if 4 ≤ u.get F.GLB_START_STAGE ∧ u.get F.GLB_START_STAGE ≤ 5 then beginPowerOff u .warning
      else u

def execPwrfailAssert (s : State) : Host.Outcome State Fault Refusal := live s (pwrfailAssert s)

/-- R379, R466: the warning has been deasserted for 100 ms: POWER_DOWN clears, and a device reset follows, once the sequence
that the warning started has ended. -/
def pwrfailDeassert (s : State) : State :=
  if s.on F.CKP_PNL_PWR_WARN then requestReset (s.setAll [(F.CKP_PNL_PWR_WARN, 0), (F.LFT_STATUS_POWER_DOWN, 0)]) .warnRecovered else s

def execPwrfailDeassert (s : State) : Host.Outcome State Fault Refusal := live s (pwrfailDeassert s)

/-! ### Rails and PLLs -/

/-- R492: each rail's nominal voltage in mV, and its tolerance and LOW_WARN level in thousandths. -/
def railTable : List (Nat × Nat × Nat) :=
  [(800, 50, 30), (750, 50, 30), (750, 50, 30), (750, 50, 30), (850, 50, 30), (900, 30, 20), (1200, 30, 20), (1800, 30, 20), (3300, 50, 30)]

/-- R492: the state that a rail's voltage gives it. -/
def railState (rail mv : Nat) : Nat :=
  let r := railTable.getD rail (800, 50, 30)
  if 1000 * mv < r.1 * (1000 - r.2.1) ∨ r.1 * (1000 + r.2.1) < 1000 * mv then 2
  else if 1000 * mv < r.1 * (1000 - r.2.2) then 1 else 0

/-- R465: the die that a rail's error names. -/
def railDie (rail : Nat) : Nat := if rail = 2 then 0 else if rail = 3 then 1 else 2

/-- R465, R479, R492: a rail's voltage as measured; leaving its tolerance makes an error. -/
def railMeasured (s : State) (rail mv : Nat) : State :=
  let t := s.setAll [(F.CKP_RAIL_STATE rail, railState rail mv), (F.CKP_RAIL_MV rail, mv)]
  if railState rail mv = 2 ∧ ¬ s.get (F.CKP_RAIL_STATE rail) = 2 then
    raise (raiseIrq t 0x1A0 0) { page := 0x1A0, cls := 0x06, code := 2, sev := 2, unit := railDie rail, info := rail }
  else t

def execRailOutOfRange (rail mv : Nat) (s : State) : Host.Outcome State Fault Refusal := live s (railMeasured s (rail % 9) mv)

def execRailReturnsToTolerance (rail mv : Nat) (s : State) : Host.Outcome State Fault Refusal := live s (railMeasured s (rail % 9) mv)

/-- R142, R449: a stall fails as a whole. -/
def failStall (s : State) (k : Nat) : State :=
  let lots := s.rsy.lots.filter (fun l => decide (l.stall = k) && decide (l.phase = .running))
  if !stallActive s k then s
  else if lots.any (fun l => inBarnRepair s k (some l)) then enterDegraded (loseStall s k 3 0 true) 1 0x060 0x04 2 k
  else if lots.any (fun l => inStallRepair s k (some l)) then loseBarn s (k / 3) (k * 16)
  else checkStalls (loseStall s k 3 0 false)

/-- R12, R470: a die is lost. -/
def dieLost (s : State) (die : Nat) (domains : List Nat) : State :=
  deviceFailure (s.setPower (fun p => { p with unlocked := p.unlocked ++ domains })) 1
    { page := 0x1A0, cls := 0x06, code := 1, sev := 4, unit := die }

/-- R470: a PLL loses lock. -/
def pllLost (s0 : State) (pll : Pll) : State :=
  let s := raiseIrq s0 0x1A0 1
  match pll with
  | .stall k => failStall (s.setPower (fun p => { p with unlocked := p.unlocked ++ [k % 12] })) (k % 12)
  | .computeDie d => dieLost s (d % 2) [12 + 2 * (d % 2), 13 + 2 * (d % 2)]
  | .dieLink d => dieLost s (d % 2) [16 + d % 2]
  | .ioCore => dieLost s 2 [18, 41, 42, 43]
  | .ioLink => dieLost s 2 [16, 17]
  | .dram q => dieLost s 2 [19 + q % 4]
  | .timeBase => dieLost s 2 [44, 45]
  | .laneGroup d =>
    (if d = 28 then [12, 13, 14, 15] else (List.range 3).map (fun i => 3 * (d % 4) + i)).foldl (fun t g =>
      if t.on (F.SER_CTRL_ENABLE g) then trainGroup t g else t) s
  | .reference => xtalBad s

def execPllUnlock (pll : Pll) (s : State) : Host.Outcome State Fault Refusal := live s (pllLost s pll)

end Sys2Proof.Machine
end

