-- ==== Sys2Proof/Machine/Time.lean ====
section
/-! DEFINITION. Machine/Time.lean: yard time (R325 to R334), the trigger outputs (R336 to R338) and the capture inputs (R339). The
bytes of an IEEE 1588 message are those of IEEE 1588-2019 (log entry 28). -/

namespace Sys2Proof.Machine

/-! ### The counter -/

/-- R325: one tick of the time-base clock. -/
def tick (s : State) : State :=
  let v := timeFrac s + s.get F.TIM_INCREMENT_INC
  (s.set F.TIM_TIME_NS (v / 2 ^ 32)).setTim (fun x => { x with frac := v % 2 ^ 32 })

/-- R336: the first pulse of a trigger that is scheduled after a time (2^-32 ns). -/
def pulseAfter (g : Trig) (x : Int) : Nat :=
  let a : Int := (g.start * 2 ^ 32 : Nat)
  if x < a then 0 else (Int.fdiv (x - a) (g.period : Int)).toNat + 1

/-- R336: when a trigger's next pulse is scheduled (2^-32 ns). -/
def pulseTime (g : Trig) : Int := (g.start * 2 ^ 32 + g.next * g.period : Nat)

/-- R336: do a trigger's values in force lie within their limits? -/
def trigSound (g : Trig) : Bool :=
  decide (16 * 2 ^ 32 ≤ g.period) && decide (8 ≤ g.width) && decide ((g.width + 8) * 2 ^ 32 ≤ g.period)

/-- R327, R337: a trigger rescheduled on the stepped counter; a pulse in progress keeps its length. -/
def stepTrig (at' d : Int) (g : Trig) : Trig :=
  match g.fall with
  | some f => { g with fall := some (f + d * 2 ^ 32) }
  | none => { g with next := pulseAfter g at' }

/-- R327: the times of a band's plan moved by a step. -/
def stepPlan (d : Int) (p : Plan) : Plan :=
  { p with tStart := p.tStart + d, tDeadline := p.tDeadline + d, tOn := p.tOn + d, tOff := p.tOff + d }

/-- R327: a step of the counter, and of the times that move with it. -/
def stepTime (s : State) (d : Int) : State :=
  let t := s.set F.TIM_TIME_NS (ofSigned ((s.now : Int) + d) 64)
  let u := t.setDrum (fun x =>
    { x with te := x.te + d, hist := x.hist.map (fun e => (e.1, e.2 + d)), plans := x.plans.map (stepPlan d) })
  let v : State := { u with rsy := { u.rsy with lots := u.rsy.lots.map (fun l => { l with due := l.due + d }) } }
  let w := v.setTim (fun x => { x with trigs := x.trigs.map (stepTrig (timeFrac v) d) })
  raiseIrq (w.step1 F.TIM_STEPS_COUNT) 0x110 1

/-- R327: what follows a write of TIM.STEP. -/
def stepAfter (w : Written) : State :=
  match w.tookField F.TIM_STEP_NS with
  | some v => stepTime w.s (toSigned v 64)
  | none => w.s

/-- R327: a write of TIM.STEP. -/
def stepWrite (s : State) (m : Master) (data : Nat) : State := stepAfter (writeAccess s m 0x110118 8 data)

def execTimeStep (m : Master) (data : Nat) (s : State) : Host.Outcome State Fault Refusal := live s (stepWrite s m data)

/-- R326: the fraction captured with a read of TIM.TIME. -/
def captureFrac (s : State) (m : Master) : State :=
  { s with mech := { s.mech with captures := mapPut s.mech.captures (pieceKey m 0x110108) s.tim.frac } }

/-! ### Messages -/

/-- R329: the device's clockIdentity: the first 8 bytes of its identity digest. -/
def myClock : Nat := beAt identityDigest 0 8

/-- R329: a message: its type and sequenceId, the time it carries (1/65,536 ns: seconds and nanoseconds in the body, the rest in
correctionField), whether it is of two steps, and what its body holds after the time. -/
def ptpBytes (port typ seq time : Nat) (two : Bool) (control log : Nat) (rest : List Byte) : List Byte :=
  let ns := time / 2 ^ 16
  beBytes 1 typ ++ beBytes 1 0x12 ++ beBytes 2 (44 + rest.length) ++ beBytes 1 0 ++ beBytes 1 0 ++ beBytes 2 (if two then 0x0200 else 0) ++
    beBytes 8 (time % 2 ^ 16) ++ beBytes 4 0 ++ beBytes 8 myClock ++ beBytes 2 (port + 1) ++ beBytes 2 seq ++ beBytes 1 control ++
    beBytes 1 log ++ beBytes 6 (ns / 1000000000) ++ beBytes 4 (ns % 1000000000) ++ rest

/-- R300, R329: a message sent in a TIME frame. -/
def sendPtp (s : State) (k : Nat) (bs : List Byte) : State :=
  sendOn s k { mkFrame 0x40 0 0 0 0 0 0 0 bs with src := s.get F.XSH_ROLE_NUMBER, epoch := s.yard.cur.epoch % 2 }

/-- R329: the time a message carries, with its correctionField (1/65,536 ns). -/
def ptpTime (b : List Byte) : Int :=
  (((beAt b 34 6) * 1000000000 + beAt b 40 4) * 2 ^ 16 : Nat) + toSigned (beAt b 8 8) 64

/-- R330: is a message of a type, of the subset's domain, version and sdoId? -/
def ptpSound (typ : Nat) (b : List Byte) : Bool :=
  decide (beAt b 0 1 = typ) && decide (beAt b 1 1 % 16 = 2) && decide (beAt b 4 1 = 0) && decide (beAt b 5 1 = 0)

/-- R330: a message discarded. -/
def ptpBad (s : State) : State := s.bump F.TIM_PTP_BAD_COUNT

/-- A row's message: where the type it carries is one of R329's, it is the row's. -/
def asMessage (typ : Nat) (f : Frame) : Frame :=
  let b0 := beAt f.payload 0 1
  if [0x0, 0x2, 0x3, 0x8, 0xA].contains (b0 % 16) then { f with payload := beBytes 1 (b0 / 16 * 16 + typ) ++ f.payload.drop 1 } else f

/-- R328, R330, R332: an accepted message with its receive stamp. -/
def onPtp (s : State) (rx : Rx) (typ stamp : Nat) (f : State → Nat → List Byte → Nat → State) : State :=
  let k := rx.port % 4
  onFrame s { rx with frame := asMessage typ rx.frame } 0x40 (fun t x =>
    if ptpSound typ x.payload then f t k x.payload (stamp - t.get (F.TIM_RX_LAT_LAT k)) else ptpBad t)

/-- The low bits of the count of steps that a stamp carries (R327). -/
def stepGen (s : State) : Nat := s.get F.TIM_STEPS_COUNT % 16

/-! ### Offset and servo -/

/-- R329: the port whose Syncs a device takes: its tree parent port. -/
def slavePort (s : State) (k : Nat) : Bool := decide (k = s.yard.cur.parent) && s.isMember

/-- R333: a Sync on the slave port. -/
def syncSeen (s : State) (k : Nat) (b : List Byte) (stamp : Nat) : State :=
  if slavePort s k then
    s.setTim (fun x =>
      { x with syncs := (⟨beAt b 30 2, beAt b 20 8, stamp, toSigned (beAt b 8 8) 64, stepGen s⟩ :: x.syncs).take 16 })
  else ptpBad s

def execPtpSync (rx : Rx) (stamp : Nat) (s : State) : Host.Outcome State Fault Refusal := live s (onPtp s rx 0x0 stamp syncSeen)

/-- R334: INCREMENT slews: to a value within 200 ppm of its locked mean that the spec leaves to the servo. -/
def slew (s : State) : State :=
  let mean := s.tim.lockedMean
  let span := mean * 200 / 1000000
  let v := Nat.min (Nat.max (mean - span + s.freeOf 36 % (2 * span + 1)) 0x1FF7CED91) 0x20083126F
  let t := (s.tookFree.set F.TIM_INCREMENT_INC v).setTim (fun x => { x with incs := (v :: x.incs).take 128 })
  if t.get F.TIM_SERVO_STATE = 2 then t.setTim (fun x => { x with lockedMean := meanInc x.incs v }) else t

/-- R334: a Sync in ACQUIRE: one step of −θ, then slewing until 16 in a row lie within 100 ns. -/
def acquireSync (s : State) (theta : Int) : State :=
  if 10000 * 65536 < iabs theta ∧ s.tim.stepped = false then
    stepTime (s.setTim (fun x => { x with stepped := true, good := 0 })) (-(truncDiv theta 65536))
  else
    let t := slew (s.setTim (fun x => { x with good := if iabs theta ≤ 100 * 65536 then x.good + 1 else 0 }))
    if 16 ≤ t.tim.good then servoTo (t.setTim (fun x => { x with bad := 0 })) 2 else t

/-- R334: what the servo does with an offset (1/65,536 ns). -/
def servoSync (s : State) (theta : Int) : State :=
  let t := s.setInt F.TIM_OFFSET_NS (clampInt (truncDiv theta 65536) (-2147483648) 2147483647)
  match t.get F.TIM_SERVO_STATE with
  | 0 => t
  | 1 => acquireSync t theta
  | 2 =>
    let u := t.setTim (fun x => { x with bad := if 1000 * 65536 < iabs theta then x.bad + 1 else 0 })
    if 4 ≤ u.tim.bad then acquireSync (servoAcquire u) theta else slew u
  | _ =>
    if iabs theta ≤ 1000 * 65536 then slew (servoTo (t.setTim (fun x => { x with bad := 0 })) 2)
    else acquireSync (servoAcquire t) theta

/-- R330, R333: a Follow_Up on the slave port: θ of the Sync it matches. A Sync stamped before a step is not used. -/
def followUpSeen (s : State) (k : Nat) (b : List Byte) (_stamp : Nat) : State :=
  if slavePort s k then
    match s.tim.syncs.find? (fun e => decide (e.seq = beAt b 30 2 ∧ e.clock = beAt b 20 8)) with
    | none => ptpBad s
    | some e =>
      let t := s.setTim (fun x => { x with syncs := x.syncs.erase e })
      let d : Int := (t.get (F.TIM_MEAN_DELAY_D k) : Nat)
      let theta := (e.stamp : Int) - (ptpTime b + e.corr) - (d + t.getInt (F.TIM_ASYM_A k))
      if e.stepGen = stepGen t then servoSync t theta else t
  else ptpBad s

def execPtpFollowUp (rx : Rx) (stamp : Nat) (s : State) : Host.Outcome State Fault Refusal := live s (onPtp s rx 0x8 stamp followUpSeen)

def execSyncLossTimeout (s : State) : Host.Outcome State Fault Refusal :=
  live s (if s.get F.TIM_SERVO_STATE = 1 ∨ s.get F.TIM_SERVO_STATE = 2 then servoTo s 3 else s)

/-! ### Link delay -/

/-- R333: a complete exchange gives a delay; the mean of a port's last 8 is shown. One that a step divides is not used. -/
def finishExchange (s : State) (e : DelayExchange) : State :=
  match e.t1, e.resp, e.t3 with
  | some t1, some r, some t3 =>
    let t := s.setTim (fun x => { x with exchanges := x.exchanges.filter (fun q => !decide (q.port = e.port ∧ q.seq = e.seq)) })
    if e.stepGen = stepGen t then
      let d := truncDiv (((r.2.2 : Int) - (t1 : Int)) - ((t3 : Int) - (r.2.1 : Int))) 2
      let mine := (d :: (t.tim.delays.filter (fun q => decide (q.1 = e.port))).map Prod.snd).take 8
      let mean := truncDiv (mine.foldl (· + ·) 0) (mine.length : Int)
      let u := t.setTim (fun x => { x with delays := x.delays.filter (fun q => !decide (q.1 = e.port)) ++ mine.map (fun v => (e.port, v)) })
      u.set (F.TIM_MEAN_DELAY_D e.port) (clampInt mean 0 4294967295).toNat
    else t
  | _, _, _ => s

/-- R333: what is learnt of an exchange. -/
def learn (s : State) (port seq : Nat) (f : DelayExchange → DelayExchange) : State :=
  match s.tim.exchanges.find? (fun e => decide (e.port = port ∧ e.seq = seq)) with
  | none => s
  | some e =>
    finishExchange (s.setTim (fun x =>
      { x with exchanges := x.exchanges.map (fun q => if q.port = port ∧ q.seq = seq then f q else q) })) (f e)

/-- R333: a Pdelay_Req is answered with t2. -/
def pdelayReqSeen (s : State) (k : Nat) (b : List Byte) (stamp : Nat) : State :=
  let seq := beAt b 30 2
  let who := (b.drop 20).take 10
  let t := s.setTim (fun x => { x with answers := ((x.answers ++ [(k, seq, beAt b 20 8, beAt b 28 2)]).reverse.take 64).reverse })
  sendPtp t k (ptpBytes k 0x3 seq stamp true 5 0x7F who)

def execPtpPdelayReq (rx : Rx) (stamp : Nat) (s : State) : Host.Outcome State Fault Refusal := live s (onPtp s rx 0x2 stamp pdelayReqSeen)

/-- R333: a Pdelay_Resp to this port gives t2 and t4. -/
def pdelayRespSeen (s : State) (k : Nat) (b : List Byte) (stamp : Nat) : State :=
  if beAt b 44 8 = myClock ∧ beAt b 52 2 = k + 1 then
    learn s k (beAt b 30 2) (fun e => { e with resp := some (beAt b 20 8, (ptpTime b).toNat, stamp) })
  else s

def execPtpPdelayResp (rx : Rx) (stamp : Nat) (s : State) : Host.Outcome State Fault Refusal :=
  live s (onPtp s rx 0x3 stamp pdelayRespSeen)

/-- R330, R333: a Pdelay_Resp_Follow_Up gives t3 of the response it matches. -/
def pdelayFollowUpSeen (s : State) (k : Nat) (b : List Byte) (_stamp : Nat) : State :=
  let seq := beAt b 30 2
  if s.tim.exchanges.any (fun e => decide (e.port = k ∧ e.seq = seq) &&
      (match e.resp with | some r => decide (r.1 = beAt b 20 8) | none => false)) then
    learn s k seq (fun e => { e with t3 := some (ptpTime b).toNat })
  else ptpBad s

def execPtpPdelayRespFollowUp (rx : Rx) (stamp : Nat) (s : State) : Host.Outcome State Fault Refusal :=
  live s (onPtp s rx 0xA stamp pdelayFollowUpSeen)

/-- R329: a Sync on each tree child port that is up. -/
def syncInterval (s : State) : State :=
  ((setBits s.yard.cur.children 4).filter (portUp s)).foldl (fun t k =>
    let seq := (mapVal t.tim.syncSeq k + 1) % 65536
    sendPtp (t.setTim (fun x => { x with syncSeq := mapPut x.syncSeq k seq })) k (ptpBytes k 0x0 seq 0 true 0 0xF9 [])) s

def execSyncInterval (s : State) : Host.Outcome State Fault Refusal := live s (syncInterval s)

/-- R329: a Pdelay_Req on each port that is up. -/
def pdelayInterval (s : State) : State :=
  (upPorts s).foldl (fun t k =>
    let seq := (mapVal t.tim.reqSeq k + 1) % 65536
    let e : DelayExchange := ⟨k, seq, none, none, none, stepGen t⟩
    sendPtp (t.setTim (fun x =>
      { x with reqSeq := mapPut x.reqSeq k seq, exchanges := ((x.exchanges ++ [e]).reverse.take 64).reverse })) k
      (ptpBytes k 0x2 seq 0 false 5 0xFD (leBytes 10 0))) s

def execPdelayInterval (s : State) : Host.Outcome State Fault Refusal := live s (pdelayInterval s)

/-! ### The transmit stamp queue -/

/-- The stamps that a port's queue holds. -/
def txqOf (s : State) (k : Nat) : List TxStamp := s.tim.txq.filter (fun e => decide (e.port = k))

/-- TIM.TXQ_STAT shows how many entries a port's queue holds. -/
def showTxq (s : State) (k : Nat) : State := s.set (F.TIM_TXQ_STAT_COUNT k) (txqOf s k).length

/-- R331: a stamp enters its port's queue. -/
def enterTxq (s : State) (e : TxStamp) : State :=
  let t := s.setTim (fun x => { x with sent := x.sent.erase e })
  if (txqOf t e.port).length < 16 then showTxq (t.setTim (fun x => { x with txq := x.txq ++ [e] })) e.port
  else raiseIrq (t.bump (F.TIM_TXQ_STAT_OVERFLOW e.port)) 0x110 2

/-- R331: a port's frames are acknowledged: the stamps of the event messages among them enter the queue. -/
def stampsAcked (s : State) (k : Nat) (fs : List Frame) : State :=
  (s.tim.sent.filter (fun e => decide (e.port = k) &&
    fs.any (fun f => decide (f.typ = 0x40 ∧ beAt f.payload 0 1 % 16 = e.typ ∧ beAt f.payload 30 2 = e.seq)))).foldl enterTxq s

/-- R333: the stamp of an event message reaches Ozzizo: its follow-up is sent, or t1 is known; not where it was replayed (R331). -/
def stampFound (s : State) (e : TxStamp) : State :=
  if e.replayed then s
  else if e.typ = 0 then sendPtp s e.port (ptpBytes e.port 0x8 e.seq e.stamp false 2 0xF9 [])
  else if e.typ = 2 then learn s e.port e.seq (fun x => { x with t1 := some e.stamp })
  else match s.tim.answers.find? (fun a => decide (a.1 = e.port ∧ a.2.1 = e.seq)) with
    | none => s
    | some a =>
      let t := s.setTim (fun x => { x with answers := x.answers.erase a })
      sendPtp t e.port (ptpBytes e.port 0xA e.seq e.stamp false 5 0x7F (beBytes 8 a.2.2.1 ++ beBytes 2 a.2.2.2))

/-- R331: what follows a write of TIM.TXQ_FIND: the oldest entry with the key moves to TIM.TXQ_ENTRY; Ozzizo goes on with it. -/
def txqFindAfter (m : Master) (k : Nat) (w : Written) : State :=
  match w.tookField (F.TIM_TXQ_FIND_TYPE k), w.tookField (F.TIM_TXQ_FIND_SEQ k) with
  | some typ, some seq =>
    (match (txqOf w.s k).find? (fun e => decide (e.typ = typ ∧ e.seq = seq)) with
      | none => w.s.set (F.TIM_TXQ_ENTRY_FOUND k) 0
      | some e =>
        let t := (showTxq (w.s.setTim (fun x => { x with txq := x.txq.erase e })) k).setAll
          [(F.TIM_TXQ_ENTRY_NS k, e.stamp / 2 ^ 16), (F.TIM_TXQ_ENTRY_FRAC k, e.stamp % 2 ^ 16), (F.TIM_TXQ_ENTRY_STEP_GEN k, e.stepGen),
           (F.TIM_TXQ_ENTRY_REPLAYED k, b2n e.replayed), (F.TIM_TXQ_ENTRY_FOUND k, 1)]
        match m with
        | .mp _ => stampFound t e
        | _ => t)
  | _, _ => w.s

/-- R331: a write of TIM.TXQ_FIND: the oldest entry with the key moves to TIM.TXQ_ENTRY; Ozzizo goes on with it. -/
def txqFindWrite (s : State) (m : Master) (k data : Nat) : State := txqFindAfter m k (writeAccess s m (0x111114 + 64 * k) 4 data)

def execTxqFind (m : Master) (port data : Nat) (s : State) : Host.Outcome State Fault Refusal := live s (txqFindWrite s m (port % 4) data)

/-- R331: a port's oldest stamp has aged. -/
def txqAge (s : State) (k : Nat) : State :=
  match (txqOf s k).head? with
  | none => s
  | some e => (showTxq (s.setTim (fun x => { x with txq := x.txq.erase e })) k).bump (F.TIM_TXQ_STAT_AGED k)

def execTxqAgeExpiry (port : Nat) (s : State) : Host.Outcome State Fault Refusal := live s (txqAge s (port % 4))

/-! ### Captures -/

/-- R339: an edge of a source is stamped on every channel that takes it. -/
def captureSource (s : State) (source : Nat) (falling : Bool) : State :=
  (List.range 8).foldl (fun t c =>
    if t.get (F.TIM_CAP_CFG_SOURCE c) = source ∧ hasBit (t.get (F.TIM_CAP_CFG_EDGE c)) (b2n falling) = true then
      if (t.tim.caps.filter (fun e => decide (e.channel = c))).length < 16 then
        t.setTim (fun x => { x with caps := x.caps ++ [⟨c, t.now, stepGen t, falling⟩] })
      else raiseIrq (t.bump (F.TIM_CAP_CFG_OVERFLOW c)) 0x110 3
    else t) s

/-- R334, R339: an edge on an external source; with PPS set, a free-running head steers by the PPS_IN edges of channel 1. -/
def captureEdge (s : State) (source : Nat) (falling : Bool) : State :=
  if 13 ≤ source then s
  else
    let t := captureSource s source falling
    if source = 1 ∧ t.get F.TIM_SERVO_STATE = 0 ∧ t.on F.TIM_SERVO_PPS = true ∧ t.get (F.TIM_CAP_CFG_SOURCE 1) = 1 ∧
        hasBit (t.get (F.TIM_CAP_CFG_EDGE 1)) (b2n falling) = true then slew t else t

def execCaptureEdge (source : Nat) (falling : Bool) (s : State) : Host.Outcome State Fault Refusal := live s (captureEdge s source falling)

/-- R339: what follows a write of TIM.CAP_POP: the oldest entry moves to TIM.CAP_ENTRY. -/
def capPopAfter (c : Nat) (w : Written) : State :=
  if w.tookField (F.TIM_CAP_POP_POP c) = some 1 then
    match (w.s.tim.caps.filter (fun e => decide (e.channel = c))) with
    | [] => w.s.setAll [(F.TIM_CAP_ENTRY_VALID c, 0), (F.TIM_CAP_ENTRY_COUNT c, 0)]
    | e :: rest =>
      (w.s.setTim (fun x => { x with caps := x.caps.erase e })).setAll
        [(F.TIM_CAP_ENTRY_NS c, e.ns), (F.TIM_CAP_ENTRY_STEP_GEN c, e.stepGen), (F.TIM_CAP_ENTRY_FALLING c, b2n e.falling),
         (F.TIM_CAP_ENTRY_VALID c, 1), (F.TIM_CAP_ENTRY_COUNT c, rest.length)]
  else w.s

/-- R339: a write of TIM.CAP_POP: the oldest entry moves to TIM.CAP_ENTRY. -/
def capPopWrite (s : State) (m : Master) (c data : Nat) : State := capPopAfter c (writeAccess s m (0x113104 + 32 * c) 4 data)

def execCapPop (m : Master) (channel data : Nat) (s : State) : Host.Outcome State Fault Refusal := live s (capPopWrite s m (channel % 8) (withBit data 0))

/-! ### Triggers -/

/-- R338: a trigger's output takes a level: TRIG_CTRL.LEVEL, the FSYNC pins and SYNC_OUT that it drives, and its captures. -/
def trigLevel (s : State) (t : Nat) (level : Bool) : State :=
  let a := s.set (F.TIM_TRIG_CTRL_LEVEL t) (b2n level)
  let b := ((List.range 8).filter (fun p => a.on (F.CAM_CFG_TRIGGERED p) && decide (a.get (F.CAM_CFG_FSYNC_TRIG p) = t))).foldl
    (fun u p => u.emit (.pin 3 p (b2n level))) a
  let c := if b.on F.TIM_SYNC_OUT_EN ∧ b.get F.TIM_SYNC_OUT_SEL = t then b.emit (.pin 0 0 (b2n level)) else b
  captureSource c (16 + t) (!level)

/-- A trigger. -/
def trigOf (s : State) (t : Nat) : Trig := s.tim.trigs.getD t Trig.reset

/-- The state with a trigger changed. -/
def setTrig (s : State) (t : Nat) (f : Trig → Trig) : State := s.setTim (fun x => { x with trigs := modifyAt x.trigs t f })

/-- R337: a trigger takes the values last written, at a time (2^-32 ns). -/
def takeTrig (s : State) (t : Nat) (at' : Int) : State :=
  let g : Trig := ⟨s.get (F.TIM_TRIG_START_NS t), s.get (F.TIM_TRIG_PERIOD_PERIOD t), s.get (F.TIM_TRIG_WIDTH_NS t),
    s.get (F.TIM_TRIG_COUNT_COUNT t), 0, 0, none⟩
  (s.set (F.TIM_TRIG_CTRL_UPDATE t) 0).setTim (fun x => { x with trigs := modifyAt x.trigs t (fun _ => { g with next := pulseAfter g at' }) })

/-- R336: does a trigger run? -/
def trigRuns (s : State) (t : Nat) : Bool :=
  let g := trigOf s t
  s.on (F.TIM_TRIG_CTRL_EN t) && trigSound g && (decide (g.count = 0) || decide (g.made < g.count))

/-- R336, R337: the scheduled time of a trigger's next edge is reached. -/
def triggerEdge (s : State) (t : Nat) : State :=
  let g := trigOf s t
  let now : Int := (timeFrac s : Nat)
  match g.fall with
  | some f =>
    if f ≤ now then
      let u := trigLevel (setTrig s t (fun x => { x with fall := none, next := pulseAfter x f })) t false
      if u.on (F.TIM_TRIG_CTRL_UPDATE t) then takeTrig u t f else u
    else s
  | none =>
    if trigRuns s t && decide (pulseTime g ≤ now) then
      trigLevel (setTrig s t (fun x => { x with made := x.made + 1, fall := some (pulseTime g + (g.width * 2 ^ 32 : Nat)) })) t true
    else s

def execTriggerEdge (trigger : Nat) (s : State) : Host.Outcome State Fault Refusal := live s (triggerEdge s (trigger % 16))

/-- R336, R337: what follows a write of TIM.TRIG_CTRL: UPDATE takes effect at once while the output is low; a trigger that is enabled starts
with the first pulse scheduled after the write. -/
def trigCtrlAfter (s : State) (t : Nat) (w : Written) : State :=
  let now : Int := (timeFrac w.s : Nat)
  let low := (trigOf w.s t).fall.isNone
  let a := if w.tookField (F.TIM_TRIG_CTRL_UPDATE t) = some 1 && low then takeTrig w.s t now else w.s
  if a.on (F.TIM_TRIG_CTRL_EN t) && !s.on (F.TIM_TRIG_CTRL_EN t) then
    setTrig a t (fun x => { x with made := 0, next := if low then pulseAfter x now else x.next })
  else a

/-- R336, R337: a write of TIM.TRIG_CTRL: UPDATE takes effect at once while the output is low; a trigger that is enabled starts
with the first pulse scheduled after the write. -/
def trigCtrlWrite (s : State) (m : Master) (t data : Nat) : State := trigCtrlAfter s t (writeAccess s m (0x112118 + 32 * t) 4 data)

def execTriggerUpdate (m : Master) (trigger data : Nat) (s : State) : Host.Outcome State Fault Refusal :=
  live s (trigCtrlWrite s m (trigger % 16) (withBit data 1))

end Sys2Proof.Machine
end

