-- ==== Sys2Proof/Machine/CamPipe.lean ====
section
/-! DEFINITION. Machine/CamPipe.lean: the image pipelines' work on a line (R184), frame statistics (R191), frame records and slots
(R190), and raw taps (R193). -/

namespace Sys2Proof.Machine

/-- The cameras changed. -/
def State.setCams (s : State) (f : Cams → Cams) : State := { s with cams := f s.cams }

/-- A port. -/
def State.cam (s : State) (p : Nat) : Cam := s.cams.ports.getD p Cam.reset

/-- The state with a port changed. -/
def setCam (s : State) (p : Nat) (f : Cam → Cam) : State := s.setCams (fun c => { c with ports := modifyAt c.ports p f })

/-- The state with a frame of a port changed. -/
def setFrame (s : State) (p n : Nat) (f : CamFrame → CamFrame) : State :=
  setCam s p (fun c => { c with frames := c.frames.map (fun q => if q.number = n then f q else q) })

/-! ### Stages 1 to 6 -/

/-- R184 stage 1: a received sample in 12 bits. -/
def unpackSample (format v : Nat) : Nat :=
  match format with
  | 0 => v % 2 ^ 8 * 16
  | 1 => v % 2 ^ 10 * 4
  | _ => v % 2 ^ 12

/-- What the stages read besides the lines: the port, its defect list's entries (row, column), and its shading grid (none: unity gain). -/
structure PipeIn where
  port : Nat
  defects : List (Nat × Nat)
  grid : Option (List Byte)

/-- A coordinate held to a frame: the edge is repeated. -/
def holdTo (n : Nat) (i : Int) : Nat := if i < 0 then 0 else Nat.min i.toNat (n - 1)

/-- A sample of a frame's stored lines, its edges repeated, after stage 1. -/
def sampleAt (s : State) (x : PipeIn) (f : CamFrame) (row col : Nat) : Nat :=
  unpackSample (s.get (F.CAM_CFG_FORMAT x.port)) ((f.lines.getD row ([], false)).1.getD col 0)

/-- The Bayer position of a pixel. -/
def bayerPos (s : State) (x : PipeIn) (row col : Nat) : Nat :=
  if s.on (F.CAM_CFG_COLOUR x.port) then row % 2 * 2 + col % 2 else 0

/-- R184 stage 2. -/
def blackAt (s : State) (x : PipeIn) (f : CamFrame) (row col : Nat) : Nat :=
  sampleAt s x f row col - s.get (F.CAM_BLACK_LEVEL x.port (bayerPos s x row col))

/-- A number inserted in rising order, equals kept. -/
def insertSorted (v : Nat) : List Nat → List Nat
  | [] => [v]
  | y :: ys => if v ≤ y then v :: y :: ys else y :: insertSorted v ys

/-- The median of 8 values: the mean of the middle two (log entry 29). -/
def medianOf8 (l : List Nat) : Nat :=
  let r := l.foldl (fun a v => insertSorted v a) []
  (r.getD 3 0 + r.getD 4 0) / 2

/-- The 8 neighbours of the same colour: at two pixels' distance on a colour sensor. -/
def sameColour (s : State) (x : PipeIn) (f : CamFrame) (row col : Nat) : List Nat :=
  let d : Int := if s.on (F.CAM_CFG_COLOUR x.port) then 2 else 1
  [(-1, -1), (-1, 0), (-1, 1), (0, -1), (0, 1), (1, -1), (1, 0), (1, 1)].map (fun (e : Int × Int) =>
    blackAt s x f (holdTo f.lines.length (row + e.1 * d)) (holdTo f.width (col + e.2 * d)))

/-- R184 stage 3. -/
def defectAt (s : State) (x : PipeIn) (f : CamFrame) (row col : Nat) : Nat :=
  let v := blackAt s x f row col
  let ns := sameColour s x f row col
  let limit := s.get (F.CAM_DEFECT_CFG_THRESHOLD x.port)
  if x.defects.contains (row, col) || (!decide (limit = 0) && ns.all (fun n => decide (limit < absDiff v n))) then medianOf8 ns else v

/-- R184 stage 4. -/
def shadedAt (s : State) (x : PipeIn) (f : CamFrame) (row col : Nat) : Nat :=
  let g := match x.grid with
    | none => 0x1000
    | some b => Config.shadingGain b f.width f.height (bayerPos s x row col) col row % 2 ^ 16
  Nat.min ((defectAt s x f row col * g + 0x800) / 0x1000) 4095

/-- The 5 × 5 window about a pixel after stage 4, by rows. -/
def windowAt (s : State) (x : PipeIn) (f : CamFrame) (row col : Nat) : List Nat :=
  (List.range 5).flatMap (fun j => (List.range 5).map (fun i =>
    shadedAt s x f (holdTo f.lines.length ((row + j : Nat) - 2)) (holdTo f.width ((col + i : Nat) - 2))))

/-- R184 stages 5 and 6: the channels of a pixel: one on a monochrome port, R, G and B on a colour one. -/
def channelsAt (s : State) (x : PipeIn) (f : CamFrame) (row col : Nat) : List Nat :=
  if s.on (F.CAM_CFG_COLOUR x.port) then
    let w := windowAt s x f row col
    let rgb := (List.range 3).map (fun c => Config.demosaic (s.get (F.CAM_CFG_BAYER x.port) * 4 + bayerPos s x row col) w c % 4096)
    (List.range 3).map (fun r =>
      let v := (List.range 3).foldl (fun (a : Int) c => a + s.getInt (F.CAM_CCM_COEFF x.port (3 * r + c)) * (rgb.getD c 0 : Int)) 0
      (clampInt (sar (v + 0x800) 12) 0 4095).toNat)
  else [shadedAt s x f row col]

/-- R184 stage 7: Y of a pixel's channels. -/
def lumaOf (l : List Nat) : Nat :=
  if l.length = 3 then (l.getD 0 0 + 2 * l.getD 1 0 + l.getD 2 0 + 2) / 4 else l.getD 0 0

/-- R184 stage 8: a channel's bytes. -/
def outBytes (wide : Bool) (v : Nat) : List Byte := if wide then leBytes 2 (v * 16) else leBytes 1 (Nat.min ((v + 8) / 16) 255)

/-! ### Statistics -/

/-- R191: a coordinate's zone: the last takes the remainder. -/
def zoneIndex (size i : Nat) : Nat := if size / 16 = 0 then 15 else Nat.min (i / (size / 16)) 15

/-- A counter of a map raised. -/
def mapAdd (m : Map) (k n : Nat) : Map := mapPut m k (mapVal m k + n)

/-- R191: a pixel counted in its frame's statistics: its sample after stage 1, its channels. -/
def countPixel (row col sample : Nat) (ch : List Nat) (f : CamFrame) : CamFrame :=
  let y := lumaOf ch
  let z := zoneIndex f.height row * 16 + zoneIndex f.width col
  let rgb := if ch.length = 3 then ch else [0, 0, 0]
  let sums := (List.range 3).foldl (fun m c => mapAdd m (z * 4 + c) (rgb.getD c 0)) (mapAdd f.sums (z * 4 + 3) y)
  { f with hist := mapAdd f.hist (y / 16) 1, sums := sums, counts := mapAdd f.counts z 1,
           sat := if sample = 4095 then f.sat + 1 else f.sat }

/-- A line processed: the frame with its statistics (none of a damaged line), and the line's bytes. -/
def processLine (s : State) (x : PipeIn) (f : CamFrame) (row : Nat) : CamFrame × List Byte :=
  let wide := s.on (F.CAM_OUT_WIDTH16 x.port)
  let damaged := (f.lines.getD row ([], false)).2
  let r := (List.range f.width).foldl (fun (a : CamFrame × List Byte) col =>
    let ch := channelsAt s x f row col
    (if damaged then a.1 else countPixel row col (sampleAt s x f row col) ch a.1, a.2 ++ ch.flatMap (outBytes wide))) (f, [])
  (if damaged then r.1 else { r.1 with statsLines := r.1.statsLines + 1 }, r.2)

/-- The mean of a sum, rounded to nearest; zero of none. -/
def meanOf (sum n : Nat) : Nat := if n = 0 then 0 else (2 * sum + n) / (2 * n)

/-- R190, R191: the histogram of a frame. -/
def histBytes (f : CamFrame) : List Byte := (List.range 256).flatMap (fun i => leBytes 4 (mapVal f.hist i))

/-- R190, R191: the zone means of a frame. -/
def zoneBytes (f : CamFrame) : List Byte :=
  (List.range 256).flatMap (fun z => (List.range 4).flatMap (fun c => leBytes 2 (meanOf (mapVal f.sums (z * 4 + c)) (mapVal f.counts z))))

/-- R192: the mean Y of a frame. -/
def frameMean (f : CamFrame) : Nat :=
  meanOf ((List.range 256).foldl (fun v z => v + mapVal f.sums (z * 4 + 3)) 0) ((List.range 256).foldl (fun v z => v + mapVal f.counts z) 0)

/-! ### Slots and records -/

/-- R190: a frame record; `final` is FINAL. -/
def recordBytes (p final : Nat) (f : CamFrame) : List Byte :=
  leBytes 4 f.number ++ leBytes 1 f.set.id ++ leBytes 1 p ++ leBytes 2 f.flags ++ leBytes 8 f.trigger ++ leBytes 8 f.sof ++ leBytes 8 f.eof ++
  leBytes 2 f.width ++ leBytes 2 f.lines.length ++ leBytes 2 f.done ++ leBytes 2 f.statsLines ++ leBytes 4 f.set.exposure ++
  leBytes 2 f.set.gain ++ leBytes 2 f.csi ++ leBytes 4 f.sat ++ leBytes 2 f.badLines ++ leBytes 2 f.embed.length ++ leBytes 4 0 ++ leBytes 4 final

/-- R189: where a slot of a port's ring lies. -/
def camSlotAddr (s : State) (p slot : Nat) : Nat :=
  s.get (F.CAM_RING_BASE_ADDR p) * 65536 + slot * (s.get (F.CAM_RING_CFG_SLOT_SIZE p) * 65536)

/-- R362, R415: a pipeline's write, where there is DRAM. -/
def pipeWrite (s : State) (a : Nat) (bs : List Byte) : State := if dramBehind s a bs.length then dramWrite s a bs else s

/-- R184: the defect list and shading grid of a port, as a stripe reads them. -/
def pipeIn (s : State) (p : Nat) : State × PipeIn :=
  let n := s.get (F.CAM_DEFECT_ADDR_COUNT p)
  let a := if n = 0 then (s, none) else dramFetchSecure s (s.get (F.CAM_DEFECT_ADDR_ADDR p) * 4) (4 * n)
  let list := match a.2 with
    | none => []
    | some bs => (List.range n).map (fun i => (leAt bs (4 * i + 2) 2, leAt bs (4 * i) 2))
  let g := a.1.get (F.CAM_SHADING_ADDR_ADDR p)
  let b := if g = 0 then (a.1, none) else dramFetchSecure a.1 (g * 64) (33 * 33 * 2 * (if a.1.on (F.CAM_CFG_COLOUR p) then 4 else 1))
  (b.1, ⟨p, list, b.2⟩)

/-- R185, R190: the lines of a stripe processed and written. -/
def processStripe (s : State) (p n : Nat) : State :=
  match (s.cam p).frames.find? (fun f => decide (f.number = n)) with
  | none => s
  | some f =>
    let r := pipeIn s p
    let rows := Nat.min 64 (f.lines.length - f.done)
    let base := camSlotAddr s p f.slot
    let out := (List.range rows).foldl (fun (a : State × CamFrame) i =>
      let row := f.done + i
      let l := processLine a.1 r.2 a.2 row
      (pipeWrite a.1 (base + 0x1000 + row * a.1.get (F.CAM_OUT_PITCH p)) l.2, l.1)) (r.1, f)
    let g := { out.2 with done := f.done + rows }
    pipeWrite (setFrame out.1 p n (fun _ => g)) (base + 0x24) (leBytes 2 g.done)

/-! ### Taps -/

/-- R193: a tap slot of a port. -/
def tapAddr (s : State) (p slot : Nat) : Nat :=
  s.get (F.CAM_TAP_BASE_ADDR p) * 65536 + slot * (s.get (F.CAM_RING_CFG_SLOT_SIZE p) * 65536)

/-- R193: the pixels per µs of a port's tap. -/
def tapRate (s : State) (p width : Nat) : Nat := width * 1000 / Nat.max (s.get (F.CAM_LINE_NS_NS p)) 1

/-- R193: the share of the taps in progress. -/
def tapLoad (s : State) : Nat :=
  (List.range 8).foldl (fun v p => (s.cam p).frames.foldl (fun u f => if f.tap then u + tapRate s p f.width else u) v) 0

/-- R193, R417: is a tap of a secure ring into a region that is not wholly secure? -/
def tapRefused (s : State) (p : Nat) : Bool :=
  let n := s.get (F.CAM_RING_CFG_SLOT_SIZE p) * 65536
  let a := tapAddr s p (s.cam p).tapSlot
  rangeSecure s (camSlotAddr s p 0) n && (mibPoints a n).any (fun x => !byteSecure s x)

/-- R193: does a frame that opens get a tap? The state counts one that the share or its world refuses. -/
def tapStart (s : State) (p number width : Nat) : State × Bool :=
  if s.get (F.CAM_TAP_MODE p) = 0 ∨ ¬ number % Nat.max (s.get (F.CAM_TAP_DECIM p)) 1 = 0 then (s, false)
  else if tapRefused s p then (dramDenied s 7 (tapAddr s p (s.cam p).tapSlot) 64, false)
  else if 1000 < tapLoad s + tapRate s p width then (s.bump (F.CAM_COUNT_COUNT p 14), false)
  else (s, true)

/-- R193: the words of a tapped line. -/
def tapLine (s : State) (p : Nat) (f : CamFrame) (row : Nat) : List Byte :=
  let px := (List.range f.width).map (fun c => unpackSample (s.get (F.CAM_CFG_FORMAT p)) ((f.lines.getD row ([], false)).1.getD c 0))
  if s.get (F.CAM_TAP_MODE p) = 2 then
    (List.range ((f.width + 7) / 8)).flatMap (fun i => leBytes 4 (tapWord ((px.drop (8 * i)).take 8)))
  else px.flatMap (leBytes 2)

/-- R193: a tapped frame copied to its slot, with its record. -/
def writeTap (s : State) (p : Nat) (f : CamFrame) : State :=
  if f.tap then
    let a := tapAddr s p (s.cam p).tapSlot
    let bs := (List.range f.lines.length).flatMap (tapLine s p f)
    let t := pipeWrite (pipeWrite s a (recordBytes p f.number f)) (a + 0x1000) bs
    setCam t p (fun c => { c with tapSlot := (c.tapSlot + 1) % (t.get (F.CAM_TAP_SLOTS p) + 1) })
  else s

end Sys2Proof.Machine
end

