-- ==== Sys2Proof/Machine/Cameras.lean ====
section
/-! DEFINITION. Machine/Cameras.lean: camera ports: exposure sets and their I²C writes (R179 to R183), frames, numbers and damage
(R175 to R178), rings (R189), the pattern generator (R194), and the pipelines' stripes and modes (R185 to R188). -/

namespace Sys2Proof.Machine

/-! ### Exposure sets -/

/-- R195: CAM.EXP_STATE shows a port's sets and whether writes are in progress. -/
def showExp (s : State) (p : Nat) : State :=
  let c := s.cam p
  let x := s.cams.i2c.getD (p / 2) ⟨none, [], none⟩
  let jobs := (match x.running with | some j => [j] | none => []) ++ x.exposure
  let writing := jobs.any (fun j => match j.set with | some e => decide (e.1 = p) | none => false)
  s.setAll [(F.CAM_EXP_STATE_IN_FORCE p, c.force.id), (F.CAM_EXP_STATE_LATCHED p, (c.latched.getLast?.map (fun e => e.id)).getD 0xFF),
    (F.CAM_EXP_STATE_POSTED p, (c.posted.map (fun e => e.id)).getD 0xFF), (F.CAM_EXP_STATE_WRITING p, b2n writing)]

/-- R182: the value an entry of the map writes. -/
def expValue (s : State) (p i : Nat) (e : ExpSet) : Nat :=
  let sh := s.get (F.CAM_EXP_MAP_SHIFT p i)
  let ns := Nat.max (s.get (F.CAM_LINE_NS_NS p)) 1
  match s.get (F.CAM_EXP_MAP_SOURCE p i) with
  | 1 => (e.exposure * 100 + ns - 1) / ns / 2 ^ sh
  | 2 => e.gain / 2 ^ sh
  | _ => s.get (F.CAM_EXP_MAP_CONST p i)

/-- A value's bytes, most significant first. -/
def msbBytes (n v : Nat) : List Nat := (beBytes n v).map (fun b => b.toNat)

/-- R182: the writes of a set. -/
def expJobs (s : State) (p : Nat) (e : ExpSet) : List I2cJob :=
  ((List.range 8).filter (fun i => s.on (F.CAM_EXP_MAP_SOURCE p i))).map (fun i =>
    let out := msbBytes (if s.on (F.CAM_I2C_ADDR_REG16 p) then 2 else 1) (s.get (F.CAM_EXP_MAP_REG p i)) ++
      msbBytes (if s.on (F.CAM_EXP_MAP_WIDTH16 p i) then 2 else 1) (expValue s p i e)
    ⟨p % 2, some (p, e.frame), s.get (F.CAM_I2C_ADDR_ADDR p), out, 0⟩)

/-- The state with an I²C controller changed. -/
def setI2c (s : State) (k : Nat) (f : I2c → I2c) : State := s.setCams (fun c => { c with i2c := modifyAt c.i2c k f })

/-- R180: what a controller does next: pending exposure writes, bus 0 before bus 1, then the command. -/
def nextJob (x : I2c) : Option (I2cJob × I2c) :=
  match (x.exposure.find? (fun j => decide (j.bus = 0))).or (x.exposure.head?) with
  | some j => some (j, { x with exposure := x.exposure.erase j, running := some j })
  | none => match x.command with
    | some j => some (j, { x with command := none, running := some j })
    | none => none

/-- R180: an idle controller starts its next transaction. -/
def startI2c (s : State) (k : Nat) : State :=
  let x := s.cams.i2c.getD k ⟨none, [], none⟩
  if x.running.isSome then s
  else match nextJob x with
    | none => s
    | some r => (setI2c s k (fun _ => r.2)).emit (.i2c k r.1.bus r.1.addr r.1.wr r.1.rlen)

/-- R181, R182: the posted set is latched at frame `n`, and its writes queued. -/
def latchSet (s : State) (p n : Nat) : State :=
  match (s.cam p).posted with
  | none => s
  | some e0 =>
    let e := { e0 with frame := n }
    let js := expJobs s p e
    let t := setCam s p (fun c => { c with posted := none, latched := c.latched ++ [{ e with writes := js.length }] })
    startI2c (setI2c t (p / 2) (fun x => { x with exposure := x.exposure ++ js })) (p / 2)

/-- R183: sets latched before frame `n` whose writes are not complete carry EXP_UNCERTAIN. -/
def markSlow (s : State) (p n : Nat) : State :=
  setCam s p (fun c => { c with latched := c.latched.map (fun e =>
    if decide (e.frame < n) && !decide (e.writes = 0) then { e with uncertain := true } else e) })

/-- R181: the sets that are in force from frame `n` on come into force, in their order. -/
def forceSets (s : State) (p n : Nat) : State :=
  let due (e : ExpSet) : Bool := decide (e.frame + s.get (F.CAM_CFG_EXP_LATENCY p) ≤ n)
  match ((s.cam p).latched.filter due).getLast? with
  | none => s
  | some e => setCam s p (fun c =>
      { c with before := c.force, force := e, markNext := c.markNext || e.uncertain, latched := c.latched.filter (fun q => !due q) })

/-- R177, R181: a port takes the next frame number: the number and the state. -/
def takeNumber (s : State) (p : Nat) : State × Nat :=
  let n := (s.cam p).next
  let t := setCam s p (fun c => { c with next := (n + 1) % 2 ^ 32 })
  (showExp (forceSets (latchSet (markSlow t p n) p n) p n) p, n)

/-- R181: what follows a write of CAM.EXP_SET posts a set. -/
def expSetAfter (p : Nat) (w : Written) : State :=
  if (w.tookField (F.CAM_EXP_SET_GAIN p)).isSome && w.drop.isNone then
    let e : ExpSet := ⟨w.s.get (F.CAM_EXP_SET_ID p), w.s.get (F.CAM_EXP_SET_EXPOSURE p), w.s.get (F.CAM_EXP_SET_GAIN p), 0, 0, false⟩
    let t := if (w.s.cam p).posted.isSome then w.s.bump (F.CAM_COUNT_COUNT p 12) else w.s
    showExp (setCam t p (fun c => { c with posted := some e })) p
  else w.s

/-- R181: a write of CAM.EXP_SET posts a set. -/
def expSetWrite (s : State) (m : Master) (p addr size data : Nat) : State := expSetAfter p (writeAccess s m addr size data)

def execExpSetPost (m : Master) (port data : Nat) (s : State) : Host.Outcome State Fault Refusal :=
  live s (expSetWrite s m (port % 8) (0x90110 + 0x1000 * (port % 8)) 8 data)

/-! ### I²C transactions -/

/-- R196: a write of CAM.I2C_CMD queues a command; one that waits is replaced. -/
def i2cCmdAfter (k : Nat) (w : Written) : State :=
  let p := 2 * k
  if w.took.isEmpty || w.drop.isSome then w.s
  else
    let out := (leBytes (w.s.get (F.CAM_I2C_CMD_WLEN p)) (w.s.get (F.CAM_I2C_DATA_DATA p))).map (fun b => b.toNat)
    let j : I2cJob := ⟨w.s.get (F.CAM_I2C_CMD_BUS p), none, w.s.get (F.CAM_I2C_CMD_ADDR p), out, w.s.get (F.CAM_I2C_CMD_RLEN p)⟩
    startI2c (setI2c (w.s.set (F.CAM_I2C_CMD_BUSY p) 1) k (fun x => { x with command := some j })) k

/-- R196: a write of CAM.I2C_CMD. -/
def i2cCmdWrite (s : State) (m : Master) (k data : Nat) : State := i2cCmdAfter k (writeAccess s m (0x90204 + 0x2000 * k) 4 data)

def execI2cCmd (m : Master) (controller data : Nat) (s : State) : Host.Outcome State Fault Refusal :=
  live s (i2cCmdWrite s m (controller % 4) data)

/-- R183: an exposure set's writes go wrong: the rest are abandoned, and it never comes into force. -/
def failSet (s : State) (p n : Nat) : State :=
  let t := setI2c s (p / 2) (fun x => { x with exposure := x.exposure.filter (fun j => !decide (j.set = some (p, n))) })
  let u := setCam t p (fun c =>
    let inForce := decide (c.force.frame = n) && !decide (c.force.id = 0xFF)
    { c with latched := c.latched.filter (fun e => !decide (e.frame = n)), force := if inForce then c.before else c.force })
  raiseIrq (u.bump (F.CAM_COUNT_COUNT p 13)) (0x090 + p) 3

/-- R181: one write of a set has ended well. -/
def setWritten (s : State) (p n : Nat) : State :=
  setCam s p (fun c => { c with latched := c.latched.map (fun e => if e.frame = n then { e with writes := e.writes - 1 } else e) })

/-- R180, R183, R196: a controller's transaction ends, and the next starts. -/
def i2cDone (s : State) (k status : Nat) (bytes : List Byte) : State :=
  match (s.cams.i2c.getD k ⟨none, [], none⟩).running with
  | none => s
  | some j =>
    let t := setI2c s k (fun x => { x with running := none })
    match j.set with
    | some e => showExp (startI2c (if status = 0 then setWritten t e.1 e.2 else failSet t e.1 e.2) k) e.1
    | none =>
      let p := 2 * k
      let got := if status = 0 then bytes.take j.rlen else []
      let a := (t.set (F.CAM_I2C_STATUS_CODE p) status).set (F.CAM_I2C_DATA_DATA p)
        (withBits (t.get (F.CAM_I2C_DATA_DATA p)) 0 (8 * got.length) (leNat got))
      startI2c (raiseIrq (a.set (F.CAM_I2C_CMD_BUSY p) (b2n (a.cams.i2c.getD k ⟨none, [], none⟩).command.isSome)) (0x090 + p) 5) k

def execI2cTransactionDone (controller status : Nat) (bytes : List Byte) (s : State) : Host.Outcome State Fault Refusal :=
  live s (i2cDone s (controller % 4) (status % 6) bytes)

/-- R179: the clock was held low too long: TIMEOUT. -/
def execI2cStretchTimeout (controller : Nat) (s : State) : Host.Outcome State Fault Refusal := live s (i2cDone s (controller % 4) 4 [])

/-! ### Frames -/

/-- R459: does a port receive? A failed I/O group 2 keeps the ports from starting. -/
def camRuns (s : State) (p : Nat) : Bool := s.on (F.CAM_CFG_ENABLE p) && !decide (bitsOf (s.get (F.BST_PART_RESULT 18)) 30 2 = 1)

/-- A frame of the port that has not closed. -/
def openFrame (c : Cam) : Option CamFrame := c.frames.find? (fun f => !f.closed)

/-- R190: a flag of a frame is set; TRUNCATED, DAMAGED set their interrupts, and each its counter. -/
def flagFrame (s : State) (p : Nat) (f : CamFrame) (bit : Nat) : State :=
  if hasBit f.flags bit then s
  else
    let t := setFrame s p f.number (fun q => { q with flags := withBit q.flags bit })
    match bit with
    | 0 => raiseIrq (t.bump (F.CAM_COUNT_COUNT p 1)) (0x090 + p) 0
    | 1 => raiseIrq (t.bump (F.CAM_COUNT_COUNT p 2)) (0x090 + p) 2
    | 2 => t.bump (F.CAM_COUNT_COUNT p 3)
    | 3 => t.bump (F.CAM_COUNT_COUNT p 4)
    | _ => t

/-- R189, R190, R192: a closed frame whose lines are all processed: statistics, record with FINAL, summary, tap. -/
def completeFrame (s : State) (p n : Nat) : State :=
  match (s.cam p).frames.find? (fun f => decide (f.number = n)) with
  | none => s
  | some f =>
    if !f.closed || decide (f.done < f.lines.length) then s
    else
      let a := camSlotAddr s p f.slot
      let t := pipeWrite (pipeWrite (pipeWrite s (a + 0x400) (histBytes f)) (a + 0x800) (zoneBytes f)) a (recordBytes p f.number f)
      let u := (writeTap t p f).setAll [(F.CAM_STATS_FRAME_FRAME p, f.number), (F.CAM_STATS_MEAN_SET_ID p, f.set.id),
        (F.CAM_STATS_MEAN_MEAN p, frameMean f), (F.CAM_STATS_SAT_COUNT p, f.sat)]
      let v := (setCam u p (fun c => { c with frames := c.frames.filter (fun q => !decide (q.number = n)) })).bump (F.CAM_COUNT_COUNT p 0)
      if 6 ≤ p ∧ [0, 1, 2, 4, 6].any (fun b => hasBit f.flags b) = true then groomFrameBad v else v

/-- R185: how many stripes of a frame are ready. -/
def stripesReady (f : CamFrame) : Nat := if f.closed then (f.lines.length + 63) / 64 else (f.lines.length - 2) / 64

/-- R185, R197: when each stripe became ready is remembered. -/
def noteReady (s : State) (p n : Nat) : State :=
  setFrame s p n (fun f =>
    { f with readyAt := f.readyAt ++ (((List.range (stripesReady f)).drop f.readyAt.length).map (fun i => (i, s.now))) })

/-- R178, R189: the open frame closes; `short`: with fewer lines than HEIGHT where it has not been cut. -/
def closeFrame (s : State) (p : Nat) (f : CamFrame) : State :=
  let t := if f.arrived < f.height ∧ hasBit f.flags 0 = false then flagFrame s p f 2 else s
  completeFrame (noteReady (setFrame t p f.number (fun q => { q with closed := true, eof := t.now })) p f.number) p f.number

/-- R178: an open frame closes as SHORT. -/
def closeShort (s : State) (p : Nat) : State :=
  match openFrame (s.cam p) with
  | none => s
  | some f => closeFrame (flagFrame s p f 2) p { f with flags := withBit f.flags 2 }

/-- R187: does the pipeline of a port serve another port alone? -/
def dedicatedAway (s : State) (p : Nat) : Bool :=
  let i := s.get (F.CAM_CFG_PIPE p)
  decide (s.get (F.IPP_STATUS_MODE i) = 2) &&
    !decide ((s.cams.pipes.getD i ⟨none, none, none, 0, []⟩).port = p)

/-- R189: the slot that a frame claims, if it is free and holds the image. -/
def claimSlot (s : State) (p : Nat) : Option Nat :=
  let n := s.get (F.CAM_RING_CFG_SLOTS p) + 1
  let k := match (s.cam p).lastSlot with | some i => (i + 1) % n | none => 0
  if hasBit (s.get (F.CAM_RING_FULL_SLOT p)) k ||
      decide (s.get (F.CAM_RING_CFG_SLOT_SIZE p) * 65536 < s.get (F.CAM_GEOM_HEIGHT p) * s.get (F.CAM_OUT_PITCH p) + 4096) then none
  else some k

/-- R177, R189: a frame with a number opens: it claims a slot, or is dropped whole. -/
def openWith (s : State) (p number csi trigger : Nat) (set : ExpSet) : State :=
  if dedicatedAway s p then (setCam s p (fun c => { c with skip := true })).bump (F.CAM_COUNT_COUNT p 11)
  else match claimSlot s p with
    | none => raiseIrq ((setCam s p (fun c => { c with skip := true })).bump (F.CAM_COUNT_COUNT p 10)) (0x090 + p) 4
    | some k =>
      let c := s.cam p
      let i := s.get (F.CAM_CFG_PIPE p)
      let flags := b2n c.markNext * 16 + b2n (s.on (F.CAM_TEST_PATTERN p)) * 32 + b2n (decide (s.get (F.IPP_STATUS_MODE i) = 2)) * 64
      let r := tapStart s p number (s.get (F.CAM_GEOM_WIDTH p))
      let f : CamFrame :=
        ⟨number, k, csi, i, s.get (F.CAM_GEOM_WIDTH p), s.get (F.CAM_GEOM_HEIGHT p), trigger, s.now, 0, set, flags, [], 0, 0, false, [], 0, 0,
          [], [], [], 0, r.2, []⟩
      let t := setCam r.1 p (fun x => { x with frames := x.frames ++ [f], lastSlot := some k, markNext := false, skip := false })
      pipeWrite (t.set (F.CAM_RING_FULL_SLOT p) (withBit (t.get (F.CAM_RING_FULL_SLOT p)) k)) (camSlotAddr t p k + 0x3C)
        (leBytes 4 (2 ^ 32 - 1 - number))

/-- R177: a frame start: in free mode it opens the next frame, in triggered mode the frame of the oldest trigger that awaits one. -/
def frameStart (s : State) (p csi : Nat) : State :=
  let t := setCam (closeShort s p) p (fun c => { c with skip := false })
  if t.on (F.CAM_CFG_TRIGGERED p) then
    match (t.cam p).waiting with
    | [] => (setCam t p (fun c => { c with skip := true })).bump (F.CAM_COUNT_COUNT p 6)
    | w :: rest => openWith (setCam t p (fun c => { c with waiting := rest })) p w.1 csi w.2.1 w.2.2
  else
    let r := takeNumber t p
    openWith r.1 p r.2 csi 0 (r.1.cam p).force

/-- R178: a packet's header: whether it is taken, with a corrected or failed check counted. -/
def headOk (s : State) (p : Nat) (h : CsiHead) : State × Bool :=
  if 2 ≤ h.ecc then (s.bump (F.CAM_COUNT_COUNT p 8), false)
  else
    let t := if h.ecc = 1 then s.bump (F.CAM_COUNT_COUNT p 7) else s
    if h.vc = t.get (F.CAM_CFG_VC p) then (t, true) else (t.bump (F.CAM_COUNT_COUNT p 8), false)

/-- R194: does a port listen to its lanes? -/
def listens (s : State) (p : Nat) : Bool := camRuns s p && !s.on (F.CAM_TEST_PATTERN p)

/-- A frame-start packet. -/
def startPacket (s : State) (p : Nat) (h : CsiHead) (number : Nat) : State :=
  let r := headOk s p h
  if r.2 then frameStart r.1 p number else r.1

def execCsiFrameStart (port : Nat) (head : CsiHead) (number : Nat) (s : State) : Host.Outcome State Fault Refusal :=
  live s (if listens s (port % 8) then startPacket s (port % 8) head number else s)

/-- R175, R178: a frame-end packet. -/
def endPacket (s : State) (p : Nat) (h : CsiHead) : State :=
  let r := headOk s p h
  if !r.2 then r.1
  else if (r.1.cam p).skip then setCam r.1 p (fun c => { c with skip := false })
  else match openFrame (r.1.cam p) with
    | some f => closeFrame r.1 p f
    | none => r.1.bump (F.CAM_COUNT_COUNT p 8)

def execCsiFrameEnd (port : Nat) (head : CsiHead) (s : State) : Host.Outcome State Fault Refusal :=
  live s (if listens s (port % 8) then endPacket s (port % 8) head else s)

/-- R186: the lines a port's buffer holds. -/
def linesHeld (c : Cam) : Nat := c.frames.foldl (fun n f => n + (f.lines.length - (f.done - 2))) 0

/-- R178, R186: a line of the open frame: stored, damaged, extra, or met by a full buffer. -/
def storeLine (s : State) (p : Nat) (f : CamFrame) (samples : List Nat) (sound : Bool) : State :=
  let t := setFrame s p f.number (fun q => { q with arrived := q.arrived + 1 })
  if hasBit f.flags 0 then t
  else if f.height ≤ f.lines.length then flagFrame t p f 3
  else if 256 ≤ linesHeld (t.cam p) then flagFrame t p f 0
  else
    let good := sound && decide (samples.length = f.width)
    let line := if good then samples else (f.lines.getLast?.map Prod.fst).getD (List.replicate f.width 0)
    let u := if good then t else (flagFrame t p f 1).bump (F.CAM_COUNT_COUNT p 9)
    noteReady (setFrame u p f.number (fun q =>
      { q with lines := q.lines ++ [(line, !good)], badLines := if good then q.badLines else q.badLines + 1 })) p f.number

/-- R175, R178: a long packet: a line of the open frame; a packet whose header is beyond correction is a damaged line. -/
def linePacket (s : State) (p : Nat) (h : CsiHead) (dt : Nat) (crcOk : Bool) (samples : List Nat) : State :=
  let r := headOk s p h
  let c := r.1.cam p
  if c.skip then r.1
  else if 2 ≤ h.ecc then (match openFrame c with | some f => storeLine r.1 p f [] false | none => r.1)
  else if !r.2 then r.1
  else match openFrame c with
    | none => r.1.bump (F.CAM_COUNT_COUNT p 8)
    | some f => if dt = 0x2A + r.1.get (F.CAM_CFG_FORMAT p) then storeLine r.1 p f samples crcOk else r.1.bump (F.CAM_COUNT_COUNT p 8)

def execCsiLine (port : Nat) (head : CsiHead) (dataType : Nat) (crcOk : Bool) (samples : List Nat) (s : State) :
    Host.Outcome State Fault Refusal :=
  live s (if listens s (port % 8) then linePacket s (port % 8) head dataType crcOk samples else s)

/-- R175, R190: embedded data of the open frame, up to 768 bytes of it. -/
def embeddedPacket (s : State) (p : Nat) (h : CsiHead) (bytes : List Byte) : State :=
  let r := headOk s p h
  if !r.2 || (r.1.cam p).skip then r.1
  else match openFrame (r.1.cam p) with
    | none => r.1.bump (F.CAM_COUNT_COUNT p 8)
    | some f =>
      let bs := bytes.take (768 - f.embed.length)
      pipeWrite (setFrame r.1 p f.number (fun q => { q with embed := q.embed ++ bs })) (camSlotAddr r.1 p f.slot + 0x100 + f.embed.length) bs

def execCsiEmbedded (port : Nat) (head : CsiHead) (bytes : List Byte) (s : State) : Host.Outcome State Fault Refusal :=
  live s (if listens s (port % 8) then embeddedPacket s (port % 8) head bytes else s)

/-- R175: a generic short packet. -/
def genericPacket (s : State) (p : Nat) (h : CsiHead) (dt value : Nat) : State :=
  let r := headOk s p h
  if r.2 then r.1.setAll [(F.CAM_LAST_GENERIC_DT p, dt), (F.CAM_LAST_GENERIC_VALUE p, value)] else r.1

def execCsiGeneric (port : Nat) (head : CsiHead) (dataType value : Nat) (s : State) : Host.Outcome State Fault Refusal :=
  live s (if listens s (port % 8) then genericPacket s (port % 8) head (8 + dataType % 8) value else s)

/-- R176, R177: a trigger takes the next number and awaits a frame start. -/
def trigger (s : State) (p : Nat) : State :=
  if camRuns s p && s.on (F.CAM_CFG_TRIGGERED p) then
    let r := takeNumber s p
    setCam r.1 p (fun c => { c with waiting := c.waiting ++ [(r.2, s.now, c.force)] })
  else s

def execCamTrigger (port : Nat) (s : State) : Host.Outcome State Fault Refusal := live s (trigger s (port % 8))

/-- R177, R183: the oldest awaiting trigger's frame is missing. -/
def frameMissing (s : State) (p : Nat) : State :=
  match (s.cam p).waiting with
  | [] => s
  | w :: rest =>
    let lat := s.get (F.CAM_CFG_EXP_LATENCY p)
    let t := setCam s p (fun c =>
      { c with waiting := rest,
               latched := c.latched.map (fun e => if e.frame < w.1 ∧ w.1 < e.frame + lat then { e with uncertain := true } else e) })
    let u := raiseIrq (t.bump (F.CAM_COUNT_COUNT p 5)) (0x090 + p) 1
    if 6 ≤ p then groomFrameBad u else u

def execFrameTimeout (port : Nat) (s : State) : Host.Outcome State Fault Refusal := live s (frameMissing s (port % 8))

/-- R178: no packet for too long: the open frame closes as SHORT. -/
def execLineTimeout (port : Nat) (s : State) : Host.Outcome State Fault Refusal := live s (closeShort s (port % 8))

/-! ### The pattern generator -/

/-- R194: the shift register of the PRBS pattern stepped. -/
def lfsrStep (v : Nat) : Nat := v * 2 % 2 ^ 15 + Nat.xor (bitOf v 14) (bitOf v 13)

/-- R194: a line of the pattern, and the shift register after it. -/
def patternLine (s : State) (p number y lfsr : Nat) : List Nat × Nat :=
  let b := 8 + 2 * s.get (F.CAM_CFG_FORMAT p)
  (List.range (s.get (F.CAM_GEOM_WIDTH p))).foldl (fun (a : List Nat × Nat) x =>
    let v := match s.get (F.CAM_TEST_PATTERN p) with
      | 1 => x + y + number
      | 2 => s.get (F.CAM_TEST_VALUE p)
      | _ => a.2
    (a.1 ++ [v % 2 ^ b], lfsrStep a.2)) ([], lfsr)

/-- R194: the generator's next packet: a frame start, a line, or the frame end. -/
def patternPacket (s : State) (p : Nat) : State :=
  let h : CsiHead := ⟨s.get (F.CAM_CFG_VC p), s.get (F.CAM_TEST_ECC_1BIT p)⟩
  match (s.cam p).gen with
  | none =>
    let awaited := (s.cam p).waiting.head?
    if s.on (F.CAM_CFG_TRIGGERED p) && awaited.isNone then s
    else
      let n := if s.on (F.CAM_CFG_TRIGGERED p) then (awaited.map Prod.fst).getD 0 else (s.cam p).next
      startPacket (setCam s p (fun c => { c with gen := some (n, 0, Nat.lor (n % 2 ^ 15) 1) })) p h 0
  | some g =>
    if s.get (F.CAM_GEOM_HEIGHT p) ≤ g.2.1 then endPacket (setCam s p (fun c => { c with gen := none })) p h
    else
      let l := patternLine s p g.1 g.2.1 g.2.2
      linePacket (setCam s p (fun c => { c with gen := some (g.1, g.2.1 + 1, l.2) })) p h (0x2A + s.get (F.CAM_CFG_FORMAT p))
        (!(s.on (F.CAM_TEST_CRC_ERR p) && decide (g.2.1 % 64 = 63))) l.1

def execTestPatternLine (port : Nat) (s : State) : Host.Outcome State Fault Refusal :=
  live s (if camRuns s (port % 8) && s.on (F.CAM_TEST_PATTERN (port % 8)) then patternPacket s (port % 8) else s)

/-! ### Port configuration and rings -/

/-- R181, R195: a port starts: frame 0, and no set in force. The exposure and gain of no set are open (log entry 5). -/
def startPort (s : State) (p : Nat) : State :=
  let e : ExpSet := { ExpSet.none with exposure := s.freeOf 24, gain := s.tookFree.freeOf 16 }
  showExp (setCam s.tookFree.tookFree p (fun c =>
    { c with next := 0, waiting := [], skip := false, latched := [], force := e, before := e, markNext := false, gen := none })) p

/-- R195: a port stops: its open frame closes. -/
def stopPort (s : State) (p : Nat) : State :=
  setCam (closeShort s p) p (fun c => { c with waiting := [], skip := false, gen := none })

/-- R179, R195: what follows a write of CAM.CFG: the port starts or stops, and CAMp_RST_N follows SENSOR_RST. -/
def camCfgAfter (s : State) (p : Nat) (w : Written) : State :=
  let was := s.on (F.CAM_CFG_ENABLE p)
  let is := w.s.on (F.CAM_CFG_ENABLE p)
  let t := if is && !was then startPort w.s p else if was && !is then stopPort w.s p else w.s
  if t.get (F.CAM_CFG_SENSOR_RST p) = s.get (F.CAM_CFG_SENSOR_RST p) then t
  else t.emit (.pin 2 p (1 - t.get (F.CAM_CFG_SENSOR_RST p)))

/-- R179, R195: a write of CAM.CFG: the port starts or stops, and CAMp_RST_N follows SENSOR_RST. -/
def camCfgWrite (s : State) (m : Master) (p addr size data : Nat) : State := camCfgAfter s p (writeAccess s m addr size data)

def execCamEnable (m : Master) (port data : Nat) (s : State) : Host.Outcome State Fault Refusal :=
  live s (camCfgWrite s m (port % 8) (0x90100 + 0x1000 * (port % 8)) 4 (withBit data 31))

/-- R189: a release of slots; one whose FINAL is not yet written is ignored. -/
def ringFullAfter (s : State) (p : Nat) (w : Written) : State :=
  let busy := (s.cam p).frames.foldl (fun v f => withBit v f.slot) 0
  w.s.set (F.CAM_RING_FULL_SLOT p) (Nat.lor (w.s.get (F.CAM_RING_FULL_SLOT p)) (Nat.land (s.get (F.CAM_RING_FULL_SLOT p)) busy))

/-- R189: a write of CAM.RING_FULL. -/
def ringFullWrite (s : State) (m : Master) (p data : Nat) : State := ringFullAfter s p (writeAccess s m (0x901C4 + 0x1000 * p) 4 data)

def execRingSlotRelease (m : Master) (port data : Nat) (s : State) : Host.Outcome State Fault Refusal :=
  live s (ringFullWrite s m (port % 8) data)

/-! ### Stripes -/

/-- A pipeline. -/
def State.pipe (s : State) (i : Nat) : Ipp := s.cams.pipes.getD i ⟨none, none, none, 0, []⟩

/-- The state with a pipeline changed. -/
def setPipe (s : State) (i : Nat) (f : Ipp → Ipp) : State := s.setCams (fun c => { c with pipes := modifyAt c.pipes i f })

/-- R185: a port's first frame with lines to process on a pipeline, if its next stripe is ready. -/
def readyFrame (s : State) (i p : Nat) : Option CamFrame :=
  match (s.cam p).frames.find? (fun f => decide (f.pipe = i) && (decide (f.done < f.lines.length) || !f.closed)) with
  | none => none
  | some f => if f.done / 64 < stripesReady f then some f else none

/-- R185, R187: the ports of a pipeline in the order it serves them: tracking ports first, lower numbers first; in DEDICATED one
port; in SHARED_FRAME the port whose frame it keeps to. -/
def pipeOrder (s : State) (i : Nat) : List Nat :=
  let ps := (List.range 8).filter (fun p => !s.on (F.CAM_CFG_CLASS p)) ++ (List.range 8).filter (fun p => s.on (F.CAM_CFG_CLASS p))
  match s.get (F.IPP_STATUS_MODE i), (s.pipe i).hold with
  | 2, _ => [(s.pipe i).port]
  | 1, some h => if (s.cam h.1).frames.any (fun f => decide (f.number = h.2)) then [h.1] else ps
  | _, _ => ps

/-- R185, R197: an idle pipeline starts the next ready stripe. -/
def stripeStart (s : State) (i : Nat) : State :=
  if (s.pipe i).running.isSome then s
  else match (pipeOrder s i).findSome? (fun p => (readyFrame s i p).map (fun f => (p, f))) with
    | none => s
    | some r =>
      let k := r.2.done / 64
      let t := setPipe s i (fun x => { x with running := some (r.1, r.2.number, k, s.now), last := some r.1 })
      let u := t.setAll [(F.IPP_STATUS_BUSY i, 1), (F.IPP_STATUS_PORT i, r.1)]
      let v := match (s.pipe i).last with
        | some q => if q = r.1 then u else u.bump (F.IPP_SWITCHES_COUNT i)
        | none => u
      if s.on (F.CAM_CFG_CLASS r.1) then v
      else v.raiseTo (F.IPP_WAIT_MAX_NS i) (s.now - (assoc r.2.readyAt k).getD s.now)

def execStripeStart (pipe : Nat) (s : State) : Host.Outcome State Fault Refusal := live s (stripeStart s (pipe % 2))

/-- R187: a frame ends as TRUNCATED at its last processed stripe. -/
def truncateFrame (s : State) (p : Nat) (f : CamFrame) : State :=
  let t := flagFrame s p f 0
  let u := setFrame t p f.number (fun q => { q with lines := q.lines.take q.done, closed := true, eof := if q.closed then q.eof else t.now })
  let v := if f.closed then u else setCam u p (fun c => { c with skip := true })
  completeFrame v p f.number

/-- R187: the mode last written takes effect; on entry to DEDICATED the frames of the other ports end. -/
def takeMode (s : State) (i : Nat) : State :=
  let mode := s.get (F.IPP_MODE_MODE i)
  let port := s.get (F.IPP_MODE_PORT i)
  if s.get (F.IPP_STATUS_MODE i) = mode ∧ (¬ mode = 2 ∨ (s.pipe i).port = port) then setPipe s i (fun x => { x with port := port })
  else
    let t := setPipe (s.set (F.IPP_STATUS_MODE i) mode) i (fun x => { x with port := port, hold := none })
    let u := if mode = 2 then
        ((List.range 8).filter (fun p => !decide (p = port))).foldl (fun a p =>
          ((a.cam p).frames.filter (fun f => decide (f.pipe = i))).foldl (fun b f => truncateFrame b p f) a) t
      else t
    raiseIrq u (0x098 + i) 0

/-- R187: what follows a write of IPP.MODE. -/
def ippModeAfter (i : Nat) (w : Written) : State :=
  if (w.s.pipe i).running.isSome then w.s else takeMode w.s i

/-- R187: a write of IPP.MODE. -/
def ippModeWrite (s : State) (m : Master) (i data : Nat) : State := ippModeAfter i (writeAccess s m (0x98100 + 0x1000 * i) 4 data)

/-- R185, R187, R189: a stripe completes: its lines are written, its frame perhaps complete, and a mode change takes effect. -/
def stripeComplete (s : State) (i : Nat) : State :=
  match (s.pipe i).running with
  | none => s
  | some r =>
    let t := completeFrame (processStripe s r.1 r.2.1) r.1 r.2.1
    let left := (t.cam r.1).frames.any (fun f => decide (f.number = r.2.1))
    let u := setPipe t i (fun x =>
      { x with running := none, hold := if left then some (r.1, r.2.1) else none,
               busy := (x.busy.filter (fun e => decide (t.now < 100000000 + e.2))) ++ [(r.2.2.2, t.now)] })
    takeMode ((u.set (F.IPP_STATUS_BUSY i) 0).bump (F.IPP_STRIPES_COUNT i)) i

def execStripeComplete (pipe : Nat) (s : State) : Host.Outcome State Fault Refusal := live s (stripeComplete s (pipe % 2))

/-! ### The summary -/

/-- R192: the fields of a register as one word. -/
def statsMeanWord (s : State) (p : Nat) : Nat := s.get (F.CAM_STATS_MEAN_SET_ID p) * 2 ^ 16 + s.get (F.CAM_STATS_MEAN_MEAN p)

/-- R192: a read of CAM.STATS_FRAME captures the other two for the reader. -/
def captureStats (s : State) (m : Master) (p : Nat) : State :=
  let a := 0x90000 + 0x1000 * p
  let c := mapPut s.mech.captures (pieceKey m (a + 0x1E4)) (statsMeanWord s p)
  { s with mech := { s.mech with captures := mapPut c (pieceKey m (a + 0x1E8)) (s.get (F.CAM_STATS_SAT_COUNT p)) } }

end Sys2Proof.Machine
end

