-- ==== Sys2Proof/Machine/Queues.lean ====
section
/-! DEFINITION. Machine/Queues.lean: the meanings of the queue manager's, scene codec's and layer control's commands: doorbells
(R91, R97), context commands (R94), descriptors (R90, R98, R507, R508), retirement (R99), completion rings (R102), held
writes (R109) and fences (R110). -/

namespace Sys2Proof.Machine

/-! ### Doorbells -/

/-- R91: a dropped doorbell is counted and logged on page 0x020 with the queue and the tail. -/
def dropDoorbell (s : State) (m : Master) (code queue tail : Nat) : State :=
  let t := capturePage (s.bump F.QMG_DB_DROPS_COUNT) 0x020 code m.code 0 queue tail 8
  if m.host then captureHost t code m.code 0x020 0 else t

/-- R97: the newly visible SUPERSEDE descriptors of a tile or auxiliary queue mark every earlier descriptor that has not
started. -/
def supersede (s : State) (q t0 t : Nat) : State :=
  if queueClass q = .control then s
  else
    let fresh := (List.range ((2 ^ 32 + t - t0) % 2 ^ 32)).map (fun i => (t0 + i) % 2 ^ 32)
    match (fresh.filter (fun i => (peekDesc s q i).supersede)).getLast? with
    | none => s
    | some j =>
      let started : List Nat := match runOf s q with | some r => [r.index] | none => []
      let before := (visible (ctxOf s q)).takeWhile (fun i => !decide (i = j))
      let marks := before.filter (fun i => !started.contains i && !isSkipped s q i && !isAborted s q i)
      s.setScene (fun c => { c with skipped := c.skipped ++ marks.map (fun i => (q, i)) })

/-- R91: a doorbell's new tail for a queue, the conditions taken in order. -/
def ringDoorbell (s : State) (m : Master) (q v : Nat) : State :=
  let t := v % 2 ^ 32
  let c := ctxOf s q
  if !decide (v / 2 ^ 32 = 0) then dropDoorbell s m 0x02 q t
  else if !c.enable || !s.on F.QMG_CTRL_ENABLE then dropDoorbell s m 0x22 q t
  else if t = c.tail then s
  else if seqLater c.tail t then dropDoorbell s m 0x21 q t
  else if 2 ^ c.ringLog2 < (2 ^ 32 + t - c.head) % 2 ^ 32 then dropDoorbell s m 0x20 q t
  else supersede (setCtx s q (fun x => { x with tail := t })) q c.tail t

/-- R33, R36, R91: a write to BAR2 slot 0: only aligned 8-byte writes, and none through a member's own port. -/
def execDoorbell (m : Master) (offset size data : Nat) (s : State) : Host.Outcome State Fault Refusal :=
  live s (if !decide (size = 8) || !decide (offset % 8 = 0) then logAccess s m 0x020 0 0x01 data size
    else if s.isMember && decide (m = .pcie) then logAccess s m 0x020 0 0x07 data size
    else ringDoorbell s m (offset / 8 % 2 ^ 18) (data % 2 ^ 64))

/-! ### Context commands -/

/-- R93: a context's 32 bytes as eight words. -/
def ctxWords (s : State) (q : Nat) : List Nat :=
  let c := ctxOf s q
  let w2 := c.ringLog2 + c.cq * 2 ^ 8 + (b2n c.enable + 2 * b2n c.ringHost + 4 * b2n c.quiet) * 2 ^ 16 + queueState s q * 2 ^ 24
  [c.ringBase % 2 ^ 32, c.ringBase / 2 ^ 32, w2, c.head, c.tail, c.lastSeq, c.chain % 2 ^ 32, c.chain / 2 ^ 32]

/-- R94: the context a set of data words gives INIT, none where a field is out of range. -/
def initCtx (q : Nat) (d : List Nat) : Option QCtx :=
  let base := d.getD 0 0 + d.getD 1 0 * 2 ^ 32
  let w2 := d.getD 2 0
  let chain := d.getD 6 0 + d.getD 7 0 * 2 ^ 32
  if base % 64 ≠ 0 ∨ bitsOf w2 0 8 < 4 ∨ 16 < bitsOf w2 0 8 ∨ 15 < bitsOf w2 8 8 ∨ 8 ≤ bitsOf w2 16 8 ∨ bitsOf chain 1 4 ≠ 0 ∨
     (queueClass q ≠ .aux ∧ chain ≠ 0) then none
  else some ⟨base, bitsOf w2 0 8, bitsOf w2 8 8, hasBit w2 16, hasBit w2 17, hasBit w2 18, d.getD 3 0, d.getD 3 0, d.getD 5 0, chain⟩

/-- R94 READ: the context copied to the data registers. -/
def ctxReadOp (s : State) (q : Nat) : State :=
  (s.setAll ((List.range 8).map (fun i => (F.QMG_CTX_DATA_DATA i, (ctxWords s q).getD i 0)))).setScene
    (fun c => { c with ctxResult := 0 })

/-- R94 INIT: the context written from the data registers if the queue is idle and empty and every field is in range. -/
def ctxInitOp (s : State) (q : Nat) : State :=
  if !decide (queueState s q = 0) || !decide ((ctxOf s q).count = 0) then s.setScene (fun c => { c with ctxResult := 1 })
  else match initCtx q ((List.range 8).map (fun i => s.get (F.QMG_CTX_DATA_DATA i))) with
    | none => s.setScene (fun c => { c with ctxResult := 2 })
    | some x => (setCtx s q (fun _ => x)).setScene (fun c => { c with ctxResult := 0 })

/-- R94, R116 DISABLE: ENABLE clears; descriptors not started and not skipped are marked aborted; a commit not yet taken
retires ABORTED. -/
def ctxDisableOp (s : State) (q : Nat) : State :=
  let c := ctxOf s q
  let started : List Nat := match runOf s q with | some r => [r.index] | none => []
  let marks := (visible c).filter (fun i => !started.contains i && !isSkipped s q i && !isAborted s q i)
  let a := (setCtx s q (fun x => { x with enable := false })).setScene (fun x =>
    { x with aborted := x.aborted ++ marks.map (fun i => (q, i)), ctxResult := 0 })
  match s.scene.commits.find? (fun m => decide (m.queue = q)) with
  | some m =>
    if m.taken then a
    else showCommits (setRun (a.setScene (fun x => { x with commits := x.commits.filter (fun y => !decide (y.queue = q)) })) q
      (fun r => { r with stage := .finished, status := 0x0A, info := 0 }))
  | none => a

/-- R94 ENABLE: ENABLE set unless the queue is disabling. -/
def ctxEnableOp (s : State) (q : Nat) : State :=
  if queueState s q = 4 then s.setScene (fun c => { c with ctxResult := 1 })
  else (setCtx s q (fun x => { x with enable := true })).setScene (fun c => { c with ctxResult := 0 })

/-- R94: the operation of a command. -/
def ctxOp (s : State) (op q : Nat) : State :=
  match op with
  | 0 => ctxReadOp s q
  | 1 => ctxInitOp s q
  | 2 => ctxDisableOp s q
  | _ => ctxEnableOp s q

/-- R94: what an accepted write of QMG.CTX_CMD starts: BUSY is set and the operation runs. -/
def ctxStart (s : State) : State :=
  ctxOp (s.set F.QMG_CTX_CMD_BUSY 1) (s.get F.QMG_CTX_CMD_OP) (s.get F.QMG_CTX_CMD_QUEUE)

/-- R94: what follows a write of QMG.CTX_CMD. -/
def ctxAfter (w : Written) : State := if (w.tookField F.QMG_CTX_CMD_QUEUE).isSome then ctxStart w.s else w.s

/-- R94: a write of QMG.CTX_CMD: dropped while BUSY (code 0x20) or with a reserved OP (code 0x02), else the command starts. -/
def ctxCommand (s : State) (m : Master) (op q : Nat) : State :=
  ctxAfter (writeAccess s m 0x21100 4 (op * 2 ^ 24 + q % 2 ^ 18))

def execCtxRead (m : Master) (queue : Nat) (s : State) : Host.Outcome State Fault Refusal := live s (ctxCommand s m 0 queue)

def execCtxInit (m : Master) (queue : Nat) (s : State) : Host.Outcome State Fault Refusal := live s (ctxCommand s m 1 queue)

def execCtxDisable (m : Master) (queue : Nat) (s : State) : Host.Outcome State Fault Refusal := live s (ctxCommand s m 2 queue)

def execCtxEnable (m : Master) (queue : Nat) (s : State) : Host.Outcome State Fault Refusal := live s (ctxCommand s m 3 queue)

/-- R94: the command completes: its RESULT is set and BUSY clears. -/
def execCtxCmdComplete (s : State) : Host.Outcome State Fault Refusal :=
  live s (if s.on F.QMG_CTX_CMD_BUSY then s.setAll [(F.QMG_CTX_RESULT_RESULT, s.scene.ctxResult), (F.QMG_CTX_CMD_BUSY, 0)] else s)

/-! ### Starting -/

/-- R96, R97, R98: is a queue's front descriptor ready to start? -/
def startable (s : State) (q : Nat) (c : QCtx) : Bool :=
  c.enable && !decide (c.count = 0) && (runOf s q).isNone && !isSkipped s q c.head && !isAborted s q c.head

/-- The queue of lowest identifier in a list. -/
def lowestQueue (l : List Nat) : Option Nat :=
  l.foldl (fun b q => match b with | none => some q | some x => if q < x then some q else some x) none

/-- R98: the queue served next: control queues ahead of all others, round-robin in order of identifier. -/
def nextQueue (s : State) : Option Nat :=
  let ready := (s.scene.ctxs.filter (fun e => startable s e.1 e.2)).map Prod.fst
  let ctl := ready.filter (fun q => decide (queueClass q = .control))
  let pool := if ctl.isEmpty then ready else ctl
  (lowestQueue (pool.filter (fun q => decide (s.scene.lastServed < q)))).or (lowestQueue pool)

/-- R90: the status with which a descriptor fails D1 to D3, if any. -/
def descCheck (s : State) (q : Nat) (b : List Byte) : Option Nat :=
  if !descFormatOk b then some 0x02
  else if (descOf b).supersede && decide (queueClass q = .control) then some 0x04
  else if !seqLater (descOf b).seq (ctxOf s q).lastSeq then some 0x08
  else none

/-- A run at its start. -/
def freshRun (q i : Nat) (d : Desc) (st : Stage) (inUnit : Bool) (status : Nat) : Run :=
  ⟨q, i, d, st, [], inUnit, false, 0, [], false, status, 0, 0⟩

/-- R90, R98, R507: the next descriptor is read and checked, and starts in a decode unit if it passes. -/
def startDescriptor (s : State) (readable : Bool) : State :=
  if !s.on F.QMG_CTRL_ENABLE || decide (32 ≤ (s.scene.runs.filter (fun r => r.inUnit)).length) then s
  else match nextQueue s with
    | none => s
    | some q =>
      let i := (ctxOf s q).head
      let r := readDesc s q i readable
      let t := r.1.setScene (fun c => { c with lastServed := q })
      match r.2 with
      | none => retireLost t q
      | some b =>
        match descCheck t q b with
        | some st => t.setScene (fun c => { c with runs := c.runs ++ [freshRun q i (descOf b) .finished false st] })
        | none => showUnits ((setCtx t q (fun c => { c with lastSeq := (descOf b).seq })).setScene (fun c =>
            { c with runs := c.runs ++ [freshRun q i (descOf b) .reading true 0] }))
where
  /-- R507: an entry that cannot be read retires FETCH_ERROR with SEQ 0 and no fence. -/
  retireLost (t : State) (q : Nat) : State :=
    t.setScene (fun c => { c with runs := c.runs ++ [freshRun q (ctxOf t q).head ⟨0, 0, 0, 0, 0, 0, 0⟩ .finished false 0x09] })

def execDescriptorStart (readable : Bool) (s : State) : Host.Outcome State Fault Refusal := live s (startDescriptor s readable)

/-- A run finished with a status. -/
def finishRun (s : State) (q status object info : Nat) : State :=
  setRun s q (fun r => { r with stage := .finished, status := status, object := object, info := info })

/-- R57: the status of checks 1 to 5 on a block, if one fails. -/
def blockCheck (s : State) (r : Run) (b : List Byte) : Option Nat :=
  if !check1 b r.desc.length then some 0x02
  else if !check2 b r.desc.length then some 0x03
  else if !check3 b r.desc.kind r.queue then some 0x04
  else if !check4 b then some 0x02
  else if !check5 b (s.get (F.LAY_SET_STATUS_STREAM_TAG (headerOf b).set)) then some 0x05
  else none

/-- R508: the read of a block ends: D4 and checks 1 to 5 are judged. -/
def finishRead (s : State) (q : Nat) (completed : Bool) : State :=
  match runOf s q with
  | none => s
  | some r =>
    if r.stage = .reading then
      match blockFetch s r.desc.hostMemory r.desc.src r.desc.length with
      | (t, none) => finishRun t q 0x09 0 0
      | (t, some b) =>
        if !completed then finishRun t q 0x09 0 0
        else match blockCheck t r b with
          | some st => finishRun t q st 0 0
          | none => setRun t q (fun x => { x with stage := .decoding, block := b })
    else s

def execBlockReadDone (queue : Nat) (completed : Bool) (s : State) : Host.Outcome State Fault Refusal :=
  live s (finishRead s queue completed)

/-! ### Decoding -/

/-- R112: the waiting set of a commit: earlier descriptors, visible and neither retired nor skipped, of the tile and control
queues of the layers it names. -/
def waitingSet (s : State) (q seq mask : Nat) : List (Nat × Nat) :=
  s.scene.ctxs.flatMap (fun e =>
    if queueClass e.1 ≠ .aux ∧ hasBit mask (e.1 / 4096) = true ∧ e.1 ≠ q then
      ((visible e.2).filter (fun i =>
        !isSkipped s e.1 i &&
        seqLater seq (match runOf s e.1 with
          | some r => if r.index = i then r.desc.seq else (peekDesc s e.1 i).seq
          | none => (peekDesc s e.1 i).seq))).map (fun i => (e.1, i))
    else [])

/-- R112: a COMMIT block that has passed its checks enters waiting and frees its unit. -/
def enterCommit (s : State) (r : Run) : State :=
  let pl := payloadOf r.block
  let mask := leAt pl 0 8
  let set := (headerOf r.block).set
  let w := waitingSet s r.queue r.desc.seq mask
  let m : Commit := ⟨r.queue, r.desc.seq, set, mask, hasBit (leAt pl 0x11 1) 0, leAt pl 0x10 1, leAt pl 8 8,
    hasBit (leAt pl 0x11 1) 1, leAt pl 0x14 4, w,
    if w.isEmpty then some (s.get (F.LAY_ENABLE_BACK_MASK set)) else none, false⟩
  showUnits (showCommits (setRun (s.setScene (fun c => { c with commits := c.commits ++ [m] })) r.queue
    (fun x => { x with stage := .committing, inUnit := false })))

/-- R109: a run begins to wait: a tile takes a hold buffer if one is free and else stays in its unit; a LAYER block's
description waits in its own store. -/
def beginHold (s : State) (r : Run) (isTile : Bool) (bytes : List Byte) : State :=
  let free := decide ((s.scene.runs.filter (fun x => x.inHold)).length < 64)
  showUnits (setRun (s.setScene (fun c => { c with waitCount := c.waitCount + 1 })) r.queue (fun x =>
    { x with stage := .held, decoded := bytes, wasHeld := true, waitNo := s.scene.waitCount,
             inHold := isTile && free, inUnit := isTile && !free }))

/-- R99, R108: a tile's write made; the descriptor finishes DONE, or FETCH_ERROR where the regions refuse it. -/
def finishTile (s : State) (r : Run) (bytes : List Byte) : State :=
  let set := (headerOf r.block).set
  let w := writeTile s (tileNo set (r.queue / 4096) (r.queue % 4096)) bytes r.block
  finishRun w.1 r.queue (if w.2 then 0 else 0x09) 0 0

/-- R62: a LAYER description's write made. -/
def finishLayer (s : State) (r : Run) : State :=
  match layerOf (payloadOf r.block) with
  | some d => finishRun (writeLayer s (headerOf r.block).set (r.queue / 4096) d) r.queue 0 0 0
  | none => finishRun s r.queue 0x02 0 0

/-- R58, R65 to R76, R108, R109: a tile block decoded. -/
def decodeTileRun (s : State) (r : Run) : State :=
  match decodeTile r.desc.kind (payloadOf r.block) with
  | none => finishRun s r.queue 0x02 0 0
  | some bytes =>
    if tileHeld s r.desc.seq (headerOf r.block).set (r.queue / 4096) (r.queue % 4096) then beginHold s r true bytes
    else finishTile s r bytes

/-- R81 to R85, R105, R106: an auxiliary block decoded and written along its queue's chain;
a command list of the 2-D engine's queue waits for it in its place, its unit free (R235). -/
def decodeAuxRun (s : State) (r : Run) : State :=
  match decodeAux r.desc.kind (payloadOf r.block) with
  | none => finishRun s r.queue 0x02 (auxHeader (payloadOf r.block)).object 0
  | some (h, obj) =>
    if !auxSupported r.desc.kind h (s.isHead || s.isMember) then finishRun s r.queue 0x06 h.object 0
    else
      let chain := (ctxOf s r.queue).chain
      let w := if chain / 32 = 0 then (s, 0) else chainWrite 4096 s chain 0 h.outOffset obj 0
      if w.2 = obj.length ∧ r.desc.kind = 0x35 ∧ s.on F.BLT_QUEUE_EN = true ∧ s.get F.BLT_QUEUE_QUEUE = r.queue then
        showUnits (setRun w.1 r.queue (fun x => { x with stage := .listing, inUnit := false, object := h.object, info := w.2 }))
      else finishRun w.1 r.queue (if w.2 = obj.length then 0 else 0x07) h.object w.2

/-- R77 to R80, R109, R112: a control block acted on. -/
def decodeControlRun (s : State) (r : Run) : State :=
  if !controlOk r.block then finishRun s r.queue 0x02 0 0
  else match (headerOf r.block).kind with
    | 0x02 =>
      if layerHeld s r.desc.seq (headerOf r.block).set (r.queue / 4096) then beginHold s r false []
      else finishLayer s r
    | 0x20 => enterCommit s r
    | _ => finishRun s r.queue 0 0 0

/-- R508: decoding of a queue's block ends. -/
def finishDecode (s : State) (q : Nat) : State :=
  match runOf s q with
  | none => s
  | some r =>
    if r.stage = .decoding then
      match queueClass q with
      | .tile => decodeTileRun s r
      | .control => decodeControlRun s r
      | .aux => decodeAuxRun s r
    else s

def execDecodeDone (queue : Nat) (s : State) : Host.Outcome State Fault Refusal := live s (finishDecode s queue)

/-- R109: a held tile or LAYER description is written once nothing holds it. -/
def releaseHeld (s : State) (q : Nat) : State :=
  match runOf s q with
  | none => s
  | some r =>
    if r.stage = .held then
      let set := (headerOf r.block).set
      if queueClass q = .tile then
        (if tileHeld s r.desc.seq set (q / 4096) (q % 4096) then s
         else showUnits (fillHold (setRun (finishTile s r r.decoded) q (fun x => { x with inHold := false }))))
      else if layerHeld s r.desc.seq set (q / 4096) then s
      else finishLayer s r
    else s

def execHeldWriteRelease (queue : Nat) (s : State) : Host.Outcome State Fault Refusal := live s (releaseHeld s queue)

/-! ### Completion rings -/

/-- R99: the front descriptor of a queue retires. -/
def execDescriptorRetire (queue : Nat) (readable : Bool) (s : State) : Host.Outcome State Fault Refusal :=
  live s (retireFront s queue readable)

/-- R102: consumed entries free room, and delayed retirements proceed in order. -/
def cqHeadAfter (s : State) (ring : Nat) : State := drainDelayed (s.scene.delayed.length + 1) s ring

/-- R102: what follows a write of QMG.CQ_HEAD. -/
def cqHeadThen (ring : Nat) (w : Written) : State :=
  if (w.tookField (F.QMG_CQ_HEAD_HEAD ring)).isSome then cqHeadAfter w.s ring else w.s

/-- R102: what follows a write of QMG.CQ_SIZE: a ring switched on has room. -/
def cqSizeThen (ring : Nat) (w : Written) : State :=
  if (w.tookField (F.QMG_CQ_SIZE_CQ_LOG2 ring)).isSome then cqHeadAfter w.s ring else w.s

def execCqHeadWrite (m : Master) (ring head : Nat) (s : State) : Host.Outcome State Fault Refusal :=
  live s (cqHeadThen (ring % 16) (writeAccess s m ((0x030 + ring % 16) * 0x1000 + 0x10C) 4 head))

/-- R102: the oldest unconsumed entry is older than MICROSECONDS. -/
def execCqAgeTimeout (ring : Nat) (s : State) : Host.Outcome State Fault Refusal :=
  let r := ring % 16
  live s (if s.on (F.QMG_CQ_MOD_MICROSECONDS r) && !decide (s.get (F.QMG_CQ_TAIL_TAIL r) = s.get (F.QMG_CQ_HEAD_HEAD r))
    then raiseIrq s (0x030 + r) 0 else s)

/-! ### Fences -/

/-- R110: a WRITE of a fence. -/
def execFenceWrite (m : Master) (n value : Nat) (s : State) : Host.Outcome State Fault Refusal :=
  live s (writeAccess s m (0x51100 + 8 * (n % 256)) 8 value).s

/-- R110: what follows a write of LAY.FENCE_MAX. -/
def fenceMaxAfter (n : Nat) (w : Written) : State :=
  match w.tookField (F.LAY_FENCE_MAX_VALUE n) with
  | some v => fenceMax w.s n v
  | none => w.s

/-- R110: a MAX of a fence. -/
def execFenceMaxWrite (m : Master) (n value : Nat) (s : State) : Host.Outcome State Fault Refusal :=
  live s (fenceMaxAfter (n % 256) (writeAccess s m (0x52100 + 8 * (n % 256)) 8 value))

end Sys2Proof.Machine
end

