-- ==== Sys2Proof/Machine/Reads.lean ====
section
/-! DEFINITION. Machine/Reads.lean: a master's whole register access: the words computed at a read, what a read captures and clears (R5,
R7, R192, R219, R326, R373, R388, R461), and what follows a write that a register took (R45). -/

namespace Sys2Proof.Machine

/-! ### Words computed at the read -/

/-- R116: LAY.TILE_STATE of the tile that LAY.TILE_QUERY names. -/
def tileStateWord (s : State) : Nat :=
  let set := s.get F.LAY_TILE_QUERY_SET
  let layer := s.get F.LAY_TILE_QUERY_LAYER
  let tile := s.get F.LAY_TILE_QUERY_TILE
  let t := tileOf s (tileNo set layer tile)
  let fmt := (frontLayer s set layer).format
  let held := s.scene.runs.any (fun r =>
    decide (r.stage = .held) && decide (r.queue = layer * 4096 + tile) && decide ((headerOf r.block).set = set))
  t.front % 2 + 2 * b2n t.pending + 4 * b2n (t.slotEmpty t.front fmt) + 8 * b2n (t.slotEmpty (1 - t.front) fmt) +
    16 * b2n (if t.front = 0 then t.retainedA else t.retainedB) + 32 * b2n t.releasing.isSome + 64 * b2n held

/-- R171: DRU.ANGLE at the read: the revolution and the predicted angle. -/
def angleWord (s : State) : Nat :=
  let a := theta s.drum (s.now : Nat)
  (a % revSub).toNat + ((Int.fdiv a revSub) % 4096).toNat * 2 ^ 20

/-- R219: the edition that a master reads: the one it captured last, else the one in force. -/
def editionFor (s : State) (m : Master) : List Viewer := (assoc s.roster.captures m.code).getD s.roster.edition

/-- R219: a coordinate of an eye, zero where the eye is absent. -/
def eyeWord (e : Option EyeEst) (f : EyeEst → Int) : Nat := match e with | some x => ofSigned (f x) 32 | none => 0

/-- R219: word `w` of VWB.ROSTER[i]. -/
def rosterWord (s : State) (l : List Viewer) (i w : Nat) : Nat :=
  match l.find? (fun v => decide (v.slot = i)) with
  | none => 0
  | some v =>
    match w with
    | 0 => v.id % 2 ^ 32
    | 1 => (if v.coasting then 2 else 1) * 2 ^ 30 + v.owner % 64 * 2 ^ 24 + Nat.min (((s.now : Int) - v.last).toNat / 1000000) 255 * 2 ^ 16 +
        b2n v.left.isSome + 2 * b2n v.right.isSome
    | 2 => eyeWord v.left EyeEst.x
    | 3 => eyeWord v.left EyeEst.y
    | 4 => eyeWord v.left EyeEst.z
    | 5 => eyeWord v.right EyeEst.x
    | 6 => eyeWord v.right EyeEst.y
    | _ => eyeWord v.right EyeEst.z

/-- What a master's last capture holds of a word, else its value now. -/
def capturedOr (s : State) (m : Master) (a now : Nat) : Nat := (mapGet s.mech.captures (pieceKey m a)).getD now

/-- The register words that are computed at the read. -/
def liveWord (s : State) (m : Master) (a : Nat) : Option Nat :=
  if a = 0x501A4 then some (tileStateWord s)
  else if a = 0x80114 then some (angleWord s)
  else if a = 0xA3100 then some (s.get F.VWB_ROSTER_GEN_GEN)
  else if 0xA3200 ≤ a ∧ a < 0xA3600 then some (rosterWord s (editionFor s m) ((a - 0xA3200) / 32) (a % 32 / 4))
  else if 0x10800 ≤ a ∧ a < 0x10838 then some (pagePendWord s ((a - 0x10800) / 4))
  else if a = 0x181120 then some (logEntryWord s 0)
  else if 0x181124 ≤ a ∧ a < 0x181140 then some (capturedOr s m a (logEntryWord s ((a - 0x181120) / 4)))
  else if 0x90 ≤ a / 0x1000 ∧ a / 0x1000 ≤ 0x97 ∧ a % 0x1000 = 0x1E4 then
    some (capturedOr s m a (statsMeanWord s (a / 0x1000 - 0x90)))
  else if 0x90 ≤ a / 0x1000 ∧ a / 0x1000 ≤ 0x97 ∧ a % 0x1000 = 0x1E8 then
    some (capturedOr s m a (s.get (F.CAM_STATS_SAT_COUNT (a / 0x1000 - 0x90))))
  else none

/-- R461: a read of word 0 captures the whole entry. -/
def captureEntry (s : State) (m : Master) : State :=
  let caps := ((List.range 7).map (fun j => j + 1)).foldl (fun c j => mapPut c (pieceKey m (0x181120 + 4 * j)) (logEntryWord s j))
    s.mech.captures
  { s with mech := { s.mech with captures := caps } }

/-- R219: a read of VWB.ROSTER_CAPTURE captures the edition in force. -/
def captureEdition (s : State) (m : Master) : State :=
  { s with roster := { s.roster with captures := assocPut s.roster.captures m.code s.roster.edition } }

/-- R192, R219, R326, R461: what a read of a word captures beside it. -/
def captureBeside (s : State) (m : Master) (a : Nat) : State :=
  if a = 0x110100 then captureFrac s m
  else if a = 0x181120 then captureEntry s m
  else if a = 0xA3100 then captureEdition s m
  else if 0x90 ≤ a / 0x1000 ∧ a / 0x1000 ≤ 0x97 ∧ a % 0x1000 = 0x1E0 then captureStats s m (a / 0x1000 - 0x90)
  else s

/-! ### Reads -/

/-- The value of a whole register, and what reading it does: LFT.BUF_DATA and LFT.RD_DATA advance their pointers (R373, R388; `found`
is what the loft's check finds in the word). -/
def wholeValue (s : State) (m : Master) (h : RowHit) (found : Nat) : State × Nat :=
  if h.base = 0x140110 then (bufAdvance s, bufDataValue s)
  else if h.base = 0x140148 then loftWordRead s m found
  else (clearRc s h.fields, regValue s m h)

/-- R5: a read of one piece of a register: of the lowest it returns it and captures every other piece, clearing RC fields; of
another it returns the capture, or the current value where the master holds none. -/
def readPiece (s : State) (m : Master) (h : RowHit) (found : Nat) : State × Nat :=
  let r := wholeValue s m h found
  if h.piece = 0 then
    let ps := (List.range (h.bits / 32 - 1)).map (fun j => j + 1)
    let caps := ps.foldl (fun c j => mapPut c (pieceKey m (h.base + 4 * j)) (bitsOf r.2 (32 * j) 32)) r.1.mech.captures
    ({ r.1 with mech := { r.1.mech with captures := caps } }, r.2 % 2 ^ 32)
  else (s, (mapGet s.mech.captures (pieceKey m (h.base + 4 * h.piece))).getD (bitsOf r.2 (32 * h.piece) 32))

/-- A read of one word of an implemented page. -/
def readWord (s : State) (m : Master) (a found : Nat) : State × Nat :=
  let head := if pageHasHeader (a / 0x1000) && decide (a % 0x1000 < 0x100) then headerWord s (a / 0x1000) (a % 0x1000) else none
  match head.or (liveWord s m a) with
  | some w => (captureBeside s m a, w)
  | none => match findRow a with
    | none => (s, 0)
    | some h => let r := readPiece s m h found; (captureBeside r.1 m a, r.2)

/-- A read access of a master, judged whole (R4, R38, R416), then read word by word. -/
def readAccess (s : State) (m : Master) (addr size found : Nat) : State × Nat :=
  let page := addr / 0x1000
  if !accessAligned addr size then (logAccess s m page (addr % 0x1000) 0x01 0 size, 0)
  else if !pageImplemented page then (s, 0)
  else if decide (s.pageWorld page = 0) && !m.secure then (worldViolation s m page (addr % 0x1000) 0 size, 0)
  else
    let lo := readWord s m addr found
    if size = 4 then lo
    else
      let hi := readWord lo.1 m (addr + 4) found
      (hi.1, lo.2 + hi.2 * 2 ^ 32)

/-- A read whose value is returned to its master. -/
def regRead (s : State) (m : Master) (addr size found : Nat) : State :=
  let r := readAccess s m addr size found
  r.1.emit (.readData m addr r.2)

/-! ### What follows a write -/

/-- What follows a write that the registers of pages 0x000 to 0x0BF took, by the register's address. -/
def afterLow (s : State) (m : Master) (base : Nat) (w : Written) : State :=
  let page := base / 0x1000
  let off := base % 0x1000
  if base = 0x110 then resetAfter w
  else if base = 0x2110 then mbxCmdAfter w
  else if base = 0x21100 then ctxAfter w
  else if 0x30 ≤ page ∧ page ≤ 0x3F ∧ off = 0x10C then cqHeadThen (page - 0x30) w
  else if 0x30 ≤ page ∧ page ≤ 0x3F ∧ off = 0x108 then cqSizeThen (page - 0x30) w
  else if page = 0x52 ∧ 0x100 ≤ off ∧ off < 0x900 then fenceMaxAfter ((off - 0x100) / 8) w
  else if base = 0x70118 then kselArmAfter m w
  else if base = 0x70128 then ldeltaArmAfter w
  else if base = 0x70138 then pkgCmdAfter s w
  else if base = 0x80100 then drumReqWritten w.s w
  else if base = 0x8111C then schedSelectAfter w
  else if 0x90 ≤ page ∧ page ≤ 0x97 ∧ off = 0x100 then camCfgAfter s (page - 0x90) w
  else if 0x90 ≤ page ∧ page ≤ 0x97 ∧ off = 0x110 then expSetAfter (page - 0x90) w
  else if 0x90 ≤ page ∧ page ≤ 0x97 ∧ off = 0x1C4 then ringFullAfter s (page - 0x90) w
  else if 0x90 ≤ page ∧ page ≤ 0x97 ∧ page % 2 = 0 ∧ off = 0x204 then i2cCmdAfter ((page - 0x90) / 2) w
  else if (page = 0x98 ∨ page = 0x99) ∧ off = 0x100 then ippModeAfter (page - 0x98) w
  else if base = 0xB0118 then lutLoadAfter s w
  else if 0xB0140 ≤ base ∧ base < 0xB01C0 ∧ (base - 0xB0140) % 32 = 0 then flipAfter s ((base - 0xB0140) / 32) w
  else if base = 0xBF100 then protCtrlThen w
  else w.s

/-- R308: yard operation switched on floods a candidate's ENUM. -/
def yardCtrlAfter (s : State) (w : Written) : State :=
  if w.tookField F.XSH_CTRL_EN = some 1 ∧ s.on F.XSH_CTRL_EN = false ∧ candidate w.s = true ∧ (upPorts w.s).isEmpty = false then floodEnum w.s
  else w.s

/-- What follows a write that the registers of later pages took. -/
def afterHigh (s : State) (m : Master) (base : Nat) (w : Written) : State :=
  let page := base / 0x1000
  let off := base % 0x1000
  if 0xD0 ≤ page ∧ page ≤ 0xDB ∧ off = 0x180 then drvCmdAfter m (page - 0xD0) w
  else if base = 0xDC10C then lrKickAfter w
  else if base = 0xDC118 then powerCmdAfter w
  else if base = 0xDE130 then tableLoadAfter s w
  else if base = 0xDE134 then tableSwapThen w
  else if 0xF0 ≤ page ∧ page ≤ 0xFF ∧ off = 0x104 then serCtrlAfter s w (page - 0xF0) false
  else if 0xF0 ≤ page ∧ page ≤ 0xFF ∧ off = 0x118 then subCmdAfter (page - 0xF0) w
  else if 0xF0 ≤ page ∧ page ≤ 0xFF ∧ off = 0x300 then eyeCtrlAfter (page - 0xF0) w
  else if 0xF0 ≤ page ∧ page ≤ 0xFF ∧ off = 0x310 then loopAfter s (page - 0xF0) w
  else if base = 0x10010C then yardCtrlAfter s w
  else if base = 0x110118 then stepAfter w
  else if page = 0x111 ∧ 0x114 ≤ off ∧ off < 0x214 ∧ (off - 0x114) % 64 = 0 then txqFindAfter m ((off - 0x114) / 64) w
  else if page = 0x112 ∧ 0x118 ≤ off ∧ off < 0x318 ∧ (off - 0x118) % 32 = 0 then trigCtrlAfter s ((off - 0x118) / 32) w
  else if page = 0x113 ∧ 0x104 ≤ off ∧ off < 0x204 ∧ (off - 0x104) % 32 = 0 then capPopAfter ((off - 0x104) / 32) w
  else if 0x120 ≤ page ∧ page ≤ 0x12F ∧ off = 0x140 then loopCmdAfter (page - 0x120) w
  else if base = 0x1301B0 then speedAfter w
  else if base = 0x140108 then bufClaimAfter m w
  else if base = 0x140110 then bufDataTaken s w
  else if base = 0x140118 then fillTaken w
  else if base = 0x140124 then storeAfter m none w
  else if base = 0x151100 then applyAfter w
  else if base = 0x1801D0 then injectAfter w
  else if base = 0x190100 then bstCtrlAfter w
  else w.s

/-- What follows a write that a register took. -/
def afterWrite (s : State) (m : Master) (base : Nat) (w : Written) : Written :=
  ⟨if base < 0xC0000 then afterLow s m base w else afterHigh s m base w, w.took, w.drop⟩

/-- The registers that an access touches, each once. -/
def touched (addr size : Nat) : List Nat :=
  let lo := (findRow addr).map RowHit.base
  let hi := if size = 8 then (findRow (addr + 4)).map RowHit.base else none
  lo.toList ++ (if hi = lo then [] else hi.toList)

/-- R45: a write access of a master, and what follows it where a register took it. -/
def regWrite (s : State) (m : Master) (addr size data : Nat) : State :=
  let w := writeAccess s m addr size data
  if w.took.isEmpty then w.s else ((touched addr size).foldl (fun x b => afterWrite s m b x) w).s

end Sys2Proof.Machine
end

