-- ==== Sys2Proof/Machine/AccessCmds.lean ====
section
/-! DEFINITION. Machine/AccessCmds.lean: the meanings of the register, slot, window, interrupt, mirror and watchdog commands (R5, R7,
R20, R31 to R36, R43 to R50, R52), and of the reads that capture or advance (R192, R326, R373, R388, R461). -/

namespace Sys2Proof.Machine

/-! ### Register accesses -/

def execRegisterWrite (m : Master) (addr size data : Nat) (s : State) : Host.Outcome State Fault Refusal := live s (regWrite s m addr size data)

def execRegisterReadClear (m : Master) (addr size : Nat) (s : State) : Host.Outcome State Fault Refusal := live s (regRead s m addr size 0)

def execPieceReadCapture (m : Master) (addr : Nat) (s : State) : Host.Outcome State Fault Refusal := live s (regRead s m addr 4 0)

def execPieceWrite (m : Master) (addr size data : Nat) (s : State) : Host.Outcome State Fault Refusal := live s (regWrite s m addr size data)

def execStatsCaptureRead (m : Master) (port : Nat) (s : State) : Host.Outcome State Fault Refusal :=
  live s (regRead s m (0x901E0 + 0x1000 * (port % 8)) 4 0)

/-- R219: a read of VWB.ROSTER_CAPTURE. -/
def execRosterCaptureRead (m : Master) (s : State) : Host.Outcome State Fault Refusal := live s (regRead s m 0xA3100 4 0)

def execTimeReadCapture (m : Master) (s : State) : Host.Outcome State Fault Refusal := live s (regRead s m 0x110100 8 0)

/-- R373: an 8-byte access to LFT.BUF_DATA. -/
def execBufDataAccess (m : Master) (write : Option Nat) (s : State) : Host.Outcome State Fault Refusal :=
  live s (match write with
    | some v => regWrite s m 0x140110 8 (v % 2 ^ 64)
    | none => regRead s m 0x140110 8 0)

def execLoftReadData (m : Master) (found : Nat) (s : State) : Host.Outcome State Fault Refusal := live s (regRead s m 0x140148 8 found)

def execLogEntryCaptureRead (m : Master) (word : Nat) (s : State) : Host.Outcome State Fault Refusal :=
  live s (regRead s m (0x181120 + 4 * (word % 8)) 4 0)

/-! ### The interrupt router (R48 to R52) -/

def execIrqClrWrite (m : Master) (page bits : Nat) (s : State) : Host.Outcome State Fault Refusal :=
  live s (regWrite s m (page * 0x1000 + 0x01C) 4 (bits % 2 ^ 32))

def execIntVecWrite (m : Master) (page en vector : Nat) (s : State) : Host.Outcome State Fault Refusal :=
  live s (regWrite s m (0x10100 + 4 * (page % 0x1B0)) 4 (en % 2 * 2 ^ 15 + vector % 2 ^ 11))

/-- R48: the mask bit of a vector's table entry is cleared. -/
def execMsixUnmask (vector : Nat) (s : State) : Host.Outcome State Fault Refusal :=
  live s (regWrite s .pcie (0x8000 + 16 * (vector % 2048) + 12) 4 0)

/-- R52: latch bits of a page cleared on the secure route. -/
def clearLatch (s : State) (page bits : Nat) : State :=
  let k := (F.IRQ_RAW page).key
  { s with mech := { s.mech with second := mapPut s.mech.second k (andNot (mapVal s.mech.second k) bits) } }

/-- R52: the second copies of a register's RC fields. -/
def secondValue (s : State) (fs : List Field) : Nat :=
  fs.foldl (fun v f => if f.acc = .rc then v + mapVal s.mech.second f.key * 2 ^ f.lo else v) 0

/-- R52: the second copies of a register's RC fields cleared. -/
def clearSecond (s : State) (fs : List Field) : State :=
  let second := fs.foldl (fun c f => if f.acc = .rc then mapPut c f.key 0 else c) s.mech.second
  { s with mech := { s.mech with second := second } }

/-- R52: Ozzizo on the secure route: latch bits of a page cleared, or the second copy of a counter read and cleared. -/
def secureRoute (s : State) (page bits : Nat) (counter : Option Nat) : State :=
  match counter with
  | none => clearLatch s page bits
  | some a => match findRow a with
    | none => s.emit (.readData (.mp 1) a 0)
    | some h => (clearSecond s h.fields).emit (.readData (.mp 1) a (secondValue s h.fields))

def execSecureLatchClear (page bits : Nat) (counter : Option Nat) (s : State) : Host.Outcome State Fault Refusal :=
  live s (secureRoute s page bits counter)

/-! ### Effective mirrors (R42 to R44) -/

/-- R158, R166, R167, R169, R476: DRU.REQ evaluated: a member's target speed is the head's, RUN waits for first light, and after
a loss only a new write of RUN counts, and not while DRUM_FAULT_N is asserted. For a new speed the schedule is written anew. -/
def evaluateDrum (s : State) : State :=
  let st := s.get F.DRU_STATE_STATE
  let rpm := match s.yard.heard with
    | some h => if s.isMember then (h.1, 4) else (s.get F.DRU_REQ_RPM, 0)
    | none => (s.get F.DRU_REQ_RPM, 0)
  let refused := decide (5 ≤ st) && (!s.drum.rerun || s.drum.faultPin)
  let mode := if s.get F.GLB_START_STAGE = 5 then (if refused then 0 else s.get F.DRU_REQ_MODE) else s.get F.DRU_REQ_EFF_MODE
  let reason := if refused then 3 else if mode = 0 then 6 else rpm.2
  let a := s.setDrum (fun d => { d with rerun := false })
  let b := if a.get F.DRU_REQ_EFF_MODE = mode ∧ a.get F.DRU_REQ_EFF_RPM = rpm.1 then a
    else setMirrors a 0x080 0x900 [(F.DRU_REQ_EFF_MODE, mode), (F.DRU_REQ_EFF_RPM, rpm.1)] reason
  driveMode (if a.get F.DRU_REQ_EFF_RPM = rpm.1 then b else fillSchedule b rpm.1) mode

/-- R394: CAL.REQ evaluated. -/
def evaluateGroom (s : State) : State :=
  let a := followGroomMode s
  let b := moveMirror a 0x150 0x900 F.CAL_REQ_EFF_INTERVAL_H (a.get F.CAL_REQ_INTERVAL_H) 0
  let c := moveMirror b 0x150 0x900 F.CAL_REQ_EFF_ALLOW_VIEWERS (b.get F.CAL_REQ_ALLOW_VIEWERS) 0
  moveMirror c 0x150 0x900 F.CAL_REQ_EFF_NOW (c.get F.CAL_REQ_NOW) 0

/-- R43: Ozzizo evaluates the requested registers of a page. -/
def evaluatePage (s : State) (page : Nat) : State :=
  match page with
  | 0x070 => setAside s 0x070 0x900 [(F.RSY_ALPHA_STOP_EFF_LEVEL, s.get F.RSY_ALPHA_STOP_LEVEL)] 0
  | 0x080 => evaluateDrum s
  | 0x0A2 => evaluateBudget s
  | 0x0DC => followBrightness s
  | 0x150 => evaluateGroom s
  | _ => s

def execEffectiveEvaluate (page : Nat) (s : State) : Host.Outcome State Fault Refusal := live s (paramChanged s (evaluatePage s page))

/-- R43, R44: a mirror takes what was evaluated for it. -/
def takeMirror (s : State) (page offset : Nat) : State :=
  match findRow (page * 0x1000 + offset) with
  | none => s
  | some h => takeAside s page offset h.fields

def execMirrorUpdate (page offset : Nat) (s : State) : Host.Outcome State Fault Refusal := live s (paramChanged s (takeMirror s page offset))

/-! ### Management processors (R20) -/

/-- The management processors changed. -/
def State.setMgmt (s : State) (f : Mgmt → Mgmt) : State := { s with mgmt := f s.mgmt }

/-- R20: an error of class MANAGEMENT. -/
def mgmtErr (i code sev : Nat) : Err := { page := 0x180, cls := 0x12, code := code, sev := sev, unit := i }

/-- R20: a processor's watchdog expires: it restarts; a second expiry within 10 s takes it out of service, and a second processor
out of service is a device failure. -/
def watchdog (s : State) (i : Nat) : State :=
  if s.mgmt.outOfService.contains i then s
  else
    let again := match assoc s.mgmt.lastExpiry i with | some t => decide (s.now < 10000000000 + t) | none => false
    let a := s.setMgmt (fun g => { g with lastExpiry := assocPut g.lastExpiry i s.now })
    if again then
      let b := a.setMgmt (fun g => { g with outOfService := insertNat g.outOfService i, restarting := g.restarting.erase i })
      if 2 ≤ b.mgmt.outOfService.length then deviceFailure b 3 (mgmtErr i 2 4) else raise b (mgmtErr i 2 1)
    else raise (a.setMgmt (fun g => { g with restarting := insertNat g.restarting i })) (mgmtErr i 1 0)

def execWatchdogExpiry (i : Nat) (s : State) : Host.Outcome State Fault Refusal := live s (watchdog s (i % 4))

def execMpRestartDone (i : Nat) (s : State) : Host.Outcome State Fault Refusal :=
  live s (s.setMgmt (fun g => { g with restarting := g.restarting.erase (i % 4) }))

/-! ### BAR4 (R33, R35, R36) -/

/-- R33: an access to device memory with no DRAM behind it, by a host master. -/
def noDram (s : State) (m : Master) : State := captureHost s 0x0A m.code 0 0

/-- R33, R417: a host write to device memory. -/
def windowWrite (s : State) (m : Master) (a : Nat) (bs : List Byte) : State :=
  if bs.isEmpty then s
  else if !dramBehind s a bs.length then noDram s m
  else (dramStore s m.code a bs).1

/-- R33, R362, R417: a host read of device memory: zeros where nothing may be read. -/
def windowRead (s : State) (m : Master) (a n : Nat) : State × List Byte :=
  if n = 0 then (s, [])
  else if !dramBehind s a n then (noDram s m, List.replicate n 0)
  else match dramFetch s m.code a n with
    | (t, some bs) => (t, bs)
    | (t, none) => (t, List.replicate n 0)

/-! ### Slots (R31, R32, R34, R313) -/

/-- R313: a range cut at 1,024-byte boundaries. -/
def cutRange (a n : Nat) : List (Nat × Nat) :=
  if n = 0 then []
  else (List.range ((a + n - 1) / 1024 - a / 1024 + 1)).map (fun i =>
    let lo := Nat.max a ((a / 1024 + i) * 1024)
    (lo, Nat.min (a + n) ((a / 1024 + i + 1) * 1024) - lo))

/-- The coordinates of a member, as DXY. -/
def memberXY (s : State) (n : Nat) : Nat :=
  match s.yard.members.find? (fun m => decide (m.number = n)) with
  | some m => m.xy
  | none => 0

/-- R34, R313: a frame of the head's to a member. -/
def toMember (s : State) (typ n arg addr tag : Nat) (payload : List Byte) : State :=
  sendVc1 s (mkFrame typ 1 n 0 (memberXY s n) arg addr tag payload)

/-- R34: a forwarded read is awaited. -/
def awaitRead (s : State) (tag slot addr len : Nat) : State :=
  s.setYard (fun y => { y with reads := y.reads.filter (fun r => !decide (r.tag = tag)) ++ [⟨tag, slot, addr, len, []⟩] })

/-- R33, R34, R313: the head turns an access to a member's slot into frames; what BAR2 does not accept it drops itself. -/
def forwardAccess (s : State) (n tag : Nat) (a : HostAccess) : State :=
  match a with
  | .regWrite addr size data =>
    if size = 4 ∨ size = 8 then toMember s 0x01 n size addr 0 (leBytes size data)
    else captureHost s 0x01 0 (addr / 0x1000 % 512) (addr % 0x1000)
  | .regRead addr size =>
    if size = 4 ∨ size = 8 then toMember (awaitRead s tag n addr size) 0x02 n size addr tag []
    else (captureHost s 0x01 0 (addr / 0x1000 % 512) (addr % 0x1000)).emit (.hostData tag (List.replicate size 0))
  | .doorbell q data => toMember s 0x07 n 0 (q % 2 ^ 18) 0 (leBytes 8 data)
  | .queueWrite _ _ _ => captureHost s 0x01 0 0 0
  | .queueRead _ size => s.emit (.hostData tag (List.replicate size 0))
  | .memWrite addr bs =>
    (cutRange addr bs.length).foldl (fun t c => toMember t 0x04 n 0 c.1 0 ((bs.drop (c.1 - addr)).take c.2)) s
  | .memRead addr len =>
    (cutRange addr len).foldl (fun t c => toMember t 0x05 n c.2 c.1 tag []) (awaitRead s tag n addr len)

/-- R32, R33, R36: an access to the controller's own slot. -/
def localAccess (s : State) (tag : Nat) (a : HostAccess) : State :=
  match a with
  | .regWrite addr size data => regWrite s .pcie addr size data
  | .regRead addr size =>
    let r := readAccess s .pcie addr size 0
    r.1.emit (.hostData tag (leBytes size r.2))
  | .doorbell q data =>
    if s.isMember then logAccess s .pcie 0x020 0 0x07 data 8 else ringDoorbell s .pcie (q % 2 ^ 18) (data % 2 ^ 64)
  | .queueWrite _ size data => logAccess s .pcie 0x020 0 0x01 data size
  | .queueRead _ size => s.emit (.hostData tag (List.replicate size 0))
  | .memWrite addr bs => if s.isMember then captureHost s 0x07 0 0 0 else windowWrite s .pcie addr bs
  | .memRead addr len =>
    let r := windowRead s .pcie addr len
    r.1.emit (.hostData tag r.2)

/-- R32: an access to an absent slot: reads answer all ones, writes are dropped, both are logged. -/
def absentSlot (s : State) (tag : Nat) (a : HostAccess) : State :=
  match a with
  | .regWrite addr _ _ => captureHost s 0x08 0 (addr / 0x1000 % 512) (addr % 0x1000)
  | .regRead addr size => (captureHost s 0x08 0 (addr / 0x1000 % 512) (addr % 0x1000)).emit (.hostData tag (List.replicate size 0xFF))
  | .doorbell _ _ => captureHost s 0x08 0 0 0
  | .queueWrite _ _ _ => captureHost s 0x08 0 0 0
  | .queueRead _ size => (captureHost s 0x08 0 0 0).emit (.hostData tag (List.replicate size 0xFF))
  | .memWrite _ _ => captureHost s 0x08 0 0 0
  | .memRead _ len => (captureHost s 0x08 0 0 0).emit (.hostData tag (List.replicate len 0xFF))

/-- R32, R34: a host access to a slot. -/
def slotAccess (s : State) (n tag : Nat) (a : HostAccess) : State :=
  if hasBit (s.get F.HIF_SLOT_PRESENT_SLOTS) n = false then absentSlot s tag a
  else if n = 0 then localAccess s tag a
  else forwardAccess s n tag a

def execForwardedAccess (slot tag : Nat) (a : HostAccess) (s : State) : Host.Outcome State Fault Refusal :=
  live s (slotAccess s (slot % 64) (tag % 65536) a)

/-- R34: a forwarded read has timed out. -/
def readTimeout (s : State) (tag : Nat) : State :=
  match s.yard.reads.find? (fun r => decide (r.tag = tag)) with
  | none => s
  | some r => failRead (s.setYard (fun y => { y with reads := y.reads.filter (fun x => !decide (x.tag = tag)) })) r

def execFwdReadTimeout (tag : Nat) (s : State) : Host.Outcome State Fault Refusal := live s (readTimeout s (tag % 65536))

/-- R31, R35: a BAR4 access reaches the slot and half that HIF.BAR4_SLOT selects. -/
def execBar4Access (offset : Nat) (write : Option (List Byte)) (len tag : Nat) (s : State) : Host.Outcome State Fault Refusal :=
  live s (
    let a := offset % 2 ^ 35 + s.get F.HIF_BAR4_SLOT_UPPER * 2 ^ 35
    slotAccess s (s.get F.HIF_BAR4_SLOT_SLOT) (tag % 65536) (match write with | some bs => .memWrite a bs | none => .memRead a len))

end Sys2Proof.Machine
end

