-- ==== Sys2Proof/Machine/YardCmds.lean ====
section
/-! DEFINITION. Machine/YardCmds.lean: the meanings of the Xiesh frames and of the yard's timers: host accesses to a member and its DMA
(R313), enumeration and election (R308 to R312), routes, joins and leaves (R307, R316, R317), settings (R169, R318), the roster
(R205), flips (R320) and the link layer (R302, R303). -/

namespace Sys2Proof.Machine

/-! ### Host accesses to a member (R313) -/

/-- Is a frame the head's own to this member? -/
def fromHead (s : State) (f : Frame) : Bool := s.isMember && decide (f.src = 0)

/-- R228, R320: a word of a member's plane page as the head writes it: every field it holds takes its bits. -/
def plainWord (s : State) (a d : Nat) : State :=
  match findRow a with
  | none => s
  | some h => h.fields.foldl (fun t f =>
      match fieldWritten t f [(h.piece, d)] with
      | some v => if f.acc = .ro then t else t.set f v
      | none => t) s

/-- R320: a back descriptor written by the head belongs to the next FLIP_PREP's group (log entry 17). -/
def stripeWrite (s : State) (addr size data : Nat) : State :=
  let t := if size = 8 then plainWord (plainWord s addr (data % 2 ^ 32)) (addr + 4) (data / 2 ^ 32) else plainWord s addr (data % 2 ^ 32)
  t.setCmp (fun c => { c with striped := withBit c.striped (addr / 0x1000 - 0xB1) })

/-- R313: a REG_WR at its member; from any source but the head it is discarded and logged. -/
def regWrFrame (s : State) (f : Frame) : State :=
  let page := f.addr / 0x1000
  let data := leNat f.payload
  if fromHead s f = false then logAccess s .xiesh page (f.addr % 0x1000) 0x07 data f.arg
  else if f.tag = 1 ∧ 0xB1 ≤ page ∧ page ≤ 0xB8 then stripeWrite s f.addr f.arg data
  else regWrite s .xiesh f.addr f.arg data

def execRegWr (rx : Rx) (s : State) : Host.Outcome State Fault Refusal := live s (onFrame s rx 0x01 regWrFrame)

/-- R313: a REG_RD at its member, answered with REG_RD_CPL. -/
def regRdFrame (s : State) (f : Frame) : State :=
  if fromHead s f = false then logAccess s .xiesh (f.addr / 0x1000) (f.addr % 0x1000) 0x07 0 f.arg
  else
    let r := readAccess s .xiesh f.addr f.arg 0
    originate r.1 (mkFrame 0x03 2 0 0 0 (b2n (!accessAligned f.addr f.arg)) 0 f.tag (leBytes f.arg r.2))

def execRegRd (rx : Rx) (s : State) : Host.Outcome State Fault Refusal := live s (onFrame s rx 0x02 regRdFrame)

/-- R34: a forwarded read is no longer awaited. -/
def dropRead (s : State) (r : FwdRead) : State :=
  s.setYard (fun y => { y with reads := y.reads.filter (fun x => !decide (x.tag = r.tag)) })

/-- The forwarded read that a completion answers. -/
def readFor (s : State) (f : Frame) : Option FwdRead := s.yard.reads.find? (fun r => decide (r.tag = f.tag) && decide (r.slot = f.src))

/-- R34: a REG_RD_CPL completes its read; one that none awaits is discarded. -/
def regCplFrame (s : State) (f : Frame) : State :=
  match readFor s f with
  | none => s
  | some r => (dropRead s r).emit (.hostData r.tag f.payload)

def execRegRdCpl (rx : Rx) (s : State) : Host.Outcome State Fault Refusal := live s (onFrame s rx 0x03 regCplFrame)

def execMemWr (rx : Rx) (s : State) : Host.Outcome State Fault Refusal :=
  live s (onFrame s rx 0x04 (fun t f => windowWrite t .xiesh f.addr f.payload))

/-- R313: a MEM_RD at its member, answered with MEM_RD_CPL. -/
def memRdFrame (s : State) (f : Frame) : State :=
  let r := windowRead s .xiesh f.addr f.arg
  originate r.1 (mkFrame 0x06 2 f.src 0 0 0 f.addr f.tag r.2)

def execMemRd (rx : Rx) (s : State) : Host.Outcome State Fault Refusal := live s (onFrame s rx 0x05 memRdFrame)

/-- A completion's piece put among those that have come, in rising order of address. -/
def insertPart (p : Nat × List Byte) : List (Nat × List Byte) → List (Nat × List Byte)
  | [] => [p]
  | q :: l => if p.1 < q.1 then p :: q :: l else if p.1 = q.1 then p :: l else q :: insertPart p l

/-- R313: the completions of a split read are joined. -/
def memCplFrame (s : State) (f : Frame) : State :=
  match readFor s f with
  | none => s
  | some r =>
    let parts := insertPart (f.addr, f.payload) r.parts
    let bs := parts.flatMap Prod.snd
    if r.len ≤ bs.length then (dropRead s r).emit (.hostData r.tag bs)
    else s.setYard (fun y => { y with reads := y.reads.map (fun x => if x.tag = r.tag then { x with parts := parts } else x) })

def execMemRdCpl (rx : Rx) (s : State) : Host.Outcome State Fault Refusal := live s (onFrame s rx 0x06 memCplFrame)

def execXshDoorbell (rx : Rx) (s : State) : Host.Outcome State Fault Refusal :=
  live s (onFrame s rx 0x07 (fun t f => ringDoorbell t .xiesh (f.addr % 2 ^ 18) (leNat f.payload)))

/-! ### A member's interrupts and DMA (R51, R313) -/

def execXshIrq (rx : Rx) (s : State) : Host.Outcome State Fault Refusal :=
  live s (onFrame s rx 0x08 (fun t f => sendMsix t (f.src % 64 * 32 + f.arg % 32)))

def execHostWr (rx : Rx) (s : State) : Host.Outcome State Fault Refusal :=
  live s (onFrame s rx 0x09 (fun t f => hostWrite t f.addr f.payload))

/-- R313: the head reads host memory for a member. -/
def hostRdFrame (s : State) (f : Frame) : State :=
  let bs := if s.pcie.linkUp then hostRead s f.addr f.arg else []
  originate s (mkFrame 0x0B 2 f.src 0 0 (b2n (!s.pcie.linkUp)) f.addr f.tag bs)

def execHostRd (rx : Rx) (s : State) : Host.Outcome State Fault Refusal := live s (onFrame s rx 0x0A hostRdFrame)

/-- R313: host data reaches the member that asked: its picture of host memory takes it. -/
def hostCplFrame (s : State) (f : Frame) : State :=
  let mine (e : Nat × Nat × Nat) : Bool := decide (e.1 = f.tag) && decide (e.2.1 = f.addr)
  if s.yard.hostReads.any mine then
    let t := s.setYard (fun y => { y with hostReads := y.hostReads.eraseP mine })
    { t with mem := { t.mem with host := memWrite t.mem.host f.addr f.payload } }
  else s

def execHostRdCpl (rx : Rx) (s : State) : Host.Outcome State Fault Refusal := live s (onFrame s rx 0x0B hostCplFrame)

/-! ### Enumeration (R310 to R312) -/

def execEnum (rx : Rx) (s : State) : Host.Outcome State Fault Refusal :=
  live s (onFrame s rx 0x20 (fun t f => if t.on F.XSH_CTRL_EN then enumReceived t (rx.port % 4) f.payload else t))

/-- R319: an ASSIGN on the port recorded for the device's coordinates; a refused neighbour's port carries no more (R312). -/
def sendAssign (s : State) (f : Frame) : State :=
  match mapGet s.yard.replyPorts f.dxy with
  | none => s
  | some k =>
    let t := sendOn s k f
    if bitsOf f.arg 8 3 = 0 ∨ portUp t k = false then t
    else if stepXY (myXY t) k = f.dxy then setYardPort t k 4 else t

/-- R319: the ASSIGN of a device: its number, refusal code and standing. -/
def assignFrame (s : State) (xy : Nat) (digest : List Byte) (number code : Nat) (known : Bool) : Frame :=
  let f := mkFrame 0x22 0 0 0 xy (number + code * 256 + b2n known * 65536) (leNat (digest.take 8)) 0 []
  { f with src := s.get F.XSH_ROLE_NUMBER, epoch := s.yard.cur.epoch % 2 }

/-- R305: would a device's coordinates keep the yard within its bounds? -/
def extentOk (s : State) (xy : Nat) : Bool :=
  let all := xy :: (yardDevices s).map Prod.snd
  let within (l : List Int) : Bool := l.all (fun v => decide (-7 ≤ v) && decide (v ≤ 7)) && decide (l.foldl max 0 - l.foldl min 0 ≤ 7)
  within (all.map (fun v => toSigned (v % 16) 4)) && within (all.map (fun v => toSigned (v / 16) 4))

/-- R311: the yard number of a device, by the first rule that applies; a device present keeps its own. -/
def numberFor (s : State) (digest : List Byte) (xy : Nat) : Option Nat :=
  let others := s.yard.members.filter (fun m => !decide (m.digest = digest))
  let present (n : Nat) : Bool := others.any (fun m => decide (m.number = n))
  let held (n : Nat) : Bool := s.yard.idRoster.any (fun e => decide (e.number = n))
  let all := (List.range 63).map (fun n => n + 1)
  let own := (s.yard.members.find? (fun m => decide (m.digest = digest))).map (fun m => m.number)
  let mine := (s.yard.idRoster.find? (fun e => decide (e.digest = digest))).map (fun e => e.number)
  let there := (s.yard.idRoster.find? (fun e => decide (e.xy = xy) && !present e.number)).map (fun e => e.number)
  let free := all.find? (fun n => !present n && !held n)
  let spare := all.find? (fun n => !present n && s.yard.idRoster.any (fun e => decide (e.number = n) && !e.enrolled))
  own.or (mine.or (there.or (free.or spare)))

/-- R312, R322, R323: a device is refused. -/
def refuseDevice (s : State) (xy : Nat) (digest : List Byte) (code : Nat) : State :=
  let n := (s.yard.idRoster.find? (fun e => decide (e.digest = digest))).map (fun e => e.number)
  let a := match n with
    | some k => s.setAll [(F.XSH_MEMBER0_STATE k, 3), (F.XSH_MEMBER0_REFUSAL k, code)]
    | none => s
  let b := a.setYard (fun y => { y with refused := y.refused.filter (fun e => !decide (e.1 = xy)) ++ [(xy, code)] })
  raiseIrq (sendAssign b (assignFrame b xy digest 0 code false)) 0x100 3

/-- R311, R316: a device is admitted: it is told its number, and joins with the next epoch. -/
def admitDevice (s : State) (xy : Nat) (digest : List Byte) (facets n : Nat) (known : Bool) : State :=
  let a := s.setYard (fun y =>
    { y with members := y.members.filter (fun m => !decide (m.digest = digest)) ++ [⟨n, xy, digest, facets, known⟩],
             joining := insertNat y.joining n, refused := y.refused.filter (fun e => !decide (e.1 = xy)),
             idRoster := y.idRoster.map (fun e => if e.digest = digest then { e with xy := xy } else e) })
  startEpoch (sendAssign a (assignFrame a xy digest n 0 known))

/-- R311, R312: the head checks a device that has answered. -/
def checkDevice (s : State) (b : List Byte) : State :=
  let digest := b.take 48
  let xy := leAt b 0x30 1
  let known := s.yard.idRoster.any (fun e => decide (e.digest = digest) && e.enrolled)
  if !extentOk s xy then refuseDevice s xy digest 1
  else
    match s.yard.members.find? (fun m => decide (m.xy = xy) && !decide (m.digest = digest)) with
    | some m => startEpoch (refuseDevice (refuseDevice (leaveMember s m.number) xy m.digest 3) xy digest 3)
    | none =>
      if xy = 0 ∨ s.yard.refused.contains (xy, 3) = true then refuseDevice s xy digest 3
      else if !known && !s.on F.XSH_CTRL_STRANGER_ADMIT then refuseDevice s xy digest 5
      else match numberFor s digest xy with
        | none => refuseDevice s xy digest 2
        | some n => admitDevice s xy digest (leAt b 0x32 1) n known

/-- R310, R319: an ENUM_REPLY: its port is recorded; the head checks the device, any other device sends it on. -/
def enumReplyFrame (s : State) (k : Nat) (f : Frame) : State :=
  let t := s.setYard (fun y => { y with replyPorts := mapPut y.replyPorts (leAt f.payload 0x30 1) k })
  if t.isHead then checkDevice t f.payload
  else match t.yard.enum with
    | some e => sendOn t e.port { f with hops := f.hops + 1 }
    | none => t

def execEnumReply (rx : Rx) (s : State) : Host.Outcome State Fault Refusal :=
  live s (onFrame s rx 0x21 (fun t f => enumReplyFrame t (rx.port % 4) f))

/-- R312: a refused device's links carry no traffic of the yard. -/
def refusedSelf (s : State) : State := (upPorts s).foldl (fun t k => setYardPort t k 4) s

/-- R308, R312, R319, R334: an ASSIGN: the device it names takes its number, or its refusal; any other device sends it on. -/
def assignReceived (s : State) (f : Frame) : State :=
  if s.isHead then s
  else if f.dxy = myXY s then
    if f.addr = leNat (identityDigest.take 8) then
      if bitsOf f.arg 8 3 = 0 then
        servoMember (setRole ((s.set F.XSH_ROLE_NUMBER (f.arg % 64)).setYard (fun y => { y with sseqRx := none })) 2)
      else refusedSelf s
    else s
  else sendAssign s { f with hops := f.hops + 1 }

def execAssign (rx : Rx) (s : State) : Host.Outcome State Fault Refusal := live s (onFrame s rx 0x22 assignReceived)

/-! ### Election (R308, R309) -/

/-- R308, R323: a candidate becomes head: its generation, its identifier, and entry 0 of the member table. -/
def becomeHead (s : State) : State :=
  let own := leNat (identityDigest.take 8)
  let a := s.setAll [(F.XSH_GEN_YARD_GEN, s.get F.XSH_GEN_YARD_GEN + 1), (F.XSH_YARD_ID_ID, own), (F.XSH_ROLE_NUMBER, 0), (F.XSH_ROLE_X, 0),
    (F.XSH_ROLE_Y, 0), (F.HIF_SLOT_PRESENT_SLOTS, 1), (F.XSH_MEMBER0_STATE 0, 1), (F.XSH_MEMBER0_FACETS 0, s.get F.DRU_STATE_FACETS),
    (F.XSH_MEMBER1_DIGEST 0, own), (F.XSH_MEMBER3_JOINED 0, s.get F.XSH_GEN_MEMBERSHIP)]
  let b := setRole (a.setYard (fun y => { y with enum := none, enumSent := false, members := [], downLinks := [], refused := [], joining := [] })) 1
  (upPorts b).foldl sendEnum b

def execHeadElectionTimeout (s : State) : Host.Outcome State Fault Refusal :=
  live s (if candidate s && s.yard.enumSent && !(upPorts s).isEmpty then becomeHead s else s)

def execOrphanTimeout (s : State) : Host.Outcome State Fault Refusal := live s (if s.role = 2 then setRole s 3 else s)

/-! ### Routes, joins and leaves (R307, R316, R317) -/

/-- R307 step 3: a device applies its table and answers. -/
def routeReceived (s : State) (f : Frame) : State :=
  if s.isMember then
    originate (applyRoute s (routeOfBytes (f.addr % 4096) f.payload)) (mkFrame 0x24 0 0 0 0 0 (f.addr % 4096) 0 [])
  else s

def execRoute (rx : Rx) (s : State) : Host.Outcome State Fault Refusal := live s (onFrame s rx 0x23 routeReceived)

/-- R307: a ROUTE_ACK of the epoch that runs. -/
def routeAcked (s : State) (f : Frame) : State :=
  if f.addr % 4096 = s.get F.XSH_GEN_EPOCH then s.setYard (fun y => { y with ackAwait := y.ackAwait.erase f.src }) else s

def execRouteAck (rx : Rx) (s : State) : Host.Outcome State Fault Refusal := live s (onFrame s rx 0x24 routeAcked)

/-- R315, R316 steps 5 and 6: a device has joined: a known one is attested, its slot answers, its entry is filled. -/
def memberJoined (s : State) (n : Nat) : State :=
  match s.yard.members.find? (fun m => decide (m.number = n)) with
  | none => s
  | some m =>
    let g := (s.get F.XSH_GEN_MEMBERSHIP + 1) % 4096
    let a := s.setAll [(F.HIF_SLOT_PRESENT_SLOTS, withBit (s.get F.HIF_SLOT_PRESENT_SLOTS) n), (F.XSH_GEN_MEMBERSHIP, g),
      (F.XSH_MEMBER0_STATE n, if m.known then 1 else 2), (F.XSH_MEMBER0_REFUSAL n, 0), (F.XSH_MEMBER0_X n, m.xy % 16),
      (F.XSH_MEMBER0_Y n, m.xy / 16), (F.XSH_MEMBER0_FACETS n, m.facets), (F.XSH_MEMBER1_DIGEST n, leNat (m.digest.take 8)),
      (F.XSH_MEMBER3_JOINED n, g)]
    let b := raiseIrq a 0x100 0
    if m.known then attestDevice b n else showStranger b n m.digest

/-- R307 step 5, R316: the quiet interval is over: the held frames go out in order, the devices that join are received, and
events gathered meanwhile start the next epoch. -/
def quietEnd (s : State) : State :=
  if s.yard.epochRunning && s.yard.ackAwait.isEmpty then
    let frames := s.yard.heldFrames
    let joining := s.yard.joining
    let again := s.yard.epochAgain
    let a := frames.foldl originate (s.setYard (fun y =>
      { y with epochRunning := false, heldDests := [], heldFrames := [], joining := [], epochAgain := false }))
    let b := if joining.isEmpty then a else joining.foldl memberJoined (sendFullRoster (sendYardParam a))
    if again then startEpoch b else b
  else s

def execRouteQuietEnd (s : State) : Host.Outcome State Fault Refusal := live s (quietEnd s)

def execLinkEvent (rx : Rx) (s : State) : Host.Outcome State Fault Refusal :=
  live s (onFrame s rx 0x25 (fun t f => if t.isHead then linkChanged t f.src (f.addr % 4) (decide (f.arg = 1)) else t))

/-! ### The head's settings (R169, R318) -/

/-- R169, R170, R318: a member takes the head's settings: the target speed and the view settings are evaluated, the lock's period and epoch
set, and a different N unlocks the drum. -/
def paramReceived (s : State) (f : Frame) : State :=
  if s.isMember then
    let b := f.payload
    let rpm := leAt b 0 2
    let n := leAt b 2 1
    let own := s.get F.DRU_STATE_FACETS
    let a := (s.setYard (fun y => { y with heard := some (rpm, n, leAt b 3 1 % 2, leAt b 4 4, leAt b 0x10 4) })).setAll
      [(F.DRU_LOCK_PERIOD_T_REV, if rpm = 0 then 0 else 60000000000 * 2 ^ 32 / rpm), (F.DRU_LOCK_EPOCH_EPOCH, leAt b 8 8),
       (F.DRU_STATE_N_MISMATCH, b2n (!decide (own = 0) && !decide (own = n)))]
    let c := evaluateBudget (evaluateDrum a)
    if lockEnabled c = false then setLock c 0
    else if c.get F.DRU_STATE_STATE = 2 ∧ c.get F.DRU_STATE_LOCK = 0 then setLock c 1 else c
  else s

def execYardParam (rx : Rx) (s : State) : Host.Outcome State Fault Refusal := live s (onFrame s rx 0x26 paramReceived)

def execYardParamPeriod (s : State) : Host.Outcome State Fault Refusal := live s (sendYardParam s)

/-! ### The roster (R205) -/

def execSighting (rx : Rx) (period : Nat) (s : State) : Host.Outcome State Fault Refusal :=
  live s (onFrame s rx 0x30 (fun t f => applySighting t f.payload period))

def execEstimate (rx : Rx) (s : State) : Host.Outcome State Fault Refusal :=
  live s (onFrame s rx 0x31 (fun t f => publish (applyEstimate t f.payload)))

def execRosterChange (rx : Rx) (s : State) : Host.Outcome State Fault Refusal :=
  live s (onFrame s rx 0x32 (fun t f => if t.isMember then applyRosterChange t f.payload else t))

/-! ### Flips (R320) -/

def execFlipPrep (rx : Rx) (s : State) : Host.Outcome State Fault Refusal :=
  live s (onFrame s rx 0x38 (fun t f => if t.isMember then flipPrepared t (f.arg % 4) (f.addr % 2 ^ 32) else t))

def execFlipAck (rx : Rx) (s : State) : Host.Outcome State Fault Refusal :=
  live s (onFrame s rx 0x39 (fun t f => if t.isHead then flipAcked t (f.arg % 4) (f.addr % 2 ^ 32) f.src else t))

def execFlip (rx : Rx) (s : State) : Host.Outcome State Fault Refusal :=
  live s (onFrame s rx 0x3A (fun t f => if t.isMember then flipTold t (f.arg % 4) (leAt f.payload 0 4) f.addr else t))

/-! ### The link layer (R302, R303, R319) -/

/-- R302: a port replays its unacknowledged frames in order; after four replays of one frame without progress the group retrains. -/
def replayPort (s : State) (k : Nat) : State :=
  let p := s.xport k
  if p.unacked.isEmpty then s
  else if 4 ≤ p.replays then
    trainGroup ((s.setXport k (fun q => { q with replays := 0 })).set (F.SER_CTRL_TRAIN (12 + k)) 1) (12 + k)
  else
    p.unacked.foldl (fun t f => ((stampTx t k f).bump (F.XSH_COUNT2_COUNT k)).emit (.xiesh k f))
      (s.setXport k (fun q => { q with replays := q.replays + 1 }))

/-- R302: every frame up to one sequence number is acknowledged. -/
def ackFrames (s : State) (k ack : Nat) : State :=
  let p := s.xport k
  match p.unacked.findIdx? (fun f => decide (f.lseq = ack)) with
  | none => s
  | some i =>
    stampsAcked (s.setXport k (fun q => { q with unacked := q.unacked.drop (i + 1), replays := 0 })) k (p.unacked.take (i + 1))

/-- R303, R319: the four credit counters of a LINK frame. -/
def linkCredits (a : Nat) : List Nat := (List.range 4).map (fun v => bitsOf a (16 + 12 * v) 12)

/-- R302, R303: a LINK frame on a port: the acknowledgement, the credits, and where it is a NAK a replay. -/
def linkFrame (s : State) (k : Nat) (f : Frame) : State :=
  let a := (ackFrames s k (f.addr % 4096)).setXport k (fun q => { q with peerFreed := linkCredits f.addr })
  let b := if hasBit f.addr 12 then replayPort a k else a
  pumpPort ((b.xport k).waiting.length + 1) k b

/-- R302: a LINK frame bears no sequence number; one that is damaged is lost. -/
def linkArrived (s : State) (rx : Rx) : State :=
  let k := rx.port % 4
  let t := countSymbols s rx
  if rx.headerOk && decide (rx.badLanes = 0) && !rx.aborted && decide (2 ≤ t.get (F.XSH_PORT_STATE k)) then linkFrame t k rx.frame else t

def execXshLink (rx : Rx) (s : State) : Host.Outcome State Fault Refusal := live s (linkArrived s rx)

/-- R294: a TEST frame in the loop that this device runs on a port: the checker counts. -/
def testFrame (s : State) (k errors bits : Nat) : State :=
  let g := 12 + k
  if groupState s g = 7 ∧ s.get (F.SER_LOOP_MODE g) = 4 ∧ s.get (F.SER_PAT_CTRL_GEN g) = 4 ∧ s.on (F.SER_PAT_CTRL_CHK_EN g) = true then
    countPattern s g errors bits
  else s

def execXshTest (rx : Rx) (errors bits : Nat) (s : State) : Host.Outcome State Fault Refusal :=
  live s (testFrame (countSymbols s rx) (rx.port % 4) errors bits)

def execLinkSendTimer (port : Nat) (s : State) : Host.Outcome State Fault Refusal :=
  live s (if 2 ≤ s.get (F.XSH_PORT_STATE (port % 4)) then sendLink s (port % 4) else s)

def execReplayTimeout (port : Nat) (s : State) : Host.Outcome State Fault Refusal :=
  live s (if portUp s (port % 4) then replayPort s (port % 4) else s)

end Sys2Proof.Machine
end

