-- ==== Sys2Proof/Machine/Boundary.lean ====
section
/-! DEFINITION. Machine/Boundary.lean: the commit latch (R113), the subframe boundary at which every versioned state changes (R23,
R163), in light-field and in parked output, the load guard (R211), zone dimming (R213) and the low refresh of parked output (R263,
R264). -/

namespace Sys2Proof.Machine

/-- R113, R226, R229: the latch takes what is ready: commits and selections, flip groups, and the protected layer's swap. -/
def commitLatch (s : State) : State := latchProt (latchFlips (latchScene s))

def execCommitLatch (s : State) : Host.Outcome State Fault Refusal := live s (commitLatch s)

/-! ### The load guard (R211) -/

/-- R52, R211: Ozzizo's copy of a stall's late spans. -/
def lateSpans (s : State) : List Nat := (List.range 12).map (fun k => mapVal s.mech.second (F.STL_LATE_SPANS_COUNT k).key)

/-- R211: has any stall counted a late span since the last boundary? A copy that has been cleared starts from zero. -/
def lateRise (s : State) : Bool :=
  (List.range 12).any (fun k =>
    let old := s.roster.guardLate.getD k 0
    let new := (lateSpans s).getD k 0
    decide (old < new) || (decide (new < old) && decide (0 < new)))

/-- R211: the load guard at a boundary. -/
def loadGuard (s : State) : State :=
  let load := ((List.range 12).filter (stallActive s)).foldl (fun v k => Nat.max v (s.get (F.STL_BUSY_PERCENT k))) 0
  let limit := s.get F.VWB_REQ_LOAD_EFF_LIMIT
  let beyond := if limit < load then s.roster.guardOver + 1 else 0
  let under := if load + 10 < limit then s.roster.guardUnder + 1 else 0
  let since := s.roster.guardSince + 1
  let most := s.get F.VWB_REQ_SS_DEFAULT_N + s.get F.VWB_REQ_SS_EYE_N
  let late := lateSpans s
  let down := (decide (4 ≤ beyond) || lateRise s) && decide (36 ≤ since) && decide (s.roster.guardSteps < most)
  let up := !down && decide (360 ≤ under) && decide (0 < s.roster.guardSteps)
  if down then
    evaluateBudget (s.setRoster (fun r =>
      { r with guardSteps := r.guardSteps + 1, guardOver := 0, guardUnder := 0, guardSince := 0, guardLate := late }))
  else if up then
    evaluateBudget (s.setRoster (fun r =>
      { r with guardSteps := r.guardSteps - 1, guardOver := beyond, guardUnder := 0, guardSince := since, guardLate := late }))
  else s.setRoster (fun r => { r with guardOver := beyond, guardUnder := under, guardSince := since, guardLate := late })

/-! ### Zone dimming (R213) -/

/-- R213: an unobserved zone's factor falls by 16 a subframe to LEVEL; with dimming off, and on the band that a groom pass measures, it
is 256. -/
def fadeZone (s : State) (z : Nat) : State :=
  let f := s.get (F.VWB_ZONE_FACTOR z)
  let measured := decide ((measuredNow s).map (fun m => m.1) = some (z / 2))
  if s.on F.VWB_REQ_DIM_EFF_EN = false ∨ measured = true then s.set (F.VWB_ZONE_FACTOR z) 256
  else if s.on (F.VWB_ZONE_OBSERVED z) then s
  else s.set (F.VWB_ZONE_FACTOR z) (Nat.max (s.get F.VWB_REQ_DIM_EFF_LEVEL) (f - 16))

/-- R213: every zone at a boundary. -/
def fadeZones (s : State) : State := (List.range 24).foldl fadeZone s

/-! ### Light-field output begins and ends (R167) -/

/-- R163, R167: at a boundary light-field output begins, once the predictor is valid, or its lot releases end. -/
def boundaryLight (s : State) : State :=
  match s.drum.lightNext with
  | some true =>
    if predValid s then startBands ((s.set F.DRU_STATE_LF_OUT 1).setDrum (fun d => { d with lightNext := none })) else s
  | some false => (s.set F.DRU_STATE_LF_OUT 0).setDrum (fun d => { d with lightNext := none, bands := [] })
  | none => s

/-- R163: the facet whose boundary this is: the one that band 0 is about to release, or the one after the last. -/
def facetNow (before after : State) : Nat :=
  let n := Nat.max (after.get F.DRU_STATE_FACETS) 1
  match before.drum.bands.head?, after.drum.bands.head? with
  | some b, _ => b.1 % n
  | none, some b => (b.1 + n - 1) % n
  | none, none => (before.drum.facet + 1) % n

/-! ### The boundary -/

/-- R23: may a lot or a line of a subframe still be made? -/
def subframeLive (s : State) (n : Nat) : Bool :=
  decide (s.drum.subframe ≤ n + 1) || s.rsy.lots.any (fun l => decide (l.subframe = n)) || s.drum.plans.any (fun p => decide (p.subframe = n))

/-- R23: the versions of subframes that no lot or line can need any more are dropped. -/
def pruneVersions (s : State) : State :=
  (s.setRsy (fun r => { r with versions := r.versions.filter (fun v => subframeLive s v.subframe) })).setCmp (fun c =>
    { c with versions := c.versions.filter (fun v => subframeLive s v.subframe), rows := c.rows.filter (fun r => subframeLive s r.subframe) })

/-- R234, R264: the dither phase of the subframe that begins; below 60 Hz it holds its value. -/
def phaseNow (s : State) (parked : Bool) : Nat :=
  if parked = true ∧ 1 < s.get F.PNL_LR_STATE_DIVISOR then
    match s.cmp.versions.getLast? with
    | some v => v.phase
    | none => s.drum.subframe % 4
  else s.drum.subframe % 4

/-- R153: the angle correction table comes into force. -/
def takeCorrection (s : State) : State :=
  s.setDrum (fun d => { d with corr := (List.range 64).map (fun i => s.getInt (F.DRU_ANGLE_CORR_VALUE i)) })

/-- R23: the versions that the lots and lines of the subframe read. -/
def pushVersions (s : State) (parked : Bool) : State :=
  let n := s.drum.subframe
  let v := versionNow s n s.drum.facet parked (if parked then none else measuredNow s)
  let c := cmpVersionNow s n (phaseNow s parked)
  (s.setRsy (fun r => { r with versions := r.versions ++ [v] })).setCmp (fun x => { x with versions := x.versions ++ [c] })

/-- R23, R80, R114, R123, R132, R226, R229, R260, R402: what any boundary does: everything that waits for it comes into force. -/
def boundaryChanges (s : State) (lotsLive : Bool) : State :=
  let n := s.drum.subframe
  let a := boundaryFlips (boundaryScene (loadGuard (boundaryBusy s)) n lotsLive) n
  let b := boundaryLens (boundaryKernel (boundaryHist (boundaryProt a n) n))
  takeAside (boundaryCal b n) 0x070 0x900 [F.RSY_ALPHA_STOP_EFF_LEVEL]

/-- R213, R283, R449: what follows once the changes are in force. -/
def boundaryEnd (s : State) (parked : Bool) : State :=
  let a := pushVersions (takeCorrection s) parked
  let b := showKernels (fadeZones a) (if parked then none else (measuredNow a).map (fun m => m.1))
  pruneVersions ((List.range 12).foldl lateJoin (ageRepairs b))

/-- The subframe that begins is counted (R116). -/
def nextSubframe (s : State) : State :=
  (s.set F.LAY_SUBFRAME_NUMBER (s.drum.subframe + 1)).setDrum (fun d => { d with subframe := d.subframe + 1 })

/-- R23: may lots of an earlier subframe still read a buffer? -/
def lotsOutstanding (s : State) : Bool := s.rsy.lots.any Lot.live || s.drum.plans.any (fun p => decide (p.released < 68))

/-- R163: a boundary in light-field output, or while the drum turns dark. -/
def lightBoundary (s : State) : State :=
  let a := boundaryLight (boundarySchedule (nextSubframe s))
  let b := a.setDrum (fun d => { d with facet := facetNow s a })
  boundaryEnd (boundaryGroom (boundaryChanges b (lotsOutstanding s))) false

/-! ### Parked output (R263, R264) -/

/-- R263: the window of a band in the refresh that begins now. -/
def refreshWindow (s : State) (b : Nat) : Plan :=
  windowPlan s b 1 (tick2 ((s.now + 1000 * s.get F.DRU_TIMING_RELEASE_LEAD) * 720 + b * 1000000000) 720 : Nat)

/-- R113, R162, R168, R263: a panel refresh begins, and is a boundary; every band that serves gets its window. -/
def parkedBoundary (s : State) : State :=
  let a := (boundarySchedule (nextSubframe s)).setDrum (fun d => { d with facet := 0 })
  let b := boundaryEnd (boundaryChanges a (lotsOutstanding s)) true
  let c := b.setPnl (fun p => { p with changed := false, shown := b.roster.edition, skipped := 0 })
  c.setDrum (fun d => { d with plans := d.plans ++ ((List.range 12).filter (portServes c)).map (refreshWindow c) })

/-- R264: has nothing happened since the last refresh, and is nothing ready? -/
def tickStatic (s : State) : Bool :=
  !s.scene.commits.any (fun m => m.taken) && !s.scene.selections.any (fun x => x.taken) && s.cmp.taken.isEmpty &&
  !s.cmp.told.any (fun e => decide (absDiff s.now e.2.2.2 ≤ halfFacet s)) && s.cmp.protTaken.isNone && s.rsy.loaded.isNone &&
  !(match s.rsy.lens.build with | some b => b.complete && b.fromHost | none => false) && !setReady s &&
  decide (s.roster.edition = s.pnl.shown) && !s.pnl.changed

/-- R264: the divisor after one. -/
def nextDivisor (d : Nat) : Nat :=
  match d with
  | 1 => 2
  | 2 => 4
  | 4 => 6
  | 6 => 12
  | 12 => 30
  | _ => 60

/-- R264, R268: the step of the refresh rate; a change sets LR_CHANGED. -/
def setDivisor (s : State) (d : Nat) : State :=
  let t := s.setAll [(F.PNL_LR_STATE_DIVISOR, d), (F.PNL_LR_STATE_HZ, 60 / d)]
  if s.get F.PNL_LR_STATE_DIVISOR = d then t else raiseIrq t 0x0DC 1

/-- R264: may the step fall to a divisor? -/
def divisorAllowed (s : State) (d : Nat) : Bool :=
  decide (Nat.max (s.get F.PNL_LR_CTRL_MIN_HZ) (s.get F.PNL_NEUTRAL_MIN_REFRESH) * d ≤ 60)

/-- R264: a static tick: the step falls once DWELL_MS have been static, and every d-th such tick refreshes. -/
def staticTick (s : State) : State :=
  let d := Nat.max (s.get F.PNL_LR_STATE_DIVISOR) 1
  let since := s.pnl.staticSince.getD s.now
  let next := nextDivisor d
  let falls := s.on F.PNL_LR_CTRL_EN && decide (since + 1000000 * s.get F.PNL_LR_CTRL_DWELL_MS ≤ s.now) && divisorAllowed s next && decide (d < 60)
  let e := if s.on F.PNL_LR_CTRL_EN then (if falls then next else d) else 1
  let t := (setDivisor s e).setPnl (fun p => { p with staticSince := some (if falls then s.now else since) })
  if e ≤ t.pnl.skipped + 1 then parkedBoundary t else t.setPnl (fun p => { p with skipped := p.skipped + 1 })

/-- R263, R264: a tick in parked output; none is a refresh while the panel is not in output. -/
def parkedTick (s : State) : State :=
  if s.on F.DRU_STATE_PARKED_OUT = false ∨ ¬ s.pnl.step = 0 then s
  else if tickStatic s then staticTick s
  else parkedBoundary ((setDivisor s 1).setPnl (fun p => { p with staticSince := none }))

def execParkedTick (s : State) : Host.Outcome State Fault Refusal := live s (parkedTick s)

/-- R113, R163: the next boundary is reached; in parked output it is the start of a refresh. -/
def execSubframeBoundary (s : State) : Host.Outcome State Fault Refusal :=
  live s (if s.on F.DRU_STATE_PARKED_OUT then parkedBoundary s else lightBoundary s)

end Sys2Proof.Machine
end

