-- ==== Sys2Proof/Machine/Dispatch.lean ====
section
/-! DEFINITION. Machine/Dispatch.lean: one arm per command, each one direct call of its meaning. -/

namespace Sys2Proof.Machine

def exec (i : Instr) (s : State) : Host.Outcome State Fault Refusal :=
  match i with
  | .registerWrite m addr size data => Sys2Proof.Machine.execRegisterWrite m addr size data s
  | .registerReadClear m addr size => Sys2Proof.Machine.execRegisterReadClear m addr size s
  | .pieceReadCapture m addr => Sys2Proof.Machine.execPieceReadCapture m addr s
  | .pieceWrite m addr size data => Sys2Proof.Machine.execPieceWrite m addr size data s
  | .forwardedAccess slot tag a => Sys2Proof.Machine.execForwardedAccess slot tag a s
  | .fwdReadTimeout tag => Sys2Proof.Machine.execFwdReadTimeout tag s
  | .bar4Access offset write len tag => Sys2Proof.Machine.execBar4Access offset write len tag s
  | .irqClrWrite m page bits => Sys2Proof.Machine.execIrqClrWrite m page bits s
  | .intVecWrite m page en vector => Sys2Proof.Machine.execIntVecWrite m page en vector s
  | .msixUnmask vector => Sys2Proof.Machine.execMsixUnmask vector s
  | .secureLatchClear page bits counter => Sys2Proof.Machine.execSecureLatchClear page bits counter s
  | .effectiveEvaluate page => Sys2Proof.Machine.execEffectiveEvaluate page s
  | .mirrorUpdate page offset => Sys2Proof.Machine.execMirrorUpdate page offset s
  | .watchdogExpiry k => Sys2Proof.Machine.execWatchdogExpiry k s
  | .mpRestartDone k => Sys2Proof.Machine.execMpRestartDone k s
  | .doorbell m offset size data => Sys2Proof.Machine.execDoorbell m offset size data s
  | .ctxRead m queue => Sys2Proof.Machine.execCtxRead m queue s
  | .ctxInit m queue => Sys2Proof.Machine.execCtxInit m queue s
  | .ctxDisable m queue => Sys2Proof.Machine.execCtxDisable m queue s
  | .ctxEnable m queue => Sys2Proof.Machine.execCtxEnable m queue s
  | .ctxCmdComplete => Sys2Proof.Machine.execCtxCmdComplete s
  | .descriptorStart readable => Sys2Proof.Machine.execDescriptorStart readable s
  | .blockReadDone queue completed => Sys2Proof.Machine.execBlockReadDone queue completed s
  | .decodeDone queue => Sys2Proof.Machine.execDecodeDone queue s
  | .descriptorRetire queue readable => Sys2Proof.Machine.execDescriptorRetire queue readable s
  | .cqHeadWrite m ring head => Sys2Proof.Machine.execCqHeadWrite m ring head s
  | .cqAgeTimeout ring => Sys2Proof.Machine.execCqAgeTimeout ring s
  | .heldWriteRelease queue => Sys2Proof.Machine.execHeldWriteRelease queue s
  | .fenceWrite m n value => Sys2Proof.Machine.execFenceWrite m n value s
  | .fenceMaxWrite m n value => Sys2Proof.Machine.execFenceMaxWrite m n value s
  | .commitLatch => Sys2Proof.Machine.execCommitLatch s
  | .subframeBoundary => Sys2Proof.Machine.execSubframeBoundary s
  | .kselArm m data => Sys2Proof.Machine.execKselArm m data s
  | .kselLoadDone => Sys2Proof.Machine.execKselLoadDone s
  | .ldeltaArm m data => Sys2Proof.Machine.execLdeltaArm m data s
  | .lensletBuildDone => Sys2Proof.Machine.execLensletBuildDone s
  | .pkgCmd m slot => Sys2Proof.Machine.execPkgCmd m slot s
  | .pkgInstallDone o => Sys2Proof.Machine.execPkgInstallDone o s
  | .releasePoint band => Sys2Proof.Machine.execReleasePoint band s
  | .lotRelease band => Sys2Proof.Machine.execLotRelease band s
  | .lotDispatch stall engine => Sys2Proof.Machine.execLotDispatch stall engine s
  | .spanDeposit stall engine => Sys2Proof.Machine.execSpanDeposit stall engine s
  | .lineMove band => Sys2Proof.Machine.execLineMove band s
  | .lineDue band => Sys2Proof.Machine.execLineDue band s
  | .overlayRowRead plane row => Sys2Proof.Machine.execOverlayRowRead plane row s
  | .engineFailure stall engine why => Sys2Proof.Machine.execEngineFailure stall engine why s
  | .lotTimeout stall engine => Sys2Proof.Machine.execLotTimeout stall engine s
  | .encoderEdge quad => Sys2Proof.Machine.execEncoderEdge quad s
  | .indexEdge code => Sys2Proof.Machine.execIndexEdge code s
  | .coastTimeout => Sys2Proof.Machine.execCoastTimeout s
  | .spinupValidTimeout => Sys2Proof.Machine.execSpinupValidTimeout s
  | .speedDeviationTimeout => Sys2Proof.Machine.execSpeedDeviationTimeout s
  | .drumFaultInput asserted => Sys2Proof.Machine.execDrumFaultInput asserted s
  | .stopWaitExpiry => Sys2Proof.Machine.execStopWaitExpiry s
  | .drumSpeedThreshold t => Sys2Proof.Machine.execDrumSpeedThreshold t s
  | .parkBrakePoint => Sys2Proof.Machine.execParkBrakePoint s
  | .parkPositionCheck => Sys2Proof.Machine.execParkPositionCheck s
  | .schedSwap m data => Sys2Proof.Machine.execSchedSwap m data s
  | .writeStartPoint band => Sys2Proof.Machine.execWriteStartPoint band s
  | .lineSlotStart band => Sys2Proof.Machine.execLineSlotStart band s
  | .writeDeadlinePoint band => Sys2Proof.Machine.execWriteDeadlinePoint band s
  | .strobeOnPoint band => Sys2Proof.Machine.execStrobeOnPoint band s
  | .strobeOffPoint band => Sys2Proof.Machine.execStrobeOffPoint band s
  | .csiFrameStart port head number => Sys2Proof.Machine.execCsiFrameStart port head number s
  | .csiFrameEnd port head => Sys2Proof.Machine.execCsiFrameEnd port head s
  | .csiLine port head dataType crcOk samples => Sys2Proof.Machine.execCsiLine port head dataType crcOk samples s
  | .csiEmbedded port head bytes => Sys2Proof.Machine.execCsiEmbedded port head bytes s
  | .csiGeneric port head dataType value => Sys2Proof.Machine.execCsiGeneric port head dataType value s
  | .camTrigger port => Sys2Proof.Machine.execCamTrigger port s
  | .frameTimeout port => Sys2Proof.Machine.execFrameTimeout port s
  | .lineTimeout port => Sys2Proof.Machine.execLineTimeout port s
  | .testPatternLine port => Sys2Proof.Machine.execTestPatternLine port s
  | .camEnable m port data => Sys2Proof.Machine.execCamEnable m port data s
  | .expSetPost m port data => Sys2Proof.Machine.execExpSetPost m port data s
  | .i2cCmd m controller data => Sys2Proof.Machine.execI2cCmd m controller data s
  | .i2cTransactionDone controller status bytes => Sys2Proof.Machine.execI2cTransactionDone controller status bytes s
  | .i2cStretchTimeout controller => Sys2Proof.Machine.execI2cStretchTimeout controller s
  | .stripeStart pipe => Sys2Proof.Machine.execStripeStart pipe s
  | .stripeComplete pipe => Sys2Proof.Machine.execStripeComplete pipe s
  | .ringSlotRelease m port data => Sys2Proof.Machine.execRingSlotRelease m port data s
  | .statsCaptureRead m port => Sys2Proof.Machine.execStatsCaptureRead m port s
  | .detectionDone port unusable setId uncertain found => Sys2Proof.Machine.execDetectionDone port unusable setId uncertain found s
  | .fusionUpdate x y z trigger period cameras => Sys2Proof.Machine.execFusionUpdate x y z trigger period cameras s
  | .trackLostTimeout t => Sys2Proof.Machine.execTrackLostTimeout t s
  | .coastExpiry slot => Sys2Proof.Machine.execCoastExpiry slot s
  | .ownerReassign slot owner => Sys2Proof.Machine.execOwnerReassign slot owner s
  | .zoneUnobserved zone => Sys2Proof.Machine.execZoneUnobserved zone s
  | .rosterCaptureRead m => Sys2Proof.Machine.execRosterCaptureRead m s
  | .trackingFrameTimeout port => Sys2Proof.Machine.execTrackingFrameTimeout port s
  | .flipArm m group data => Sys2Proof.Machine.execFlipArm m group data s
  | .flipCancel m group data => Sys2Proof.Machine.execFlipCancel m group data s
  | .yardFlipTimeout group => Sys2Proof.Machine.execYardFlipTimeout group s
  | .lutLoad m data => Sys2Proof.Machine.execLutLoad m data s
  | .lutLoadDone => Sys2Proof.Machine.execLutLoadDone s
  | .protSwap m data => Sys2Proof.Machine.execProtSwap m data s
  | .protRearm m data => Sys2Proof.Machine.execProtRearm m data s
  | .blitListStart => Sys2Proof.Machine.execBlitListStart s
  | .bltEnd => Sys2Proof.Machine.execBltEnd s
  | .bltFill => Sys2Proof.Machine.execBltFill s
  | .bltCopy => Sys2Proof.Machine.execBltCopy s
  | .bltBlend => Sys2Proof.Machine.execBltBlend s
  | .bltWaitLine => Sys2Proof.Machine.execBltWaitLine s
  | .waitLineTimeout => Sys2Proof.Machine.execWaitLineTimeout s
  | .bltFence => Sys2Proof.Machine.execBltFence s
  | .bltIrq => Sys2Proof.Machine.execBltIrq s
  | .stripeCopiesDone group member => Sys2Proof.Machine.execStripeCopiesDone group member s
  | .lineStatus port line segments mismatch => Sys2Proof.Machine.execLineStatus port line segments mismatch s
  | .folovAck port seq code => Sys2Proof.Machine.execFolovAck port seq code s
  | .regData port seq value => Sys2Proof.Machine.execRegData port seq value s
  | .modelData port seq bytes => Sys2Proof.Machine.execModelData port seq bytes s
  | .panelSensor port sensor temp => Sys2Proof.Machine.execPanelSensor port sensor temp s
  | .panelEvent port code => Sys2Proof.Machine.execPanelEvent port code s
  | .ctrlAnswerTimeout port seq => Sys2Proof.Machine.execCtrlAnswerTimeout port seq s
  | .drvRegRead m port addr => Sys2Proof.Machine.execDrvRegRead m port addr s
  | .drvRegWrite m port addr => Sys2Proof.Machine.execDrvRegWrite m port addr s
  | .ovdTableLoad m data => Sys2Proof.Machine.execOvdTableLoad m data s
  | .ovdTableLoadDone => Sys2Proof.Machine.execOvdTableLoadDone s
  | .ovdTableSwap m data => Sys2Proof.Machine.execOvdTableSwap m data s
  | .histReset m data => Sys2Proof.Machine.execHistReset m data s
  | .parkedTick => Sys2Proof.Machine.execParkedTick s
  | .lrKick m data => Sys2Proof.Machine.execLrKick m data s
  | .powerOffCmd m data => Sys2Proof.Machine.execPowerOffCmd m data s
  | .dischargeTimeout => Sys2Proof.Machine.execDischargeTimeout s
  | .echo port line lane failed segment => Sys2Proof.Machine.execEcho port line lane failed segment s
  | .serEnable m group data => Sys2Proof.Machine.execSerEnable m group data s
  | .serTrain m group data => Sys2Proof.Machine.execSerTrain m group data s
  | .serRetrainLane m group data passed => Sys2Proof.Machine.execSerRetrainLane m group data passed s
  | .ts group set seen => Sys2Proof.Machine.execTs group set seen s
  | .trainingStageTimeout group => Sys2Proof.Machine.execTrainingStageTimeout group s
  | .symbolLockLoss group lane => Sys2Proof.Machine.execSymbolLockLoss group lane s
  | .subCmd m group data => Sys2Proof.Machine.execSubCmd m group data s
  | .lmBridge group logical good => Sys2Proof.Machine.execLmBridge group logical good s
  | .lmReady group logical => Sys2Proof.Machine.execLmReady group logical s
  | .lmSwap group logical => Sys2Proof.Machine.execLmSwap group logical s
  | .lmAbort group logical => Sys2Proof.Machine.execLmAbort group logical s
  | .lmRequest group logical => Sys2Proof.Machine.execLmRequest group logical s
  | .substitutionTimeout group => Sys2Proof.Machine.execSubstitutionTimeout group s
  | .backchannelRelockTimeout group => Sys2Proof.Machine.execBackchannelRelockTimeout group s
  | .eyeScanStart m group data => Sys2Proof.Machine.execEyeScanStart m group data s
  | .eyeScanDone group errors => Sys2Proof.Machine.execEyeScanDone group errors s
  | .loopModeWrite m group data => Sys2Proof.Machine.execLoopModeWrite m group data s
  | .loopCommand group mode lane => Sys2Proof.Machine.execLoopCommand group mode lane s
  | .symbolLockRegained group lane => Sys2Proof.Machine.execSymbolLockRegained group lane s
  | .loopElectricalIdleTimeout group => Sys2Proof.Machine.execLoopElectricalIdleTimeout group s
  | .regWr rx => Sys2Proof.Machine.execRegWr rx s
  | .regRd rx => Sys2Proof.Machine.execRegRd rx s
  | .regRdCpl rx => Sys2Proof.Machine.execRegRdCpl rx s
  | .memWr rx => Sys2Proof.Machine.execMemWr rx s
  | .memRd rx => Sys2Proof.Machine.execMemRd rx s
  | .memRdCpl rx => Sys2Proof.Machine.execMemRdCpl rx s
  | .xshDoorbell rx => Sys2Proof.Machine.execXshDoorbell rx s
  | .xshIrq rx => Sys2Proof.Machine.execXshIrq rx s
  | .hostWr rx => Sys2Proof.Machine.execHostWr rx s
  | .hostRd rx => Sys2Proof.Machine.execHostRd rx s
  | .hostRdCpl rx => Sys2Proof.Machine.execHostRdCpl rx s
  | .enum rx => Sys2Proof.Machine.execEnum rx s
  | .enumReply rx => Sys2Proof.Machine.execEnumReply rx s
  | .assign rx => Sys2Proof.Machine.execAssign rx s
  | .route rx => Sys2Proof.Machine.execRoute rx s
  | .routeAck rx => Sys2Proof.Machine.execRouteAck rx s
  | .routeQuietEnd => Sys2Proof.Machine.execRouteQuietEnd s
  | .linkEvent rx => Sys2Proof.Machine.execLinkEvent rx s
  | .yardParam rx => Sys2Proof.Machine.execYardParam rx s
  | .yardParamPeriod => Sys2Proof.Machine.execYardParamPeriod s
  | .sighting rx period => Sys2Proof.Machine.execSighting rx period s
  | .estimate rx => Sys2Proof.Machine.execEstimate rx s
  | .rosterChange rx => Sys2Proof.Machine.execRosterChange rx s
  | .flipPrep rx => Sys2Proof.Machine.execFlipPrep rx s
  | .flipAck rx => Sys2Proof.Machine.execFlipAck rx s
  | .flip rx => Sys2Proof.Machine.execFlip rx s
  | .xshLink rx => Sys2Proof.Machine.execXshLink rx s
  | .xshTest rx errors bits => Sys2Proof.Machine.execXshTest rx errors bits s
  | .linkSendTimer port => Sys2Proof.Machine.execLinkSendTimer port s
  | .replayTimeout port => Sys2Proof.Machine.execReplayTimeout port s
  | .headElectionTimeout => Sys2Proof.Machine.execHeadElectionTimeout s
  | .orphanTimeout => Sys2Proof.Machine.execOrphanTimeout s
  | .ptpSync rx stamp => Sys2Proof.Machine.execPtpSync rx stamp s
  | .ptpFollowUp rx stamp => Sys2Proof.Machine.execPtpFollowUp rx stamp s
  | .ptpPdelayReq rx stamp => Sys2Proof.Machine.execPtpPdelayReq rx stamp s
  | .ptpPdelayResp rx stamp => Sys2Proof.Machine.execPtpPdelayResp rx stamp s
  | .ptpPdelayRespFollowUp rx stamp => Sys2Proof.Machine.execPtpPdelayRespFollowUp rx stamp s
  | .syncInterval => Sys2Proof.Machine.execSyncInterval s
  | .pdelayInterval => Sys2Proof.Machine.execPdelayInterval s
  | .syncLossTimeout => Sys2Proof.Machine.execSyncLossTimeout s
  | .timeStep m data => Sys2Proof.Machine.execTimeStep m data s
  | .timeReadCapture m => Sys2Proof.Machine.execTimeReadCapture m s
  | .triggerEdge trigger => Sys2Proof.Machine.execTriggerEdge trigger s
  | .triggerUpdate m trigger data => Sys2Proof.Machine.execTriggerUpdate m trigger data s
  | .captureEdge source falling => Sys2Proof.Machine.execCaptureEdge source falling s
  | .capPop m channel data => Sys2Proof.Machine.execCapPop m channel data s
  | .txqFind m port data => Sys2Proof.Machine.execTxqFind m port data s
  | .txqAgeExpiry port => Sys2Proof.Machine.execTxqAgeExpiry port s
  | .refreshInterval inUse => Sys2Proof.Machine.execRefreshInterval inUse s
  | .readCentringCheck channel rank step => Sys2Proof.Machine.execReadCentringCheck channel rank step s
  | .scrubPass word found => Sys2Proof.Machine.execScrubPass word found s
  | .speedGo m data => Sys2Proof.Machine.execSpeedGo m data s
  | .speedChangeDone => Sys2Proof.Machine.execSpeedChangeDone s
  | .migrationDone => Sys2Proof.Machine.execMigrationDone s
  | .dmcLoop m channel data => Sys2Proof.Machine.execDmcLoop m channel data s
  | .dmcLoopDone channel errors lane => Sys2Proof.Machine.execDmcLoopDone channel errors lane s
  | .bufClaim m data => Sys2Proof.Machine.execBufClaim m data s
  | .bufRelease m data => Sys2Proof.Machine.execBufRelease m data s
  | .bufDataAccess m write => Sys2Proof.Machine.execBufDataAccess m write s
  | .bufFill m data => Sys2Proof.Machine.execBufFill m data s
  | .bufFillDone => Sys2Proof.Machine.execBufFillDone s
  | .store m length holdupMv => Sys2Proof.Machine.execStore m length holdupMv s
  | .commitDone => Sys2Proof.Machine.execCommitDone s
  | .loftReadData m found => Sys2Proof.Machine.execLoftReadData m found s
  | .loftScrub => Sys2Proof.Machine.execLoftScrub s
  | .groomNow m data => Sys2Proof.Machine.execGroomNow m data s
  | .groomPassStart => Sys2Proof.Machine.execGroomPassStart s
  | .groomPassEnd => Sys2Proof.Machine.execGroomPassEnd s
  | .groomAnalysisDone r => Sys2Proof.Machine.execGroomAnalysisDone r s
  | .calApplyArm m data => Sys2Proof.Machine.execCalApplyArm m data s
  | .xtalBad => Sys2Proof.Machine.execXtalBad s
  | .refWindow edges offset => Sys2Proof.Machine.execRefWindow edges offset s
  | .refHoldoverTimeout => Sys2Proof.Machine.execRefHoldoverTimeout s
  | .xtalRecovered => Sys2Proof.Machine.execXtalRecovered s
  | .sensorSample readings => Sys2Proof.Machine.execSensorSample readings s
  | .attestChallenge rx => Sys2Proof.Machine.execAttestChallenge rx s
  | .attestStatement rx => Sys2Proof.Machine.execAttestStatement rx s
  | .attestKeys rx => Sys2Proof.Machine.execAttestKeys rx s
  | .attestDone rx => Sys2Proof.Machine.execAttestDone rx s
  | .reattestTimer => Sys2Proof.Machine.execReattestTimer s
  | .getIdentity => Sys2Proof.Machine.execGetIdentity s
  | .mbxAttest => Sys2Proof.Machine.execMbxAttest s
  | .claimOwner => Sys2Proof.Machine.execClaimOwner s
  | .replaceOwner => Sys2Proof.Machine.execReplaceOwner s
  | .releaseOwner => Sys2Proof.Machine.execReleaseOwner s
  | .setPage => Sys2Proof.Machine.execSetPage s
  | .setLoftProtect => Sys2Proof.Machine.execSetLoftProtect s
  | .loftRead => Sys2Proof.Machine.execLoftRead s
  | .fwUpdate => Sys2Proof.Machine.execFwUpdate s
  | .enrol => Sys2Proof.Machine.execEnrol s
  | .unenrol => Sys2Proof.Machine.execUnenrol s
  | .rotateYardKey => Sys2Proof.Machine.execRotateYardKey s
  | .protectedLoad => Sys2Proof.Machine.execProtectedLoad s
  | .debugUnlock => Sys2Proof.Machine.execDebugUnlock s
  | .debugLock => Sys2Proof.Machine.execDebugLock s
  | .heldEntryPost => Sys2Proof.Machine.execHeldEntryPost s
  | .entryService => Sys2Proof.Machine.execEntryService s
  | .logCommit hour => Sys2Proof.Machine.execLogCommit hour s
  | .errInjectArm m data => Sys2Proof.Machine.execErrInjectArm m data s
  | .logEntryCaptureRead m word => Sys2Proof.Machine.execLogEntryCaptureRead m word s
  | .muckOutGo m data => Sys2Proof.Machine.execMuckOutGo m data s
  | .muckOutDone readBack mhz parts repairs => Sys2Proof.Machine.execMuckOutDone readBack mhz parts repairs s
  | .powerOnReset testEn fate => Sys2Proof.Machine.execPowerOnReset testEn fate s
  | .perstAssert => Sys2Proof.Machine.execPerstAssert s
  | .deviceReset m data => Sys2Proof.Machine.execDeviceReset m data s
  | .linkReset => Sys2Proof.Machine.execLinkReset s
  | .pcieLinkUp => Sys2Proof.Machine.execPcieLinkUp s
  | .startUp x => Sys2Proof.Machine.execStartUp x s
  | .panelWaitEnd => Sys2Proof.Machine.execPanelWaitEnd s
  | .pwrfailAssert => Sys2Proof.Machine.execPwrfailAssert s
  | .pwrfailDeassert => Sys2Proof.Machine.execPwrfailDeassert s
  | .railOutOfRange rail mv => Sys2Proof.Machine.execRailOutOfRange rail mv s
  | .pllUnlock pll => Sys2Proof.Machine.execPllUnlock pll s
  | .railReturnsToTolerance rail mv => Sys2Proof.Machine.execRailReturnsToTolerance rail mv s

end Sys2Proof.Machine
end

