-- ==== Sys2Proof/Safety.lean ====
section
/-! DEFINITION. Safety.lean: what the statements mean by a running and a halted controller, by a sound memory, by a master that may
write a page, and by what a command leaves as it was. -/

namespace Sys2Proof.Machine

/-- R456 step 7: the controller's clocks run. -/
abbrev Running (s : State) : Prop := s.power.stopped = false

/-- R456 step 7: the commands that restart a controller whose clocks the muck-out has stopped. -/
def restarts : Instr → Bool
  | .powerOnReset _ _ => true
  | .perstAssert => true
  | _ => false

/-- R456 step 7: the clocks are stopped, and no command that waits restarts them. -/
abbrev Halted (s : State) : Prop := s.power.stopped = true ∧ ∀ c ∈ s.pending, restarts c = false

/-- The canonical form of the three memories: addresses strictly rising, no entry zero. -/
abbrev SoundMemory (s : State) : Prop := Memory.wf s.mem.dram = true ∧ Memory.wf s.mem.host = true ∧ Memory.wf s.mem.loft = true

/-! ### What a command leaves -/

/-- The number of a field in which a frame that leaves the chip, or an interrupt message, is counted or kept: the MSI-X pending bits
(R48) and the counts of the yard's ports (R322). -/
def sendKey (k : Nat) : Bool :=
  let page := k / 512 / 4096
  let off := k / 512 % 4096
  (decide (page = 7) && decide (0x100 ≤ off) && decide (off < 0x200)) || (decide (page = 0x100) && decide (0x140 ≤ off) && decide (off < 0x1D0))

/-- The number of a field in which an event or an entry is shown, on whichever page it occurs: IRQ_RAW, ERR_FIRST, ERR_COUNT, ERR_INFO and
the mirrors' sequence and reason (R40, R44), HIF.ACC_STATUS and HIF.ACC_DROPS (R37), the error manager's ring and flags (R460), and what a frame or a
message changes. -/
def postKey (k : Nat) : Bool :=
  let page := k / 512 / 4096
  let off := k / 512 % 4096
  decide (off = 0x010) || (decide (0x028 ≤ off) && decide (off < 0x048)) || (decide (page = 1) && decide (0x108 ≤ off) && decide (off < 0x110)) ||
    (decide (page = 0x180) && decide (0x100 ≤ off) && decide (off < 0x110)) || sendKey k

/-- The number of a field in which a command reports: what shows an event or an entry, and the error manager's counts by class and severity. -/
def reportKey (k : Nat) : Bool :=
  let page := k / 512 / 4096
  let off := k / 512 % 4096
  (decide (page = 0x180) && decide (0x144 ≤ off) && decide (off < 0x1B4)) || postKey k

/-- The numbers of some fields. -/
def ofFields (l : List Field) (k : Nat) : Bool := l.any (fun f => decide (f.key = k))

/-- The numbers of the fields of some pages. -/
def ofPages (l : List Nat) (k : Nat) : Bool := l.contains (k / 512 / 4096)

/-- The numbers of one set or of another. -/
def eitherField (a b : Nat → Bool) (k : Nat) : Bool := a k || b k

/-- No field. -/
def noField (_ : Nat) : Bool := false

/-- Every register field is as it was, but those that may change and those in which a command reports. -/
def KeepsRegs (may : Nat → Bool) (s t : State) : Prop := ∀ f : Field, may f.key = false → reportKey f.key = false → t.get f = s.get f

/-- Every register field is as it was, but those that may change. -/
def KeepsAllRegs (may : Nat → Bool) (s t : State) : Prop := ∀ f : Field, may f.key = false → t.get f = s.get f

/-- Every byte of device memory, of host memory and of the loft reads as it did. -/
def KeepsBytes (s t : State) : Prop :=
  ∀ a : Nat, memGet t.mem.dram a = memGet s.mem.dram a ∧ memGet t.mem.host a = memGet s.mem.host a ∧ memGet t.mem.loft a = memGet s.mem.loft a

/-- A command that stores nothing leaves every byte and, but for some fields and its reports, every register. -/
def Keeps (may : Nat → Bool) (s t : State) : Prop := KeepsRegs may s t ∧ KeepsBytes s t

/-- R33, R362, R417: device memory that a block reads without a report: DRAM stands behind every byte, no region makes it secure, and every
word reads clean. -/
abbrev CleanDram (s : State) (a n : Nat) : Prop :=
  dramBehind s a n = true ∧ rangeSecure s a n = false ∧
    ∀ w ∈ wordsOf a n, w ∉ s.mem.badDram ∧ w ∉ s.mem.poisonDram ∧ w ∉ s.mem.weakDram

/-! ### Frames -/

/-- R299 to R303: a frame of a type that reaches a port is for this device: `u` is the state that the link layer and forwarding leave. -/
abbrev Arrives (s : State) (rx : Rx) (typ : Nat) (u : State) : Prop :=
  acceptFrame s { rx with port := rx.port % 4, frame := { rx.frame with typ := typ } } = (u, some { rx.frame with typ := typ })

/-- R300, R302: a frame that this device originates, as port `k` sends it next. -/
def sentFrame (s : State) (f : Frame) (k : Nat) : Frame :=
  { f with src := s.get F.XSH_ROLE_NUMBER, epoch := s.yard.cur.epoch % 2, lseq := (s.xport k).txNext }

/-- R302, R303, R306: a frame that this device originates leaves port `k` at once: its route names the port, which is up, holds no waiting frame, and has
credits and replay space for it. -/
abbrev SendsAtOnce (s : State) (f : Frame) (k : Nat) : Prop :=
  k < 4 ∧ k < s.yard.ports.length ∧ f.bcast = false ∧ f.vc < 4 ∧ f.typ ≠ 0x40 ∧
    routeFrame s { f with src := s.get F.XSH_ROLE_NUMBER, epoch := s.yard.cur.epoch % 2 } none = k ∧ portUp s k = true ∧
    (s.xport k).waiting = [] ∧ mayStart (s.xport k) f = true

/-! ### The mailbox -/

/-- Bytes stand in a memory from an address on, and every other byte reads as in the memory before. -/
def PutAt (m m' : List Host.Cell) (a : Nat) (bs : List Byte) : Prop :=
  (∀ x, a ≤ x → x < a + bs.length → memGet m' x = bs.getD (x - a) 0) ∧ ∀ x, x < a ∨ a + bs.length ≤ x → memGet m' x = memGet m x

/-- R429: the bytes of a response. -/
def responseOf (cmd code detail : Nat) (payload : List Byte) : List Byte :=
  leBytes 4 0x4D425831 ++ leBytes 2 cmd ++ leBytes 2 code ++ leBytes 4 (16 + payload.length) ++ leBytes 1 detail ++ leBytes 3 0 ++ payload

/-- R429, R432: a request of state `s` has completed in state `t`: BUSY is clear, DONE set, STATUS and DETAIL shown, the block's interrupt
bit 0 set, the nonce new; the response stands in host or device memory, over the memory `m` that the command has left, and every register but those the command may
change and those of the mailbox is as it was. -/
def Answers (may : Nat → Bool) (cmd code detail : Nat) (payload : List Byte) (s : State) (m : Mem) (t : State) : Prop :=
  t.sec.request = none ∧ t.get F.HIF_MBX_CMD_BUSY = 0 ∧ t.get F.HIF_MBX_STATUS_DONE = 1 ∧ t.get F.HIF_MBX_STATUS_CODE = code ∧
  t.get F.HIF_MBX_STATUS_DETAIL = detail ∧ hasBit (t.get (F.IRQ_RAW 0x002)) 0 = true ∧
  (∃ k, s.free ≤ k ∧ ∀ i, i < 4 → t.get (F.HIF_MBX_NONCE_NONCE i) = Config.freeValue (k + i) % 2 ^ 32) ∧
  (∀ bs a, bs = responseOf cmd code detail payload → a = s.get F.HIF_MBX_RESP_ADDR * 64 →
    (s.get F.HIF_MBX_RESP_HOST = 1 → t.mem.dram = m.dram ∧ (s.isMember = false → s.pcie.linkUp = true → PutAt m.host t.mem.host a bs) ∧
      (s.isMember = true ∨ s.pcie.linkUp = false → t.mem.host = m.host)) ∧
    (s.get F.HIF_MBX_RESP_HOST = 0 → t.mem.host = m.host ∧ (dramBehind s a bs.length = true → PutAt m.dram t.mem.dram a bs) ∧
      (dramBehind s a bs.length = false → t.mem.dram = m.dram))) ∧
  t.mem.loft = m.loft ∧
  KeepsRegs (eitherField may (ofFields ([F.HIF_MBX_CMD_BUSY, F.HIF_MBX_STATUS_DONE, F.HIF_MBX_STATUS_CODE, F.HIF_MBX_STATUS_DETAIL, F.ERR_INJECT_ARM, F.ERR_INJECT_DONE] ++
    (List.range 4).map F.HIF_MBX_NONCE_NONCE))) s t

/-- R430: Ozzizo holds a checked request of a command, with its payload, and the memories are sound. -/
def Asks (s : State) (cmd : Nat) (p : List Byte) : Prop :=
  Running s ∧ SoundMemory s ∧ ∃ b, s.sec.request = some b ∧ reqCommand b = cmd ∧ reqPayload b = p

/-- The pages that a commit of Ozzizo's changes: those of the loft. -/
def ofLoft : Nat → Bool := ofPages [0x140, 0x141]

/-! ### Resets -/

/-- R471, R472, R478: state `t` is the state after a reset of state `s` by a cause: registers, queues, engines and device memory as after reset, but for
GLB.RESET_CAUSE; host memory, what has left the chip, the commands that wait, the loft's records and, without a commit under way, its array are kept. -/
def HasReset (c : Cause) (s t : State) : Prop :=
  t = { State.reset with pending := s.pending, out := s.out, free := s.free, nv := s.nv, regs := t.regs, mem := t.mem, loft := t.loft, drum := { Drum.reset with quad := s.drum.quad }, power := t.power } ∧
  t.mem.dram = [] ∧ t.mem.host = s.mem.host ∧ (s.loft.commit = none → t.mem.loft = s.mem.loft) ∧
  t.power.resets = s.power.resets + 1 ∧ t.power.stopped = false ∧ t.power.held = false ∧ t.power.waiting = none ∧ t.loft.commit = none ∧
  KeepsAllRegs (ofFields [F.GLB_RESET_CAUSE_CAUSE, F.GLB_RESET_CAUSE_PRIOR_FAILED, F.GLB_RESET_CAUSE_PRIOR_CRITICAL, F.GLB_RESET_CAUSE_PRIOR_WARN]) State.reset t ∧
  t.get F.GLB_RESET_CAUSE_CAUSE = c.code ∧
  t.get F.GLB_RESET_CAUSE_PRIOR_FAILED = (if c = .powerOn then 0 else s.get F.ERR_STATE_FAILED) ∧
  t.get F.GLB_RESET_CAUSE_PRIOR_CRITICAL = (if c = .powerOn then 0 else b2n s.power.critical) ∧
  t.get F.GLB_RESET_CAUSE_PRIOR_WARN = (if c = .powerOn then 0 else b2n s.power.warned)

/-- R471: a reset that is asked for takes effect at once: in a hold, or where the panel is dark or has not been brought up and no muck-out runs. -/
abbrev ResetsAtOnce (s : State) : Prop :=
  s.power.stopped = true ∨ s.power.held = true ∨
    ((s.get F.BST_STATE_STATE = 0 ∨ 6 ≤ s.get F.BST_STATE_STATE) ∧ (s.pnl.step = 30 ∨ (s.pnl.step = 0 ∧ s.get F.PNL_SEQ_STATE_STATE ≠ 2)))

/-- R266, R267: the panel shows output that a power-off sequence ends in the simplest way: a window in progress, no loop, groom pass or lot, and no yard head to tell. -/
abbrev PanelShows (s : State) : Prop :=
  s.pnl.step < 20 ∧ s.isMember = false ∧ s.cal.pass = none ∧ s.rsy.lots = [] ∧ (∀ g, g < 12 → s.get (F.SER_GROUP_STATE_STATE g) ≠ 7) ∧
    ∃ p ∈ s.drum.plans, p.started = true ∧ p.closed = false

/-! ### Who may write -/

/-- R36, R38, R45, R416: a master whose write of a page is judged by nothing but its fields: the page is implemented, the master is not a yard
member's own port writing a control page, it may reach the page's world, and it owns the page. -/
abbrev MayWrite (s : State) (m : Master) (page : Nat) : Prop :=
  pageImplemented page = true ∧ (s.isMember = true → m = .pcie → ctrlPage page = false) ∧ (s.pageWorld page = 0 → m.secure = true) ∧
    ownsPage s m page = true

/-- R38, R416: a master whose reads of a page are answered. -/
abbrev MayRead (s : State) (m : Master) (page : Nat) : Prop := pageImplemented page = true ∧ (s.pageWorld page = 0 → m.secure = true)

/-- A register whose read returns what its fields show and captures nothing but its own pieces: all but the words computed at the read
(R116, R171, R219, R461, R49), those that capture beside them (R192, R326), and LFT.BUF_DATA and LFT.RD_DATA (R373, R388). -/
abbrev PlainRead (s : State) (m : Master) (a : Nat) (h : RowHit) : Prop :=
  liveWord s m a = none ∧ a ≠ 0x110100 ∧ ¬ (0x90 ≤ a / 0x1000 ∧ a / 0x1000 ≤ 0x97 ∧ a % 0x1000 = 0x1E0) ∧
    h.base ≠ 0x140110 ∧ h.base ≠ 0x140148

end Sys2Proof.Machine
end

