-- ==== Sys2Proof/Certificates/Slice0/Obligations.lean ====
section
/-! DEFINITION. Certificates/Slice0/Obligations.lean: the statements for the provers. Each names the rules it rests on and the commands
it speaks of; where it rests on a choice of the model, it names the log entry. -/

open Sys2Proof Sys2Proof.Machine

/-- A step takes the command at the front of the queue and is that command run on the rest of the queue. The model's own choices it rests on: log entry 2. -/
def Obligations.StepRunsTheFrontCommand : Prop :=
  ∀ (s : State) (c : Instr) (rest : List Instr), s.pending = c :: rest → step s = exec c { s with pending := rest }

/-- R4, R7, R40, R41, R45 (REGISTER_WRITE): for every page with a header and every master that may reach the page, a word written to IRQ_EN is what IRQ_EN
holds; a 1 written to ERR_FIRST.VALID by the owner releases the capture, and by a host port that does not own the page leaves it and is counted; an
access of another size or alignment changes no register but its reports and is captured with code 0x01. R48 to R52 (IRQ_CLR_WRITE, INT_VEC_WRITE,
MSIX_UNMASK, SECURE_LATCH_CLEAR): for every page with a header and every master that may reach it, a write of IRQ_CLR clears the bits written in
IRQ_RAW and changes nothing else but what a message sent changes; a write of INT.VEC sets the entry; unmasking a vector sends the message held for it
and clears its pending bit; a clear on the secure route clears the latches and leaves IRQ_RAW. The model's own choices it rests on: log entries 6, 83. -/
def Obligations.HeaderAndRouterWrites : Prop :=
  ((∀ (s : State) (m : Master) (page data : Nat), Running s → pageHasHeader page = true → data < 2 ^ 32 →
    (s.isMember = true → m = .pcie → ctrlPage page = false) → (s.pageWorld page = 0 → m.secure = true) →
    (0xB1 ≤ page → page ≤ 0xB8 → s.isMember = true → m.host = false) →
    ∃ t, exec (.registerWrite m (page * 0x1000 + 0x014) 4 data) s = .next t ∧ t.get (F.IRQ_EN page) = data ∧
      Keeps (ofFields [F.IRQ_EN page]) s t) ∧
  (∀ (s : State) (m : Master) (page data : Nat), Running s → pageHasHeader page = true → data < 2 ^ 32 → data / 2 ^ 31 = 1 → MayWrite s m page →
    (0xB1 ≤ page → page ≤ 0xB8 → s.isMember = true → m.host = false) →
    ∃ t, exec (.registerWrite m (page * 0x1000 + 0x028) 4 data) s = .next t ∧ t.get (F.ERR_FIRST_VALID page) = 0 ∧
      KeepsAllRegs (ofFields [F.ERR_FIRST_VALID page]) s t ∧ KeepsBytes s t) ∧
  (∀ (s : State) (m : Master) (page data : Nat), Running s → pageHasHeader page = true → data < 2 ^ 32 → data / 2 ^ 31 = 1 →
    (s.isMember = true → m = .pcie → ctrlPage page = false) → (s.pageWorld page = 0 → m.secure = true) →
    ownsPage s m page = false → m.ozzizo = false → s.get (F.ERR_FIRST_VALID page) = 1 →
    ∃ t, exec (.registerWrite m (page * 0x1000 + 0x028) 4 data) s = .next t ∧ t.get (F.ERR_FIRST_VALID page) = 1 ∧
      t.get (F.ERR_COUNT page) = Nat.min (s.get (F.ERR_COUNT page) + 1) 0xFFFF ∧ Keeps noField s t) ∧
  (∀ (s : State) (m : Master) (page off size data : Nat), Running s → pageHasHeader page = true → off < 0x1000 → accessAligned (page * 0x1000 + off) size = false →
    s.get (F.ERR_FIRST_VALID page) = 0 →
    ∃ t, exec (.registerWrite m (page * 0x1000 + off) size data) s = .next t ∧ t.get (F.ERR_FIRST_VALID page) = 1 ∧
      t.get (F.ERR_FIRST_CODE page) = 0x01 ∧ t.get (F.ERR_FIRST_MASTER page) = m.code % 16 ∧ t.get (F.ERR_FIRST_OFFSET page) = off ∧
      t.get (F.ERR_INFO page 0) = data % 2 ^ 32 ∧ hasBit (t.get (F.IRQ_RAW page)) 30 = true ∧ Keeps noField s t)) ∧
  ((∀ (s : State) (m : Master) (page bits : Nat), Running s → pageHasHeader page = true → bits < 2 ^ 32 →
    (s.isMember = true → m = .pcie → ctrlPage page = false) → (s.pageWorld page = 0 → m.secure = true) →
    ∃ t, exec (.irqClrWrite m page bits) s = .next t ∧
      t.get (F.IRQ_RAW page) = s.get (F.IRQ_RAW page) - Nat.land (s.get (F.IRQ_RAW page)) bits ∧
      (∀ f : Field, f.key ≠ (F.IRQ_RAW page).key → sendKey f.key = false → t.get f = s.get f) ∧ 
      mapVal t.mech.second (F.IRQ_RAW page).key = mapVal s.mech.second (F.IRQ_RAW page).key ∧ KeepsBytes s t) ∧
  (∀ (s : State) (m : Master) (page en vector : Nat), Running s → page < 0x1B0 → en < 2 → vector < 2048 → (s.pageWorld 0x010 = 0 → m.secure = true) →
    ∃ t, exec (.intVecWrite m page en vector) s = .next t ∧ t.get (F.INT_VEC_EN page) = en ∧ t.get (F.INT_VEC_VECTOR page) = vector ∧
      (∀ f : Field, f.key ≠ (F.INT_VEC_EN page).key → f.key ≠ (F.INT_VEC_VECTOR page).key → sendKey f.key = false → t.get f = s.get f) ∧
      KeepsBytes s t) ∧
  (∀ (s : State) (v : Nat), Running s → s.isMember = false → v < 2048 → s.get (F.MSIX_PBA v) = 1 → s.pcie.functionMask = false → s.pcie.linkUp = true →
    ∃ t, exec (.msixUnmask v) s = .next t ∧ t.get (F.MSIX_MASK v) = 0 ∧ t.get (F.MSIX_PBA v) = 0 ∧
      t.out = s.out ++ [.msix v (s.get (F.MSIX_ADDR_LO v) + s.get (F.MSIX_ADDR_HI v) * 2 ^ 32) (s.get (F.MSIX_DATA v))] ∧
      KeepsAllRegs (ofFields [F.MSIX_MASK v, F.MSIX_PBA v]) s t ∧ KeepsBytes s t) ∧
  (∀ (s : State) (page bits : Nat), Running s →
    ∃ t, exec (.secureLatchClear page bits none) s = .next t ∧
      mapVal t.mech.second (F.IRQ_RAW page).key =
        mapVal s.mech.second (F.IRQ_RAW page).key - Nat.land (mapVal s.mech.second (F.IRQ_RAW page).key) bits ∧
      KeepsAllRegs noField s t ∧ KeepsBytes s t))

/-- R5, R7 (REGISTER_READ_CLEAR, PIECE_READ_CAPTURE, PIECE_WRITE): for every register of the tables whose read does nothing else, a read returns the value
of its fields and clears those of access RC and no other; the read of the lowest piece of a wider register also captures every other piece for the
reader, and a read of another piece returns what the reader captured; a write of the lower half of a fence is held and changes no register, and the
write of its upper half applies both. R192, R219, R326, R461 (STATS_CAPTURE_READ, ROSTER_CAPTURE_READ, TIME_READ_CAPTURE, LOG_ENTRY_CAPTURE_READ): a
read of a port's CAM.STATS_FRAME returns it and captures CAM.STATS_MEAN and CAM.STATS_SAT for the reader; a read of VWB.ROSTER_CAPTURE returns the
generation and captures the edition in force; a read of TIM.TIME returns the counter and captures its fraction; a read of word 0 of ERR.LOG_ENTRY
returns it and captures words 1 to 7. No register and no byte changes. The model's own choices it rests on: log entry 82. -/
def Obligations.ReadsClearAndCapture : Prop :=
  ((∀ (s : State) (m : Master) (a : Nat) (h : RowHit), Running s → a % 4 = 0 → MayRead s m (a / 0x1000) → findRow a = some h → h.bits = 32 → h.piece = 0 →
    PlainRead s m a h →
    ∃ t, exec (.registerReadClear m a 4) s = .next t ∧ t.out = s.out ++ [.readData m a (regValue s m h % 2 ^ 32)] ∧
      (∀ f ∈ h.fields, f.acc = .rc → t.get f = 0) ∧ KeepsAllRegs (fun k => h.fields.any (fun f => decide (f.acc = .rc) && decide (f.key = k))) s t ∧
      KeepsBytes s t) ∧
  (∀ (s : State) (m : Master) (a : Nat) (h : RowHit), Running s → a % 4 = 0 → MayRead s m (a / 0x1000) → findRow a = some h → h.piece = 0 →
    PlainRead s m a h →
    ∃ t, exec (.pieceReadCapture m a) s = .next t ∧ t.out = s.out ++ [.readData m a (regValue s m h % 2 ^ 32)] ∧
      (∀ j, 0 < j → j < h.bits / 32 → mapGet t.mech.captures (pieceKey m (h.base + 4 * j)) = some (bitsOf (regValue s m h) (32 * j) 32)) ∧
      (∀ f ∈ h.fields, f.acc = .rc → t.get f = 0) ∧ KeepsAllRegs (fun k => h.fields.any (fun f => decide (f.acc = .rc) && decide (f.key = k))) s t ∧
      KeepsBytes s t) ∧
  (∀ (s : State) (m : Master) (a v : Nat) (h : RowHit), Running s → a % 4 = 0 → MayRead s m (a / 0x1000) → findRow a = some h → h.piece ≠ 0 →
    PlainRead s m a h → mapGet s.mech.captures (pieceKey m (h.base + 4 * h.piece)) = some v →
    ∃ t, exec (.pieceReadCapture m a) s = .next t ∧ t.out = s.out ++ [.readData m a v] ∧ t.mech = s.mech ∧ KeepsAllRegs noField s t ∧ KeepsBytes s t) ∧
  (∀ (s : State) (m : Master) (n data : Nat), Running s → n < 256 → MayWrite s m 0x051 →
    ∃ t, exec (.pieceWrite m (0x51100 + 8 * n) 4 data) s = .next t ∧
      mapGet t.mech.holds (pieceKey m (0x51100 + 8 * n)) = some (data % 2 ^ 32) ∧ KeepsAllRegs noField s t ∧ KeepsBytes s t) ∧
  (∀ (s : State) (m : Master) (n held data : Nat), Running s → n < 256 → MayWrite s m 0x051 →
    mapGet s.mech.holds (pieceKey m (0x51100 + 8 * n)) = some held → held < 2 ^ 32 →
    ∃ t, exec (.pieceWrite m (0x51104 + 8 * n) 4 data) s = .next t ∧ t.get (F.LAY_FENCE_VALUE n) = data % 2 ^ 32 * 2 ^ 32 + held ∧
      mapGet t.mech.holds (pieceKey m (0x51100 + 8 * n)) = none ∧ KeepsAllRegs (ofFields [F.LAY_FENCE_VALUE n]) s t ∧ KeepsBytes s t)) ∧
  ((∀ (s : State) (m : Master) (p : Nat), Running s → p < 8 → MayRead s m (0x090 + p) →
    ∃ t, exec (.statsCaptureRead m p) s = .next t ∧ t.out = s.out ++ [.readData m (0x901E0 + 0x1000 * p) (s.get (F.CAM_STATS_FRAME_FRAME p))] ∧
      mapGet t.mech.captures (pieceKey m (0x901E4 + 0x1000 * p)) =
        some (s.get (F.CAM_STATS_MEAN_SET_ID p) * 2 ^ 16 + s.get (F.CAM_STATS_MEAN_MEAN p)) ∧
      mapGet t.mech.captures (pieceKey m (0x901E8 + 0x1000 * p)) = some (s.get (F.CAM_STATS_SAT_COUNT p)) ∧ KeepsAllRegs noField s t ∧ KeepsBytes s t) ∧
  (∀ (s : State) (m : Master), Running s → MayRead s m 0x0A3 →
    ∃ t, exec (.rosterCaptureRead m) s = .next t ∧ t.out = s.out ++ [.readData m 0xA3100 (s.get F.VWB_ROSTER_GEN_GEN)] ∧
      t.roster.captures = assocPut s.roster.captures m.code s.roster.edition ∧ t.roster.edition = s.roster.edition ∧
      KeepsAllRegs noField s t ∧ KeepsBytes s t) ∧
  (∀ (s : State) (m : Master), Running s → MayRead s m 0x110 →
    ∃ t, exec (.timeReadCapture m) s = .next t ∧ t.out = s.out ++ [.readData m 0x110100 s.now] ∧
      mapGet t.mech.captures (pieceKey m 0x110108) = some s.tim.frac ∧ KeepsAllRegs noField s t ∧ KeepsBytes s t) ∧
  (∀ (s : State) (m : Master) (e : ErrEntry), Running s → MayRead s m 0x181 → s.err.hostLog.reverse[s.get F.ERR_LOG_INDEX_INDEX]? = some e →
    ∃ t, exec (.logEntryCaptureRead m 0) s = .next t ∧ t.out = s.out ++ [.readData m 0x181120 e.seq] ∧
      mapGet t.mech.captures (pieceKey m 0x181124) = some (e.cls + e.sev * 2 ^ 8 + e.code * 2 ^ 16) ∧
      mapGet t.mech.captures (pieceKey m 0x181128) = some (e.time % 2 ^ 32) ∧
      mapGet t.mech.captures (pieceKey m 0x18112C) = some (e.time / 2 ^ 32 % 2 ^ 32) ∧ mapGet t.mech.captures (pieceKey m 0x181130) = some e.unit ∧
      mapGet t.mech.captures (pieceKey m 0x181138) = some (e.info % 2 ^ 32) ∧
      mapGet t.mech.captures (pieceKey m 0x18113C) = some (e.info / 2 ^ 32 % 2 ^ 32) ∧ KeepsAllRegs noField s t ∧ KeepsBytes s t))

/-- R32 to R35 (FORWARDED_ACCESS, FWD_READ_TIMEOUT, BAR4_ACCESS): an access to an absent slot is answered with all ones, logged and changes nothing else;
a host read of the controller's own device memory returns its bytes, where there is DRAM behind every byte, no region makes it secure and every word
reads clean; a host write stores exactly its bytes; a read of a member's register is awaited under its tag; a forwarded read that times out is
answered with all ones and forgotten; a BAR4 access reads where HIF.BAR4_SLOT points. The model's own choices it rests on: log entries 53, 54. -/
def Obligations.SlotsWindowsAndForwardedReads : Prop :=
  (∀ (s : State) (slot tag a len : Nat), Running s → slot < 64 → tag < 65536 → hasBit (s.get F.HIF_SLOT_PRESENT_SLOTS) slot = false →
    ∃ t, exec (.forwardedAccess slot tag (.memRead a len)) s = .next t ∧ t.out = s.out ++ [.hostData tag (List.replicate len 0xFF)] ∧
      (s.get F.HIF_ACC_STATUS_VALID = 0 → t.get F.HIF_ACC_STATUS_CODE = 0x08) ∧ Keeps noField s t) ∧
  (∀ (s : State) (tag a len : Nat), Running s → tag < 65536 → hasBit (s.get F.HIF_SLOT_PRESENT_SLOTS) 0 = true → 0 < len →
    dramBehind s a len = true → rangeSecure s a len = false →
    (∀ w ∈ wordsOf a len, w ∉ s.mem.badDram ∧ w ∉ s.mem.poisonDram ∧ w ∉ s.mem.weakDram) →
    ∃ t, exec (.forwardedAccess 0 tag (.memRead a len)) s = .next t ∧ t.out = s.out ++ [.hostData tag (dramRead s a len)] ∧
      KeepsAllRegs noField s t ∧ KeepsBytes s t) ∧
  (∀ (s : State) (tag a : Nat) (bs : List Byte), Running s → tag < 65536 → hasBit (s.get F.HIF_SLOT_PRESENT_SLOTS) 0 = true → s.isMember = false →
    bs ≠ [] → SoundMemory s → dramBehind s a bs.length = true → rangeSecure s a bs.length = false →
    ∃ t, exec (.forwardedAccess 0 tag (.memWrite a bs)) s = .next t ∧ t.out = s.out ∧
      (∀ x, a ≤ x → x < a + bs.length → memGet t.mem.dram x = bs.getD (x - a) 0) ∧
      (∀ x, (x < a ∨ a + bs.length ≤ x) → memGet t.mem.dram x = memGet s.mem.dram x) ∧ t.mem.host = s.mem.host ∧ t.mem.loft = s.mem.loft ∧
      KeepsAllRegs (ofFields [F.ERR_INJECT_ARM, F.ERR_INJECT_DONE]) s t) ∧
  (∀ (s : State) (slot tag a : Nat), Running s → 0 < slot → slot < 64 → tag < 65536 → hasBit (s.get F.HIF_SLOT_PRESENT_SLOTS) slot = true →
    (∀ r ∈ s.yard.reads, r.tag ≠ tag) →
    ∃ t, exec (.forwardedAccess slot tag (.regRead a 4)) s = .next t ∧ t.yard.reads = s.yard.reads ++ [⟨tag, slot, a, 4, []⟩] ∧
      mapVal t.yard.sseqTx slot = (mapVal s.yard.sseqTx slot + 1) % 65536 ∧ Keeps noField s t) ∧
  (∀ (s : State) (r : FwdRead), Running s → r.tag < 65536 → r ∈ s.yard.reads → (∀ q ∈ s.yard.reads, q.tag = r.tag → q = r) →
    ∃ t, exec (.fwdReadTimeout r.tag) s = .next t ∧ t.out = s.out ++ [.hostData r.tag (List.replicate r.len 0xFF)] ∧
      (∀ q, q ∈ t.yard.reads ↔ q ∈ s.yard.reads ∧ q.tag ≠ r.tag) ∧ (s.get F.HIF_ACC_STATUS_VALID = 0 → t.get F.HIF_ACC_STATUS_CODE = 0x09) ∧
      Keeps noField s t) ∧
  (∀ (s : State) (offset len tag : Nat), Running s → offset < 2 ^ 35 → tag < 65536 → s.get F.HIF_BAR4_SLOT_SLOT = 0 →
    hasBit (s.get F.HIF_SLOT_PRESENT_SLOTS) 0 = true → 0 < len →
    dramBehind s (offset + s.get F.HIF_BAR4_SLOT_UPPER * 2 ^ 35) len = true → rangeSecure s (offset + s.get F.HIF_BAR4_SLOT_UPPER * 2 ^ 35) len = false →
    (∀ w ∈ wordsOf (offset + s.get F.HIF_BAR4_SLOT_UPPER * 2 ^ 35) len, w ∉ s.mem.badDram ∧ w ∉ s.mem.poisonDram ∧ w ∉ s.mem.weakDram) →
    ∃ t, exec (.bar4Access offset none len tag) s = .next t ∧
      t.out = s.out ++ [.hostData tag (dramRead s (offset + s.get F.HIF_BAR4_SLOT_UPPER * 2 ^ 35) len)] ∧ KeepsAllRegs noField s t ∧ KeepsBytes s t)

/-- R43, R44 (EFFECTIVE_EVALUATE, MIRROR_UPDATE): a new request of RSY.ALPHA_STOP is evaluated and set aside for its version point, with reason 0, and no
register changes; with no panel sensor too hot a new brightness is applied at once: the mirror takes it, PAGE_EFF_SEQ steps, PAGE_EFF_REASON and
EFF_CHANGED show it. At its version point a mirror takes what was set aside for it. R20 (WATCHDOG_EXPIRY, MP_RESTART_DONE): a first expiry within 10 s
restarts the processor and is counted in class management; a second one takes it out of service, the first such one being no device failure; a restart
ends and the processor is back; no register changes but where errors are reported. The model's own choices it rests on: log entries 10, 43. -/
def Obligations.MirrorsFollowAndWatchdogsExpire : Prop :=
  ((∀ (s : State), Running s → s.get F.RSY_ALPHA_STOP_EFF_LEVEL ≠ s.get F.RSY_ALPHA_STOP_LEVEL →
    ∃ t, exec (.effectiveEvaluate 0x070) s = .next t ∧ (0x70900, s.get F.RSY_ALPHA_STOP_LEVEL, 0) ∈ t.mech.evaluated ∧
      KeepsAllRegs noField s t ∧ KeepsBytes s t) ∧
  (∀ (s : State), Running s → s.get F.PNL_BRIGHTNESS_EFF_LEVEL ≠ s.get F.PNL_BRIGHTNESS_LEVEL →
    (∀ x ∈ panelSensors s, x ≤ 16 * (leAt s.pnl.model 0x4D 1 : Int)) →
    ∃ t, exec (.effectiveEvaluate 0x0DC) s = .next t ∧ t.get F.PNL_BRIGHTNESS_EFF_LEVEL = s.get F.PNL_BRIGHTNESS_LEVEL ∧
      t.get (F.PAGE_EFF_SEQ 0x0DC) = (s.get (F.PAGE_EFF_SEQ 0x0DC) + 1) % 2 ^ 32 ∧ t.get (F.PAGE_EFF_REASON_REASON 0x0DC) = 0 ∧
      t.get (F.PAGE_EFF_REASON_WORD 0x0DC) = 32 ∧ hasBit (t.get (F.IRQ_RAW 0x0DC)) 31 = true ∧
      Keeps (ofFields [F.PNL_BRIGHTNESS_EFF_LEVEL]) s t) ∧
  (∀ (s : State) (page : Nat), Running s → hasMirror page = false →
    ∃ t, exec (.effectiveEvaluate page) s = .next t ∧ KeepsAllRegs noField s t ∧ KeepsBytes s t) ∧
  (∀ (s : State) (w r : Nat), Running s → s.mech.evaluated.find? (fun e => decide (e.1 = 0x70900)) = some (0x70900, w, r) →
    ∃ t, exec (.mirrorUpdate 0x070 0x900) s = .next t ∧ t.get F.RSY_ALPHA_STOP_EFF_LEVEL = w % 2 ^ 16 ∧
      t.get (F.PAGE_EFF_SEQ 0x070) = (s.get (F.PAGE_EFF_SEQ 0x070) + 1) % 2 ^ 32 ∧ t.get (F.PAGE_EFF_REASON_REASON 0x070) = r % 16 ∧
      t.get (F.PAGE_EFF_REASON_WORD 0x070) = 32 ∧ hasBit (t.get (F.IRQ_RAW 0x070)) 31 = true ∧ (∀ e ∈ t.mech.evaluated, e.1 ≠ 0x70900) ∧
      Keeps (ofFields [F.RSY_ALPHA_STOP_EFF_LEVEL]) s t)) ∧
  ((∀ (s : State) (i : Nat), Running s → i < 4 → s.mgmt.outOfService.contains i = false →
    (∀ t, assoc s.mgmt.lastExpiry i = some t → 10000000000 + t ≤ s.now) →
    ∃ t, exec (.watchdogExpiry i) s = .next t ∧ t.mgmt.restarting = insertNat s.mgmt.restarting i ∧ t.mgmt.outOfService = s.mgmt.outOfService ∧
      t.mgmt.lastExpiry = assocPut s.mgmt.lastExpiry i s.now ∧
      t.get (F.ERR_CLASS_COUNT_COUNT 17) = satAdd 32 (s.get (F.ERR_CLASS_COUNT_COUNT 17)) 1 ∧ Keeps noField s t) ∧
  (∀ (s : State) (i e : Nat), Running s → i < 4 → s.mgmt.outOfService = [] → assoc s.mgmt.lastExpiry i = some e → s.now < 10000000000 + e →
    ∃ t, exec (.watchdogExpiry i) s = .next t ∧ t.mgmt.outOfService = [i] ∧ t.mgmt.restarting = s.mgmt.restarting.erase i ∧
      t.get (F.ERR_CLASS_COUNT_COUNT 17) = satAdd 32 (s.get (F.ERR_CLASS_COUNT_COUNT 17)) 1 ∧ Keeps noField s t) ∧
  (∀ (s : State) (i : Nat), Running s → i < 4 →
    ∃ t, exec (.mpRestartDone i) s = .next t ∧ t.mgmt.restarting = s.mgmt.restarting.erase i ∧ t.mgmt.outOfService = s.mgmt.outOfService ∧
      KeepsAllRegs noField s t ∧ KeepsBytes s t))

/-- R33, R91, R97 (DOORBELL): a doorbell's later tail within the ring becomes the queue's tail and changes no other context and no register; a write of
another size or alignment, a non-zero upper half, a queue or manager switched off, an earlier tail and one past the ring are dropped, the last four
counted, and captured with their codes; a newly visible SUPERSEDE descriptor marks every earlier one that has not started. R93, R94 (CTX_READ,
CTX_INIT, CTX_DISABLE, CTX_ENABLE, CTX_CMD_COMPLETE): while BUSY is clear, a command sets BUSY and runs: READ copies the context to the eight data
registers, INIT writes an idle and empty queue's context from them, or reports 2 for a field out of range and 1 for a queue that is not idle, DISABLE
clears ENABLE and marks what has not started, ENABLE sets ENABLE unless the queue is disabling; while BUSY is set the write is dropped with code 0x20;
completion shows the result and clears BUSY. The model's own choices it rests on: log entry 56. -/
def Obligations.DoorbellsAndContexts : Prop :=
  ((∀ (s : State) (m : Master) (q v : Nat), Running s → (s.isMember = true → m ≠ .pcie) → q < 2 ^ 18 → v < 2 ^ 32 → (ctxOf s q).enable = true →
    s.get F.QMG_CTRL_ENABLE = 1 → v ≠ (ctxOf s q).tail → seqLater (ctxOf s q).tail v = false →
    (2 ^ 32 + v - (ctxOf s q).head) % 2 ^ 32 ≤ 2 ^ (ctxOf s q).ringLog2 →
    ∃ t, exec (.doorbell m (8 * q) 8 v) s = .next t ∧ ctxOf t q = { ctxOf s q with tail := v } ∧ (∀ p, p ≠ q → ctxOf t p = ctxOf s p) ∧
      (queueClass q = .control → t.scene.skipped = s.scene.skipped) ∧ (∀ e ∈ s.scene.skipped, e ∈ t.scene.skipped) ∧
      (queueClass q ≠ .control → v = ((ctxOf s q).tail + 1) % 2 ^ 32 → (ctxOf s q).tail < 2 ^ 32 → (ctxOf s q).head < 2 ^ 32 →
        (ctxOf s q).count < 2 ^ 31 → (peekDesc s q (ctxOf s q).tail).supersede = true →
        ∀ i ∈ visible (ctxOf s q), (∀ r, runOf s q = some r → r.index ≠ i) → (q, i) ∉ s.scene.aborted → (q, i) ∈ t.scene.skipped) ∧
      t.scene.runs = s.scene.runs ∧ KeepsAllRegs noField s t ∧ KeepsBytes s t) ∧
  (∀ (s : State) (m : Master) (q v code : Nat), Running s → (s.isMember = true → m ≠ .pcie) → q < 2 ^ 18 → v < 2 ^ 64 →
    ((code = 0x02 ∧ 2 ^ 32 ≤ v) ∨ (code = 0x22 ∧ v < 2 ^ 32 ∧ ((ctxOf s q).enable = false ∨ s.get F.QMG_CTRL_ENABLE = 0)) ∨
      (v < 2 ^ 32 ∧ (ctxOf s q).enable = true ∧ s.get F.QMG_CTRL_ENABLE = 1 ∧ v ≠ (ctxOf s q).tail ∧
        ((code = 0x21 ∧ seqLater (ctxOf s q).tail v = true) ∨
         (code = 0x20 ∧ seqLater (ctxOf s q).tail v = false ∧ 2 ^ (ctxOf s q).ringLog2 < (2 ^ 32 + v - (ctxOf s q).head) % 2 ^ 32)))) →
    ∃ t, exec (.doorbell m (8 * q) 8 v) s = .next t ∧ t.get F.QMG_DB_DROPS_COUNT = satAdd 32 (s.get F.QMG_DB_DROPS_COUNT) 1 ∧
      (s.get (F.ERR_FIRST_VALID 0x020) = 0 → t.get (F.ERR_FIRST_VALID 0x020) = 1 ∧ t.get (F.ERR_FIRST_CODE 0x020) = code ∧
        t.get (F.ERR_INFO 0x020 0) = q ∧ t.get (F.ERR_INFO 0x020 1) = v % 2 ^ 32) ∧
      t.scene = s.scene ∧ Keeps (ofFields [F.QMG_DB_DROPS_COUNT]) s t) ∧
  (∀ (s : State) (m : Master) (offset size data : Nat), Running s → size ≠ 8 ∨ offset % 8 ≠ 0 →
    ∃ t, exec (.doorbell m offset size data) s = .next t ∧ t.scene = s.scene ∧
      (s.get (F.ERR_FIRST_VALID 0x020) = 0 → t.get (F.ERR_FIRST_CODE 0x020) = 0x01) ∧ Keeps noField s t)) ∧
  ((∀ (s : State) (m : Master) (q : Nat), Running s → q < 2 ^ 18 → MayWrite s m 0x021 → s.get F.QMG_CTX_CMD_BUSY = 0 →
    ∃ t, exec (.ctxRead m q) s = .next t ∧ t.get F.QMG_CTX_CMD_BUSY = 1 ∧ t.get F.QMG_CTX_CMD_QUEUE = q ∧ t.get F.QMG_CTX_CMD_OP = 0 ∧
      (∀ i, i < 8 → t.get (F.QMG_CTX_DATA_DATA i) =
        [(ctxOf s q).ringBase % 2 ^ 32, (ctxOf s q).ringBase / 2 ^ 32, (ctxOf s q).ringLog2 + (ctxOf s q).cq * 2 ^ 8 +
          (b2n (ctxOf s q).enable + 2 * b2n (ctxOf s q).ringHost + 4 * b2n (ctxOf s q).quiet) * 2 ^ 16 + queueState s q * 2 ^ 24,
          (ctxOf s q).head, (ctxOf s q).tail, (ctxOf s q).lastSeq, (ctxOf s q).chain % 2 ^ 32, (ctxOf s q).chain / 2 ^ 32].getD i 0 % 2 ^ 32) ∧
      t.scene = { s.scene with ctxResult := 0 } ∧
      KeepsAllRegs (ofFields ([F.QMG_CTX_CMD_BUSY, F.QMG_CTX_CMD_QUEUE, F.QMG_CTX_CMD_OP] ++ (List.range 8).map F.QMG_CTX_DATA_DATA)) s t ∧
      KeepsBytes s t) ∧
  (∀ (s : State) (m : Master) (q : Nat), Running s → q < 2 ^ 18 → MayWrite s m 0x021 → s.get F.QMG_CTX_CMD_BUSY = 0 →
    ∃ t, exec (.ctxInit m q) s = .next t ∧ t.get F.QMG_CTX_CMD_BUSY = 1 ∧ (∀ p, p ≠ q → ctxOf t p = ctxOf s p) ∧
      (queueState s q ≠ 0 ∨ (ctxOf s q).count ≠ 0 → ctxOf t q = ctxOf s q ∧ t.scene.ctxResult = 1) ∧
      (queueState s q = 0 → (ctxOf s q).count = 0 → initCtx q ((List.range 8).map (fun i => s.get (F.QMG_CTX_DATA_DATA i))) = none →
        ctxOf t q = ctxOf s q ∧ t.scene.ctxResult = 2) ∧
      (∀ x, queueState s q = 0 → (ctxOf s q).count = 0 → initCtx q ((List.range 8).map (fun i => s.get (F.QMG_CTX_DATA_DATA i))) = some x →
        ctxOf t q = x ∧ t.scene.ctxResult = 0) ∧
      KeepsAllRegs (ofFields [F.QMG_CTX_CMD_BUSY, F.QMG_CTX_CMD_QUEUE, F.QMG_CTX_CMD_OP]) s t ∧ KeepsBytes s t) ∧
  (∀ (s : State) (m : Master) (q : Nat), Running s → q < 2 ^ 18 → MayWrite s m 0x021 → s.get F.QMG_CTX_CMD_BUSY = 0 →
    (∀ c ∈ s.scene.commits, c.queue ≠ q) →
    ∃ t, exec (.ctxDisable m q) s = .next t ∧ t.get F.QMG_CTX_CMD_BUSY = 1 ∧ ctxOf t q = { ctxOf s q with enable := false } ∧
      (∀ p, p ≠ q → ctxOf t p = ctxOf s p) ∧ t.scene.ctxResult = 0 ∧ t.scene.runs = s.scene.runs ∧
      (∀ e, e ∈ t.scene.aborted ↔ e ∈ s.scene.aborted ∨
        (e.1 = q ∧ e.2 ∈ visible (ctxOf s q) ∧ (∀ r, runOf s q = some r → r.index ≠ e.2) ∧ (q, e.2) ∉ s.scene.skipped)) ∧
      KeepsAllRegs (ofFields [F.QMG_CTX_CMD_BUSY, F.QMG_CTX_CMD_QUEUE, F.QMG_CTX_CMD_OP]) s t ∧ KeepsBytes s t) ∧
  (∀ (s : State) (m : Master) (q : Nat), Running s → q < 2 ^ 18 → MayWrite s m 0x021 → s.get F.QMG_CTX_CMD_BUSY = 0 →
    ∃ t, exec (.ctxEnable m q) s = .next t ∧ t.get F.QMG_CTX_CMD_BUSY = 1 ∧ (∀ p, p ≠ q → ctxOf t p = ctxOf s p) ∧
      (queueState s q ≠ 4 → ctxOf t q = { ctxOf s q with enable := true } ∧ t.scene.ctxResult = 0) ∧
      (queueState s q = 4 → ctxOf t q = ctxOf s q ∧ t.scene.ctxResult = 1) ∧
      KeepsAllRegs (ofFields [F.QMG_CTX_CMD_BUSY, F.QMG_CTX_CMD_QUEUE, F.QMG_CTX_CMD_OP]) s t ∧ KeepsBytes s t) ∧
  (∀ (s : State) (m : Master) (q : Nat) (c : Instr), Running s → q < 2 ^ 18 → MayWrite s m 0x021 → s.get F.QMG_CTX_CMD_BUSY = 1 →
    c = .ctxRead m q ∨ c = .ctxInit m q ∨ c = .ctxDisable m q ∨ c = .ctxEnable m q →
    ∃ t, exec c s = .next t ∧ t.scene = s.scene ∧ (s.get (F.ERR_FIRST_VALID 0x021) = 0 → t.get (F.ERR_FIRST_CODE 0x021) = 0x20) ∧
      Keeps noField s t) ∧
  (∀ (s : State), Running s → s.get F.QMG_CTX_CMD_BUSY = 1 →
    ∃ t, exec .ctxCmdComplete s = .next t ∧ t.get F.QMG_CTX_CMD_BUSY = 0 ∧ t.get F.QMG_CTX_RESULT_RESULT = s.scene.ctxResult % 4 ∧
      t.scene = s.scene ∧ KeepsAllRegs (ofFields [F.QMG_CTX_RESULT_RESULT, F.QMG_CTX_CMD_BUSY]) s t ∧ KeepsBytes s t))

/-- R90, R98, R507 (DESCRIPTOR_START): with the manager enabled, a decode unit free and a queue to serve, the front descriptor is read; one that passes D1
to D3 starts in a unit and its SEQ becomes the context's LAST_SEQ; one that fails finishes with the status of the check, one that cannot be read with
FETCH_ERROR; otherwise nothing happens. The model's own choices it rests on: log entry 57. -/
def Obligations.DescriptorsStart : Prop :=
  (∀ (s u : State) (q : Nat) (b : List Byte), Running s → s.get F.QMG_CTRL_ENABLE = 1 → (s.scene.runs.filter (fun r => r.inUnit)).length < 32 →
    nextQueue s = some q → blockFetch s (ctxOf s q).ringHost (ringAddr (ctxOf s q) (ctxOf s q).head) 32 = (u, some b) →
    descFormatOk b = true → ((descOf b).supersede = true → queueClass q ≠ .control) → seqLater (descOf b).seq (ctxOf s q).lastSeq = true →
    ∃ t, exec (.descriptorStart true) s = .next t ∧
      t.scene.runs = s.scene.runs ++ [⟨q, (ctxOf s q).head, descOf b, .reading, [], true, false, 0, [], false, 0, 0, 0⟩] ∧
      ctxOf t q = { ctxOf s q with lastSeq := (descOf b).seq } ∧ (∀ p, p ≠ q → ctxOf t p = ctxOf s p) ∧ t.scene.lastServed = q ∧
      t.get F.SCD_UNITS_BUSY = (s.scene.runs.filter (fun r => r.inUnit)).length + 1 ∧ Keeps (ofFields [F.SCD_UNITS_BUSY, F.SCD_UNITS_HELD]) u t) ∧
  (∀ (s u : State) (q code : Nat) (b : List Byte), Running s → s.get F.QMG_CTRL_ENABLE = 1 → (s.scene.runs.filter (fun r => r.inUnit)).length < 32 →
    nextQueue s = some q → blockFetch s (ctxOf s q).ringHost (ringAddr (ctxOf s q) (ctxOf s q).head) 32 = (u, some b) →
    ((code = 0x02 ∧ descFormatOk b = false) ∨
      (descFormatOk b = true ∧ ((code = 0x04 ∧ (descOf b).supersede = true ∧ queueClass q = .control) ∨
        (code = 0x08 ∧ ((descOf b).supersede = true → queueClass q ≠ .control) ∧ seqLater (descOf b).seq (ctxOf s q).lastSeq = false)))) →
    ∃ t, exec (.descriptorStart true) s = .next t ∧
      t.scene.runs = s.scene.runs ++ [⟨q, (ctxOf s q).head, descOf b, .finished, [], false, false, 0, [], false, code, 0, 0⟩] ∧
      (∀ p, ctxOf t p = ctxOf s p) ∧ Keeps noField u t) ∧
  (∀ (s : State) (q : Nat), Running s → s.get F.QMG_CTRL_ENABLE = 1 → (s.scene.runs.filter (fun r => r.inUnit)).length < 32 → nextQueue s = some q →
    ∃ t, exec (.descriptorStart false) s = .next t ∧ (∃ r, t.scene.runs = s.scene.runs ++ [r] ∧ r.queue = q ∧ r.index = (ctxOf s q).head ∧
      r.stage = .finished ∧ r.status = 0x09 ∧ r.desc.seq = 0 ∧ r.desc.signalFence = false) ∧ (∀ p, ctxOf t p = ctxOf s p)) ∧
  (∀ (s : State) (readable : Bool), Running s →
    s.get F.QMG_CTRL_ENABLE = 0 ∨ 32 ≤ (s.scene.runs.filter (fun r => r.inUnit)).length ∨ nextQueue s = none →
    ∃ t, exec (.descriptorStart readable) s = .next t ∧ t.scene = s.scene ∧ KeepsAllRegs noField s t ∧ KeepsBytes s t)

/-- R57, R508 (BLOCK_READ_DONE): a block whose read completes and that passes checks 1 to 5 goes on to decoding; one that does not finishes with the
status of the first check it fails, and one whose read fails or does not complete with FETCH_ERROR. The model's own choices it rests on: log entry 58. -/
def Obligations.BlocksAreCheckedInOrder : Prop :=
  (∀ (s u : State) (r : Run) (b : List Byte), Running s → runOf s r.queue = some r → r.stage = .reading →
    blockFetch s r.desc.hostMemory r.desc.src r.desc.length = (u, some b) → check1 b r.desc.length = true → check2 b r.desc.length = true →
    check3 b r.desc.kind r.queue = true → check4 b = true → check5 b (u.get (F.LAY_SET_STATUS_STREAM_TAG (headerOf b).set)) = true →
    ∃ t, exec (.blockReadDone r.queue true) s = .next t ∧ runOf t r.queue = some { r with stage := .decoding, block := b } ∧
      (∀ p, p ≠ r.queue → runOf t p = runOf s p) ∧ t.scene.ctxs = s.scene.ctxs ∧ Keeps noField u t) ∧
  (∀ (s u : State) (r : Run) (b : List Byte) (code : Nat), Running s → runOf s r.queue = some r → r.stage = .reading →
    blockFetch s r.desc.hostMemory r.desc.src r.desc.length = (u, some b) →
    ((code = 0x02 ∧ check1 b r.desc.length = false) ∨
     (check1 b r.desc.length = true ∧ ((code = 0x03 ∧ check2 b r.desc.length = false) ∨
      (check2 b r.desc.length = true ∧ ((code = 0x04 ∧ check3 b r.desc.kind r.queue = false) ∨
       (check3 b r.desc.kind r.queue = true ∧ ((code = 0x02 ∧ check4 b = false) ∨
        (check4 b = true ∧ code = 0x05 ∧ check5 b (u.get (F.LAY_SET_STATUS_STREAM_TAG (headerOf b).set)) = false)))))))) →
    ∃ t, exec (.blockReadDone r.queue true) s = .next t ∧
      runOf t r.queue = some { r with stage := .finished, status := code, object := 0, info := 0 } ∧ (∀ p, p ≠ r.queue → runOf t p = runOf s p) ∧
      Keeps noField u t) ∧
  (∀ (s u : State) (r : Run) (o : Option (List Byte)) (completed : Bool), Running s → runOf s r.queue = some r → r.stage = .reading →
    blockFetch s r.desc.hostMemory r.desc.src r.desc.length = (u, o) → o = none ∨ completed = false →
    ∃ t, exec (.blockReadDone r.queue completed) s = .next t ∧
      runOf t r.queue = some { r with stage := .finished, status := 0x09, object := 0, info := 0 } ∧ Keeps noField u t) ∧
  (∀ (s : State) (a n : Nat), CleanDram s a n → blockFetch s false a n = (s, some (dramRead s a n)))

/-- R99, R108, R109, R508 (DECODE_DONE, HELD_WRITE_RELEASE): a tile that decodes and is not held is stored in its back slot, which is then pending, and
its descriptor finishes DONE; a held one waits with its bytes; a block that does not decode finishes with FORMAT status 0x02; a LAYER_ENABLE finishes
DONE and acts when it retires; a released LAYER description enters the back copy; what is still held stays as it is. The model's own choices it rests
on: log entry 58. -/
def Obligations.DecodedBlocksAreWritten : Prop :=
  (∀ (s : State) (r : Run) (bytes : List Byte), Running s → SoundMemory s → runOf s r.queue = some r → r.stage = .decoding → queueClass r.queue = .tile →
    decodeTile r.desc.kind (payloadOf r.block) = some bytes → bytes ≠ [] →
    tileHeld s r.desc.seq (headerOf r.block).set (r.queue / 4096) (r.queue % 4096) = false → s.get F.LAY_RETAIN_BASE_EN = 0 →
    s.get F.ERR_INJECT_ARM = 0 →
    (∀ n a, n = tileNo (headerOf r.block).set (r.queue / 4096) (r.queue % 4096) → a = slotAddr s n (1 - (tileOf s n).front) →
      dramBehind s a bytes.length = true → rangeSecure s a bytes.length = false →
      ∃ t, exec (.decodeDone r.queue) s = .next t ∧ runOf t r.queue = some { r with stage := .finished, status := 0, object := 0, info := 0 } ∧
        (tileOf t n).pending = true ∧ (tileOf t n).front = (tileOf s n).front ∧
        (∀ x, a ≤ x → x < a + bytes.length → memGet t.mem.dram x = bytes.getD (x - a) 0) ∧
        (∀ x, (x < a ∨ a + bytes.length ≤ x) → memGet t.mem.dram x = memGet s.mem.dram x) ∧ t.mem.host = s.mem.host ∧ t.mem.loft = s.mem.loft ∧
        KeepsAllRegs noField s t)) ∧
  (∀ (s : State) (r : Run) (bytes : List Byte), Running s → runOf s r.queue = some r → r.stage = .decoding → queueClass r.queue = .tile →
    decodeTile r.desc.kind (payloadOf r.block) = some bytes →
    tileHeld s r.desc.seq (headerOf r.block).set (r.queue / 4096) (r.queue % 4096) = true →
    ∃ t x, exec (.decodeDone r.queue) s = .next t ∧ runOf t r.queue = some x ∧ x.stage = .held ∧ x.decoded = bytes ∧ x.wasHeld = true ∧
      t.scene.tiles = s.scene.tiles ∧ KeepsAllRegs (ofFields [F.SCD_UNITS_BUSY, F.SCD_UNITS_HELD]) s t ∧ KeepsBytes s t) ∧
  (∀ (s : State) (r : Run), Running s → runOf s r.queue = some r → r.stage = .decoding →
    (queueClass r.queue = .tile ∧ decodeTile r.desc.kind (payloadOf r.block) = none) ∨ (queueClass r.queue = .control ∧ controlOk r.block = false) →
    ∃ t, exec (.decodeDone r.queue) s = .next t ∧ runOf t r.queue = some { r with stage := .finished, status := 0x02, object := 0, info := 0 } ∧
      KeepsAllRegs noField s t ∧ KeepsBytes s t) ∧
  (∀ (s : State) (r : Run), Running s → runOf s r.queue = some r → r.stage = .decoding → queueClass r.queue = .control → controlOk r.block = true →
    (headerOf r.block).kind = 0x22 →
    ∃ t, exec (.decodeDone r.queue) s = .next t ∧ runOf t r.queue = some { r with stage := .finished, status := 0, object := 0, info := 0 } ∧
      KeepsAllRegs noField s t ∧ KeepsBytes s t) ∧
  (∀ (s : State) (r : Run) (d : Layer), Running s → runOf s r.queue = some r → r.stage = .held → queueClass r.queue = .control →
    layerHeld s r.desc.seq (headerOf r.block).set (r.queue / 4096) = false → layerOf (payloadOf r.block) = some d →
    ∃ t, exec (.heldWriteRelease r.queue) s = .next t ∧ backLayer t (headerOf r.block).set (r.queue / 4096) = d ∧
      runOf t r.queue = some { r with stage := .finished, status := 0, object := 0, info := 0 } ∧ KeepsAllRegs noField s t ∧ KeepsBytes s t) ∧
  (∀ (s : State) (r : Run), Running s → runOf s r.queue = some r → r.stage = .held → queueClass r.queue = .tile →
    tileHeld s r.desc.seq (headerOf r.block).set (r.queue / 4096) (r.queue % 4096) = true →
    ∃ t, exec (.heldWriteRelease r.queue) s = .next t ∧ t.scene = s.scene ∧ KeepsAllRegs noField s t ∧ KeepsBytes s t)

/-- R99 to R102 (DESCRIPTOR_RETIRE): the front descriptor, finished or marked, retires while its ring has room and no earlier retirement of the ring is
delayed: it is counted by its status, HEAD of its queue advances, and TAIL of its ring advances unless the queue is quiet and the status is DONE; the
entry's bytes lie at the ring's tail; a SIGNAL_FENCE descriptor raises its fence to its value; with no room it waits behind the delayed retirements,
and with nothing ready nothing happens. -/
def Obligations.DescriptorsRetire : Prop :=
  (∀ (s : State) (r : Run) (readable : Bool), Running s → runOf s r.queue = some r → r.stage = .finished → (ctxOf s r.queue).count ≠ 0 →
    r.index = (ctxOf s r.queue).head → (ctxOf s r.queue).cq < 16 → r.status < 11 → ringRoom s (ctxOf s r.queue).cq = true →
    (∀ x ∈ s.scene.delayed, (ctxOf s x).cq ≠ (ctxOf s r.queue).cq) →
    ∃ t, exec (.descriptorRetire r.queue readable) s = .next t ∧
      (ctxOf t r.queue).head = ((ctxOf s r.queue).head + 1) % 2 ^ 32 ∧ (ctxOf t r.queue).tail = (ctxOf s r.queue).tail ∧
      (∀ p, p ≠ r.queue → ctxOf t p = ctxOf s p) ∧ (∀ x ∈ t.scene.runs, ¬ (x.queue = r.queue ∧ x.index = r.index)) ∧
      t.get (F.SCD_STATUS_COUNT_COUNT r.status) = satAdd 32 (s.get (F.SCD_STATUS_COUNT_COUNT r.status)) 1 ∧
      t.get (F.QMG_CQ_TAIL_TAIL (ctxOf s r.queue).cq) =
        (if (ctxOf s r.queue).quiet = true ∧ r.status = 0 then s.get (F.QMG_CQ_TAIL_TAIL (ctxOf s r.queue).cq)
         else (s.get (F.QMG_CQ_TAIL_TAIL (ctxOf s r.queue).cq) + 1) % 2 ^ 32)) ∧
  (∀ (s : State) (r : Run) (readable : Bool), Running s → runOf s r.queue = some r → r.stage = .finished → (ctxOf s r.queue).count ≠ 0 →
    r.index = (ctxOf s r.queue).head → r.status = 0 → (ctxOf s r.queue).quiet = true → ringRoom s (ctxOf s r.queue).cq = true →
    (∀ x ∈ s.scene.delayed, (ctxOf s x).cq ≠ (ctxOf s r.queue).cq) →
    r.desc.signalFence = true → r.desc.fenceIndex < 256 → r.desc.fenceValue < 2 ^ 64 → (headerOf r.block).kind = 0x10 →
    ∃ t, exec (.descriptorRetire r.queue readable) s = .next t ∧
      t.get (F.LAY_FENCE_VALUE r.desc.fenceIndex) = Nat.max (s.get (F.LAY_FENCE_VALUE r.desc.fenceIndex)) r.desc.fenceValue ∧
      KeepsAllRegs (ofFields ([F.LAY_FENCE_VALUE r.desc.fenceIndex, F.SCD_STATUS_COUNT_COUNT 0, F.SCD_UNITS_BUSY, F.SCD_UNITS_HELD] ++
        (List.range 4).flatMap (fun k => [F.LAY_SET_STATUS_WAITING k, F.LAY_SET_STATUS_READY k]))) s t ∧ KeepsBytes s t) ∧
  (∀ (s : State) (r : Run) (readable : Bool) (k a : Nat), Running s → SoundMemory s → runOf s r.queue = some r → r.stage = .finished →
    (ctxOf s r.queue).count ≠ 0 → r.index = (ctxOf s r.queue).head → (ctxOf s r.queue).cq < 16 → 0 < r.status → r.status < 11 →
    ringRoom s (ctxOf s r.queue).cq = true → (∀ x ∈ s.scene.delayed, (ctxOf s x).cq ≠ (ctxOf s r.queue).cq) →
    s.get (F.QMG_CQ_BASE_HOST (ctxOf s r.queue).cq) = 0 → k = s.get (F.QMG_CQ_SIZE_CQ_LOG2 (ctxOf s r.queue).cq) →
    a = s.get (F.QMG_CQ_BASE_ADDR (ctxOf s r.queue).cq) * 64 + s.get (F.QMG_CQ_TAIL_TAIL (ctxOf s r.queue).cq) % 2 ^ k * 16 →
    dramBehind s a 16 = true → rangeSecure s a 16 = false →
    ∃ t, exec (.descriptorRetire r.queue readable) s = .next t ∧
      (∀ x, a ≤ x → x < a + 16 → memGet t.mem.dram x =
        (leBytes 4 (r.queue % 2 ^ 18) ++ leBytes 4 r.desc.seq ++ leBytes 1 r.status ++
          leBytes 1 (1 - s.get (F.QMG_CQ_TAIL_TAIL (ctxOf s r.queue).cq) / 2 ^ k % 2 + 2 * b2n r.wasHeld) ++ leBytes 2 r.object ++ leBytes 4 r.info).getD (x - a) 0) ∧
      (∀ x, (x < a ∨ a + 16 ≤ x) → memGet t.mem.dram x = memGet s.mem.dram x) ∧ t.mem.host = s.mem.host ∧ t.mem.loft = s.mem.loft) ∧
  (∀ (s : State) (r : Run) (readable : Bool), Running s → runOf s r.queue = some r → r.stage = .finished → (ctxOf s r.queue).count ≠ 0 →
    ringRoom s (ctxOf s r.queue).cq = false → r.queue ∉ s.scene.delayed →
    ∃ t, exec (.descriptorRetire r.queue readable) s = .next t ∧ t.scene = { s.scene with delayed := s.scene.delayed ++ [r.queue] } ∧
      KeepsAllRegs noField s t ∧ KeepsBytes s t) ∧
  (∀ (s : State) (q : Nat) (readable : Bool), Running s → frontOf s q = .nothing →
    ∃ t, exec (.descriptorRetire q readable) s = .next t ∧ t.scene = s.scene ∧ KeepsAllRegs noField s t ∧ KeepsBytes s t)

/-- R102, R110, R113 (CQ_HEAD_WRITE, CQ_AGE_TIMEOUT, FENCE_WRITE, FENCE_MAX_WRITE, COMMIT_LATCH): HEAD takes the value written; an unconsumed entry older
than MICROSECONDS signals the ring; a fence takes the value written, and FENCE_MAX the greater of the two; the latch takes every commit whose waiting
set is empty and whose fence is met, and leaves the others. The model's own choices it rests on: log entry 10. -/
def Obligations.RingsFencesAndTheLatch : Prop :=
  (∀ (s : State) (m : Master) (ring head : Nat), Running s → ring < 16 → head < 2 ^ 32 → MayWrite s m (0x030 + ring) →
    (∀ x ∈ s.scene.delayed, (ctxOf s x).cq ≠ ring) →
    ∃ t, exec (.cqHeadWrite m ring head) s = .next t ∧ t.get (F.QMG_CQ_HEAD_HEAD ring) = head ∧ t.scene = s.scene ∧
      KeepsAllRegs (ofFields [F.QMG_CQ_HEAD_HEAD ring]) s t ∧ KeepsBytes s t) ∧
  (∀ (s : State) (ring : Nat), Running s → ring < 16 → s.get (F.QMG_CQ_MOD_MICROSECONDS ring) ≠ 0 →
    s.get (F.QMG_CQ_TAIL_TAIL ring) ≠ s.get (F.QMG_CQ_HEAD_HEAD ring) →
    ∃ t, exec (.cqAgeTimeout ring) s = .next t ∧ hasBit (t.get (F.IRQ_RAW (0x030 + ring))) 0 = true ∧ t.scene = s.scene ∧ Keeps noField s t) ∧
  (∀ (s : State) (ring : Nat), Running s → ring < 16 →
    s.get (F.QMG_CQ_MOD_MICROSECONDS ring) = 0 ∨ s.get (F.QMG_CQ_TAIL_TAIL ring) = s.get (F.QMG_CQ_HEAD_HEAD ring) →
    ∃ t, exec (.cqAgeTimeout ring) s = .next t ∧ KeepsAllRegs noField s t ∧ KeepsBytes s t) ∧
  (∀ (s : State) (m : Master) (n v : Nat), Running s → n < 256 → v < 2 ^ 64 → MayWrite s m 0x051 →
    ∃ t, exec (.fenceWrite m n v) s = .next t ∧ t.get (F.LAY_FENCE_VALUE n) = v ∧ KeepsAllRegs (ofFields [F.LAY_FENCE_VALUE n]) s t ∧ KeepsBytes s t) ∧
  (∀ (s : State) (m : Master) (n v : Nat), Running s → n < 256 → v < 2 ^ 64 → MayWrite s m 0x052 →
    ∃ t, exec (.fenceMaxWrite m n v) s = .next t ∧ t.get (F.LAY_FENCE_VALUE n) = Nat.max (s.get (F.LAY_FENCE_VALUE n)) v ∧
      KeepsAllRegs (ofFields [F.LAY_FENCE_VALUE n]) s t ∧ KeepsBytes s t) ∧
  (∀ (s : State), Running s →
    ∃ t, exec .commitLatch s = .next t ∧
      (∀ m ∈ s.scene.commits, m.waiting = [] → (m.waitFence = true → m.fenceValue ≤ s.get (F.LAY_FENCE_VALUE m.fenceIndex)) →
        { m with taken := true } ∈ t.scene.commits) ∧
      (∀ m ∈ t.scene.commits, ∃ o ∈ s.scene.commits, m = { o with taken := m.taken } ∧ (m.taken = o.taken ∨ (o.waiting = [] ∧
        (o.waitFence = true → o.fenceValue ≤ s.get (F.LAY_FENCE_VALUE o.fenceIndex))))) ∧
      t.scene.ctxs = s.scene.ctxs ∧ KeepsBytes s t)

/-- R132, R145, R146 (KSEL_ARM, KSEL_LOAD_DONE): an ARM whose kernel is in its slot, that its master may select, and whose block is absent or within
range, starts the load; otherwise it ends at once with the reason in CODE and BLOCK_IRQ bit 0, and nothing in force or loading changes; a load that is
done waits for the boundary, BUSY clears and CODE reads 0. R122, R123, R133, R145, R146 (LDELTA_ARM, LENSLET_BUILD_DONE, PKG_CMD, PKG_INSTALL_DONE):
an ARM of a checked object starts a host build, or is held behind Ozzizo's; it is refused with 5 while a host build runs or is held, with 3 for a
first row above 647 or a bad object, and with 4 for one that cannot be read. An install starts for a slot that nothing uses, and is refused with 5, 8
or 7; it ends with its package in the slot or with the reason. The model's own choices it rests on: log entries 12, 13. -/
def Obligations.KernelsAndLenslets : Prop :=
  ((∀ (s : State) (m : Master) (data : Nat), Running s → MayWrite s m 0x070 → data < 2 ^ 32 → data % 2 = 0 →
    ∃ t, exec (.kselArm m data) s = .next t ∧ t.rsy = s.rsy ∧ KeepsAllRegs noField s t ∧ KeepsBytes s t) ∧
  (∀ (s : State) (m : Master) (data : Nat) (host : Bool), Running s → MayWrite s m 0x070 → data < 2 ^ 32 → data % 2 = 1 →
    s.get F.RSY_KSEL_STATUS_BUSY = 0 → kernelIn s (s.get F.RSY_KSEL_SLOT) (s.get F.RSY_KSEL_KERNEL) = some host → host = true ∨ m.ozzizo = true →
    s.get F.RSY_KPARAM_ADDR_ADDR = 0 →
    ∃ t, exec (.kselArm m data) s = .next t ∧ t.get F.RSY_KSEL_STATUS_BUSY = 1 ∧
      t.rsy = { s.rsy with loading := some ⟨s.get F.RSY_KSEL_SLOT, s.get F.RSY_KSEL_KERNEL, 0, []⟩ } ∧
      KeepsAllRegs (ofFields [F.RSY_KSEL_STATUS_BUSY]) s t ∧ KeepsBytes s t) ∧
  (∀ (s u : State) (m : Master) (data : Nat) (host : Bool) (b : List Byte), Running s → MayWrite s m 0x070 → data < 2 ^ 32 → data % 2 = 1 →
    s.get F.RSY_KSEL_STATUS_BUSY = 0 → kernelIn s (s.get F.RSY_KSEL_SLOT) (s.get F.RSY_KSEL_KERNEL) = some host → host = true ∨ m.ozzizo = true →
    s.get F.RSY_KPARAM_ADDR_ADDR ≠ 0 →
    fetchBlock s (s.get F.RSY_KSEL_SLOT) (s.get F.RSY_KSEL_KERNEL) (s.get F.RSY_KPARAM_ADDR_ADDR * 64) = (u, some b) →
    blockOk (s.get F.RSY_KSEL_SLOT) (s.get F.RSY_KSEL_KERNEL) b = true →
    ∃ t, exec (.kselArm m data) s = .next t ∧ t.get F.RSY_KSEL_STATUS_BUSY = 1 ∧
      t.rsy.loading = some ⟨s.get F.RSY_KSEL_SLOT, s.get F.RSY_KSEL_KERNEL, s.get F.RSY_KPARAM_ADDR_ADDR, b⟩ ∧
      KeepsAllRegs (ofFields [F.RSY_KSEL_STATUS_BUSY]) u t ∧ KeepsBytes u t) ∧
  (∀ (s u : State) (m : Master) (data code : Nat), Running s → MayWrite s m 0x070 → data < 2 ^ 32 → data % 2 = 1 →
    ((code = 5 ∧ s.get F.RSY_KSEL_STATUS_BUSY = 1 ∧ u = s) ∨
     (s.get F.RSY_KSEL_STATUS_BUSY = 0 ∧
      ((code = 1 ∧ kernelIn s (s.get F.RSY_KSEL_SLOT) (s.get F.RSY_KSEL_KERNEL) = none ∧ u = s) ∨
       (code = 2 ∧ kernelIn s (s.get F.RSY_KSEL_SLOT) (s.get F.RSY_KSEL_KERNEL) = some false ∧ m.ozzizo = false ∧ u = s) ∨
       (∃ host, kernelIn s (s.get F.RSY_KSEL_SLOT) (s.get F.RSY_KSEL_KERNEL) = some host ∧ (host = true ∨ m.ozzizo = true) ∧
         s.get F.RSY_KPARAM_ADDR_ADDR ≠ 0 ∧
         ((code = 4 ∧ fetchBlock s (s.get F.RSY_KSEL_SLOT) (s.get F.RSY_KSEL_KERNEL) (s.get F.RSY_KPARAM_ADDR_ADDR * 64) = (u, none)) ∨
          (code = 3 ∧ ∃ b, fetchBlock s (s.get F.RSY_KSEL_SLOT) (s.get F.RSY_KSEL_KERNEL) (s.get F.RSY_KPARAM_ADDR_ADDR * 64) = (u, some b) ∧
            blockOk (s.get F.RSY_KSEL_SLOT) (s.get F.RSY_KSEL_KERNEL) b = false)))))) →
    ∃ t, exec (.kselArm m data) s = .next t ∧ t.get F.RSY_KSEL_STATUS_CODE = code ∧ hasBit (t.get (F.IRQ_RAW 0x070)) 0 = true ∧ t.rsy = u.rsy ∧
      Keeps (ofFields [F.RSY_KSEL_STATUS_CODE]) u t) ∧
  (∀ (s : State) (k : Kernel), Running s → s.rsy.loading = some k →
    ∃ t, exec .kselLoadDone s = .next t ∧ t.rsy = { s.rsy with loading := none, loaded := some k } ∧ t.get F.RSY_KSEL_STATUS_BUSY = 0 ∧
      t.get F.RSY_KSEL_STATUS_CODE = 0 ∧ hasBit (t.get (F.IRQ_RAW 0x070)) 0 = true ∧
      Keeps (ofFields [F.RSY_KSEL_STATUS_BUSY, F.RSY_KSEL_STATUS_CODE]) s t)) ∧
  ((∀ (s u : State) (m : Master) (data first : Nat) (b : List Byte), Running s → MayWrite s m 0x070 → data < 2 ^ 32 → data % 2 = 1 →
    first = data / 2 ^ 16 % 2 ^ 10 → s.rsy.lens.heldHost = none → (∀ x, s.rsy.lens.build = some x → x.fromHost = false) → first ≤ 647 →
    ldeltaObject s = (u, some b) → u.rsy = s.rsy → lensObjectOk b first = true →
    ∃ t, exec (.ldeltaArm m data) s = .next t ∧ t.get F.RSY_LDELTA_STATUS_CODE = 0 ∧
      (s.rsy.lens.build = none → t.get F.RSY_LDELTA_STATUS_BUSY = 1 ∧
        t.rsy.lens.build = some ⟨true, s.rsy.lens.groom, lensObjectApply s.rsy.lens.host b first, none, false⟩) ∧
      (s.rsy.lens.build ≠ none → t.get F.RSY_LDELTA_STATUS_PENDING = 1 ∧ t.rsy.lens.build = s.rsy.lens.build ∧
        t.rsy.lens.heldHost = some (lensObjectApply s.rsy.lens.host b first)) ∧
      KeepsAllRegs (ofFields [F.RSY_LDELTA_STATUS_CODE, F.RSY_LDELTA_STATUS_BUSY, F.RSY_LDELTA_STATUS_PENDING]) u t ∧ KeepsBytes u t) ∧
  (∀ (s u : State) (m : Master) (data first code : Nat), Running s → MayWrite s m 0x070 → data < 2 ^ 32 → data % 2 = 1 →
    first = data / 2 ^ 16 % 2 ^ 10 →
    ((code = 5 ∧ u = s ∧ (s.rsy.lens.heldHost ≠ none ∨ ∃ x, s.rsy.lens.build = some x ∧ x.fromHost = true)) ∨
     (s.rsy.lens.heldHost = none ∧ (∀ x, s.rsy.lens.build = some x → x.fromHost = false) ∧
       ((code = 3 ∧ u = s ∧ 647 < first) ∨ (first ≤ 647 ∧ ((code = 4 ∧ ldeltaObject s = (u, none)) ∨
         (code = 3 ∧ ∃ b, ldeltaObject s = (u, some b) ∧ lensObjectOk b first = false)))))) →
    ∃ t, exec (.ldeltaArm m data) s = .next t ∧ t.get F.RSY_LDELTA_STATUS_CODE = code ∧ hasBit (t.get (F.IRQ_RAW 0x070)) 1 = true ∧ t.rsy = u.rsy ∧
      Keeps (ofFields [F.RSY_LDELTA_STATUS_CODE]) u t) ∧
  (∀ (s : State) (x : LensBuild), Running s → s.rsy.lens.build = some x →
    ∃ t, exec .lensletBuildDone s = .next t ∧ t.rsy = { s.rsy with lens := { s.rsy.lens with build := some { x with complete := true } } } ∧
      KeepsAllRegs noField s t ∧ KeepsBytes s t) ∧
  (∀ (s : State) (m : Master) (slot : Nat), Running s → MayWrite s m 0x070 → 0 < slot → slot < 4 → s.get F.RSY_PKG_CMD_BUSY = 0 →
    s.rsy.kernel.slot ≠ slot → (∀ k, s.rsy.loading = some k → k.slot ≠ slot) → (∀ k, s.rsy.loaded = some k → k.slot ≠ slot) →
    ∃ t, exec (.pkgCmd m slot) s = .next t ∧ t.get F.RSY_PKG_CMD_BUSY = 1 ∧ t.get F.RSY_PKG_CMD_SLOT = slot ∧
      t.rsy = { s.rsy with installing := some slot } ∧ KeepsAllRegs (ofFields [F.RSY_PKG_CMD_BUSY, F.RSY_PKG_CMD_SLOT]) s t ∧ KeepsBytes s t) ∧
  (∀ (s : State) (m : Master) (slot code : Nat), Running s → MayWrite s m 0x070 → slot < 4 →
    ((code = 5 ∧ s.get F.RSY_PKG_CMD_BUSY = 1) ∨ (s.get F.RSY_PKG_CMD_BUSY = 0 ∧ ((code = 8 ∧ slot = 0) ∨
      (code = 7 ∧ slot ≠ 0 ∧ (s.rsy.kernel.slot = slot ∨ (∃ k, s.rsy.loading = some k ∧ k.slot = slot) ∨ (∃ k, s.rsy.loaded = some k ∧ k.slot = slot)))))) →
    ∃ t, exec (.pkgCmd m slot) s = .next t ∧ t.get F.RSY_PKG_STATUS_CODE = code ∧ hasBit (t.get (F.IRQ_RAW 0x070)) 2 = true ∧ t.rsy = s.rsy ∧
      Keeps (ofFields [F.RSY_PKG_STATUS_CODE, F.RSY_PKG_CMD_SLOT]) s t) ∧
  (∀ (s : State) (slot version : Nat) (kernels : List (Nat × Bool)), Running s → s.rsy.installing = some slot → slot < 4 → version < 2 ^ 32 →
    kernels.length < 2 ^ 16 →
    ∃ t, exec (.pkgInstallDone (.ok version kernels)) s = .next t ∧ t.get F.RSY_PKG_CMD_BUSY = 0 ∧ t.get F.RSY_PKG_STATUS_CODE = 0 ∧
      t.get (F.RSY_PKG_INFO_VERSION slot) = version ∧ t.get (F.RSY_PKG_INFO_VALID slot) = 1 ∧ t.get (F.RSY_PKG_INFO_KERNELS slot) = kernels.length ∧
      assoc t.rsy.packages slot = some kernels ∧ hasBit (t.get (F.IRQ_RAW 0x070)) 2 = true ∧
      Keeps (ofFields [F.RSY_PKG_CMD_BUSY, F.RSY_PKG_STATUS_CODE, F.RSY_PKG_INFO_VERSION slot, F.RSY_PKG_INFO_VALID slot, F.RSY_PKG_INFO_KERNELS slot]) s t) ∧
  (∀ (s : State) (slot code : Nat) (o : PkgOutcome), Running s → s.rsy.installing = some slot →
    (code = 4 ∧ o = .fetchError) ∨ (code = 6 ∧ o = .badSignature) →
    ∃ t, exec (.pkgInstallDone o) s = .next t ∧ t.get F.RSY_PKG_CMD_BUSY = 0 ∧ t.get F.RSY_PKG_STATUS_CODE = code ∧
      t.rsy = { s.rsy with installing := none } ∧ hasBit (t.get (F.IRQ_RAW 0x070)) 2 = true ∧
      Keeps (ofFields [F.RSY_PKG_CMD_BUSY, F.RSY_PKG_STATUS_CODE]) s t))

/-- R134, R136, R137, R163, R164 (RELEASE_POINT, LOT_RELEASE, LOT_DISPATCH, SPAN_DEPOSIT, LINE_MOVE): at RELEASE a band's plan is fixed and the band steps
to its next facet; the next lot of a plan goes to the queue of the stall that serves it, with the snapshot of now; a free engine of a stall takes the
stall's first lot, or the lot is lent; a span is counted and kept for its lot, which retires with its last; a line with all 16 spans inside the window
moves to the band line buffer. The model's own choices it rests on: log entries 59, 80. -/
def Obligations.LotsGoFromReleaseToTheLineBuffer : Prop :=
  (∀ (s : State) (b f : Nat) (after : Int), Running s → s.get F.DRU_STATE_LF_OUT ≠ 0 → s.pnl.step < 20 → s.drum.bands[b]? = some (f, after) →
    ∃ t, exec (.releasePoint b) s = .next t ∧
      t.drum.bands = s.drum.bands.set b ((f + 1) % Nat.max (s.get F.DRU_STATE_FACETS) 1, (planOf s b f after).xStart) ∧
      (schedValid s b f = true → portServes s b = true → planOf s b f after ∈ t.drum.plans) ∧
      (∀ q ∈ t.drum.plans, q ∈ s.drum.plans ∨ (q = planOf s b f after ∧ schedValid s b f = true ∧ portServes s b = true)) ∧
      (∀ q ∈ s.drum.plans, q.band ≠ b ∨ q.closed = false ∨ q.strobe < 2 → q ∈ t.drum.plans) ∧ t.rsy = s.rsy ∧
      KeepsAllRegs noField s t ∧ KeepsBytes s t) ∧
  (∀ (s : State) (b : Nat), Running s → s.get F.DRU_STATE_LF_OUT = 0 ∨ 20 ≤ s.pnl.step ∨ s.drum.bands[b]? = none →
    ∃ t, exec (.releasePoint b) s = .next t ∧ t.drum = s.drum ∧ t.rsy = s.rsy ∧ KeepsAllRegs noField s t ∧ KeepsBytes s t) ∧
  (∀ (s : State) (b st : Nat) (p : Plan) (borrowed : Bool), Running s →
    planFor s b (fun p => decide (p.released < 68) && !p.closed && !decide (p.mode = 2)) = some p →
    lotStall (applyBudget s) p.band p.released = (some st, borrowed) →
    ∃ t l, exec (.lotRelease b) s = .next t ∧ t.rsy = { s.rsy with lots := s.rsy.lots ++ [l] } ∧ l.band = b ∧ l.facet = p.facet ∧ l.subframe = p.subframe ∧
      l.index = p.released ∧ l.phase = .released ∧ l.home = st ∧ l.stall = st ∧ l.next = 0 ∧ l.spans = [] ∧ l.moved = 0 ∧ l.phi = p.phi ∧
      l.due = lineDueAt p (8 * p.released) ∧
      t.drum = { s.drum with plans := s.drum.plans.map (fun q => if q.band = b ∧ q.subframe = p.subframe then { q with released := p.released + 1 } else q) } ∧
      t.get (F.STL_LOTS_BORROWED_COUNT st) = (if borrowed then satAdd 32 (s.get (F.STL_LOTS_BORROWED_COUNT st)) 1 else s.get (F.STL_LOTS_BORROWED_COUNT st)) ∧
      Keeps (eitherField (ofPages [0x0A2]) (ofFields [F.STL_LOTS_BORROWED_COUNT st])) s t) ∧
  (∀ (s : State) (k e : Nat) (l : Lot), Running s → firstLot s k = some l → canRun s k = true → e ∈ freeEngines s k →
    ∃ t, exec (.lotDispatch k e) s = .next t ∧
      t.rsy = { s.rsy with lots := s.rsy.lots.map (fun x => if x.is l then { x with phase := .running, engine := e, began := s.now } else x) } ∧
      (l.home ≠ k → t.get (F.STL_LOTS_BORROWED_COUNT k) = satAdd 32 (s.get (F.STL_LOTS_BORROWED_COUNT k)) 1) ∧
      (l.home = k → KeepsAllRegs noField s t) ∧ KeepsAllRegs (ofFields [F.STL_LOTS_BORROWED_COUNT k]) s t ∧ KeepsBytes s t) ∧
  (∀ (s : State) (k e j : Nat) (l : Lot), Running s → firstLot s k = some l → canRun s k = false → l.phase = .released → lendTarget s k = some j →
    ∃ t, exec (.lotDispatch k e) s = .next t ∧
      t.rsy = { s.rsy with lots := s.rsy.lots.map (fun x => if x.is l then { x with phase := .lent, stall := j } else x) } ∧
      t.get (F.STL_LOTS_LENT_COUNT k) = satAdd 32 (s.get (F.STL_LOTS_LENT_COUNT k)) 1 ∧
      KeepsAllRegs (ofFields [F.STL_LOTS_LENT_COUNT k]) s t ∧ KeepsBytes s t) ∧
  (∀ (s : State) (k e : Nat), Running s → firstLot s k = none ∨ (canRun s k = true ∧ e ∉ freeEngines s k) →
    ∃ t, exec (.lotDispatch k e) s = .next t ∧ t.rsy = s.rsy ∧ KeepsAllRegs noField s t ∧ KeepsBytes s t) ∧
  (∀ (s : State) (k e : Nat) (l : Lot), Running s → runningLot s k e = some l → s.get F.ERR_INJECT_ARM = 0 →
    (∀ p ∈ spanPixels s l, p.bad = []) → l.next + 1 < 16 * lotLines l.index →
    ∃ t, exec (.spanDeposit k e) s = .next t ∧
      t.get F.RSY_RAY_COUNT_COUNT = satAdd 64 (s.get F.RSY_RAY_COUNT_COUNT) 720 ∧
      t.get F.RSY_SAMPLE_COUNT_COUNT = satAdd 64 (s.get F.RSY_SAMPLE_COUNT_COUNT) ((spanPixels s l).foldl (fun n p => n + p.counted) 0) ∧
      (lineLate s l (l.index * 8 + l.next / 16) = true → t.get (F.STL_LATE_SPANS_COUNT l.stall) = satAdd 32 (s.get (F.STL_LATE_SPANS_COUNT l.stall)) 1 ∧
        t.rsy = { s.rsy with lots := s.rsy.lots.map (fun x => if x.is l then { x with next := x.next + 1, phase := .running } else x) }) ∧
      (lineLate s l (l.index * 8 + l.next / 16) = false → t.get (F.STL_LATE_SPANS_COUNT l.stall) = s.get (F.STL_LATE_SPANS_COUNT l.stall) ∧
        t.rsy = { s.rsy with lots := t.rsy.lots } ∧ t.rsy.lots = s.rsy.lots.map (fun x => if x.is l then { x with next := x.next + 1, phase := .running, spans := x.spans ++ [(l.next, (spanPixels s l).map (fun p => (p.r.toNat, p.g.toNat, p.b.toNat)))] } else x)) ∧
      KeepsAllRegs (ofFields [F.RSY_RAY_COUNT_COUNT, F.RSY_SAMPLE_COUNT_COUNT, F.STL_LATE_SPANS_COUNT l.stall]) s t ∧ KeepsBytes s t) ∧
  (∀ (s : State) (k e : Nat) (l : Lot), Running s → runningLot s k e = some l → s.get F.ERR_INJECT_ARM = 0 →
    (∀ p ∈ spanPixels s l, p.bad = []) → l.next + 1 = 16 * lotLines l.index →
    ∃ t, exec (.spanDeposit k e) s = .next t ∧ (∀ x ∈ t.rsy.lots, x.is l = true → x.phase = .retired) ∧
      t.get (F.STL_LOTS_RETIRED_COUNT l.stall) = satAdd 32 (s.get (F.STL_LOTS_RETIRED_COUNT l.stall)) 1 ∧
      KeepsAllRegs (ofFields [F.RSY_RAY_COUNT_COUNT, F.RSY_SAMPLE_COUNT_COUNT, F.STL_LATE_SPANS_COUNT l.stall, F.STL_LOTS_RETIRED_COUNT l.stall]) s t ∧ KeepsBytes s t) ∧
  (∀ (s : State) (b : Nat) (p : Plan) (l : Lot), Running s → planFor s b (fun p => decide (p.moved < 540) && !p.closed && !decide (p.mode = 2)) = some p →
    lotOfLine s p p.moved = some l → (lineSpans l p.moved).length = 16 → p.moved < p.due + 32 → s.get F.ERR_INJECT_ARM = 0 →
    ∃ t, exec (.lineMove b) s = .next t ∧
      t.drum = { s.drum with plans := t.drum.plans } ∧ t.drum.plans = s.drum.plans.map (fun q =>
        if q.band = b ∧ q.subframe = p.subframe then { q with moved := p.moved + 1, buffer := q.buffer ++ lineSpans l p.moved } else q) ∧
      (∀ x ∈ t.rsy.lots, ∃ y ∈ s.rsy.lots, x = (if y.is l then { y with moved := y.moved + 1 } else y)) ∧ KeepsAllRegs noField s t ∧ KeepsBytes s t) ∧
  (∀ (s : State) (b : Nat) (p : Plan) (l : Lot), Running s → planFor s b (fun p => decide (p.moved < 540) && !p.closed && !decide (p.mode = 2)) = some p →
    lotOfLine s p p.moved = some l → (lineSpans l p.moved).length ≠ 16 ∨ p.due + 32 ≤ p.moved →
    ∃ t, exec (.lineMove b) s = .next t ∧ t.drum = s.drum ∧ t.rsy = s.rsy ∧ KeepsAllRegs noField s t ∧ KeepsBytes s t)

/-- R135, R220, R222, R256, R257, R451 (LINE_DUE, OVERLAY_ROW_READ): a band's line that falls due is filled from its spans, composed and put through
overdrive, and is ready for its slot; missing spans are counted and shown; an overlay row that can be read is kept for its subframe, and one that
cannot is not. The model's own choices it rests on: log entries 63, 65, 69. -/
def Obligations.LinesFallDue : Prop :=
  (∀ (s : State) (b : Nat) (p : Plan) (px : List (Nat × Nat × Nat)), Running s → b < 12 →
    planFor s b (fun p => decide (p.due < 540) && !p.closed && !decide (p.mode = 2)) = some p → planNow s p = p → p.due < p.moved →
    fillLine p p.due = (px, 0) →
    ∃ t levels, exec (.lineDue b) s = .next t ∧
      levels.map (fun e => e.2) = (composeLine (protLine s p p.due) p p.due px).flatMap (fun c => [c.1, c.2.1, c.2.2]) ∧
      t.drum = { s.drum with plans := t.drum.plans } ∧
      t.drum.plans = s.drum.plans.map (fun q => if q.band = b ∧ q.subframe = p.subframe then { q with due := p.due + 1, tail := px.getLast?.getD p.tail, buffer := q.buffer.filter (fun e => !decide (e.1 / 16 = p.due)), ready := q.ready ++ [(p.due, levels)] } else q) ∧
      (p.due ≠ lotLastLine p.due → t.rsy = s.rsy) ∧
      t.get (F.PNL_UNDERRUN_LINES_COUNT b) = s.get (F.PNL_UNDERRUN_LINES_COUNT b) ∧
      (s.get F.ERR_INJECT_ARM = 0 → s.mem.badDram = [] → s.mem.weakDram = [] → KeepsRegs (eitherField (ofPages [0x0B0, 0x0BF, 0x0DD])
        (fun k => s.rsy.lots.any (fun l => decide ((F.STL_ABANDONED_COUNT l.stall).key = k)))) s t) ∧
      t.mem.host = s.mem.host ∧ t.mem.loft = s.mem.loft ∧
      (∀ x, x < histAddr s (540 * b + p.due) 0 ∨ histAddr s (540 * b + p.due) 0 + 11520 ≤ x → memGet t.mem.dram x = memGet s.mem.dram x)) ∧
  (∀ (s : State) (b m : Nat) (p : Plan) (px : List (Nat × Nat × Nat)), Running s → b < 12 →
    planFor s b (fun p => decide (p.due < 540) && !p.closed && !decide (p.mode = 2)) = some p → planNow s p = p → p.due < p.moved →
    fillLine p p.due = (px, m) → 0 < m →
    ∃ t, exec (.lineDue b) s = .next t ∧ t.get (F.PNL_UNDERRUN_LINES_COUNT b) = satAdd 32 (s.get (F.PNL_UNDERRUN_LINES_COUNT b)) 1 ∧
      t.get (F.PNL_UNDERRUN_PIXELS_COUNT b) = satAdd 32 (s.get (F.PNL_UNDERRUN_PIXELS_COUNT b)) (720 * m) ∧
      hasBit (t.get (F.IRQ_RAW (0x0D0 + b))) 0 = true) ∧
  (∀ (s u : State) (plane row : Nat) (pl : Plan) (p : Plane) (luma : List Byte), Running s → plane < 8 → row < 648 →
    planFor s (row / 54) (fun p => !p.closed && decide (p.due ≤ 10 * (row % 54))) = some pl → (cmpVersionOf s pl.subframe).planes[plane]? = some p →
    (cmpVersionOf s pl.subframe).subframe = pl.subframe → planeCovers p row = true → p.format < 0x10 →
    dramFetch s 7 (lumaRange p row).1 (lumaRange p row).2 = (u, some luma) →
    ∃ t, exec (.overlayRowRead plane row) s = .next t ∧ rowOf t pl.subframe plane row = some ⟨pl.subframe, plane, row, luma, []⟩ ∧ KeepsAllRegs noField u t ∧ KeepsBytes s t) ∧
  (∀ (s u v : State) (plane row : Nat) (pl : Plan) (p : Plane) (luma chroma : List Byte), Running s → plane < 8 → row < 648 →
    planFor s (row / 54) (fun p => !p.closed && decide (p.due ≤ 10 * (row % 54))) = some pl → (cmpVersionOf s pl.subframe).planes[plane]? = some p →
    (cmpVersionOf s pl.subframe).subframe = pl.subframe → planeCovers p row = true → 0x10 ≤ p.format →
    dramFetch s 7 (lumaRange p row).1 (lumaRange p row).2 = (u, some luma) → dramFetch u 7 (chromaRange p row).1 (chromaRange p row).2 = (v, some chroma) →
    ∃ t, exec (.overlayRowRead plane row) s = .next t ∧ rowOf t pl.subframe plane row = some ⟨pl.subframe, plane, row, luma, chroma⟩ ∧ KeepsAllRegs noField v t ∧
      KeepsBytes s t) ∧
  (∀ (s u : State) (plane row : Nat) (pl : Plan) (p : Plane), Running s → plane < 8 → row < 648 →
    planFor s (row / 54) (fun p => !p.closed && decide (p.due ≤ 10 * (row % 54))) = some pl → (cmpVersionOf s pl.subframe).planes[plane]? = some p →
    planeCovers p row = true → dramFetch s 7 (lumaRange p row).1 (lumaRange p row).2 = (u, none) →
    ∃ t, exec (.overlayRowRead plane row) s = .next t ∧ t.cmp = s.cmp ∧ KeepsAllRegs noField u t ∧ KeepsBytes s t) ∧
  (∀ (s : State) (row : Nat) (pl : Plan) (p : Plane) (refs : List Nat), Running s → row < 648 →
    planFor s (row / 54) (fun p => !p.closed && decide (p.due ≤ 10 * (row % 54))) = some pl → (cmpVersionOf s pl.subframe).prot = some (p, refs) →
    planeCovers p row = true → dramBehind s (lumaRange p row).1 (lumaRange p row).2 = true → dramBad s (lumaRange p row).1 (lumaRange p row).2 = true →
    ∃ t, exec (.overlayRowRead 8 row) s = .next t ∧ hasBit (t.get F.CMP_STATUS_BLACK_UNDER) (row / 54) = true ∧
      (∃ e ∈ t.cmp.black, e.1 = row / 54 ∧ e.2.2 = none) ∧ KeepsBytes s t)

/-- R137, R165, R246, R251, R259, R261, R263 (WRITE_START_POINT, LINE_SLOT_START, WRITE_DEADLINE_POINT, STROBE_ON_POINT, STROBE_OFF_POINT): a band's
window opens with WINDOW_START and the table of its temperature band; a line leaves in each slot, driven from the tables, or at the neutral level; the
deadline ends the window and its lots; a strobe begins with its zones' codes, or is skipped when the drum has left the plan, and ends with the zones
low. The model's own choices it rests on: log entries 65, 69. -/
def Obligations.WindowsAndStrobes : Prop :=
  (∀ (s : State) (b : Nat) (p : Plan), Running s → b < 12 → planFor s b (fun p => !p.started && !p.closed) = some p →
    (∀ q ∈ s.drum.plans, ¬ (q.band = b ∧ q.mode = 1 ∧ q.closed = true)) →
    ∃ t, exec (.writeStartPoint b) s = .next t ∧ t.out = s.out ++ [.folov b (windowHeader p 2 0 0 (p.period.toNat * 65536))] ∧
      t.drum = { s.drum with plans := t.drum.plans } ∧
      t.drum.plans = s.drum.plans.map (fun q => if q.band = b ∧ q.subframe = p.subframe then { q with started := true } else q) ∧
      (p.mode ≠ 2 → t.get (F.OVD_BAND_STATE_BANK b) = s.get F.OVD_TABLE_SWAP_ACTIVE ∧ t.get (F.OVD_BAND_STATE_TBAND b) = s.get F.OVD_TEMP_TBAND) ∧
      (p.mode = 2 → KeepsAllRegs noField s t) ∧
      KeepsAllRegs (ofFields [F.OVD_BAND_STATE_BANK b, F.OVD_BAND_STATE_TBAND b, F.OVD_TABLE_SWAP_PENDING]) s t ∧ KeepsBytes s t) ∧
  (∀ (s : State) (b : Nat) (p : Plan), Running s → b < 12 → planFor s b (fun p => p.started && !p.closed && decide (p.sent < 540)) = some p →
    planNow s p = p → (∀ l, s.cmp.list = some l → l.waiting = none) → p.mode = 2 ∨ p.sent < p.due →
    ∃ t, exec (.lineSlotStart b) s = .next t ∧
      (p.mode = 2 → Output.folovLine b (windowHeader p 1 34560 p.sent 0) (List.replicate 34560 (s.get F.PNL_NEUTRAL_LEVEL)) ∈ t.out) ∧
      (p.mode ≠ 2 → Output.folovLine b (windowHeader p 1 34560 p.sent 0) (driveLine s b ((assoc p.ready p.sent).getD [])) ∈ t.out) ∧
      t.drum = { s.drum with plans := t.drum.plans } ∧
      t.drum.plans = s.drum.plans.map (fun q => if q.band = b ∧ q.subframe = p.subframe then { q with sent := p.sent + 1, ready := q.ready.filter (fun e => !decide (e.1 = p.sent)) } else q) ∧
      (s.get (F.BLT_WATERMARK_EN b) ≠ 0 → s.get (F.BLT_WATERMARK_LINE b) = p.sent → hasBit (t.get (F.IRQ_RAW 0x0C0)) b = true) ∧ Keeps noField s t) ∧
  (∀ (s : State) (b : Nat) (p : Plan), Running s → planFor s b (fun p => p.started && !p.closed) = some p → p.mode ≠ 2 → s.pnl.step ≠ 21 →
    ∃ t, exec (.writeDeadlinePoint b) s = .next t ∧ t.out = s.out ++ [.folov b (windowHeader p 3 0 0 0)] ∧
      t.drum = { s.drum with plans := t.drum.plans } ∧
      t.drum.plans = s.drum.plans.map (fun q => if q.band = b ∧ q.subframe = p.subframe then { q with closed := true, ready := [], buffer := [] } else q) ∧
      t.rsy.lots = s.rsy.lots.filter (fun l => !(decide (l.band = b) && decide (l.subframe = p.subframe))) ∧
      KeepsAllRegs (fun k => s.rsy.lots.any (fun l => decide ((F.STL_ABANDONED_COUNT l.stall).key = k))) s t ∧ KeepsBytes s t) ∧
  (∀ (s : State) (b n : Nat) (p : Plan), Running s → planFor s b (fun p => p.started && !p.closed) = some p → p.mode = 2 → s.pnl.step ≠ 21 →
    mapVal s.pnl.windows b = n + 2 →
    ∃ t, exec (.writeDeadlinePoint b) s = .next t ∧ mapVal t.pnl.windows b = n + 1 ∧
      (∀ q ∈ s.drum.plans, q.band ≠ b ∨ q.mode ≠ 2 → q ∈ t.drum.plans) ∧ (∃ q ∈ t.drum.plans, q.band = b ∧ q.mode = 2 ∧ q.started = false) ∧
      KeepsAllRegs noField s t ∧ KeepsBytes s t) ∧
  (∀ (s : State) (b : Nat) (p : Plan), Running s → planFor s b (fun p => p.closed && decide (p.strobe = 0)) = some p → p.mode = 0 →
    ((s.get F.DRU_PLAN_TOL_COUNTS * 128 : Nat) : Int) < planDeparture s p →
    ∃ t, exec (.strobeOnPoint b) s = .next t ∧ t.get F.DRU_STROBE_SKIPS_COUNT = satAdd 32 (s.get F.DRU_STROBE_SKIPS_COUNT) 1 ∧
      hasBit (t.get (F.IRQ_RAW 0x080)) 4 = true ∧
      t.drum.plans = s.drum.plans.map (fun q => if q.band = b ∧ q.subframe = p.subframe then { q with strobe := 2 } else q) ∧
      Keeps (ofFields [F.DRU_STROBE_SKIPS_COUNT]) s t) ∧
  (∀ (s : State) (b : Nat) (p : Plan), Running s → b < 12 → planFor s b (fun p => p.closed && decide (p.strobe = 0)) = some p →
    p.mode ≠ 0 ∨ planDeparture s p ≤ ((s.get F.DRU_PLAN_TOL_COUNTS * 128 : Nat) : Int) → s.get F.GLB_START_STAGE ≠ 4 →
    ∃ t, exec (.strobeOnPoint b) s = .next t ∧
      t.drum.plans = s.drum.plans.map (fun q => if q.band = b ∧ q.subframe = p.subframe then { q with strobe := 1 } else q) ∧
      (∀ i, i < 2 → hasBit p.zoneEn i = true → t.get (F.PNL_ZONE_CODE_STROBING (2 * b + i)) = 1 ∧
        t.get (F.PNL_ZONE_CODE_CODE (2 * b + i)) = zoneCode (brightZone s (2 * b + i)) p (2 * b + i)) ∧
      (∀ i, i < 2 → hasBit p.zoneEn i = false → t.get (F.PNL_ZONE_CODE_STROBING (2 * b + i)) = s.get (F.PNL_ZONE_CODE_STROBING (2 * b + i))) ∧
      KeepsAllRegs (ofFields ([0, 1].flatMap (fun i => [F.PNL_ZONE_CODE_STROBING (2 * b + i), F.PNL_ZONE_CODE_CODE (2 * b + i), F.VWB_ZONE_FACTOR (2 * b + i)]))) s t ∧
      KeepsBytes s t) ∧
  (∀ (s : State) (b : Nat) (p : Plan), Running s → planFor s b (fun p => decide (p.strobe = 1)) = some p →
    ∃ t, exec (.strobeOffPoint b) s = .next t ∧ t.get (F.PNL_ZONE_CODE_STROBING (2 * b)) = 0 ∧ t.get (F.PNL_ZONE_CODE_STROBING (2 * b + 1)) = 0 ∧
      (∀ q ∈ t.drum.plans, q.band = b → q.subframe = p.subframe → q.strobe = if p.mode = 1 ∧ s.pnl.step < 20 then 0 else 2) ∧
      KeepsAllRegs (ofFields [F.PNL_ZONE_CODE_STROBING (2 * b), F.PNL_ZONE_CODE_STROBING (2 * b + 1)]) s t ∧ KeepsBytes s t)

/-- R138, R140 to R142, R449 (ENGINE_FAILURE, LOT_TIMEOUT): an engine that fails, or that runs its lot too long, is mapped out; its lot goes on in the
spare from the first span not deposited, with NO_SPARE once the last is used; a render engine without a spare loses its stall; an idle spare is struck
off; an engine that runs nothing does not time out, and a stall that is not active fails no engine. The model's own choices it rests on: log entries
15, 26, 77, 78. -/
def Obligations.EnginesFail : Prop :=
  (∀ (s : State) (k e x code : Nat) (xs : List Nat) (why : EngineFault) (lot : Option Lot) (c : Instr), Running s → stallActive s k = true →
    k < s.rsy.stalls.length → runningLot s k e = lot → inBarnRepair s k lot = false → inStallRepair s k lot = false → inEngineRepair s k e lot = false →
    e ∈ (stallEng s k).render → (stallEng s k).spares = x :: xs → e ∉ x :: xs → xs.length < 4 →
    (c = .engineFailure k e why ∧ code = engineCode why) ∨ (c = .lotTimeout k e ∧ code = 3 ∧ lot ≠ none) →
    ∃ t, exec c s = .next t ∧ t.get (F.STL_STATE_ENGINES k) = withoutBit (s.get (F.STL_STATE_ENGINES k)) e % 2 ^ 16 ∧
      t.get (F.STL_STATE_SPARES k) = xs.length ∧ (xs = [] → hasBit (t.get (F.IRQ_RAW (0x060 + k))) 0 = true) ∧
      (stallEng t k).spares = xs ∧ (stallEng t k).render = (stallEng s k).render.erase e ++ [x] ∧
      (∀ l, lot = some l → t.rsy.lots = s.rsy.lots.map (fun y => if y.is l then { y with engine := x } else y) ∧
        t.get (F.STL_REISSUED_COUNT k) = satAdd 32 (s.get (F.STL_REISSUED_COUNT k)) 1) ∧
      (lot = none → t.rsy.lots = s.rsy.lots ∧ t.get (F.STL_REISSUED_COUNT k) = s.get (F.STL_REISSUED_COUNT k)) ∧
      t.get (F.ERR_CLASS_COUNT_COUNT 2) = satAdd 32 (s.get (F.ERR_CLASS_COUNT_COUNT 2)) 1 ∧
      Keeps (ofFields [F.STL_STATE_ENGINES k, F.STL_STATE_SPARES k, F.STL_REISSUED_COUNT k]) s t) ∧
  (∀ (s : State) (k e : Nat) (why : EngineFault) (lot : Option Lot), Running s → stallActive s k = true → k < s.rsy.stalls.length →
    runningLot s k e = lot → inBarnRepair s k lot = false → inStallRepair s k lot = false → inEngineRepair s k e lot = false →
    e ∈ (stallEng s k).render → (stallEng s k).spares = [] →
    ∃ t, exec (.engineFailure k e why) s = .next t ∧ t.get (F.STL_STATE_STATE k) = 1 ∧ t.get (F.STL_STATE_ENGINES k) = 0 ∧
      t.get (F.STL_BANDS_OWN_VALID k) = 0 ∧ hasBit (t.get (F.IRQ_RAW (0x060 + k))) 1 = true ∧
      Keeps (ofPages ([0x0A0, 0x0A2, 0x150, 0x180] ++ (List.range 12).map (fun i => 0x060 + i))) s t) ∧
  (∀ (s : State) (k e : Nat) (why : EngineFault), Running s → stallActive s k = true → k < s.rsy.stalls.length → runningLot s k e = none →
    e ∉ (stallEng s k).render → (stallEng s k).dutyEngine ≠ some e → e ∈ (stallEng s k).spares → (stallEng s k).spares.length ≤ 4 →
    ∃ t, exec (.engineFailure k e why) s = .next t ∧ (stallEng t k).spares = (stallEng s k).spares.erase e ∧
      t.get (F.STL_STATE_SPARES k) = (stallEng s k).spares.length - 1 ∧
      t.get (F.STL_STATE_ENGINES k) = withoutBit (s.get (F.STL_STATE_ENGINES k)) e % 2 ^ 16 ∧ t.rsy.lots = s.rsy.lots ∧
      Keeps (ofFields [F.STL_STATE_ENGINES k, F.STL_STATE_SPARES k]) s t) ∧
  (∀ (s : State) (k e x : Nat) (xs : List Nat) (why : EngineFault) (lot : Option Lot), Running s → stallActive s k = true → k < s.rsy.stalls.length →
    runningLot s k e = lot → inBarnRepair s k lot = false → inStallRepair s k lot = false → inEngineRepair s k e lot = false →
    e ∉ (stallEng s k).render → (stallEng s k).dutyEngine = some e → (stallEng s k).dutyMoved = false → (stallEng s k).spares = x :: xs → e ∉ x :: xs →
    ∃ t, exec (.engineFailure k e why) s = .next t ∧ (stallEng t k).dutyEngine = some x ∧ (stallEng t k).spares = xs ∧
      (∀ d p, (d, p) ∈ t.rsy.duties → (d, p) ∈ s.rsy.duties ∨ (p = some (k, x) ∧ (d, some (k, e)) ∈ s.rsy.duties)) ∧
      Keeps (ofFields [F.STL_STATE_ENGINES k, F.STL_STATE_SPARES k]) s t) ∧
  (∀ (s : State) (k e : Nat) (why : EngineFault) (c : Instr), Running s →
    (c = .engineFailure k e why ∧ stallActive s k = false) ∨ (c = .lotTimeout k e ∧ (runningLot s k e = none ∨ stallActive s k = false)) →
    ∃ t, exec c s = .next t ∧ t.rsy = s.rsy ∧ KeepsAllRegs noField s t ∧ KeepsBytes s t)

/-- R149, R151, R152, R155, R156, R170, R171 (ENCODER_EDGE, INDEX_EDGE): a valid edge moves the count by one and gives the predictor its new values, an
edge after coasting the count nearest the prediction; an invalid edge is a glitch, counted, and the predictor coasts; the index sets the count to 0, a
small error counted as a slip, a larger one as a glitch, and the speed control sets DRUM_SPEED; LOCKED follows 60 revolutions within the window. The
model's own choices it rests on: log entry 60. -/
def Obligations.TheEncoderMovesThePredictor : Prop :=
  (∀ (s : State) (quad delta : Nat) (cnt : Int) (d : Drum), Running s → quad < 4 → delta = (quad + 4 - s.drum.quad % 4) % 4 → delta ≠ 0 →
    edgeValid s delta = true →
    cnt = (if s.drum.coasting then resumeCount { s.drum with quad := quad } quad (s.now : Nat) else if delta = 1 then s.drum.cnt + 1 else s.drum.cnt - 1) →
    d = pushEdge { s.drum with quad := quad, hist := if s.drum.coasting then [] else s.drum.hist } (windowEdges s) cnt (s.now : Nat) →
    d.cnt < d.lastIndex + 10240 * ((d.missed : Int) + 1) →
    ∃ t, exec (.encoderEdge quad) s = .next t ∧ t.drum = d ∧ t.drum.cnt = cnt ∧ t.get F.DRU_OMEGA_SPEED = d.omegaE.toNat % 2 ^ 32 ∧
      t.get F.DRU_STATE_PRED_VALID = b2n (decide (2 * windowEdges s + 1 ≤ d.warm) && d.indexSeen && decide (s.get F.DRU_STATE_STATE < 5)) ∧
      KeepsAllRegs (ofFields [F.DRU_OMEGA_SPEED, F.DRU_RPM_RPM, F.DRU_STATE_PRED_VALID]) s t ∧ KeepsBytes s t) ∧
  (∀ (s : State) (quad delta : Nat), Running s → quad < 4 → delta = (quad + 4 - s.drum.quad % 4) % 4 → delta ≠ 0 → edgeValid s delta = false →
    s.drum.glitches + 1 ≤ s.get F.DRU_LIMITS_GLITCH_LIMIT →
    ∃ t, exec (.encoderEdge quad) s = .next t ∧
      t.drum = { s.drum with quad := quad, coasting := true, keep := true, glitches := s.drum.glitches + 1 } ∧
      t.get F.DRU_GLITCHES_COUNT = satAdd 32 (s.get F.DRU_GLITCHES_COUNT) 1 ∧
      KeepsAllRegs (ofFields [F.DRU_GLITCHES_COUNT, F.DRU_OMEGA_SPEED, F.DRU_RPM_RPM, F.DRU_STATE_PRED_VALID]) s t ∧ KeepsBytes s t) ∧
  (∀ (s : State) (quad : Nat), Running s → quad < 4 → quad = s.drum.quad % 4 →
    ∃ t, exec (.encoderEdge quad) s = .next t ∧ t.drum = s.drum ∧ KeepsAllRegs noField s t ∧ KeepsBytes s t) ∧
  (∀ (s : State) (code : Nat) (e : Int), Running s → code < 2 ^ 16 → s.role = 0 → e = indexError s.drum → iabs e ≤ (s.get F.DRU_LIMITS_INDEX_TOL : Int) →
    ∃ t, exec (.indexEdge code) s = .next t ∧ t.drum.cnt = s.drum.cnt - e ∧ t.drum.lastIndex = s.drum.cnt - e ∧ t.drum.missed = 0 ∧
      t.drum.indexSeen = true ∧ t.drum.glitches = 0 ∧ t.drum.hist = s.drum.hist ∧
      t.get F.DRU_INDEX_SLIPS_COUNT = (if e = 0 then s.get F.DRU_INDEX_SLIPS_COUNT else satAdd 32 (s.get F.DRU_INDEX_SLIPS_COUNT) 1) ∧
      t.get F.DRU_SPEED_CODE_CODE = (if 1 ≤ s.get F.DRU_STATE_STATE ∧ s.get F.DRU_STATE_STATE ≤ 4 ∧ s.get F.DRU_BRAKE_BRAKE = 0 then code
        else s.get F.DRU_SPEED_CODE_CODE) ∧
      KeepsAllRegs (ofFields [F.DRU_INDEX_SLIPS_COUNT, F.DRU_SPEED_CODE_CODE, F.DRU_OMEGA_SPEED, F.DRU_RPM_RPM, F.DRU_STATE_PRED_VALID]) s t ∧ KeepsBytes s t) ∧
  (∀ (s : State) (code : Nat), Running s → s.role = 0 → (s.get F.DRU_LIMITS_INDEX_TOL : Int) < iabs (indexError s.drum) →
    1 ≤ s.get F.DRU_LIMITS_GLITCH_LIMIT →
    ∃ t, exec (.indexEdge code) s = .next t ∧ t.drum.cnt = s.drum.cnt - indexError s.drum ∧ t.drum.hist = [] ∧ t.drum.coasting = true ∧
      t.get F.DRU_GLITCHES_COUNT = satAdd 32 (s.get F.DRU_GLITCHES_COUNT) 1 ∧
      KeepsAllRegs (ofFields [F.DRU_GLITCHES_COUNT, F.DRU_SPEED_CODE_CODE, F.DRU_OMEGA_SPEED, F.DRU_RPM_RPM, F.DRU_STATE_PRED_VALID]) s t ∧ KeepsBytes s t) ∧
  (∀ (s a : State) (code : Nat), Running s → a = showDrum (takeIndex s) → a.role ≠ 0 → a.get F.DRU_LOCK_PERIOD_T_REV ≠ 0 → lockEnabled a = true →
    a.get F.DRU_STATE_STATE = 2 → a.get F.TIM_SERVO_STATE ≠ 3 → a.get F.DRU_STATE_LOCK = 1 →
    ∃ t, exec (.indexEdge code) s = .next t ∧ t.getInt F.DRU_PHASE_ERR_ERROR = phaseError a ∧
      (iabs (phaseError a) ≤ ((a.get F.DRU_LOCK_CTRL_WINDOW * 128 : Nat) : Int) → 59 ≤ a.drum.lockRevs →
        t.get F.DRU_STATE_LOCK = 2 ∧ hasBit (t.get (F.IRQ_RAW 0x080)) 3 = true) ∧
      (¬ iabs (phaseError a) ≤ ((a.get F.DRU_LOCK_CTRL_WINDOW * 128 : Nat) : Int) → t.get F.DRU_STATE_LOCK = 1 ∧ t.drum.lockRevs = 0) ∧
      Keeps (ofFields [F.DRU_PHASE_ERR_ERROR, F.DRU_STATE_LOCK, F.DRU_SPEED_CODE_CODE]) a t)

/-- R157, R158, R509 (COAST_TIMEOUT, SPINUP_VALID_TIMEOUT, SPEED_DEVIATION_TIMEOUT, DRUM_FAULT_INPUT, STOP_WAIT_EXPIRY): a lost encoder and a failed drum
take the drum to its state, log an error of class DRUM and brake it; strobes not begun are suppressed and no lot is released; once it has stopped
parked output begins at an unknown position; the timers of a drum that is not in the state they watch do nothing. R150, R160, R162, R166 to R168
(DRUM_SPEED_THRESHOLD, PARK_BRAKE_POINT, PARK_POSITION_CHECK, SCHED_SWAP, EFFECTIVE_EVALUATE): light-field output begins or ends at the boundary after
its speed is reached, the drum runs at its target and parks below creep speed; the brake comes on where the drum is to stop; at rest within two counts
it is parked, beyond them it tries again, three times, and then parks at an unknown position; a swap of the schedule banks waits for a boundary; for a
new target speed the bank that is not in force is filled by R160's rules and its swap asked for. The model's own choices it rests on: log entries 43,
60, 70, 88. -/
def Obligations.TheDrumIsLostParkedAndScheduled : Prop :=
  ((∀ (s : State) (v : Nat) (c : Instr), Running s → 1 ≤ s.get F.DRU_STATE_STATE → s.get F.DRU_STATE_STATE ≤ 4 →
    (c = .coastTimeout ∧ v = 5 ∧ s.drum.coasting = true) ∨ (c = .spinupValidTimeout ∧ v = 5 ∧ s.get F.DRU_STATE_STATE = 1 ∧ predValid s = false) ∨
      (c = .speedDeviationTimeout ∧ v = 6 ∧ s.get F.DRU_STATE_STATE = 2) ∨ (c = .drumFaultInput true ∧ v = 6) →
    ∃ t, exec c s = .next t ∧ t.get F.DRU_STATE_STATE = v ∧ t.get F.DRU_STATE_LF_OUT = 0 ∧ t.get F.DRU_SPEED_CODE_CODE = 0 ∧ t.get F.DRU_BRAKE_BRAKE = 1 ∧
      t.get F.DRU_REQ_EFF_MODE = 0 ∧ t.get F.DRU_STATE_PRED_VALID = 0 ∧ hasBit (t.get (F.IRQ_RAW 0x080)) (v - 5) = true ∧
      t.get (F.ERR_CLASS_COUNT_COUNT 10) = satAdd 32 (s.get (F.ERR_CLASS_COUNT_COUNT 10)) 1 ∧ t.drum.bands = [] ∧ t.drum.lightNext = none ∧
      t.drum.plans = s.drum.plans.map (fun p => { p with released := 68, strobe := if p.strobe = 0 then 2 else p.strobe }) ∧
      Keeps (ofPages [0x080, 0x081, 0x150]) s t) ∧
  (∀ (s : State), Running s → s.get F.DRU_STATE_STATE = 0 →
    ∃ t, exec (.drumFaultInput true) s = .next t ∧ t.get F.DRU_STATE_STATE = 6 ∧ t.drum = { s.drum with faultPin := true, lockRevs := t.drum.lockRevs, unlockRevs := t.drum.unlockRevs } ∧
      t.get F.DRU_STATE_PARKED_OUT = s.get F.DRU_STATE_PARKED_OUT ∧ hasBit (t.get (F.IRQ_RAW 0x080)) 1 = true ∧ Keeps (ofPages [0x080, 0x081, 0x150]) s t) ∧
  (∀ (s : State) (c : Instr), Running s →
    (c = .coastTimeout ∧ s.drum.coasting = false) ∨ (c = .spinupValidTimeout ∧ (s.get F.DRU_STATE_STATE ≠ 1 ∨ predValid s = true)) ∨
      (c = .speedDeviationTimeout ∧ s.get F.DRU_STATE_STATE ≠ 2) ∨
      (c = .stopWaitExpiry ∧ (s.get F.DRU_STATE_STATE < 5 ∨ s.get F.DRU_STATE_PARKED_OUT = 1 ∨ s.pnl.step ≠ 0)) →
    ∃ t, exec c s = .next t ∧ t.drum = s.drum ∧ KeepsAllRegs noField s t ∧ KeepsBytes s t) ∧
  (∀ (s : State), Running s → ∃ t, exec (.drumFaultInput false) s = .next t ∧ t.drum = { s.drum with faultPin := false } ∧ KeepsAllRegs noField s t ∧ KeepsBytes s t) ∧
  (∀ (s : State), Running s → 5 ≤ s.get F.DRU_STATE_STATE → s.get F.DRU_STATE_PARKED_OUT = 0 → s.pnl.step = 0 →
    ∃ t, exec .stopWaitExpiry s = .next t ∧ t.get F.DRU_STATE_PARKED_OUT = 1 ∧ t.get F.DRU_STATE_LF_OUT = 0 ∧ t.get F.DRU_STATE_POS_UNKNOWN = 1 ∧
      t.get F.PNL_LR_STATE_DIVISOR = 1 ∧ t.get F.PNL_LR_STATE_HZ = 60 ∧
      (∀ k, 6 ≤ k → k < 12 → t.get (F.STL_STATE_STATE k) = if s.get (F.STL_STATE_STATE k) = 0 then 2 else s.get (F.STL_STATE_STATE k)) ∧ t.drum = s.drum ∧
      KeepsAllRegs (ofFields ([F.DRU_STATE_PARKED_OUT, F.DRU_STATE_LF_OUT, F.DRU_STATE_POS_UNKNOWN, F.PNL_LR_STATE_DIVISOR, F.PNL_LR_STATE_HZ] ++
        (List.range 6).map (fun i => F.STL_STATE_STATE (6 + i)))) s t ∧ KeepsBytes s t)) ∧
  ((∀ (s : State), Running s →
    (∃ t, exec (.drumSpeedThreshold .lightOn) s = .next t ∧ t.drum = { s.drum with lightNext := t.drum.lightNext } ∧ t.drum.lightNext =
      (if s.get F.DRU_STATE_STATE = 1 ∨ s.get F.DRU_STATE_STATE = 2 then some true else s.drum.lightNext) ∧ KeepsAllRegs noField s t ∧ KeepsBytes s t) ∧
    (∃ t, exec (.drumSpeedThreshold .lightOff) s = .next t ∧ t.drum = { s.drum with lightNext := t.drum.lightNext } ∧ t.drum.lightNext =
      (if s.get F.DRU_STATE_STATE = 3 then some false else s.drum.lightNext) ∧ KeepsAllRegs noField s t ∧ KeepsBytes s t)) ∧
  (∀ (s : State), Running s → s.get F.DRU_STATE_STATE = 1 →
    ∃ t, exec (.drumSpeedThreshold .target) s = .next t ∧ t.get F.DRU_STATE_STATE = 2 ∧ hasBit (t.get (F.IRQ_RAW 0x080)) 2 = true ∧
      (lockEnabled s = true → t.get F.DRU_STATE_LOCK = 1) ∧ (lockEnabled s = false → t.get F.DRU_STATE_LOCK = 0) ∧ Keeps (ofPages [0x080, 0x150]) s t) ∧
  (∀ (s : State), Running s → s.get F.DRU_STATE_STATE = 3 →
    ∃ t, exec (.drumSpeedThreshold .creep) s = .next t ∧ t.get F.DRU_STATE_STATE = 4 ∧ t.drum.parkTries = 0 ∧ hasBit (t.get (F.IRQ_RAW 0x080)) 2 = true ∧
      Keeps (ofPages [0x080, 0x150]) s t) ∧
  (∀ (s : State) (c : Instr), Running s →
    (c = .drumSpeedThreshold .target ∧ s.get F.DRU_STATE_STATE ≠ 1) ∨ (c = .drumSpeedThreshold .creep ∧ s.get F.DRU_STATE_STATE ≠ 3) ∨
      ((c = .parkBrakePoint ∨ c = .parkPositionCheck) ∧ s.get F.DRU_STATE_STATE ≠ 4) →
    ∃ t, exec c s = .next t ∧ t.drum = s.drum ∧ KeepsAllRegs noField s t ∧ KeepsBytes s t) ∧
  (∀ (s : State), Running s → s.get F.DRU_STATE_STATE = 4 →
    ∃ t, exec .parkBrakePoint s = .next t ∧ t.get F.DRU_BRAKE_BRAKE = 1 ∧ t.get F.DRU_SPEED_CODE_CODE = 0 ∧ t.drum = s.drum ∧
      KeepsAllRegs (ofFields [F.DRU_BRAKE_BRAKE, F.DRU_SPEED_CODE_CODE]) s t ∧ KeepsBytes s t) ∧
  (∀ (s : State), Running s → s.get F.DRU_STATE_STATE = 4 → s.get F.DRU_BRAKE_BRAKE = 1 → iabs (parkError s) ≤ 256 ∨ 3 ≤ s.drum.parkTries →
    ∃ t, exec .parkPositionCheck s = .next t ∧ t.get F.DRU_STATE_STATE = 0 ∧ t.get F.DRU_STATE_PARKED_OUT = 1 ∧ t.get F.DRU_STATE_LF_OUT = 0 ∧
      t.get F.DRU_STATE_POS_UNKNOWN = b2n (!decide (iabs (parkError s) ≤ 256)) ∧
      Keeps (ofPages ([0x080, 0x0DC, 0x150] ++ (List.range 6).map (fun i => 0x066 + i))) s t) ∧
  (∀ (s : State), Running s → s.get F.DRU_STATE_STATE = 4 → s.get F.DRU_BRAKE_BRAKE = 1 → ¬ iabs (parkError s) ≤ 256 → s.drum.parkTries < 3 →
    ∃ t, exec .parkPositionCheck s = .next t ∧ t.get F.DRU_BRAKE_BRAKE = 0 ∧ t.drum = { s.drum with parkTries := s.drum.parkTries + 1 } ∧
      KeepsAllRegs (ofFields [F.DRU_BRAKE_BRAKE]) s t ∧ KeepsBytes s t) ∧
  (∀ (s : State) (m : Master) (data : Nat), Running s → MayWrite s m 0x081 → data < 2 ^ 32 →
    ∃ t, exec (.schedSwap m data) s = .next t ∧ t.get F.DRU_SCHED_SELECT_PENDING = 1 ∧ t.get F.DRU_SCHED_SELECT_ACTIVE = s.get F.DRU_SCHED_SELECT_ACTIVE ∧
      KeepsAllRegs (ofFields [F.DRU_SCHED_SELECT_PENDING, F.DRU_SCHED_SELECT_SWAP]) s t ∧ KeepsBytes s t) ∧
  (∀ (s : State) (n e bank L lead : Nat), Running s → s.isMember = false → s.get F.GLB_START_STAGE = 5 → s.get F.DRU_STATE_STATE = 2 → s.get F.DRU_REQ_MODE = 1 →
    s.get F.DRU_REQ_EFF_MODE = 1 → s.get F.DRU_REQ_EFF_RPM ≠ s.get F.DRU_REQ_RPM → n = s.get F.DRU_STATE_FACETS → 2 ≤ n → n ≤ 8 → e = s.get F.DRU_EDGE_ANGLE_E →
    bank = 1 - s.get F.DRU_SCHED_SELECT_ACTIVE → s.pageOwner (0x082 + bank) = 0 → lead = s.get F.DRU_TIMING_RELEASE_LEAD →
    L = Nat.max ((lead * s.get F.DRU_REQ_RPM * 2 ^ 20 + 59999999) / 60000000) ((lead * s.drum.omegaE.toNat + (2 ^ 24 - 1)) / 2 ^ 24) →
    ∃ t, exec (.effectiveEvaluate 0x080) s = .next t ∧ t.get F.DRU_REQ_EFF_RPM = s.get F.DRU_REQ_RPM ∧ t.get F.DRU_SCHED_SELECT_PENDING = 1 ∧ t.get F.DRU_SCHED_SELECT_SWAP = 1 ∧
      t.get F.DRU_SCHED_SELECT_ACTIVE = s.get F.DRU_SCHED_SELECT_ACTIVE ∧
      (∀ f, f < n → ∀ b, b < 12 → ∀ k, k = 12 * f + b → ∀ g : Int, g = 60 * f + 5 * b - 60 - (s.get F.DRU_TIMING_STROBE_LEAD : Nat) →
        (∀ p ∈ [((0 : Int), F.SCHED_WRITE_START_ANGLE bank k), (30, F.SCHED_WRITE_DEADLINE_ANGLE bank k),
            (48, F.SCHED_STROBE_ON_ANGLE bank k), (60, F.SCHED_STROBE_OFF_ANGLE bank k)],
          (t.get p.2 : Int) = ((e : Int) + Int.fdiv ((g + p.1) * 2 ^ 20 + 30 * n) (60 * n)) % 2 ^ 20) ∧
        (t.get (F.SCHED_RELEASE_ANGLE bank k) : Int) = ((t.get (F.SCHED_WRITE_START_ANGLE bank k) : Int) - L) % 2 ^ 20 ∧
        t.get (F.SCHED_CTRL_VALID bank k) = 1 ∧ t.get (F.SCHED_CTRL_ZONE_EN bank k) = 3) ∧
      (∀ f, n ≤ f → f < 8 → ∀ b, b < 12 → t.get (F.SCHED_CTRL_VALID bank (12 * f + b)) = 0) ∧
      Keeps (eitherField (ofPages [0x082 + bank]) (ofFields [F.DRU_REQ_EFF_RPM, F.DRU_REQ_EFF_MODE, F.PAGE_EFF_SEQ 0x080, F.PAGE_EFF_REASON_WORD 0x080,
        F.PAGE_EFF_REASON_REASON 0x080, F.DRU_SCHED_SELECT_PENDING, F.DRU_SCHED_SELECT_SWAP])) s t))

/-- R23, R113, R116, R132, R153, R162, R163, R167, R263, R264 (SUBFRAME_BOUNDARY, PARKED_TICK): a boundary counts its subframe, puts a loaded kernel, a
waiting schedule bank, a taken protected layer and the correction table into force, and begins or ends light-field output; in parked output every tick
with a change refreshes at 60 Hz and gives each serving band its window, and a static tick may pass; a tick outside parked output does nothing. The
model's own choices it rests on: log entries 68, 69, 88. -/
def Obligations.BoundariesAndTicks : Prop :=
  (∀ (s : State), Running s → s.get F.DRU_STATE_PARKED_OUT = 0 →
    ∃ t, exec .subframeBoundary s = .next t ∧ t.drum.subframe = s.drum.subframe + 1 ∧ t.get F.LAY_SUBFRAME_NUMBER = (s.drum.subframe + 1) % 2 ^ 64 ∧
      (∀ k, s.rsy.loaded = some k → t.rsy.kernel = k ∧ t.rsy.loaded = none) ∧ (s.rsy.loaded = none → t.rsy.kernel = s.rsy.kernel) ∧
      (s.get F.DRU_SCHED_SELECT_PENDING = 1 → t.get F.DRU_SCHED_SELECT_ACTIVE = 1 - s.get F.DRU_SCHED_SELECT_ACTIVE ∧
        t.get F.DRU_SCHED_SELECT_PENDING = 0 ∧ t.get F.DRU_SCHED_SELECT_SWAP = 0) ∧
      (s.get F.DRU_SCHED_SELECT_PENDING = 0 → t.get F.DRU_SCHED_SELECT_ACTIVE = s.get F.DRU_SCHED_SELECT_ACTIVE) ∧
      (s.drum.lightNext = some false → t.get F.DRU_STATE_LF_OUT = 0 ∧ t.drum.bands = [] ∧ t.drum.lightNext = none) ∧
      (s.drum.lightNext = some true → predValid s = true → t.get F.DRU_STATE_LF_OUT = 1 ∧ t.drum.bands.length = 12 ∧ t.drum.lightNext = none) ∧
      (s.drum.lightNext = none → t.get F.DRU_STATE_LF_OUT = s.get F.DRU_STATE_LF_OUT ∧ t.drum.bands = s.drum.bands) ∧
      (s.get F.CAL_APPLY_PENDING = 0 → t.drum.corr = (List.range 64).map (fun i => s.getInt (F.DRU_ANGLE_CORR_VALUE i))) ∧ t.drum.plans = s.drum.plans ∧
      (∀ p, s.cmp.protTaken = some p → t.cmp.prot = p ∧ t.get F.CMP_STATUS_PROT_ACTIVE = b2n p.isSome)) ∧
  (∀ (s : State), Running s → s.get F.DRU_STATE_PARKED_OUT = 0 → (∀ m ∈ s.scene.commits, m.taken = false) → (∀ x ∈ s.scene.selections, x.taken = false) →
    s.cmp.taken = [] → s.cmp.told = [] → s.cal.pass = none → s.get F.CAL_STATE_STATE ≠ 1 → s.cal.target.1 = s.get F.DRU_REQ_EFF_RPM →
    s.get F.CAL_APPLY_PENDING = 0 → s.rsy.lens.build = none →
    ∃ t, exec .subframeBoundary s = .next t ∧ t.scene.tiles = s.scene.tiles ∧ t.get F.LAY_DISPLAYED_SET = s.get F.LAY_DISPLAYED_SET ∧
      Keeps (ofPages ([0x050, 0x070, 0x080, 0x081, 0x0A0, 0x0A2, 0x0B0, 0x0DD] ++ (List.range 12).map (fun k => 0x060 + k) ++
        (List.range 12).map (fun b => 0x0D0 + b))) s t) ∧
  (∀ (s : State), Running s → s.get F.DRU_STATE_PARKED_OUT = 1 → s.pnl.step = 0 → tickStatic s = false →
    ∃ t, exec .parkedTick s = .next t ∧ t.drum.subframe = s.drum.subframe + 1 ∧ t.drum.facet = 0 ∧ t.get F.PNL_LR_STATE_DIVISOR = 1 ∧
      (s.get F.DRU_SCHED_SELECT_PENDING = 1 → t.get F.DRU_SCHED_SELECT_ACTIVE = 1 - s.get F.DRU_SCHED_SELECT_ACTIVE ∧ t.get F.DRU_SCHED_SELECT_PENDING = 0) ∧
      t.get F.PNL_LR_STATE_HZ = 60 ∧ t.pnl.staticSince = none ∧ t.pnl.skipped = 0 ∧ t.pnl.changed = false ∧
      (∀ b, b < 12 → s.get (F.PNL_PORT_STATE_STATE b) = 4 → ∃ p ∈ t.drum.plans, p.band = b ∧ p.mode = 1 ∧ p.subframe = s.drum.subframe + 1 ∧ p.zoneEn = 3)) ∧
  (∀ (s : State), Running s → s.get F.DRU_STATE_PARKED_OUT = 1 → s.pnl.step = 0 → tickStatic s = true → s.get F.PNL_LR_CTRL_EN = 1 →
    s.pnl.staticSince = some s.now → 1 ≤ s.get F.PNL_LR_CTRL_DWELL_MS → s.pnl.skipped + 1 < s.get F.PNL_LR_STATE_DIVISOR →
    s.get F.PNL_LR_STATE_HZ = 60 / s.get F.PNL_LR_STATE_DIVISOR →
    ∃ t, exec .parkedTick s = .next t ∧ t.drum = s.drum ∧ t.pnl = { s.pnl with skipped := s.pnl.skipped + 1 } ∧ KeepsAllRegs noField s t ∧ KeepsBytes s t) ∧
  (∀ (s : State), Running s → s.get F.DRU_STATE_PARKED_OUT = 0 ∨ s.pnl.step ≠ 0 →
    ∃ t, exec .parkedTick s = .next t ∧ t.drum = s.drum ∧ t.pnl = s.pnl ∧ KeepsAllRegs noField s t ∧ KeepsBytes s t)

/-- R175 to R178, R181, R189, R190 (CSI_FRAME_START, CSI_FRAME_END, CSI_LINE, CSI_EMBEDDED, CSI_GENERIC, CAM_TRIGGER): a listening port's frame start
opens the frame of its oldest waiting trigger, or the next number, in its next free slot, and is dropped and counted where it cannot; sound lines are
stored in order, a damaged one as the line before it and flagged; the frame end closes the frame, short of lines as SHORT; embedded data and generic
packets are kept; a trigger takes a number. The model's own choices it rests on: log entries 73, 74, 76. -/
def Obligations.CameraPacketsBuildFrames : Prop :=
  (∀ (s : State) (p k number : Nat) (h : CsiHead) (w : Nat × Nat × ExpSet) (rest : List (Nat × Nat × ExpSet)), Running s → p < 8 → s.cams.ports.length = 8 →
    listens s p = true → h.ecc = 0 → h.vc = s.get (F.CAM_CFG_VC p) → s.get (F.CAM_CFG_TRIGGERED p) = 1 → openFrame (s.cam p) = none →
    (s.cam p).waiting = w :: rest → dedicatedAway s p = false → claimSlot s p = some k → s.get (F.CAM_TAP_MODE p) = 0 → s.get F.ERR_INJECT_ARM = 0 →
    ∃ t f, exec (.csiFrameStart p h number) s = .next t ∧ (t.cam p).frames = (s.cam p).frames ++ [f] ∧ f.number = w.1 ∧ f.slot = k ∧ f.csi = number ∧
      f.trigger = w.2.1 ∧ f.set = w.2.2 ∧ f.sof = s.now ∧ f.width = s.get (F.CAM_GEOM_WIDTH p) ∧ f.height = s.get (F.CAM_GEOM_HEIGHT p) ∧ f.lines = [] ∧
      f.done = 0 ∧ f.closed = false ∧ (t.cam p).waiting = rest ∧ (t.cam p).lastSlot = some k ∧ (t.cam p).skip = false ∧
      t.get (F.CAM_RING_FULL_SLOT p) = withBit (s.get (F.CAM_RING_FULL_SLOT p)) k % 2 ^ 16 ∧
      (∀ i, i < 4 → dramBehind s (camSlotAddr s p k + 0x3C) 4 = true →
        memGet t.mem.dram (camSlotAddr s p k + 0x3C + i) = (leBytes 4 (2 ^ 32 - 1 - w.1)).getD i 0) ∧
      (∀ x, x < camSlotAddr s p k + 0x3C ∨ camSlotAddr s p k + 0x40 ≤ x → memGet t.mem.dram x = memGet s.mem.dram x) ∧
      KeepsAllRegs (ofFields [F.CAM_RING_FULL_SLOT p]) s t) ∧
  (∀ (s : State) (p k number : Nat) (h : CsiHead), Running s → p < 8 → s.cams.ports.length = 8 → listens s p = true → h.ecc = 0 →
    h.vc = s.get (F.CAM_CFG_VC p) → s.get (F.CAM_CFG_TRIGGERED p) = 0 → openFrame (s.cam p) = none → (s.cam p).posted = none → (s.cam p).latched = [] →
    dedicatedAway s p = false → claimSlot s p = some k → s.get (F.CAM_TAP_MODE p) = 0 → s.get F.ERR_INJECT_ARM = 0 →
    ∃ t f, exec (.csiFrameStart p h number) s = .next t ∧ (t.cam p).frames = (s.cam p).frames ++ [f] ∧ f.number = (s.cam p).next ∧ f.slot = k ∧
      f.set = (s.cam p).force ∧ f.trigger = 0 ∧ f.closed = false ∧ (t.cam p).next = ((s.cam p).next + 1) % 2 ^ 32 ∧
      KeepsAllRegs (ofFields [F.CAM_RING_FULL_SLOT p, F.CAM_EXP_STATE_IN_FORCE p, F.CAM_EXP_STATE_LATCHED p, F.CAM_EXP_STATE_POSTED p,
        F.CAM_EXP_STATE_WRITING p]) s t) ∧
  (∀ (s : State) (p n number : Nat) (h : CsiHead), Running s → p < 8 → s.cams.ports.length = 8 → listens s p = true → h.ecc = 0 →
    h.vc = s.get (F.CAM_CFG_VC p) → s.get (F.CAM_CFG_TRIGGERED p) = 1 → openFrame (s.cam p) = none →
    ((n = 6 ∧ (s.cam p).waiting = []) ∨ (n = 11 ∧ (s.cam p).waiting ≠ [] ∧ dedicatedAway s p = true) ∨
      (n = 10 ∧ (s.cam p).waiting ≠ [] ∧ dedicatedAway s p = false ∧ claimSlot s p = none)) →
    ∃ t, exec (.csiFrameStart p h number) s = .next t ∧ (t.cam p).frames = (s.cam p).frames ∧ (t.cam p).skip = true ∧
      t.get (F.CAM_COUNT_COUNT p n) = satAdd 32 (s.get (F.CAM_COUNT_COUNT p n)) 1 ∧ (n = 10 → hasBit (t.get (F.IRQ_RAW (0x090 + p))) 4 = true) ∧
      Keeps (ofFields [F.CAM_COUNT_COUNT p n]) s t) ∧
  (∀ (s : State) (p : Nat) (h : CsiHead) (f : CamFrame), Running s → p < 8 → s.cams.ports.length = 8 → listens s p = true → h.ecc = 0 →
    h.vc = s.get (F.CAM_CFG_VC p) → (s.cam p).skip = false → openFrame (s.cam p) = some f → f.done < f.lines.length → hasBit f.flags 0 = false →
    hasBit f.flags 2 = false → (s.cam p).frames.find? (fun g => decide (g.number = f.number)) = some f →
    ∃ t g, exec (.csiFrameEnd p h) s = .next t ∧ g ∈ (t.cam p).frames ∧ g.number = f.number ∧ g.closed = true ∧ g.eof = s.now ∧ g.lines = f.lines ∧
      (f.height ≤ f.arrived → g.flags = f.flags ∧ KeepsAllRegs noField s t) ∧
      (f.arrived < f.height → g.flags = withBit f.flags 2 ∧ t.get (F.CAM_COUNT_COUNT p 3) = satAdd 32 (s.get (F.CAM_COUNT_COUNT p 3)) 1) ∧
      KeepsAllRegs (ofFields [F.CAM_COUNT_COUNT p 3]) s t ∧ KeepsBytes s t) ∧
  (∀ (s : State) (p dt : Nat) (h : CsiHead) (crcOk good : Bool) (samples : List Nat) (f : CamFrame), Running s → p < 8 → s.cams.ports.length = 8 →
    listens s p = true → h.ecc = 0 → h.vc = s.get (F.CAM_CFG_VC p) → (s.cam p).skip = false → openFrame (s.cam p) = some f →
    dt = 0x2A + s.get (F.CAM_CFG_FORMAT p) → hasBit f.flags 0 = false → hasBit f.flags 1 = false → f.lines.length < f.height → linesHeld (s.cam p) < 256 →
    good = (crcOk && decide (samples.length = f.width)) →
    ∃ t g, exec (.csiLine p h dt crcOk samples) s = .next t ∧ g ∈ (t.cam p).frames ∧ g.number = f.number ∧ g.arrived = f.arrived + 1 ∧ g.closed = false ∧
      g.lines = f.lines ++ [(if good then samples else (f.lines.getLast?.map Prod.fst).getD (List.replicate f.width 0), !good)] ∧
      (good = true → g.flags = f.flags ∧ g.badLines = f.badLines ∧ KeepsAllRegs noField s t) ∧
      (good = false → g.flags = withBit f.flags 1 ∧ g.badLines = f.badLines + 1 ∧ hasBit (t.get (F.IRQ_RAW (0x090 + p))) 2 = true ∧
        t.get (F.CAM_COUNT_COUNT p 2) = satAdd 32 (s.get (F.CAM_COUNT_COUNT p 2)) 1 ∧
        t.get (F.CAM_COUNT_COUNT p 9) = satAdd 32 (s.get (F.CAM_COUNT_COUNT p 9)) 1) ∧
      Keeps (ofFields [F.CAM_COUNT_COUNT p 2, F.CAM_COUNT_COUNT p 9]) s t) ∧
  (∀ (s : State) (p : Nat) (h : CsiHead) (bytes : List Byte) (f : CamFrame), Running s → p < 8 → s.cams.ports.length = 8 → listens s p = true → h.ecc = 0 →
    h.vc = s.get (F.CAM_CFG_VC p) → (s.cam p).skip = false → openFrame (s.cam p) = some f → s.get F.ERR_INJECT_ARM = 0 →
    ∃ t g, exec (.csiEmbedded p h bytes) s = .next t ∧ g ∈ (t.cam p).frames ∧ g.number = f.number ∧
      g.embed = f.embed ++ bytes.take (768 - f.embed.length) ∧
      (∀ x, x < camSlotAddr s p f.slot + 0x100 + f.embed.length ∨ camSlotAddr s p f.slot + 0x100 + g.embed.length ≤ x →
        memGet t.mem.dram x = memGet s.mem.dram x) ∧ KeepsAllRegs noField s t) ∧
  (∀ (s : State) (p dt value : Nat) (h : CsiHead), Running s → p < 8 → listens s p = true → h.ecc < 2 → h.vc = s.get (F.CAM_CFG_VC p) →
    ∃ t, exec (.csiGeneric p h dt value) s = .next t ∧ t.get (F.CAM_LAST_GENERIC_DT p) = 8 + dt % 8 ∧
      t.get (F.CAM_LAST_GENERIC_VALUE p) = value % 2 ^ 16 ∧
      (h.ecc = 1 → t.get (F.CAM_COUNT_COUNT p 7) = satAdd 32 (s.get (F.CAM_COUNT_COUNT p 7)) 1) ∧
      (h.ecc = 0 → t.get (F.CAM_COUNT_COUNT p 7) = s.get (F.CAM_COUNT_COUNT p 7)) ∧ t.cams = s.cams ∧
      KeepsAllRegs (ofFields [F.CAM_LAST_GENERIC_DT p, F.CAM_LAST_GENERIC_VALUE p, F.CAM_COUNT_COUNT p 7]) s t ∧ KeepsBytes s t) ∧
  (∀ (s : State) (p dt value : Nat) (h : CsiHead), Running s → p < 8 → listens s p = true → 2 ≤ h.ecc ∨ (h.ecc = 0 ∧ h.vc ≠ s.get (F.CAM_CFG_VC p)) →
    ∃ t, exec (.csiGeneric p h dt value) s = .next t ∧ t.get (F.CAM_COUNT_COUNT p 8) = satAdd 32 (s.get (F.CAM_COUNT_COUNT p 8)) 1 ∧ t.cams = s.cams ∧
      KeepsAllRegs (ofFields [F.CAM_COUNT_COUNT p 8]) s t ∧ KeepsBytes s t) ∧
  (∀ (s : State) (p a b : Nat) (h : CsiHead) (crcOk : Bool) (samples : List Nat) (bytes : List Byte) (c : Instr), Running s → p < 8 → listens s p = false →
    c = .csiFrameStart p h a ∨ c = .csiFrameEnd p h ∨ c = .csiLine p h a crcOk samples ∨ c = .csiEmbedded p h bytes ∨ c = .csiGeneric p h a b →
    ∃ t, exec c s = .next t ∧ t.cams = s.cams ∧ KeepsAllRegs noField s t ∧ KeepsBytes s t) ∧
  (∀ (s : State) (p : Nat), Running s → p < 8 → s.cams.ports.length = 8 → camRuns s p = true → s.get (F.CAM_CFG_TRIGGERED p) = 1 →
    ∃ t, exec (.camTrigger p) s = .next t ∧ (t.cam p).waiting = (s.cam p).waiting ++ [((s.cam p).next, s.now, (t.cam p).force)] ∧
      (t.cam p).next = ((s.cam p).next + 1) % 2 ^ 32 ∧ (t.cam p).posted = none ∧ (t.cam p).frames = (s.cam p).frames ∧
      KeepsAllRegs (ofFields [F.CAM_EXP_STATE_IN_FORCE p, F.CAM_EXP_STATE_LATCHED p, F.CAM_EXP_STATE_POSTED p, F.CAM_EXP_STATE_WRITING p]) s t ∧
      KeepsBytes s t)

/-- R177, R178, R179, R185, R187, R189, R194, R195, R197 (FRAME_TIMEOUT, LINE_TIMEOUT, TEST_PATTERN_LINE, CAM_ENABLE, RING_SLOT_RELEASE, STRIPE_START,
STRIPE_COMPLETE): a missing frame's trigger is dropped and counted, a frame without packets closes as SHORT, the generator's lines follow its pattern,
an enabled port starts at frame 0, released slots are free unless a frame still holds them, and an idle pipeline takes the next ready stripe and ends
with its lines processed. The model's own choices it rests on: log entries 29, 74, 75. -/
def Obligations.CameraPortsAndPipelines : Prop :=
  (∀ (s : State) (p : Nat) (w : Nat × Nat × ExpSet) (rest : List (Nat × Nat × ExpSet)), Running s → p < 6 → s.cams.ports.length = 8 →
    (s.cam p).waiting = w :: rest →
    ∃ t, exec (.frameTimeout p) s = .next t ∧ (t.cam p).waiting = rest ∧ (t.cam p).frames = (s.cam p).frames ∧
      t.get (F.CAM_COUNT_COUNT p 5) = satAdd 32 (s.get (F.CAM_COUNT_COUNT p 5)) 1 ∧ hasBit (t.get (F.IRQ_RAW (0x090 + p))) 1 = true ∧
      Keeps (ofFields [F.CAM_COUNT_COUNT p 5]) s t) ∧
  (∀ (s : State) (p : Nat) (f : CamFrame), Running s → p < 8 → s.cams.ports.length = 8 → openFrame (s.cam p) = some f → hasBit f.flags 2 = false →
    f.done < f.lines.length → (s.cam p).frames.find? (fun g => decide (g.number = f.number)) = some f →
    ∃ t g, exec (.lineTimeout p) s = .next t ∧ g ∈ (t.cam p).frames ∧ g.number = f.number ∧ g.closed = true ∧ g.flags = withBit f.flags 2 ∧
      t.get (F.CAM_COUNT_COUNT p 3) = satAdd 32 (s.get (F.CAM_COUNT_COUNT p 3)) 1 ∧ KeepsAllRegs (ofFields [F.CAM_COUNT_COUNT p 3]) s t ∧ KeepsBytes s t) ∧
  (∀ (s : State) (p : Nat) (c : Instr), Running s → p < 8 →
    (c = .frameTimeout p ∧ (s.cam p).waiting = []) ∨ (c = .lineTimeout p ∧ openFrame (s.cam p) = none) ∨
      (c = .testPatternLine p ∧ (camRuns s p = false ∨ s.get (F.CAM_TEST_PATTERN p) = 0)) ∨
      (c = .camTrigger p ∧ (camRuns s p = false ∨ s.get (F.CAM_CFG_TRIGGERED p) = 0)) →
    ∃ t, exec c s = .next t ∧ t.cams = s.cams ∧ KeepsAllRegs noField s t ∧ KeepsBytes s t) ∧
  (∀ (s : State) (p n y v : Nat) (f : CamFrame), Running s → p < 8 → s.cams.ports.length = 8 → camRuns s p = true → s.get (F.CAM_TEST_PATTERN p) ≠ 0 →
    (s.cam p).gen = some (n, y, v) → y < s.get (F.CAM_GEOM_HEIGHT p) → s.get (F.CAM_TEST_ECC_1BIT p) = 0 → s.get (F.CAM_TEST_CRC_ERR p) = 0 →
    (s.cam p).skip = false → openFrame (s.cam p) = some f → hasBit f.flags 0 = false → f.lines.length < f.height → linesHeld (s.cam p) < 256 →
    f.width = s.get (F.CAM_GEOM_WIDTH p) →
    ∃ t g, exec (.testPatternLine p) s = .next t ∧ (t.cam p).gen = some (n, y + 1, (patternLine s p n y v).2) ∧ g ∈ (t.cam p).frames ∧
      g.number = f.number ∧ g.lines = f.lines ++ [((patternLine s p n y v).1, false)] ∧ KeepsAllRegs noField s t ∧ KeepsBytes s t) ∧
  (∀ (s : State) (m : Master) (p data : Nat), Running s → p < 8 → s.cams.ports.length = 8 → MayWrite s m (0x090 + p) → data < 2 ^ 32 →
    s.get (F.CAM_CFG_ENABLE p) = 0 → data / 2 ^ 29 % 4 ≤ 2 → data / 2 ^ 25 % 4 ≤ 2 → 1 ≤ data / 2 ^ 18 % 4 →
    ∃ t, exec (.camEnable m p data) s = .next t ∧ t.get (F.CAM_CFG_ENABLE p) = 1 ∧ t.get (F.CAM_CFG_LANES p) = data / 2 ^ 29 % 4 ∧
      t.get (F.CAM_CFG_FORMAT p) = data / 2 ^ 25 % 4 ∧ t.get (F.CAM_CFG_TRIGGERED p) = data / 2 ^ 17 % 2 ∧
      t.get (F.CAM_CFG_EXP_LATENCY p) = data / 2 ^ 18 % 4 ∧ (t.cam p).next = 0 ∧ (t.cam p).waiting = [] ∧ (t.cam p).latched = [] ∧
      (t.cam p).force.id = 0xFF ∧ t.free = s.free + 2 ∧
      (s.get (F.CAM_CFG_SENSOR_RST p) ≠ data / 2 ^ 12 % 2 → Output.pin 2 p (1 - data / 2 ^ 12 % 2) ∈ t.out) ∧
      KeepsAllRegs (fun k => decide (k / 512 = 0x90100 + 0x1000 * p) || decide (k / 512 = 0x90118 + 0x1000 * p)) s t ∧ KeepsBytes s t) ∧
  (∀ (s : State) (m : Master) (p data : Nat), Running s → p < 8 → MayWrite s m (0x090 + p) → data < 2 ^ 16 →
    ∃ t, exec (.ringSlotRelease m p data) s = .next t ∧
      (∀ k, k < 16 → hasBit (t.get (F.CAM_RING_FULL_SLOT p)) k =
        (hasBit (s.get (F.CAM_RING_FULL_SLOT p)) k && (!hasBit data k || (s.cam p).frames.any (fun f => decide (f.slot = k))))) ∧ t.cams = s.cams ∧
      KeepsAllRegs (ofFields [F.CAM_RING_FULL_SLOT p]) s t ∧ KeepsBytes s t) ∧
  (∀ (s : State) (i p : Nat) (f : CamFrame), Running s → i < 2 → s.cams.pipes.length = 2 → (s.pipe i).running = none →
    (pipeOrder s i).findSome? (fun p => (readyFrame s i p).map (fun f => (p, f))) = some (p, f) → p < 8 →
    ∃ t, exec (.stripeStart i) s = .next t ∧ (t.pipe i).running = some (p, f.number, f.done / 64, s.now) ∧ (t.pipe i).last = some p ∧
      t.get (F.IPP_STATUS_BUSY i) = 1 ∧ t.get (F.IPP_STATUS_PORT i) = p ∧
      (∀ q, (s.pipe i).last = some q → q ≠ p → t.get (F.IPP_SWITCHES_COUNT i) = satAdd 32 (s.get (F.IPP_SWITCHES_COUNT i)) 1) ∧
      ((s.pipe i).last = none ∨ (s.pipe i).last = some p → t.get (F.IPP_SWITCHES_COUNT i) = s.get (F.IPP_SWITCHES_COUNT i)) ∧
      (s.get (F.CAM_CFG_CLASS p) = 0 → t.get (F.IPP_WAIT_MAX_NS i) =
        Nat.max (s.get (F.IPP_WAIT_MAX_NS i)) ((s.now - (assoc f.readyAt (f.done / 64)).getD s.now) % 2 ^ 32)) ∧
      KeepsAllRegs (ofFields [F.IPP_STATUS_BUSY i, F.IPP_STATUS_PORT i, F.IPP_SWITCHES_COUNT i, F.IPP_WAIT_MAX_NS i]) s t ∧ KeepsBytes s t) ∧
  (∀ (s : State) (i : Nat), Running s → i < 2 → (s.pipe i).running.isSome = true ∨ (∀ p ∈ pipeOrder s i, readyFrame s i p = none) →
    ∃ t, exec (.stripeStart i) s = .next t ∧ t.cams = s.cams ∧ KeepsAllRegs noField s t ∧ KeepsBytes s t) ∧
  (∀ (s : State) (i p n k began : Nat) (f : CamFrame), Running s → i < 2 → p < 8 → s.cams.pipes.length = 2 → s.cams.ports.length = 8 →
    (s.pipe i).running = some (p, n, k, began) → (s.cam p).frames.find? (fun f => decide (f.number = n)) = some f → f.done ≤ f.lines.length →
    f.closed = false ∨ f.done + 64 < f.lines.length → s.get (F.CAM_DEFECT_ADDR_COUNT p) = 0 → s.get (F.CAM_SHADING_ADDR_ADDR p) = 0 →
    s.get F.ERR_INJECT_ARM = 0 → s.get (F.IPP_STATUS_MODE i) = s.get (F.IPP_MODE_MODE i) →
    s.get (F.IPP_MODE_MODE i) ≠ 2 ∨ (s.pipe i).port = s.get (F.IPP_MODE_PORT i) →
    ∃ t g, exec (.stripeComplete i) s = .next t ∧ (t.pipe i).running = none ∧ g ∈ (t.cam p).frames ∧ g.number = n ∧
      g.done = Nat.min (f.done + 64) f.lines.length ∧ g.lines = f.lines ∧ t.get (F.IPP_STATUS_BUSY i) = 0 ∧
      t.get (F.IPP_STRIPES_COUNT i) = satAdd 32 (s.get (F.IPP_STRIPES_COUNT i)) 1 ∧
      (∀ x, (x < camSlotAddr s p f.slot + 0x24 ∨ camSlotAddr s p f.slot + 0x26 ≤ x) →
        (∀ y, f.done ≤ y → y < g.done → x < camSlotAddr s p f.slot + 0x1000 + y * s.get (F.CAM_OUT_PITCH p) ∨
          camSlotAddr s p f.slot + 0x1000 + y * s.get (F.CAM_OUT_PITCH p) +
            f.width * ((if s.get (F.CAM_CFG_COLOUR p) = 0 then 1 else 3) * (if s.get (F.CAM_OUT_WIDTH16 p) = 0 then 1 else 2)) ≤ x) →
        memGet t.mem.dram x = memGet s.mem.dram x) ∧
      KeepsAllRegs (ofFields [F.IPP_STATUS_BUSY i, F.IPP_STRIPES_COUNT i]) s t)

/-- R179 to R183, R196 (EXP_SET_POST, I2C_CMD, I2C_TRANSACTION_DONE, I2C_STRETCH_TIMEOUT): a posted exposure set waits for its frame, and replaces one
that waits, which is counted; a command starts on an idle controller, or waits; a transaction that ends shows its status and bytes, completes one
write of its set, or abandons the set. The model's own choices it rests on: log entries 74, 75. -/
def Obligations.ExposureSetsAndI2c : Prop :=
  (∀ (s : State) (m : Master) (p id exposure gain : Nat), Running s → p < 8 → s.cams.ports.length = 8 → MayWrite s m (0x090 + p) → id ≤ 254 →
    exposure < 2 ^ 24 → 0x1000 ≤ gain → gain < 2 ^ 16 →
    ∃ t, exec (.expSetPost m p (id + exposure * 2 ^ 8 + gain * 2 ^ 32)) s = .next t ∧ (t.cam p).posted = some ⟨id, exposure, gain, 0, 0, false⟩ ∧
      t.get (F.CAM_EXP_SET_ID p) = id ∧ t.get (F.CAM_EXP_SET_EXPOSURE p) = exposure ∧ t.get (F.CAM_EXP_SET_GAIN p) = gain ∧
      t.get (F.CAM_EXP_STATE_POSTED p) = id ∧
      ((s.cam p).posted = none → t.get (F.CAM_COUNT_COUNT p 12) = s.get (F.CAM_COUNT_COUNT p 12)) ∧
      ((s.cam p).posted ≠ none → t.get (F.CAM_COUNT_COUNT p 12) = satAdd 32 (s.get (F.CAM_COUNT_COUNT p 12)) 1) ∧
      KeepsAllRegs (ofFields [F.CAM_EXP_SET_ID p, F.CAM_EXP_SET_EXPOSURE p, F.CAM_EXP_SET_GAIN p, F.CAM_EXP_STATE_IN_FORCE p, F.CAM_EXP_STATE_LATCHED p,
        F.CAM_EXP_STATE_POSTED p, F.CAM_EXP_STATE_WRITING p, F.CAM_COUNT_COUNT p 12]) s t ∧ KeepsBytes s t) ∧
  (∀ (s : State) (m : Master) (k data : Nat) (j : I2cJob), Running s → k < 4 → s.cams.i2c.length = 4 → MayWrite s m (0x090 + 2 * k) → data < 2 ^ 32 →
    data / 2 ^ 12 % 16 ≤ 8 → data / 2 ^ 8 % 16 ≤ 8 →
    j = ⟨data / 2 ^ 24 % 2, none, data / 2 ^ 17 % 128, (leBytes (data / 2 ^ 12 % 16) (s.get (F.CAM_I2C_DATA_DATA (2 * k)))).map (fun b => b.toNat), data / 2 ^ 8 % 16⟩ →
    ∃ t, exec (.i2cCmd m k data) s = .next t ∧ t.get (F.CAM_I2C_CMD_BUSY (2 * k)) = 1 ∧
      (∀ x, s.cams.i2c[k]? = some x → x.running = none → x.exposure = [] →
        t.cams.i2c[k]? = some { x with running := some j, command := none } ∧ t.out = s.out ++ [.i2c k j.bus j.addr j.wr j.rlen]) ∧
      (∀ x, s.cams.i2c[k]? = some x → x.running ≠ none → t.cams.i2c[k]? = some { x with command := some j } ∧ t.out = s.out) ∧
      KeepsAllRegs (fun key => decide (key / 512 = 0x90204 + 0x2000 * k)) s t ∧ KeepsBytes s t) ∧
  (∀ (s : State) (k status : Nat) (bytes : List Byte) (j : I2cJob) (x : I2c) (c : Instr), Running s → k < 4 → s.cams.i2c[k]? = some x → x.running = some j →
    j.set = none → x.exposure = [] → x.command = none → j.rlen ≤ 8 → (c = .i2cTransactionDone k status bytes ∧ status < 6) ∨ (c = .i2cStretchTimeout k ∧ status = 4) →
    ∃ t, exec c s = .next t ∧ t.get (F.CAM_I2C_STATUS_CODE (2 * k)) = status ∧ t.get (F.CAM_I2C_CMD_BUSY (2 * k)) = 0 ∧
      hasBit (t.get (F.IRQ_RAW (0x090 + 2 * k))) 5 = true ∧
      (status = 0 → t.get (F.CAM_I2C_DATA_DATA (2 * k)) =
        withBits (s.get (F.CAM_I2C_DATA_DATA (2 * k))) 0 (8 * (bytes.take j.rlen).length) (leNat (bytes.take j.rlen)) % 2 ^ 64) ∧
      (status ≠ 0 → t.get (F.CAM_I2C_DATA_DATA (2 * k)) = s.get (F.CAM_I2C_DATA_DATA (2 * k))) ∧
      t.cams.i2c[k]? = some { x with running := none } ∧
      Keeps (ofFields [F.CAM_I2C_STATUS_CODE (2 * k), F.CAM_I2C_DATA_DATA (2 * k), F.CAM_I2C_CMD_BUSY (2 * k)]) s t) ∧
  (∀ (s : State) (k p n status : Nat) (bytes : List Byte) (j : I2cJob) (x : I2c), Running s → k < 4 → s.cams.i2c[k]? = some x → x.running = some j →
    j.set = some (p, n) → p < 8 → s.cams.ports.length = 8 → status < 6 →
    ∃ t, exec (.i2cTransactionDone k status bytes) s = .next t ∧
      (status = 0 → (t.cam p).latched = (s.cam p).latched.map (fun e => if e.frame = n then { e with writes := e.writes - 1 } else e)) ∧
      (status ≠ 0 → (t.cam p).latched = (s.cam p).latched.filter (fun e => !decide (e.frame = n)) ∧
        t.get (F.CAM_COUNT_COUNT p 13) = satAdd 32 (s.get (F.CAM_COUNT_COUNT p 13)) 1 ∧ hasBit (t.get (F.IRQ_RAW (0x090 + p))) 3 = true) ∧
      Keeps (ofFields [F.CAM_EXP_STATE_IN_FORCE p, F.CAM_EXP_STATE_LATCHED p, F.CAM_EXP_STATE_POSTED p, F.CAM_EXP_STATE_WRITING p, F.CAM_COUNT_COUNT p 13]) s t) ∧
  (∀ (s : State) (k status : Nat) (bytes : List Byte) (x : I2c) (c : Instr), Running s → k < 4 → s.cams.i2c[k]? = some x → x.running = none →
    c = .i2cTransactionDone k status bytes ∨ c = .i2cStretchTimeout k →
    ∃ t, exec c s = .next t ∧ t.cams = s.cams ∧ KeepsAllRegs noField s t ∧ KeepsBytes s t)

/-- R143, R198, R199, R201 to R207, R213, R214 (DETECTION_DONE, FUSION_UPDATE, TRACK_LOST_TIMEOUT, COAST_EXPIRY, OWNER_REASSIGN, ZONE_UNOBSERVED,
TRACKING_FRAME_TIMEOUT): a used frame of a port counts for TRACKING and an unusable one does not; an observation updates the eye it matches, a late
one is counted and dropped, an unmatched one begins a candidate, and a confirmed candidate takes the lowest free slot; lost viewers coast, expired
ones are released; every change publishes an edition. The model's own choices it rests on: log entries 14, 61. -/
def Obligations.ViewersAreTracked : Prop :=
  (∀ (s : State) (port setId : Nat) (uncertain : Bool) (found : List Detection) (at' : Nat × Nat), Running s → port < 6 → setId ≠ 0xFF →
    assoc s.rsy.duties port = some (some at') → port ∉ s.dmc.lostModels →
    ∃ t, exec (.detectionDone port false setId uncertain found) s = .next t ∧ t.roster = { s.roster with used := insertNat s.roster.used port } ∧
      t.get (F.VWB_COUNT_COUNT 3) = satAdd 32 (s.get (F.VWB_COUNT_COUNT 3)) ((weighDetections uncertain found).length - 64) ∧
      t.get F.VWB_STATUS_TRACKING = (if assoc s.rsy.duties 6 = some none then 0 else Nat.min (insertNat s.roster.used port).length 2) ∧
      (t.get F.VWB_STATUS_TRACKING ≠ s.get F.VWB_STATUS_TRACKING → hasBit (t.get (F.IRQ_RAW 0x0A0)) 3 = true) ∧
      Keeps (ofFields [F.VWB_COUNT_COUNT 3, F.VWB_STATUS_TRACKING]) s t) ∧
  (∀ (s : State) (port setId : Nat) (unusable uncertain : Bool) (found : List Detection), Running s →
    unusable = true ∨ setId = 0xFF ∨ 6 ≤ port ∨ port ∈ s.dmc.lostModels ∨ assoc s.rsy.duties port = some none ∨ assoc s.rsy.duties port = none →
    ∃ t, exec (.detectionDone port unusable setId uncertain found) s = .next t ∧ t.roster = s.roster ∧ KeepsAllRegs noField s t ∧ KeepsBytes s t) ∧
  (∀ (s : State) (port : Nat), Running s →
    ∃ t, exec (.trackingFrameTimeout port) s = .next t ∧ t.roster = { s.roster with used := s.roster.used.filter (fun p => !decide (p = port)) } ∧
      t.get F.VWB_STATUS_TRACKING = (if assoc s.rsy.duties 6 = some none then 0 else Nat.min (s.roster.used.filter (fun p => !decide (p = port))).length 2) ∧
      Keeps (ofFields [F.VWB_STATUS_TRACKING]) s t) ∧
  (∀ (s : State) (x y z : Int) (trigger period cameras slot : Nat) (r : EyeRef) (v : Viewer) (e : EyeEst), Running s → assoc s.rsy.duties 6 ≠ some none →
    s.role = 0 → matchEye s x y z trigger = some r → r.eye.te - (period : Int) ≤ (trigger : Int) → r.who = .viewer slot →
    s.roster.viewers.find? (fun v => decide (v.slot = slot)) = some v → 2 ≤ cameras → (∀ p ∈ s.roster.candidates, p.frames < s.get F.VWB_TRACK_CFG_CONFIRM) →
    (∀ w ∈ s.roster.viewers, w.coasting = false) → e = fuse r.eye x y z trigger cameras →
    ∃ t, exec (.fusionUpdate x y z trigger period cameras) s = .next t ∧
      t.roster.viewers = s.roster.viewers.map (fun w => if w.slot = slot then
        (if r.right then { w with right := some e, last := max w.last (trigger : Int) } else { w with left := some e, last := max w.last (trigger : Int) }) else w) ∧
      (t.roster.viewers ≠ s.roster.viewers → t.roster.edition = t.roster.viewers ∧ t.get F.VWB_EDITION_COUNT = (s.get F.VWB_EDITION_COUNT + 1) % 2 ^ 32) ∧
      t.roster.candidates = s.roster.candidates ∧ Keeps (ofPages [0x0A0]) s t) ∧
  (∀ (s : State) (x y z : Int) (trigger period cameras : Nat) (r : EyeRef), Running s → assoc s.rsy.duties 6 ≠ some none →
    matchEye s x y z trigger = some r → (trigger : Int) < r.eye.te - (period : Int) →
    ∃ t, exec (.fusionUpdate x y z trigger period cameras) s = .next t ∧ t.roster = s.roster ∧
      t.get (F.VWB_COUNT_COUNT 4) = satAdd 32 (s.get (F.VWB_COUNT_COUNT 4)) 1 ∧ KeepsAllRegs (ofFields [F.VWB_COUNT_COUNT 4]) s t ∧ KeepsBytes s t) ∧
  (∀ (s : State) (x y z : Int) (trigger period cameras : Nat) (e : EyeEst), Running s → assoc s.rsy.duties 6 ≠ some none → s.role = 0 →
    matchEye s x y z trigger = none → 2 ≤ cameras → e = ⟨x, y, z, 0, 0, 0, trigger⟩ → (∀ v ∈ s.roster.viewers, pairWith v.left v.right e = none ∧ v.coasting = false) →
    (∀ p ∈ s.roster.candidates, pairWith p.left p.right e = none ∧ p.frames < s.get F.VWB_TRACK_CFG_CONFIRM) → 1 < s.get F.VWB_TRACK_CFG_CONFIRM →
    ∃ t, exec (.fusionUpdate x y z trigger period cameras) s = .next t ∧
      t.roster.candidates = (insertPerson ⟨some e, none, 1, trigger⟩ s.roster.candidates).take 16 ∧ t.roster.viewers = s.roster.viewers ∧
      Keeps (ofPages [0x0A0]) s t) ∧
  (∀ (s : State) (x y z : Int) (trigger period cameras i k : Nat) (r : EyeRef) (p q : Person), Running s → assoc s.rsy.duties 6 ≠ some none → s.role = 0 →
    matchEye s x y z trigger = some r → r.eye.te - (period : Int) ≤ (trigger : Int) → r.who = .candidate i → s.roster.candidates[i]? = some p → 2 ≤ cameras →
    q = (p.setEye r.right (fuse r.eye x y z trigger cameras)).seenIn trigger period cameras → s.get F.VWB_TRACK_CFG_CONFIRM ≤ q.frames →
    (∀ j p', s.roster.candidates[j]? = some p' → j ≠ i → p'.frames < s.get F.VWB_TRACK_CFG_CONFIRM) → freeSlot s = some k →
    (∀ w ∈ s.roster.viewers, w.coasting = false) →
    ∃ t, exec (.fusionUpdate x y z trigger period cameras) s = .next t ∧
      t.roster.viewers = s.roster.viewers ++ [⟨k, nextId s.roster.lastId, s.get F.XSH_ROLE_NUMBER, false, q.left, q.right, q.last⟩] ∧
      t.roster.lastId = nextId s.roster.lastId ∧ t.get (F.VWB_COUNT_COUNT 0) = satAdd 32 (s.get (F.VWB_COUNT_COUNT 0)) 1 ∧
      hasBit (t.get (F.IRQ_RAW 0x0A0)) 0 = true ∧ t.roster.edition = t.roster.viewers ∧ Keeps (ofPages [0x0A0]) s t) ∧
  (∀ (s : State) (x y z : Int) (trigger period cameras : Nat), Running s → assoc s.rsy.duties 6 = some none →
    ∃ t, exec (.fusionUpdate x y z trigger period cameras) s = .next t ∧ t.roster = s.roster ∧ KeepsAllRegs noField s t ∧ KeepsBytes s t)

/-- R202, R204 to R207, R213 (TRACK_LOST_TIMEOUT, COAST_EXPIRY, OWNER_REASSIGN, ZONE_UNOBSERVED): a viewer whose detections end coasts, and a candidate or
an overflow viewer is discarded; the keeper releases a coasting viewer, with a new edition and generation; the head moves ownership; a zone in which
no eye lies is unobserved. The model's own choices it rests on: log entries 61, 62, 81. -/
def Obligations.ViewersCoastAndLeave : Prop :=
  (∀ (s : State) (slot : Nat), Running s → (∀ v ∈ s.roster.viewers, outOfRange s v = false) →
    ∃ t, exec (.trackLostTimeout (.viewer slot)) s = .next t ∧
      t.roster.viewers = s.roster.viewers.map (fun v => if v.slot = slot then { v with coasting := true } else v) ∧
      (t.roster.viewers ≠ s.roster.viewers → t.roster.edition = t.roster.viewers ∧ t.get F.VWB_EDITION_COUNT = (s.get F.VWB_EDITION_COUNT + 1) % 2 ^ 32) ∧
      Keeps (ofPages [0x0A0]) s t) ∧
  (∀ (s : State) (i : Nat), Running s →
    (∃ t, exec (.trackLostTimeout (.overflow i)) s = .next t ∧ t.roster.overflow = s.roster.overflow.eraseIdx i ∧ t.roster.viewers = s.roster.viewers ∧
      t.roster.candidates = s.roster.candidates ∧ t.get F.VWB_STATUS_OVERFLOW = (s.roster.overflow.eraseIdx i).length % 2 ^ 8 ∧
      t.get F.VWB_EDITION_COUNT = (s.get F.VWB_EDITION_COUNT + 1) % 2 ^ 32 ∧ KeepsAllRegs (ofPages [0x0A0]) s t ∧ KeepsBytes s t) ∧
    (∃ t, exec (.trackLostTimeout (.candidate i)) s = .next t ∧ t.roster.candidates = s.roster.candidates.eraseIdx i ∧ t.roster.viewers = s.roster.viewers ∧
      t.roster.overflow = s.roster.overflow ∧ t.get F.VWB_STATUS_CANDIDATES = (s.roster.candidates.eraseIdx i).length % 2 ^ 8 ∧
      KeepsAllRegs (ofPages [0x0A0]) s t ∧ KeepsBytes s t)) ∧
  (∀ (s : State) (v : Viewer), Running s → s.role ≠ 2 → v ∈ s.roster.viewers → v.coasting = true →
    (∀ w ∈ s.roster.viewers, w.slot ≠ v.slot → w.id ≠ v.id) → s.roster.overflow = [] →
    ∃ t, exec (.coastExpiry v.slot) s = .next t ∧ t.roster.viewers = s.roster.viewers.filter (fun w => !decide (w.slot = v.slot)) ∧
      t.roster.edition = t.roster.viewers ∧ t.get (F.VWB_COUNT_COUNT 1) = satAdd 32 (s.get (F.VWB_COUNT_COUNT 1)) 1 ∧
      hasBit (t.get (F.IRQ_RAW 0x0A0)) 1 = true ∧ t.get F.VWB_ROSTER_GEN_GEN = (s.get F.VWB_ROSTER_GEN_GEN + 1) % 2 ^ 32 ∧
      t.get F.VWB_EDITION_COUNT = (s.get F.VWB_EDITION_COUNT + 1) % 2 ^ 32 ∧ Keeps (ofPages [0x0A0]) s t) ∧
  (∀ (s : State) (slot : Nat), Running s → s.role = 2 ∨ (∀ v ∈ s.roster.viewers, v.slot = slot → v.coasting = false) →
    ∃ t, exec (.coastExpiry slot) s = .next t ∧ t.roster = s.roster ∧ KeepsAllRegs noField s t ∧ KeepsBytes s t) ∧
  (∀ (s : State) (v : Viewer) (owner : Nat), Running s → s.role = 1 → owner < 64 → v ∈ s.roster.viewers → v.owner ≠ owner →
    ∃ t, exec (.ownerReassign v.slot owner) s = .next t ∧
      t.roster.viewers = s.roster.viewers.map (fun w => if w.slot = v.slot then { w with owner := owner } else w) ∧ t.roster.edition = t.roster.viewers ∧
      t.get (F.VWB_COUNT_COUNT 6) = satAdd 32 (s.get (F.VWB_COUNT_COUNT 6)) 1 ∧
      t.get F.VWB_ROSTER_GEN_GEN = (s.get F.VWB_ROSTER_GEN_GEN + 1) % 2 ^ 32 ∧ Keeps (ofPages [0x0A0]) s t) ∧
  (∀ (s : State) (slot owner : Nat), Running s → s.role ≠ 1 →
    ∃ t, exec (.ownerReassign slot owner) s = .next t ∧ t.roster = s.roster ∧ KeepsAllRegs noField s t ∧ KeepsBytes s t) ∧
  (∀ (s : State) (zone : Nat), Running s → zone < 24 → zoneSeen s zone = false →
    ∃ t, exec (.zoneUnobserved zone) s = .next t ∧ t.get (F.VWB_ZONE_OBSERVED zone) = 0 ∧ t.roster = s.roster ∧
      KeepsAllRegs (ofFields [F.VWB_ZONE_OBSERVED zone]) s t ∧ KeepsBytes s t) ∧
  (∀ (s : State) (zone : Nat), Running s → 24 ≤ zone ∨ zoneSeen s zone = true →
    ∃ t, exec (.zoneUnobserved zone) s = .next t ∧ t.roster = s.roster ∧ KeepsAllRegs noField s t ∧ KeepsBytes s t)

/-- R226, R228, R240 (FLIP_ARM, FLIP_CANCEL, STRIPE_COPIES_DONE, YARD_FLIP_TIMEOUT): a group whose planes may flip and whose bank has been loaded arms
with the write's fields, one that may not answers BAD_PLANE and an armed one BUSY, changing nothing else; CANCEL disarms; on a head the copies for a
member, finished, are followed by FLIP_PREP, and a timeout leaves out, counts and signals the members that have not acknowledged. The model's own
choices it rests on: log entry 64. -/
def Obligations.FlipGroups : Prop :=
  (∀ (s : State) (m : Master) (g data : Nat), Running s → MayWrite s m 0x0B0 → g < 4 → data < 2 ^ 32 → data / 2 ^ 8 % 4 ≠ 1 → s.role = 0 →
    s.get (F.CMP_FLIP_CTRL_ARMED g) = 0 →
    (∀ p, p < 8 → hasBit data p = true → (planeBack s p).en = true → planeOk s (planeBack s p) = true) →
    (data / 2 ^ 8 % 4 < 2 ∨ s.cmp.lutReady.contains (data / 2 ^ 8 % 4 - 2) = true) →
    ∃ t, exec (.flipArm m g data) s = .next t ∧ t.get (F.CMP_FLIP_CTRL_ARMED g) = 1 ∧ t.get (F.CMP_FLIP_CTRL_RESULT g) = 0 ∧
      t.get (F.CMP_FLIP_CTRL_PLANES g) = data % 2 ^ 8 ∧ t.get (F.CMP_FLIP_CTRL_LUT_SEL g) = data / 2 ^ 8 % 4 ∧
      t.get (F.CMP_FLIP_CTRL_FENCE_INDEX g) = data / 2 ^ 16 % 2 ^ 8 ∧ t.get (F.CMP_FLIP_CTRL_WAIT_FENCE g) = data / 2 ^ 24 % 2 ∧
      hasBit (t.get F.CMP_STATUS_ARMED) g = true ∧ t.cmp = s.cmp ∧
      KeepsAllRegs (ofFields [F.CMP_FLIP_CTRL_ARMED g, F.CMP_FLIP_CTRL_RESULT g, F.CMP_FLIP_CTRL_PLANES g, F.CMP_FLIP_CTRL_LUT_SEL g,
        F.CMP_FLIP_CTRL_FENCE_INDEX g, F.CMP_FLIP_CTRL_WAIT_FENCE g, F.CMP_STATUS_ARMED]) s t ∧ KeepsBytes s t) ∧
  (∀ (s : State) (m : Master) (g data : Nat), Running s → MayWrite s m 0x0B0 → g < 4 → data < 2 ^ 32 → data / 2 ^ 8 % 4 ≠ 1 →
    s.get (F.CMP_FLIP_CTRL_ARMED g) = 0 →
    ((∃ p, p < 8 ∧ hasBit data p = true ∧ (planeBack s p).en = true ∧ planeOk s (planeBack s p) = false) ∨
      (2 ≤ data / 2 ^ 8 % 4 ∧ s.cmp.lutReady.contains (data / 2 ^ 8 % 4 - 2) = false)) →
    ∃ t, exec (.flipArm m g data) s = .next t ∧ t.get (F.CMP_FLIP_CTRL_RESULT g) = 1 ∧ t.cmp = s.cmp ∧
      KeepsAllRegs (ofFields [F.CMP_FLIP_CTRL_RESULT g]) s t ∧ KeepsBytes s t) ∧
  (∀ (s : State) (m : Master) (g data : Nat), Running s → MayWrite s m 0x0B0 → g < 4 → data < 2 ^ 32 → data / 2 ^ 8 % 4 ≠ 1 →
    s.get (F.CMP_FLIP_CTRL_ARMED g) = 1 → hasBit data 29 = false →
    ∃ t, exec (.flipArm m g data) s = .next t ∧ t.get (F.CMP_FLIP_CTRL_RESULT g) = 2 ∧ t.cmp = s.cmp ∧
      KeepsAllRegs (ofFields [F.CMP_FLIP_CTRL_RESULT g]) s t ∧ KeepsBytes s t) ∧
  (∀ (s : State) (m : Master) (g data : Nat), Running s → MayWrite s m 0x0B0 → g < 4 → data < 2 ^ 32 → data / 2 ^ 8 % 4 ≠ 1 →
    s.get (F.CMP_FLIP_CTRL_ARMED g) = 1 → hasBit data 28 = false →
    ∃ t, exec (.flipCancel m g data) s = .next t ∧ t.get (F.CMP_FLIP_CTRL_ARMED g) = 0 ∧ t.get (F.CMP_FLIP_CTRL_READY g) = 0 ∧
      t.get (F.CMP_FLIP_CTRL_PLANES g) = data % 2 ^ 8 ∧ hasBit (t.get F.CMP_STATUS_ARMED) g = false ∧ t.cmp.taken = s.cmp.taken ∧
      (∀ e ∈ t.cmp.copies ++ t.cmp.acks ++ t.cmp.acked, e.1 ≠ g) ∧
      KeepsAllRegs (ofFields [F.CMP_FLIP_CTRL_ARMED g, F.CMP_FLIP_CTRL_READY g, F.CMP_FLIP_CTRL_PLANES g, F.CMP_FLIP_CTRL_LUT_SEL g,
        F.CMP_FLIP_CTRL_FENCE_INDEX g, F.CMP_FLIP_CTRL_WAIT_FENCE g, F.CMP_STATUS_ARMED]) s t ∧ KeepsBytes s t) ∧
  (∀ (s : State) (g : Nat) (m : YardMember) (k : Nat), Running s → s.role = 1 → g < 4 → (g, m.number) ∈ s.cmp.copies →
    s.yard.members.find? (fun x => decide (x.number = m.number)) = some m → m.number ∈ s.yard.heldDests →
    k = 2920 * (stripePlanes s g m).length + 1 →
    ∃ t sent, exec (.stripeCopiesDone g m.number) s = .next t ∧ t.yard.heldFrames = s.yard.heldFrames ++ sent ∧ sent.length = k ∧
      sent.getLast? = some { mkFrame 0x38 1 m.number 0 0 g (s.get (F.CMP_FLIP_TAG_TAG g)) 0 [] with sseq := (mapVal s.yard.sseqTx m.number + k) % 65536 } ∧
      t.cmp = { s.cmp with copies := s.cmp.copies.erase (g, m.number), acks := s.cmp.acks ++ [(g, m.number)] } ∧
      KeepsAllRegs noField s t ∧ KeepsBytes s t) ∧
  (∀ (s : State) (g member : Nat), Running s → g < 4 → s.role ≠ 1 ∨ (g, member) ∉ s.cmp.copies → exec (.stripeCopiesDone g member) s = .next s) ∧
  (∀ (s : State) (g n : Nat), Running s → s.role = 1 → g < 4 → s.get (F.CMP_FLIP_CTRL_ARMED g) = 1 →
    n = (s.cmp.copies.filter (fun e => decide (e.1 = g))).length + (s.cmp.acks.filter (fun e => decide (e.1 = g))).length → 0 < n →
    ∃ t, exec (.yardFlipTimeout g) s = .next t ∧ t.get F.CMP_YARD_EXCLUDED_COUNT = satAdd 32 (s.get F.CMP_YARD_EXCLUDED_COUNT) n ∧
      hasBit (t.get (F.IRQ_RAW 0x0B0)) 6 = true ∧ t.get (F.CMP_FLIP_CTRL_READY g) = 1 ∧
      t.cmp = { s.cmp with copies := s.cmp.copies.filter (fun e => !decide (e.1 = g)), acks := s.cmp.acks.filter (fun e => !decide (e.1 = g)) } ∧
      Keeps (ofFields [F.CMP_YARD_EXCLUDED_COUNT, F.CMP_FLIP_CTRL_READY g]) s t) ∧
  (∀ (s : State) (g : Nat), Running s → g < 4 → s.role ≠ 1 ∨ (∀ e ∈ s.cmp.copies ++ s.cmp.acks, e.1 ≠ g) → exec (.yardFlipTimeout g) s = .next s)

/-- R84, R229, R231, R233, R242 (LUT_LOAD, LUT_LOAD_DONE, PROT_SWAP, PROT_REARM): a load of a colour bank begins unless one runs or the bank is in use,
and ends with the table's code and LUT_LOADED; SWAP waits for the latch; a rearm ends black-under from the next subframe, at most three times in 10 s.
The model's own choices it rests on: log entries 63, 65. -/
def Obligations.BanksAndTheProtectedLayer : Prop :=
  (∀ (s : State) (m : Master) (data : Nat), Running s → MayWrite s m 0x0B0 → s.get F.CMP_LUT_LOAD_BUSY = 0 → lutInUse s (data % 2) = false →
    ∃ t, exec (.lutLoad m data) s = .next t ∧ t.get F.CMP_LUT_LOAD_BUSY = 1 ∧ t.get F.CMP_LUT_LOAD_BANK = data % 2 ∧
      t.cmp = { s.cmp with lutLoad := some (data % 2, s.get F.CMP_LUT_ADDR_ADDR * 64) } ∧
      KeepsAllRegs (ofFields [F.CMP_LUT_LOAD_BUSY, F.CMP_LUT_LOAD_BANK]) s t ∧ KeepsBytes s t) ∧
  (∀ (s : State) (m : Master) (data : Nat), Running s → MayWrite s m 0x0B0 → s.get F.CMP_LUT_LOAD_BUSY = 0 → lutInUse s (data % 2) = true →
    ∃ t, exec (.lutLoad m data) s = .next t ∧ t.get F.CMP_LUT_STATUS_CODE = 1 ∧ t.cmp = s.cmp ∧
      KeepsAllRegs (ofFields [F.CMP_LUT_STATUS_CODE, F.CMP_LUT_LOAD_BANK]) s t ∧ KeepsBytes s t) ∧
  (∀ (s : State) (m : Master) (data : Nat), Running s → MayWrite s m 0x0B0 → s.get F.CMP_LUT_LOAD_BUSY = 1 →
    ∃ t, exec (.lutLoad m data) s = .next t ∧ t.get F.CMP_LUT_STATUS_CODE = 4 ∧ t.cmp = s.cmp ∧
      KeepsAllRegs (ofFields [F.CMP_LUT_STATUS_CODE]) s t ∧ KeepsBytes s t) ∧
  (∀ (s : State) (bank addr : Nat), Running s → s.cmp.lutLoad = some (bank, addr) → CleanDram s addr 215622 →
    ∃ t, exec .lutLoadDone s = .next t ∧ t.get F.CMP_LUT_LOAD_BUSY = 0 ∧ hasBit (t.get (F.IRQ_RAW 0x0B0)) 4 = true ∧ t.cmp.lutLoad = none ∧
      (lutWordsOk (dramRead s addr 215622) = true → t.get F.CMP_LUT_STATUS_CODE = 0 ∧ t.cmp.luts = s.cmp.luts.set bank (dramRead s addr 215622) ∧
        t.cmp.lutReady.contains bank = true ∧ ∀ b, b ≠ bank → t.cmp.lutReady.contains b = s.cmp.lutReady.contains b) ∧
      (lutWordsOk (dramRead s addr 215622) = false → t.get F.CMP_LUT_STATUS_CODE = 2 ∧ t.cmp = { s.cmp with lutLoad := none }) ∧
      Keeps (ofFields [F.CMP_LUT_LOAD_BUSY, F.CMP_LUT_STATUS_CODE]) s t) ∧
  (∀ (s : State) (bank addr : Nat), Running s → s.cmp.lutLoad = some (bank, addr) → dramBehind s addr 215622 = false →
    ∃ t, exec .lutLoadDone s = .next t ∧ t.get F.CMP_LUT_LOAD_BUSY = 0 ∧ hasBit (t.get (F.IRQ_RAW 0x0B0)) 4 = true ∧
      t.get F.CMP_LUT_STATUS_CODE = 3 ∧ t.cmp = { s.cmp with lutLoad := none } ∧ Keeps (ofFields [F.CMP_LUT_LOAD_BUSY, F.CMP_LUT_STATUS_CODE]) s t) ∧
  (∀ (s : State), Running s → s.cmp.lutLoad = none → exec .lutLoadDone s = .next s) ∧
  (∀ (s : State) (m : Master) (data : Nat), Running s → MayWrite s m 0x0BF → m.secure = true → data < 2 ^ 32 → hasBit data 2 = false →
    ∃ t, exec (.protSwap m data) s = .next t ∧ t.get F.CMP_PROT_CTRL_SWAP = 1 ∧ t.get F.CMP_PROT_CTRL_EN = data % 2 ∧ t.cmp = s.cmp ∧
      KeepsAllRegs (ofFields [F.CMP_PROT_CTRL_SWAP, F.CMP_PROT_CTRL_EN, F.CMP_PROT_CTRL_REARM]) s t ∧ KeepsBytes s t) ∧
  (∀ (s : State) (m : Master) (data : Nat), Running s → MayWrite s m 0x0BF → m.secure = true → data < 2 ^ 32 → s.cmp.rearmsUsed = false →
    (s.cmp.rearms.filter (fun x => decide (s.now < 10000000000 + x))).length < 3 →
    ∃ t, exec (.protRearm m data) s = .next t ∧ t.get F.CMP_PROT_CTRL_REARM = 0 ∧
      t.cmp = { s.cmp with rearms := t.cmp.rearms, black := t.cmp.black } ∧
      t.cmp.rearms = s.cmp.rearms.filter (fun x => decide (s.now < 10000000000 + x)) ++ [s.now] ∧
      t.cmp.black = s.cmp.black.map (fun e => if e.2.2 = none then (e.1, e.2.1, some (s.drum.subframe + 1)) else e) ∧
      KeepsAllRegs (ofFields [F.CMP_PROT_CTRL_SWAP, F.CMP_PROT_CTRL_EN, F.CMP_PROT_CTRL_REARM]) s t ∧ KeepsBytes s t) ∧
  (∀ (s : State) (m : Master) (data : Nat), Running s → MayWrite s m 0x0BF → m.secure = true → data < 2 ^ 32 →
    s.cmp.rearmsUsed = true ∨ 3 ≤ (s.cmp.rearms.filter (fun x => decide (s.now < 10000000000 + x))).length →
    ∃ t, exec (.protRearm m data) s = .next t ∧ t.cmp = { s.cmp with rearmsUsed := true } ∧
      KeepsAllRegs (ofFields [F.CMP_PROT_CTRL_SWAP, F.CMP_PROT_CTRL_EN, F.CMP_PROT_CTRL_REARM]) s t ∧ KeepsBytes s t)

/-- R235 to R238, R243 (BLIT_LIST_START, BLT_END, BLT_FILL, BLT_COPY, BLT_BLEND): a waiting list begins; a fill writes its colour, a copy the source
pixels and a blend the source over the destination into every destination pixel inside the surface and the clips, all sources being read before any is
written, and touch no other byte; END and the list's end retire it. The model's own choices it rests on: log entry 66. -/
def Obligations.ListsDraw : Prop :=
  (∀ (s : State) (r : Run), Running s → s.cmp.list = none → s.scene.runs.find? (fun r => decide (r.stage = .listing)) = some r →
    ∃ t, exec .blitListStart s = .next t ∧ t.get F.BLT_LIST_STATUS_BUSY = 1 ∧
      t.cmp = { s.cmp with list := some ⟨r.queue, r.desc.seq, (ctxOf s r.queue).chain, (auxHeader (payloadOf r.block)).outOffset, (auxHeader (payloadOf r.block)).unpackedLen, 0, none⟩ } ∧
      t.scene = s.scene ∧ KeepsAllRegs (ofFields [F.BLT_LIST_STATUS_BUSY]) s t ∧ KeepsBytes s t) ∧
  (∀ (s : State), Running s → s.cmp.list ≠ none ∨ (∀ r ∈ s.scene.runs, r.stage ≠ .listing) → exec .blitListStart s = .next s) ∧
  (∀ (s u : State) (l : BltList), Running s → s.cmp.list = some l → l.waiting = none → s.cmp.copies = [] → nextCmd s l = (u, .ended) →
    ∃ t, exec .bltEnd s = .next t ∧ t.get F.BLT_LIST_STATUS_BUSY = 0 ∧ t.get F.BLT_LIST_STATUS_CODE = 0 ∧ t.get F.BLT_LIST_SEQ_SEQ = l.seq % 2 ^ 32 ∧
      t.cmp = { u.cmp with list := none } ∧
      t.scene.runs = u.scene.runs.map (fun r => if r.queue = l.queue then { r with stage := .finished, status := 0 } else r) ∧
      KeepsAllRegs (ofFields [F.BLT_LIST_STATUS_BUSY, F.BLT_LIST_STATUS_CODE, F.BLT_LIST_SEQ_SEQ]) u t ∧ KeepsBytes s t) ∧
  (∀ (s u : State) (l : BltList) (b : List Byte) (clips : List Rect) (n : Nat), Running s → s.cmp.list = some l → l.waiting = none → s.cmp.copies = [] →
    nextCmd s l = (u, .cmd 0 b clips n) →
    ∃ t, exec .bltEnd s = .next t ∧ t.get F.BLT_LIST_STATUS_BUSY = 0 ∧ t.get F.BLT_LIST_STATUS_CODE = 0 ∧ t.get F.BLT_LIST_SEQ_SEQ = l.seq % 2 ^ 32 ∧
      t.get F.BLT_COMMANDS_COUNT = satAdd 32 (u.get F.BLT_COMMANDS_COUNT) 1 ∧ t.cmp = { u.cmp with list := none } ∧
      t.scene.runs = u.scene.runs.map (fun r => if r.queue = l.queue then { r with stage := .finished, status := 0 } else r) ∧
      KeepsAllRegs (ofFields [F.BLT_LIST_STATUS_BUSY, F.BLT_LIST_STATUS_CODE, F.BLT_LIST_SEQ_SEQ, F.BLT_COMMANDS_COUNT]) u t ∧ KeepsBytes s t) ∧
  (∀ (s u : State) (l : BltList) (b c : List Byte) (clips : List Rect) (n : Nat) (d : Surface) (r : Rect), Running s → SoundMemory u → u.get F.ERR_INJECT_ARM = 0 →
    s.cmp.list = some l → l.waiting = none → s.cmp.copies = [] → nextCmd s l = (u, .cmd 1 b clips n) → surfaceOf b 0 = some d → r = rectOf b 24 →
    leAt b 36 4 = 0 → extentSecure u (d.extent r) = false → c = (b.drop 32).take 4 → c.length = 4 →
    (∀ p ∈ destPixels d r clips, dramBehind u (d.px p.1 p.2) (pixelBytes d.format) = true) →
    ∃ t, exec .bltFill s = .next t ∧
      (∀ p ∈ destPixels d r clips, dramRead t (d.px p.1 p.2) (pixelBytes d.format) = fromRgba d.format c) ∧
      (∀ x, (∀ p ∈ destPixels d r clips, x < d.px p.1 p.2 ∨ d.px p.1 p.2 + pixelBytes d.format ≤ x) → memGet t.mem.dram x = memGet u.mem.dram x) ∧
      t.mem.host = u.mem.host ∧ t.mem.loft = u.mem.loft ∧ t.cmp = { u.cmp with list := some { l with offset := l.offset + n } } ∧
      t.get F.BLT_COMMANDS_COUNT = satAdd 32 (u.get F.BLT_COMMANDS_COUNT) 1 ∧ KeepsAllRegs (ofFields [F.BLT_COMMANDS_COUNT]) u t) ∧
  (∀ (s u : State) (l : BltList) (blend : Bool) (b : List Byte) (clips : List Rect) (n : Nat) (f d : Surface) (r : Rect) (from' : Nat × Nat → Nat × Nat) (px : List (Nat × Nat)),
    Running s → SoundMemory u → u.get F.ERR_INJECT_ARM = 0 → s.cmp.list = some l → l.waiting = none → s.cmp.copies = [] →
    nextCmd s l = (u, .cmd (if blend then 3 else 2) b clips n) → surfaceOf b 0 = some f → surfaceOf b 32 = some d → r = rectOf b 56 → leAt b 28 4 = 0 →
    (blend = true → f.format = 2) → extentSecure u (f.extent ⟨leAt b 24 2, leAt b 26 2, r.w, r.h⟩) = false → extentSecure u (d.extent r) = false →
    overlapBad f d (f.extent ⟨leAt b 24 2, leAt b 26 2, r.w, r.h⟩) (d.extent r) = false →
    from' = (fun p => (p.1 - r.x + leAt b 24 2, p.2 - r.y + leAt b 26 2)) → px = (destPixels d r clips).filter (fun p => f.has (from' p).1 (from' p).2) →
    pixelsBad u f (px.map from') = false → (blend = true → pixelsBad u d px = false) →
    (∀ p ∈ px, dramBehind u (d.px p.1 p.2) (pixelBytes d.format) = true) →
    ∃ t, exec (if blend then .bltBlend else .bltCopy) s = .next t ∧
      (∀ p ∈ px, dramRead t (d.px p.1 p.2) (pixelBytes d.format) = fromRgba d.format (if blend = true then blendPx (pixelAt u f (from' p).1 (from' p).2) (pixelAt u d p.1 p.2)
        else pixelAt u f (from' p).1 (from' p).2)) ∧
      (∀ x, (∀ p ∈ px, x < d.px p.1 p.2 ∨ d.px p.1 p.2 + pixelBytes d.format ≤ x) → memGet t.mem.dram x = memGet u.mem.dram x) ∧
      t.mem.host = u.mem.host ∧ t.mem.loft = u.mem.loft ∧ t.cmp = { u.cmp with list := some { l with offset := l.offset + n } } ∧
      t.get F.BLT_COMMANDS_COUNT = satAdd 32 (u.get F.BLT_COMMANDS_COUNT) 1 ∧ KeepsAllRegs (ofFields [F.BLT_COMMANDS_COUNT]) u t)

/-- R110, R235, R236, R239, R243 (BLT_WAIT_LINE, BLT_FENCE, BLT_IRQ, WAIT_LINE_TIMEOUT and what stops a list): a list waits for a band's line; FENCE
raises a fence to a value; IRQ shows its TAG and signals it; a command that cannot be run, and a wait of 100 ms, stop the list with their code and its
offset. The model's own choices it rests on: log entry 66. -/
def Obligations.ListsWaitSignalAndStop : Prop :=
  (∀ (s u : State) (l : BltList) (b : List Byte) (clips : List Rect) (n : Nat), Running s → s.cmp.list = some l → l.waiting = none → s.cmp.copies = [] →
    nextCmd s l = (u, .cmd 0x10 b clips n) → leAt b 0 1 ≤ 11 → leAt b 1 1 = 0 → leAt b 2 2 ≤ 539 → leAt b 4 4 = 0 →
    ∃ t, exec .bltWaitLine s = .next t ∧ t.cmp = { u.cmp with list := some { l with waiting := some (leAt b 0 1, leAt b 2 2, n) } } ∧
      KeepsAllRegs noField u t ∧ KeepsBytes s t) ∧
  (∀ (s u : State) (l : BltList) (b : List Byte) (clips : List Rect) (n : Nat), Running s → s.cmp.list = some l → l.waiting = none → s.cmp.copies = [] →
    nextCmd s l = (u, .cmd 0x11 b clips n) → leAt b 1 7 = 0 →
    ∃ t, exec .bltFence s = .next t ∧ t.get (F.LAY_FENCE_VALUE (leAt b 0 1)) = Nat.max (u.get (F.LAY_FENCE_VALUE (leAt b 0 1))) (leAt b 8 8) ∧
      t.get F.BLT_COMMANDS_COUNT = satAdd 32 (u.get F.BLT_COMMANDS_COUNT) 1 ∧ t.cmp = { u.cmp with list := some { l with offset := l.offset + n } } ∧
      KeepsAllRegs (ofFields [F.LAY_FENCE_VALUE (leAt b 0 1), F.BLT_COMMANDS_COUNT]) u t ∧ KeepsBytes s t) ∧
  (∀ (s u : State) (l : BltList) (b : List Byte) (clips : List Rect) (n : Nat), Running s → s.cmp.list = some l → l.waiting = none → s.cmp.copies = [] →
    nextCmd s l = (u, .cmd 0x12 b clips n) → leAt b 2 6 = 0 →
    ∃ t, exec .bltIrq s = .next t ∧ t.get F.BLT_TAG_TAG = leAt b 0 2 ∧ hasBit (t.get (F.IRQ_RAW 0x0C0)) 12 = true ∧
      t.get F.BLT_COMMANDS_COUNT = satAdd 32 (u.get F.BLT_COMMANDS_COUNT) 1 ∧ t.cmp = { u.cmp with list := some { l with offset := l.offset + n } } ∧
      Keeps (ofFields [F.BLT_TAG_TAG, F.BLT_COMMANDS_COUNT]) u t) ∧
  (∀ (s u : State) (l : BltList) (c : Instr) (code : Nat), Running s → s.cmp.list = some l → l.waiting = none → s.cmp.copies = [] →
    nextCmd s l = (u, .bad code) → code < 8 → c ∈ [Instr.bltEnd, .bltFill, .bltCopy, .bltBlend, .bltWaitLine, .bltFence, .bltIrq] →
    ∃ t, exec c s = .next t ∧ t.get F.BLT_LIST_STATUS_CODE = code ∧ t.get F.BLT_LIST_STATUS_BUSY = 0 ∧ t.get F.BLT_LIST_OFFSET_OFFSET = l.offset % 2 ^ 32 ∧
      t.get F.BLT_LIST_SEQ_SEQ = l.seq % 2 ^ 32 ∧ hasBit (t.get (F.IRQ_RAW 0x0C0)) 13 = true ∧ t.cmp = { u.cmp with list := none } ∧
      t.scene.runs = u.scene.runs.map (fun r => if r.queue = l.queue then { r with stage := .finished, status := 0 } else r) ∧
      Keeps (ofFields [F.BLT_LIST_STATUS_CODE, F.BLT_LIST_STATUS_BUSY, F.BLT_LIST_OFFSET_OFFSET, F.BLT_LIST_SEQ_SEQ]) u t) ∧
  (∀ (s : State) (l : BltList) (w : Nat × Nat × Nat), Running s → s.cmp.list = some l → l.waiting = some w →
    ∃ t, exec .waitLineTimeout s = .next t ∧ t.get F.BLT_LIST_STATUS_CODE = 7 ∧ t.get F.BLT_LIST_STATUS_BUSY = 0 ∧ t.get F.BLT_LIST_OFFSET_OFFSET = l.offset % 2 ^ 32 ∧
      hasBit (t.get (F.IRQ_RAW 0x0C0)) 13 = true ∧ t.cmp = { s.cmp with list := none } ∧
      Keeps (ofFields [F.BLT_LIST_STATUS_CODE, F.BLT_LIST_STATUS_BUSY, F.BLT_LIST_OFFSET_OFFSET, F.BLT_LIST_SEQ_SEQ]) s t) ∧
  (∀ (s : State), Running s → (∀ l, s.cmp.list = some l → l.waiting = none) → exec .waitLineTimeout s = .next s) ∧
  (∀ (s : State) (c : Instr), Running s → c ∈ [Instr.bltEnd, .bltFill, .bltCopy, .bltBlend, .bltWaitLine, .bltFence, .bltIrq] →
    (s.cmp.list = none ∨ s.cmp.copies ≠ [] ∨ ∃ l w, s.cmp.list = some l ∧ l.waiting = some w) → exec c s = .next s)

/-- R249, R250, R252, R253, R255, R268 (LINE_STATUS, FOLOV_ACK, REG_DATA, MODEL_DATA, PANEL_EVENT, CTRL_ANSWER_TIMEOUT, DRV_REG_READ, DRV_REG_WRITE):
failed segments and header mismatches are counted; an answer ends its packet and the driver command, one with an SEQ not outstanding is discarded, and
one that is late or reports a failed CRC is sent again, three times, after which the port is held; a descriptor and a chunk are kept, and a chunk
whose CRC fails is asked for again; an event is counted and shown; a driver command sends its packet. The model's own choices it rests on: log entry
67. -/
def Obligations.PanelDriversAnswer : Prop :=
  (∀ (s : State) (b line segments : Nat) (mismatch : Bool), Running s → b < 12 → s.get (F.SER_SUB_CFG_AUTO b) = 0 →
    ∃ t, exec (.lineStatus b line segments mismatch) s = .next t ∧
      t.get (F.PNL_SEG_ERRORS_COUNT b) = satAdd 32 (s.get (F.PNL_SEG_ERRORS_COUNT b)) (setBits segments 12).length ∧
      (∀ l, l < 12 → hasBit segments l = true → t.get (F.PNL_LANE_ERR_COUNT b l) = satAdd 32 (s.get (F.PNL_LANE_ERR_COUNT b l)) 1) ∧
      (∀ l, l < 12 → hasBit segments l = false → t.get (F.PNL_LANE_ERR_COUNT b l) = s.get (F.PNL_LANE_ERR_COUNT b l)) ∧
      t.get (F.PNL_HDR_MISMATCH_COUNT b) = satAdd 32 (s.get (F.PNL_HDR_MISMATCH_COUNT b)) (if mismatch then 1 else 0) ∧
      ((∃ l, l < 12 ∧ hasBit segments l = true) → hasBit (t.get (F.IRQ_RAW (0x0D0 + b))) 1 = true) ∧
      Keeps (ofFields ([F.PNL_SEG_ERRORS_COUNT b, F.PNL_HDR_MISMATCH_COUNT b] ++ (List.range 12).map (F.PNL_LANE_ERR_COUNT b))) s t) ∧
  (∀ (s : State) (b seq code : Nat) (c : Ctrl), Running s → b < 12 → ctrlOf s b seq = some c → c.typ = 0x10 → code ≠ 2 → s.pnl.step = 0 →
    ∃ t, exec (.folovAck b seq code) s = .next t ∧ t.pnl = { s.pnl with ctrl := s.pnl.ctrl.erase c } ∧ t.get (F.PNL_DRV_CMD_BUSY b) = 0 ∧
      t.get (F.PNL_DRV_STATUS_CODE b) = (if code = 0 then 0 else 2) ∧ hasBit (t.get (F.IRQ_RAW (0x0D0 + b))) 3 = true ∧
      Keeps (ofFields [F.PNL_DRV_CMD_BUSY b, F.PNL_DRV_STATUS_CODE b]) s t) ∧
  (∀ (s : State) (b seq : Nat) (c d : Ctrl) (i : Instr), Running s → b < 12 → ctrlOf s b seq = some c → c.tries < 3 → s.pnl.step = 0 →
    i = .ctrlAnswerTimeout b seq ∨ (i = .folovAck b seq 2 ∧ (c.typ = 0x10 ∨ c.typ = 0x13)) → d = { c with tries := c.tries + 1 } →
    ∃ t, exec i s = .next t ∧ t.pnl = { s.pnl with ctrl := s.pnl.ctrl.map (fun x => if x = c then d else x) } ∧
      t.out = s.out ++ [.folov b (folovHeader c.typ b seq 0 0 0 0 (s.get F.LAY_SUBFRAME_NUMBER % 2 ^ 32) c.arg)] ∧
      t.get (F.PNL_CTRL_RETRIES_COUNT b) = satAdd 32 (s.get (F.PNL_CTRL_RETRIES_COUNT b)) 1 ∧
      KeepsAllRegs (ofFields [F.PNL_CTRL_RETRIES_COUNT b]) s t ∧ KeepsBytes s t) ∧
  (∀ (s : State) (b seq : Nat) (c : Ctrl), Running s → b < 12 → ctrlOf s b seq = some c → 3 ≤ c.tries → s.pnl.step = 0 →
    s.get (F.PNL_PORT_STATE_STATE b) ≠ 5 → s.rsy.lots = [] →
    ∃ t, exec (.ctrlAnswerTimeout b seq) s = .next t ∧ t.get (F.PNL_PORT_STATE_STATE b) = 5 ∧ t.get (F.PNL_PORT_STATE_REASON b) = 5 ∧
      hasBit (t.get (F.IRQ_RAW (0x0D0 + b))) 4 = true ∧ t.get (F.ERR_CLASS_COUNT_COUNT 7) = satAdd 32 (s.get (F.ERR_CLASS_COUNT_COUNT 7)) 1 ∧
      (s.get (F.PNL_DRV_CMD_BUSY b) = 1 → t.get (F.PNL_DRV_CMD_BUSY b) = 0 ∧ t.get (F.PNL_DRV_STATUS_CODE b) = 1) ∧
      (∀ x ∈ t.pnl.ctrl, x.port ≠ b) ∧ t.drum.plans = s.drum.plans.filter (fun p => !decide (p.band = b)) ∧
      t.get (F.PNL_ZONE_CODE_STROBING (2 * b)) = 0 ∧ t.get (F.PNL_ZONE_CODE_STROBING (2 * b + 1)) = 0 ∧
      Keeps (ofFields [F.PNL_PORT_STATE_STATE b, F.PNL_PORT_STATE_REASON b, F.PNL_DRV_CMD_BUSY b, F.PNL_DRV_STATUS_CODE b,
        F.PNL_ZONE_CODE_STROBING (2 * b), F.PNL_ZONE_CODE_STROBING (2 * b + 1)]) s t) ∧
  (∀ (s : State) (b seq : Nat) (i : Instr), Running s → b < 12 → ctrlOf s b seq = none →
    (∃ code value bytes, i ∈ [Instr.folovAck b seq code, .regData b seq value, .modelData b seq bytes, .ctrlAnswerTimeout b seq]) → exec i s = .next s) ∧
  (∀ (s : State) (b seq value : Nat) (c : Ctrl), Running s → b < 12 → ctrlOf s b seq = some c → c.typ = 0x11 → value < 2 ^ 32 →
    ∃ t, exec (.regData b seq value) s = .next t ∧ t.pnl = { s.pnl with ctrl := s.pnl.ctrl.erase c } ∧ t.get (F.PNL_DRV_DATA_DATA b) = value ∧
      t.get (F.PNL_DRV_CMD_BUSY b) = 0 ∧ t.get (F.PNL_DRV_STATUS_CODE b) = 0 ∧ hasBit (t.get (F.IRQ_RAW (0x0D0 + b))) 3 = true ∧
      Keeps (ofFields [F.PNL_DRV_DATA_DATA b, F.PNL_DRV_CMD_BUSY b, F.PNL_DRV_STATUS_CODE b]) s t) ∧
  (∀ (s : State) (b seq : Nat) (c : Ctrl) (bytes : List Byte), Running s → b < 12 → ctrlOf s b seq = some c → c.typ = 0x12 → c.arg / 2 ^ 32 = 256 →
    s.pnl.step = 12 → (∃ x ∈ s.pnl.ctrl.erase c, x.typ = 0x12) →
    ∃ t, exec (.modelData b seq bytes) s = .next t ∧ t.pnl = { s.pnl with ctrl := s.pnl.ctrl.erase c, descs := assocPut s.pnl.descs b bytes } ∧
      KeepsAllRegs noField s t ∧ KeepsBytes s t) ∧
  (∀ (s : State) (b seq off : Nat) (c : Ctrl) (bytes : List Byte), Running s → b < 12 → ctrlOf s b seq = some c → c.typ = 0x12 → c.arg = off + 4096 * 2 ^ 32 →
    off < 2 ^ 32 → s.pnl.step = 13 → (∃ x ∈ s.pnl.ctrl.erase c, x.typ = 0x12) → (∀ e ∈ s.pnl.toRead, e.1 ≠ b) →
    bytes.length = 4100 → leAt bytes 4096 4 = crc32c (bytes.take 4096) → leAt s.pnl.model 0x60 4 ≤ off → off < leAt s.pnl.model 0x60 4 + 1990656 →
    ∃ t, exec (.modelData b seq bytes) s = .next t ∧ t.pnl = { s.pnl with ctrl := s.pnl.ctrl.erase c } ∧
      (∀ i, i < 128 → assoc t.rsy.lens.factory (54 * b * 1152 + (off - leAt s.pnl.model 0x60 4) / 32 + i) = some (lensOfBytes (((bytes.take 4096).drop (32 * i)).take 32))) ∧
      KeepsAllRegs noField s t ∧ KeepsBytes s t) ∧
  (∀ (s : State) (b seq off q : Nat) (c : Ctrl) (bytes : List Byte), Running s → b < 12 → ctrlOf s b seq = some c → c.typ = 0x12 → c.arg = off + 4096 * 2 ^ 32 →
    off < 2 ^ 32 → s.pnl.step = 13 → (∀ e ∈ s.pnl.toRead, e.1 ≠ b) → bytes.length = 4100 → leAt bytes 4096 4 ≠ crc32c (bytes.take 4096) →
    ((s.pnl.ctrl.erase c).filter (fun x => decide (x.port = b) && decide (x.typ = 0x12))).length < 4 → mapVal s.pnl.failed (b * 2 ^ 32 + off) < 3 →
    q = nextSeqNo (mapVal s.pnl.seqs b) →
    ∃ t, exec (.modelData b seq bytes) s = .next t ∧ t.pnl.ctrl = s.pnl.ctrl.erase c ++ [⟨b, q, 0x12, c.arg, 0⟩] ∧
      mapVal t.pnl.failed (b * 2 ^ 32 + off) = mapVal s.pnl.failed (b * 2 ^ 32 + off) + 1 ∧
      t.out = s.out ++ [.folov b (folovHeader 0x12 b q 0 0 0 0 (s.get F.LAY_SUBFRAME_NUMBER % 2 ^ 32) c.arg)] ∧ t.rsy = s.rsy ∧
      KeepsAllRegs noField s t ∧ KeepsBytes s t) ∧
  (∀ (s : State) (b code : Nat), Running s → b < 12 → code < 2 ^ 8 → code ≠ 3 →
    ∃ t, exec (.panelEvent b code) s = .next t ∧ t.get (F.PNL_DRV_EVENT_COUNT b) = satAdd 16 (s.get (F.PNL_DRV_EVENT_COUNT b)) 1 ∧
      t.get (F.PNL_DRV_EVENT_LAST b) = code ∧ hasBit (t.get (F.IRQ_RAW (0x0D0 + b))) 2 = true ∧
      (code = 1 ∨ code = 2 ∨ code = 4 → hasBit (t.get (F.IRQ_RAW 0x0DC)) 2 = true) ∧ t.pnl = s.pnl ∧
      Keeps (ofFields [F.PNL_DRV_EVENT_COUNT b, F.PNL_DRV_EVENT_LAST b]) s t) ∧
  (∀ (s : State) (b : Nat), Running s → b < 12 → s.pnl.step ≠ 24 ∨ s.pnl.discharging.erase b ≠ [] →
    ∃ t, exec (.panelEvent b 3) s = .next t ∧ t.get (F.PNL_DRV_EVENT_LAST b) = 3 ∧ hasBit (t.get (F.IRQ_RAW (0x0D0 + b))) 2 = true ∧
      t.pnl = { s.pnl with discharging := s.pnl.discharging.erase b } ∧ Keeps (ofFields [F.PNL_DRV_EVENT_COUNT b, F.PNL_DRV_EVENT_LAST b]) s t) ∧
  (∀ (s : State) (m : Master) (b addr q op arg : Nat) (i : Instr), Running s → b < 12 → MayWrite s m (0x0D0 + b) → addr < 2 ^ 16 → (addr < 0x8000 ∨ m.ozzizo = true) →
    s.get (F.PNL_DRV_CMD_BUSY b) = 0 → portReady s b = true → q = nextSeqNo (mapVal s.pnl.seqs b) →
    ((i = .drvRegRead m b addr ∧ op = 0x11 ∧ arg = addr) ∨ (i = .drvRegWrite m b addr ∧ op = 0x10 ∧ arg = addr + s.get (F.PNL_DRV_DATA_DATA b) * 65536)) →
    ∃ t, exec i s = .next t ∧ t.get (F.PNL_DRV_CMD_BUSY b) = 1 ∧ t.get (F.PNL_DRV_CMD_ADDR b) = addr ∧ t.get (F.PNL_DRV_CMD_OP b) = (if op = 0x10 then 1 else 0) ∧
      t.out = s.out ++ [.folov b (folovHeader op b q 0 0 0 0 (s.get F.LAY_SUBFRAME_NUMBER % 2 ^ 32) arg)] ∧
      t.pnl = { s.pnl with seqs := mapPut s.pnl.seqs b q, ctrl := s.pnl.ctrl ++ [⟨b, q, op, arg, 0⟩] } ∧
      KeepsAllRegs (ofFields [F.PNL_DRV_CMD_BUSY b, F.PNL_DRV_CMD_ADDR b, F.PNL_DRV_CMD_OP b]) s t ∧ KeepsBytes s t) ∧
  (∀ (s : State) (m : Master) (b addr : Nat) (i : Instr), Running s → b < 12 → MayWrite s m (0x0D0 + b) → addr < 2 ^ 16 →
    i = .drvRegRead m b addr ∨ i = .drvRegWrite m b addr → s.get (F.PNL_DRV_CMD_BUSY b) = 0 → (0x8000 ≤ addr ∧ m.ozzizo = false) ∨ portReady s b = false →
    ∃ t, exec i s = .next t ∧ t.get (F.PNL_DRV_CMD_BUSY b) = 0 ∧ t.get (F.PNL_DRV_STATUS_CODE b) = (if 0x8000 ≤ addr ∧ m.ozzizo = false then 4 else 3) ∧
      hasBit (t.get (F.IRQ_RAW (0x0D0 + b))) 3 = true ∧ t.pnl = s.pnl ∧
      Keeps (ofFields [F.PNL_DRV_CMD_BUSY b, F.PNL_DRV_STATUS_CODE b, F.PNL_DRV_CMD_ADDR b, F.PNL_DRV_CMD_OP b]) s t)

/-- R259, R260, R264, R270 (OVD_TABLE_LOAD, OVD_TABLE_LOAD_DONE, OVD_TABLE_SWAP, HIST_RESET, LR_KICK, PANEL_SENSOR): a load of the inactive bank begins,
or is refused IN_USE or BUSY, and ends with its code; a swap inverts ACTIVE unless one is pending; a kick makes the next tick non-static; a panel
reading is shown, judged, and enters the panel temperature. The model's own choices it rests on: log entries 16, 65, 85. -/
def Obligations.OverdriveTablesAndPanelReadings : Prop :=
  (∀ (s : State) (m : Master) (data : Nat), Running s → MayWrite s m 0x0DE → s.get F.OVD_TABLE_LOAD_BUSY = 0 → s.get F.OVD_TABLE_SWAP_PENDING = 0 →
    s.get F.OVD_TABLE_SWAP_ACTIVE ≠ data % 2 →
    ∃ t, exec (.ovdTableLoad m data) s = .next t ∧ t.get F.OVD_TABLE_LOAD_BUSY = 1 ∧ t.get F.OVD_TABLE_LOAD_BANK = data % 2 ∧
      t.pnl = { s.pnl with load := some (data % 2, s.get F.OVD_TABLE_ADDR_ADDR * 64) } ∧
      KeepsAllRegs (ofFields [F.OVD_TABLE_LOAD_BUSY, F.OVD_TABLE_LOAD_BANK]) s t ∧ KeepsBytes s t) ∧
  (∀ (s : State) (m : Master) (data : Nat), Running s → MayWrite s m 0x0DE → s.get F.OVD_TABLE_LOAD_BUSY = 0 →
    (s.get F.OVD_TABLE_SWAP_PENDING = 1 ∨ s.get F.OVD_TABLE_SWAP_ACTIVE = data % 2) →
    ∃ t, exec (.ovdTableLoad m data) s = .next t ∧ t.get F.OVD_TABLE_STATUS_CODE = 1 ∧ t.pnl = s.pnl ∧
      KeepsAllRegs (ofFields [F.OVD_TABLE_STATUS_CODE, F.OVD_TABLE_LOAD_BANK]) s t ∧ KeepsBytes s t) ∧
  (∀ (s : State) (m : Master) (data : Nat), Running s → MayWrite s m 0x0DE → s.get F.OVD_TABLE_LOAD_BUSY = 1 →
    ∃ t, exec (.ovdTableLoad m data) s = .next t ∧ t.get F.OVD_TABLE_STATUS_CODE = 4 ∧ t.pnl = s.pnl ∧
      KeepsAllRegs (ofFields [F.OVD_TABLE_STATUS_CODE]) s t ∧ KeepsBytes s t) ∧
  (∀ (s : State) (bank addr : Nat), Running s → s.pnl.load = some (bank, addr) → dramBehind s addr 52272 = true →
    (∀ w ∈ wordsOf addr 52272, w ∉ s.mem.badDram ∧ w ∉ s.mem.poisonDram ∧ w ∉ s.mem.weakDram) →
    ∃ t, exec .ovdTableLoadDone s = .next t ∧ t.get F.OVD_TABLE_LOAD_BUSY = 0 ∧ hasBit (t.get (F.IRQ_RAW 0x0DD)) 1 = true ∧
      (lutWordsOk (dramRead s addr 52272) = true → t.get F.OVD_TABLE_STATUS_CODE = 0 ∧
        t.pnl = { s.pnl with load := none, banks := s.pnl.banks.set bank (dramRead s addr 52272) }) ∧
      (lutWordsOk (dramRead s addr 52272) = false → t.get F.OVD_TABLE_STATUS_CODE = 2 ∧ t.pnl = { s.pnl with load := none }) ∧
      Keeps (ofFields [F.OVD_TABLE_LOAD_BUSY, F.OVD_TABLE_STATUS_CODE]) s t) ∧
  (∀ (s : State), Running s → s.pnl.load = none → exec .ovdTableLoadDone s = .next s) ∧
  (∀ (s : State) (m : Master) (data : Nat), Running s → MayWrite s m 0x0DE → data < 2 ^ 32 → (m.host = true → s.get F.CAL_APPLY_PENDING = 0) →
    s.get F.OVD_TABLE_SWAP_PENDING = 0 →
    ∃ t, exec (.ovdTableSwap m data) s = .next t ∧ t.get F.OVD_TABLE_SWAP_ACTIVE = 1 - s.get F.OVD_TABLE_SWAP_ACTIVE ∧ t.get F.OVD_TABLE_SWAP_PENDING = 1 ∧
      t.get F.OVD_TABLE_SWAP_SWAP = 0 ∧ t.pnl = { s.pnl with swapped := [] } ∧
      KeepsAllRegs (ofFields [F.OVD_TABLE_SWAP_ACTIVE, F.OVD_TABLE_SWAP_PENDING, F.OVD_TABLE_SWAP_SWAP]) s t ∧ KeepsBytes s t) ∧
  (∀ (s : State) (m : Master) (data : Nat), Running s → MayWrite s m 0x0DE → data < 2 ^ 32 → (m.host = true → s.get F.CAL_APPLY_PENDING = 0) →
    s.get F.OVD_TABLE_SWAP_PENDING = 1 →
    ∃ t, exec (.ovdTableSwap m data) s = .next t ∧ t.pnl = s.pnl ∧ KeepsAllRegs (ofFields [F.OVD_TABLE_SWAP_SWAP]) s t ∧ KeepsBytes s t) ∧
  (∀ (s : State) (m : Master) (data : Nat), Running s → MayWrite s m 0x0DD → data < 2 ^ 32 →
    ∃ t, exec (.histReset m data) s = .next t ∧ t.get F.OVD_CTRL_HIST_RESET = 1 ∧ t.get F.OVD_CTRL_EN = data % 2 ∧ t.pnl = s.pnl ∧
      KeepsAllRegs (ofFields [F.OVD_CTRL_HIST_RESET, F.OVD_CTRL_EN]) s t ∧ KeepsBytes s t) ∧
  (∀ (s : State) (m : Master) (data : Nat), Running s → MayWrite s m 0x0DC →
    ∃ t, exec (.lrKick m data) s = .next t ∧ t.pnl = (if data % 2 = 1 then { s.pnl with changed := true } else s.pnl) ∧
      KeepsAllRegs noField s t ∧ KeepsBytes s t) ∧
  (∀ (s : State) (b sensor : Nat) (temp : Int), Running s → b < 12 → sensor < s.get (F.PNL_PORT_STATE_SENSORS b) → sensor < 2 → -880 ≤ temp → temp ≤ 2400 →
    s.get (F.THM_SENSOR_STATE (48 + 2 * b + sensor)) = 0 → (usable s s [] (48 + 2 * b + sensor)).length < 2 →
    ∃ t, exec (.panelSensor b sensor temp) s = .next t ∧ t.get (F.PNL_SENSOR_VALID b sensor) = 1 ∧ t.getInt (F.PNL_SENSOR_TEMP b sensor) = temp ∧
      t.getInt (F.THM_RAW_TEMP (48 + 2 * b + sensor)) = temp ∧ t.getInt (F.THM_SENSOR_TEMP (48 + 2 * b + sensor)) = temp ∧
      t.get (F.THM_SENSOR_UNCHECKED (48 + 2 * b + sensor)) = 1 ∧ t.get F.OVD_TEMP_NO_SENSOR = 0 ∧
      t.getInt F.OVD_TEMP_T_PANEL = Int.fdiv ((panelSensors t).foldl (fun x y => x + y) 0) (panelSensors t).length ∧
      Keeps (ofPages [0x0D0 + b, 0x0DC, 0x0DD, 0x150, 0x160, 0x161, 0x162, 0x163]) s t) ∧
  (∀ (s : State) (b sensor : Nat) (temp : Int), Running s → b < 12 → s.get (F.PNL_PORT_STATE_SENSORS b) ≤ sensor ∨ 2 ≤ sensor →
    exec (.panelSensor b sensor temp) s = .next s)

/-- R266, R267, R269 (POWER_OFF_CMD, DISCHARGE_TIMEOUT): a write of 1 to POWER_CMD.OFF stops lot releases, suppresses the strobes not begun and lets the
windows in progress finish, once; when the drivers have not all discharged in 2 ms those missing are logged and the panel is dark: strobes low,
references zero, the drum stopped and braked. The model's own choices it rests on: log entry 67. -/
def Obligations.ThePanelIsPutToRest : Prop :=
  (∀ (s : State) (m : Master) (data : Nat), Running s → MayWrite s m 0x0DC → data < 2 ^ 32 → s.isMember = false → s.pnl.step < 20 → s.cal.pass = none → s.rsy.lots = [] →
    (∀ g, g < 12 → s.get (F.SER_GROUP_STATE_STATE g) ≠ 7) → (∃ p ∈ s.drum.plans, p.started = true ∧ p.closed = false) →
    ∃ t, exec (.powerOffCmd m data) s = .next t ∧ t.get F.PNL_SEQ_STATE_STATE = 3 ∧ t.pnl.step = 21 ∧ t.power = { s.power with off := .command } ∧
      t.drum.bands = [] ∧ (∀ q ∈ t.drum.plans, q.released = 68 ∧ ((q.started = true ∧ q.closed = false) ∨ q.strobe = 1)) ∧
      (∀ p ∈ s.drum.plans, p.started = true → p.closed = false → { p with released := 68, strobe := if p.strobe = 0 then 2 else p.strobe } ∈ t.drum.plans) ∧
      KeepsAllRegs (ofFields [F.PNL_SEQ_STATE_STATE]) s t ∧ KeepsBytes s t) ∧
  (∀ (s : State) (m : Master) (data : Nat), Running s → MayWrite s m 0x0DC → data < 2 ^ 32 → 20 ≤ s.pnl.step →
    ∃ t, exec (.powerOffCmd m data) s = .next t ∧ t.pnl = s.pnl ∧ t.power = s.power ∧ t.drum = s.drum ∧ KeepsAllRegs noField s t ∧ KeepsBytes s t) ∧
  (∀ (s : State), Running s → s.pnl.step = 24 → s.power.off = .warning → s.power.waiting = none →
    ∃ t, exec .dischargeTimeout s = .next t ∧ t.get F.PNL_SEQ_STATE_STATE = 5 ∧ t.pnl.step = 30 ∧ t.pnl.discharging = [] ∧ t.get F.CKP_PNL_PWR_EN = 0 ∧
      t.get F.DRU_SPEED_CODE_CODE = 0 ∧ t.get F.DRU_BRAKE_BRAKE = 1 ∧ hasBit (t.get (F.IRQ_RAW 0x0DC)) 0 = true ∧
      (∀ z, z < 24 → t.get (F.PNL_ZONE_CODE_STROBING z) = 0 ∧ t.get (F.PNL_ZONE_CODE_CODE z) = 0) ∧
      (∀ b, b < 12 → t.get (F.PNL_PORT_STATE_STATE b) = if portReady s b then 6 else s.get (F.PNL_PORT_STATE_STATE b)) ∧
      t.get (F.ERR_CLASS_COUNT_COUNT 7) = satAdd 32 (s.get (F.ERR_CLASS_COUNT_COUNT 7)) s.pnl.discharging.length ∧
      Keeps (ofFields ([F.PNL_SEQ_STATE_STATE, F.CKP_PNL_PWR_EN, F.DRU_SPEED_CODE_CODE, F.DRU_BRAKE_BRAKE, F.DRU_STATE_LF_OUT, F.DRU_STATE_PARKED_OUT,
        F.PNL_LR_STATE_DIVISOR, F.PNL_LR_STATE_HZ] ++ (List.range 24).flatMap (fun z => [F.PNL_ZONE_CODE_STROBING z, F.PNL_ZONE_CODE_CODE z]) ++
        (List.range 12).map F.PNL_PORT_STATE_STATE)) s t) ∧
  (∀ (s : State), Running s → s.pnl.step ≠ 24 → exec .dischargeTimeout s = .next s)

/-- R277, R281, R283, R285, R288, R289 (SER_ENABLE, SER_TRAIN, SER_RETRAIN_LANE, TS, TRAINING_STAGE_TIMEOUT, SYMBOL_LOCK_LOSS, SYMBOL_LOCK_REGAINED,
BACKCHANNEL_RELOCK_TIMEOUT): an enabled group and one told to train begin an attempt in LOCK with the presets; a training set advances a stage both
ends have done, and in EQ applies the request to the lane it names; READY, complete, is ACTIVE; a stage that passes its limit ends the attempt, and
the third fails the group; a lane retrained becomes the spare; the back-channel relocks, or fails its group. For READY's limit the spec names no
reason: it is a free value (log entry 5). The model's own choices it rests on: log entry 79. -/
def Obligations.GroupsTrain : Prop :=
  (∀ (s : State) (m : Master) (g data : Nat), Running s → g < 12 → MayWrite s m (0x0F0 + g) → data < 2 ^ 32 → hasBit data 1 = false → hasBit data 2 = false →
    s.get (F.SER_LOOP_MODE g) = 0 → s.get (F.SER_GROUP_STATE_STATE g) = 0 → s.get (F.PNL_PORT_STATE_STATE g) = 0 → s.get (F.SER_EYE_CTRL_BUSY g) = 0 →
    ∃ t, exec (.serEnable m g data) s = .next t ∧ t.get (F.SER_CTRL_ENABLE g) = 1 ∧ t.get (F.SER_GROUP_STATE_STATE g) = 1 ∧ t.get (F.SER_GROUP_STATE_REASON g) = 0 ∧
      t.get (F.SER_GROUP_STATE_ATTEMPT g) = 1 ∧ t.get (F.SER_TRAINS_COUNT g) = satAdd 32 (s.get (F.SER_TRAINS_COUNT g)) 1 ∧ t.laneGroup g = LaneGroup.reset ∧
      (∀ l, l < 13 → t.get (F.SER_LANE_C_PRE g l) = s.get (F.SER_TX_PRESET_C_PRE g l) ∧ t.get (F.SER_LANE_C_POST g l) = s.get (F.SER_TX_PRESET_C_POST g l)) ∧
      t.out = s.out ++ [.ordered g 1 [g, 1, 0, 0, 0, 0, s.get (F.SER_TX_PRESET_C_PRE g 0), s.get (F.SER_TX_PRESET_C_POST g 0)]] ∧
      KeepsAllRegs (ofPages [0x0F0 + g, 0x0D0 + g]) s t ∧ KeepsBytes s t) ∧
  (∀ (s : State) (m : Master) (g data : Nat), Running s → g < 12 → MayWrite s m (0x0F0 + g) → data < 2 ^ 32 → hasBit data 0 = true → hasBit data 2 = false →
    s.get (F.SER_LOOP_MODE g) = 0 → s.get (F.SER_CTRL_ENABLE g) = 1 → s.get (F.SER_GROUP_STATE_STATE g) ≠ 0 → s.rsy.lots = [] →
    ∃ t, exec (.serTrain m g data) s = .next t ∧ t.get (F.SER_CTRL_TRAIN g) = 1 ∧ t.get (F.SER_GROUP_STATE_STATE g) = 1 ∧ t.get (F.SER_GROUP_STATE_ATTEMPT g) = 1 ∧
      t.get (F.SER_TRAINS_COUNT g) = satAdd 32 (s.get (F.SER_TRAINS_COUNT g)) 1 ∧ t.laneGroup g = LaneGroup.reset ∧
      t.get (F.PNL_PORT_STATE_STATE g) = (if s.get (F.PNL_PORT_STATE_STATE g) = 0 ∨ s.get (F.PNL_PORT_STATE_STATE g) = 6 then s.get (F.PNL_PORT_STATE_STATE g) else 1) ∧
      Keeps (ofPages [0x0F0 + g, 0x0D0 + g, 0x0DC]) s t) ∧
  (∀ (s : State) (m : Master) (g data : Nat), Running s → g < 16 → MayWrite s m (0x0F0 + g) → data < 2 ^ 32 → hasBit data 0 = false → hasBit data 2 = false →
    s.get (F.SER_CTRL_ENABLE g) = 0 →
    ∃ t, exec (.serTrain m g data) s = .next t ∧ t.get (F.SER_CTRL_TRAIN g) = 0 ∧ t.get (F.SER_CTRL_ENABLE g) = 0 ∧ t.ser = s.ser ∧
      KeepsAllRegs (ofFields [F.SER_CTRL_TRAIN g, F.SER_CTRL_RETRAIN_LANE g]) s t ∧ KeepsBytes s t) ∧
  (∀ (s : State) (m : Master) (g data lane : Nat), Running s → g < 16 → MayWrite s m (0x0F0 + g) → data < 2 ^ 32 → hasBit data 0 = true → hasBit data 1 = false →
    s.get (F.SER_LOOP_MODE g) = 0 → s.get (F.SER_CTRL_ENABLE g) = 1 → s.get (F.SER_GROUP_STATE_STATE g) ≠ 0 → lane = data / 2 ^ 8 % 32 → lane < txLanes g →
    s.get (F.SER_LANE_FAILED g lane) = 1 → s.get (F.SER_GROUP_STATE_SPARE g) = 2 →
    ∃ t, exec (.serRetrainLane m g data true) s = .next t ∧ t.get (F.SER_LANE_FAILED g lane) = 0 ∧ t.get (F.SER_GROUP_STATE_SPARE g) = 0 ∧
      t.get (F.SER_GROUP_STATE_SPARE_FOR g) = 0xF ∧ txSpare t g = lane ∧ (∀ l, l < logicalLanes g → txLaneOf t g l = txLaneOf s g l) ∧
      KeepsAllRegs (ofFields [F.SER_CTRL_RETRAIN_LANE g, F.SER_LANE_FAILED g lane, F.SER_GROUP_STATE_SPARE g, F.SER_GROUP_STATE_SPARE_FOR g, F.SER_TX_MAP_MAP g,
        F.PNL_PORT_STATE_SPARE_IN_USE g]) s t ∧ KeepsBytes s t) ∧
  (∀ (s : State) (m : Master) (g data : Nat), Running s → g < 16 → MayWrite s m (0x0F0 + g) → data < 2 ^ 32 → hasBit data 0 = true → hasBit data 1 = false →
    s.get (F.SER_LOOP_MODE g) = 0 → s.get (F.SER_CTRL_ENABLE g) = 1 → s.get (F.SER_GROUP_STATE_STATE g) ≠ 0 →
    ∃ t, exec (.serRetrainLane m g data false) s = .next t ∧ t.ser = s.ser ∧ KeepsAllRegs (ofFields [F.SER_CTRL_RETRAIN_LANE g]) s t ∧ KeepsBytes s t) ∧
  (∀ (s : State) (g st : Nat) (set : Ts) (seen : TsSeen), Running s → g < 16 → s.get (F.SER_GROUP_STATE_STATE g) = st → st = 1 → (s.laneGroup g).peerLoop = 0 →
    seen.complete = true → st ≤ set.stage →
    ∃ t l, exec (.ts g set seen) s = .next t ∧ t.get (F.SER_GROUP_STATE_STATE g) = 2 ∧ t.out = s.out ++ [.ordered g 1 l] ∧ l[1]? = some 2 ∧
      KeepsAllRegs (ofFields [F.SER_GROUP_STATE_STATE g]) s t ∧ KeepsBytes s t) ∧
  (∀ (s : State) (g : Nat) (set : Ts) (seen : TsSeen), Running s → g < 16 → s.get (F.SER_GROUP_STATE_STATE g) = 3 → (s.laneGroup g).peerLoop = 0 → seen.complete = false →
    (s.laneGroup g).ownDone = false → set.toggle ≠ (s.laneGroup g).toggleSeen → set.reqLane < txLanes g →
    ∃ t l, exec (.ts g set seen) s = .next t ∧ t.out = s.out ++ [.ordered g 1 l] ∧
      (hasBit set.request 4 = true → t.get (F.SER_LANE_C_PRE g set.reqLane) = s.get (F.SER_TX_PRESET_C_PRE g set.reqLane) ∧
        t.get (F.SER_LANE_C_POST g set.reqLane) = s.get (F.SER_TX_PRESET_C_POST g set.reqLane)) ∧
      (hasBit set.request 4 = false → set.request % 4 = 1 → s.get (F.SER_LANE_C_PRE g set.reqLane) < 15 →
        s.get (F.SER_LANE_C_PRE g set.reqLane) + s.get (F.SER_LANE_C_POST g set.reqLane) < 31 →
        t.get (F.SER_LANE_C_PRE g set.reqLane) = s.get (F.SER_LANE_C_PRE g set.reqLane) + 1) ∧
      (hasBit set.request 4 = false → set.request / 4 % 4 = 2 → t.get (F.SER_LANE_C_POST g set.reqLane) = s.get (F.SER_LANE_C_POST g set.reqLane) - 1) ∧
      KeepsAllRegs (ofFields [F.SER_LANE_C_PRE g set.reqLane, F.SER_LANE_C_POST g set.reqLane]) s t ∧ KeepsBytes s t) ∧
  (∀ (s : State) (g : Nat) (set : Ts) (seen : TsSeen), Running s → g < 12 → s.get (F.SER_GROUP_STATE_STATE g) = 5 → (s.laneGroup g).peerLoop = 0 → seen.complete = true →
    5 ≤ set.stage → s.get (F.SER_LOOP_MODE g) = 0 → (20 ≤ s.pnl.step ∨ (s.pnl.step < 11 ∧ s.get F.PNL_SEQ_STATE_STATE ≠ 2)) →
    ∃ t, exec (.ts g set seen) s = .next t ∧ t.get (F.SER_GROUP_STATE_STATE g) = 6 ∧ t.get (F.SER_CTRL_TRAIN g) = 0 ∧ hasBit (t.get (F.IRQ_RAW (0x0F0 + g))) 3 = true ∧
      t.get (F.SER_LANE_IN_SERVICE g 16) = 1 ∧ (∀ l, l < logicalLanes g → t.get (F.SER_LANE_IN_SERVICE g (txLaneOf s g l)) = 1) ∧
      Keeps (ofPages [0x0F0 + g]) s t) ∧
  (∀ (s : State) (g : Nat) (set : Ts) (seen : TsSeen), Running s → g < 16 → (s.laneGroup g).peerLoop = 0 →
    s.get (F.SER_GROUP_STATE_STATE g) = 0 ∨ 7 ≤ s.get (F.SER_GROUP_STATE_STATE g) → exec (.ts g set seen) s = .next s) ∧
  (∀ (s : State) (g n : Nat), Running s → g < 16 → 1 ≤ s.get (F.SER_GROUP_STATE_STATE g) → s.get (F.SER_GROUP_STATE_STATE g) ≤ 5 → s.get (F.SER_GROUP_STATE_ATTEMPT g) = n → n < 3 →
    ∃ t, exec (.trainingStageTimeout g) s = .next t ∧ t.get (F.SER_GROUP_STATE_STATE g) = 1 ∧ t.get (F.SER_GROUP_STATE_ATTEMPT g) = n + 1 ∧
      t.get (F.SER_GROUP_STATE_REASON g) = 0 ∧ t.get (F.SER_TRAINS_COUNT g) = satAdd 32 (s.get (F.SER_TRAINS_COUNT g)) 1 ∧ t.laneGroup g = LaneGroup.reset ∧
      (∀ l, l < txLanes g → t.get (F.SER_LANE_C_PRE g l) = s.get (F.SER_TX_PRESET_C_PRE g l) ∧ t.get (F.SER_LANE_C_POST g l) = s.get (F.SER_TX_PRESET_C_POST g l)) ∧
      Keeps (ofPages [0x0F0 + g, 0x0D0 + g]) s t) ∧
  (∀ (s : State) (g st : Nat), Running s → g < 12 → s.get (F.SER_GROUP_STATE_STATE g) = st → 1 ≤ st → st ≤ 5 → s.get (F.SER_GROUP_STATE_ATTEMPT g) = 3 →
    (s.get (F.PNL_PORT_STATE_STATE g) = 0 ∨ s.get (F.PNL_PORT_STATE_STATE g) = 6) → s.pnl.step = 0 →
    ∃ t, exec (.trainingStageTimeout g) s = .next t ∧ t.get (F.SER_GROUP_STATE_STATE g) = 8 ∧ t.get (F.SER_CTRL_TRAIN g) = 0 ∧
      t.get (F.SER_GROUP_STATE_REASON g) = (if st = 5 then s.freeOf 4 else st) ∧ hasBit (t.get (F.IRQ_RAW (0x0F0 + g))) 2 = true ∧
      t.get (F.ERR_CLASS_COUNT_COUNT 6) = satAdd 32 (s.get (F.ERR_CLASS_COUNT_COUNT 6)) 1 ∧ Keeps (ofPages [0x0F0 + g]) s t) ∧
  (∀ (s : State) (g : Nat), Running s → g < 12 → g < s.ser.length → s.get (F.SER_GROUP_STATE_STATE g) = 6 →
    ∃ t, exec (.symbolLockLoss g 16) s = .next t ∧ t.laneGroup g = { s.laneGroup g with relocking := true } ∧ (∀ h, h ≠ g → t.laneGroup h = s.laneGroup h) ∧
      KeepsAllRegs noField s t ∧ KeepsBytes s t) ∧
  (∀ (s : State) (g l : Nat), Running s → 12 ≤ g → g < 16 → s.get (F.SER_GROUP_STATE_STATE g) = 6 → l < 8 → (∀ k, k < l → rxLaneOf s g k ≠ rxLaneOf s g l) →
    (s.laneGroup g).sub = none → (s.laneGroup g).rxSpareState = 0 →
    ∃ t, exec (.symbolLockLoss g (16 + rxLaneOf s g l)) s = .next t ∧ t.out = s.out ++ [.ordered g 3 [5, l, (s.laneGroup g).rxSpare]] ∧ t.ser = s.ser ∧
      KeepsAllRegs noField s t ∧ KeepsBytes s t) ∧
  (∀ (s : State) (g lane : Nat), Running s → g < 16 → s.get (F.SER_GROUP_STATE_STATE g) ≠ 6 → exec (.symbolLockLoss g lane) s = .next s) ∧
  (∀ (s : State) (g : Nat), Running s → g < 16 → (s.laneGroup g).relocking = true →
    ∃ t, exec (.symbolLockRegained g 16) s = .next t ∧ (t.laneGroup g).relocking = false ∧ t.get (F.SER_RELOCKS_COUNT g) = satAdd 32 (s.get (F.SER_RELOCKS_COUNT g)) 1 ∧
      KeepsAllRegs (ofFields [F.SER_RELOCKS_COUNT g]) s t ∧ KeepsBytes s t) ∧
  (∀ (s : State) (g : Nat), Running s → g < 12 → (s.laneGroup g).relocking = true → (s.get (F.PNL_PORT_STATE_STATE g) = 0 ∨ s.get (F.PNL_PORT_STATE_STATE g) = 6) → s.pnl.step = 0 →
    ∃ t, exec (.backchannelRelockTimeout g) s = .next t ∧ t.get (F.SER_GROUP_STATE_STATE g) = 8 ∧ t.get (F.SER_GROUP_STATE_REASON g) = 6 ∧
      (t.laneGroup g).relocking = false ∧ hasBit (t.get (F.IRQ_RAW (0x0F0 + g))) 2 = true ∧ Keeps (ofPages [0x0F0 + g]) s t) ∧
  (∀ (s : State) (g : Nat), Running s → g < 16 → (s.laneGroup g).relocking = false → exec (.backchannelRelockTimeout g) s = .next s)

/-- R285 to R287, R296 (SUB_CMD, LM_BRIDGE, LM_READY, LM_SWAP, LM_ABORT, LM_REQUEST, SUBSTITUTION_TIMEOUT): a substitution starts while the spare is on
standby and bridges, and else answers NO_SPARE or BUSY; a bridge is verified and answered READY or ABORT; READY swaps the lane with the spare in the
map, SWAP takes it on the receiver's side, the old lane is FAILED; an abort and 200 µs end it. The model's own choices it rests on: log entry 79. -/
def Obligations.SparesTakeOver : Prop :=
  (∀ (s : State) (m : Master) (g data l : Nat) (i : Instr), Running s → g < 16 → g < s.ser.length → l < logicalLanes g → (s.laneGroup g).sub = none → s.get (F.SER_GROUP_STATE_STATE g) = 6 →
    s.get (F.SER_GROUP_STATE_SPARE g) = 0 →
    (i = .lmRequest g l ∨ (i = .subCmd m g data ∧ MayWrite s m (0x0F0 + g) ∧ hasBit data 8 = false ∧ data % 16 = l)) →
    ∃ t, exec i s = .next t ∧ t.get (F.SER_SUB_CMD_BUSY g) = 1 ∧ t.get (F.SER_GROUP_STATE_SPARE g) = 1 ∧ t.laneGroup g = { s.laneGroup g with sub := some ⟨true, l⟩ } ∧
      t.out = s.out ++ [.ordered g 3 [1, l, txSpare s g]] ∧
      KeepsAllRegs (ofFields [F.SER_SUB_CMD_BUSY g, F.SER_GROUP_STATE_SPARE g, F.SER_SUB_CMD_DIR g, F.SER_SUB_CMD_LOGICAL g]) s t ∧ KeepsBytes s t) ∧
  (∀ (s : State) (m : Master) (g data : Nat), Running s → g < 16 → MayWrite s m (0x0F0 + g) → hasBit data 8 = false →
    ((s.laneGroup g).sub ≠ none ∨ s.get (F.SER_GROUP_STATE_STATE g) ≠ 6 ∨ s.get (F.SER_GROUP_STATE_SPARE g) ≠ 0 ∨ logicalLanes g ≤ data % 16) →
    ∃ t, exec (.subCmd m g data) s = .next t ∧ t.get (F.SER_SUB_CMD_RESULT g) = (if (s.laneGroup g).sub ≠ none then 5 else 1) ∧ t.ser = s.ser ∧ t.out = s.out ∧
      KeepsAllRegs (ofFields [F.SER_SUB_CMD_RESULT g, F.SER_SUB_CMD_DIR g, F.SER_SUB_CMD_LOGICAL g]) s t ∧ KeepsBytes s t) ∧
  (∀ (s : State) (g l : Nat), Running s → 12 ≤ g → g < 16 → g < s.ser.length → s.get (F.SER_GROUP_STATE_STATE g) = 6 → (s.laneGroup g).sub = none →
    (s.laneGroup g).rxSpareState = 0 → l < 8 →
    ∃ t, exec (.lmBridge g l true) s = .next t ∧ t.get (F.SER_SUB_CMD_BUSY g) = 1 ∧ t.laneGroup g = { s.laneGroup g with sub := some ⟨false, l⟩, rxSpareState := 1 } ∧
      t.out = s.out ++ [.ordered g 3 [2, l, (s.laneGroup g).rxSpare]] ∧ KeepsAllRegs (ofFields [F.SER_SUB_CMD_BUSY g]) s t ∧ KeepsBytes s t) ∧
  (∀ (s : State) (g l : Nat), Running s → 12 ≤ g → g < 16 → g < s.ser.length → s.get (F.SER_GROUP_STATE_STATE g) = 6 → (s.laneGroup g).sub = none →
    (s.laneGroup g).rxSpareState = 0 → (s.laneGroup g).rxSpare < 9 → l < 8 →
    ∃ t, exec (.lmBridge g l false) s = .next t ∧ t.get (F.SER_SUB_CMD_RESULT g) = 2 ∧ t.laneGroup g = { s.laneGroup g with rxSpareState := 3 } ∧
      t.get (F.SER_LANE_FAILED g (16 + (s.laneGroup g).rxSpare)) = 1 ∧ hasBit (t.get (F.IRQ_RAW (0x0F0 + g))) 0 = true ∧
      .ordered g 3 [4, l, (s.laneGroup g).rxSpare] ∈ t.out ∧
      Keeps (ofFields [F.SER_SUB_CMD_RESULT g, F.SER_LANE_FAILED g (16 + (s.laneGroup g).rxSpare), F.SER_LANE_IN_SERVICE g (16 + (s.laneGroup g).rxSpare),
        F.SER_LANE_LOGICAL g (16 + (s.laneGroup g).rxSpare)]) s t) ∧
  (∀ (s : State) (g l old sp : Nat), Running s → g < 16 → g < s.ser.length → (s.laneGroup g).sub = some ⟨true, l⟩ → l < logicalLanes g → old = txLaneOf s g l → sp = txSpare s g →
    old ≠ sp →
    ∃ t, exec (.lmReady g l) s = .next t ∧ txLaneOf t g l = sp ∧ txSpare t g = old ∧ (∀ k, k < logicalLanes g → k ≠ l → txLaneOf t g k = txLaneOf s g k) ∧
      t.get (F.SER_GROUP_STATE_SPARE g) = 2 ∧ t.get (F.SER_GROUP_STATE_SPARE_FOR g) = l ∧ t.get (F.SER_LANE_IN_SERVICE g sp) = 1 ∧ t.get (F.SER_LANE_LOGICAL g sp) = l ∧
      t.get (F.SER_LANE_FAILED g old) = 1 ∧ t.get (F.SER_LANE_IN_SERVICE g old) = 0 ∧ t.get (F.SER_SUB_CMD_BUSY g) = 0 ∧ t.get (F.SER_SUB_CMD_RESULT g) = 0 ∧
      t.get (F.SER_SUBS_COUNT g) = satAdd 32 (s.get (F.SER_SUBS_COUNT g)) 1 ∧ hasBit (t.get (F.IRQ_RAW (0x0F0 + g))) 1 = true ∧
      (g < 12 → t.get (F.PNL_PORT_STATE_SPARE_IN_USE g) = 1) ∧ t.laneGroup g = { s.laneGroup g with sub := none } ∧ .ordered g 3 [3, l, sp] ∈ t.out ∧
      Keeps (ofFields [F.SER_TX_MAP_MAP g, F.SER_GROUP_STATE_SPARE g, F.SER_GROUP_STATE_SPARE_FOR g, F.SER_LANE_IN_SERVICE g sp, F.SER_LANE_LOGICAL g sp, F.SER_LANE_FAILED g old,
        F.SER_LANE_IN_SERVICE g old, F.SER_LANE_LOGICAL g old, F.SER_SUB_CMD_BUSY g, F.SER_SUB_CMD_RESULT g, F.SER_SUBS_COUNT g, F.PNL_PORT_STATE_SPARE_IN_USE g]) s t) ∧
  (∀ (s : State) (g l old sp : Nat), Running s → g < 16 → g < s.ser.length → (s.laneGroup g).sub = some ⟨false, l⟩ → l < 8 → old = rxLaneOf s g l → sp = (s.laneGroup g).rxSpare →
    sp < 9 → old < 9 → old ≠ sp →
    ∃ t, exec (.lmSwap g l) s = .next t ∧ rxLaneOf t g l = sp ∧ (∀ k, k < 8 → k ≠ l → rxLaneOf t g k = rxLaneOf s g k) ∧
      t.laneGroup g = { s.laneGroup g with sub := none, rxSpare := old, rxSpareState := 2 } ∧ t.get (F.SER_LANE_IN_SERVICE g (16 + sp)) = 1 ∧
      t.get (F.SER_LANE_LOGICAL g (16 + sp)) = l ∧ t.get (F.SER_LANE_FAILED g (16 + old)) = 1 ∧ t.get (F.SER_SUB_CMD_BUSY g) = 0 ∧
      t.get (F.SER_SUBS_COUNT g) = satAdd 32 (s.get (F.SER_SUBS_COUNT g)) 1 ∧ hasBit (t.get (F.IRQ_RAW (0x0F0 + g))) 1 = true ∧
      Keeps (ofFields [F.SER_RX_MAP_MAP g, F.SER_LANE_IN_SERVICE g (16 + sp), F.SER_LANE_LOGICAL g (16 + sp), F.SER_LANE_FAILED g (16 + old),
        F.SER_LANE_IN_SERVICE g (16 + old), F.SER_LANE_LOGICAL g (16 + old), F.SER_SUB_CMD_BUSY g, F.SER_SUB_CMD_RESULT g, F.SER_SUBS_COUNT g]) s t) ∧
  (∀ (s : State) (g l : Nat), Running s → g < 16 → g < s.ser.length → (s.laneGroup g).sub = some ⟨true, l⟩ →
    ∃ t, exec (.lmAbort g l) s = .next t ∧ t.get (F.SER_SUB_CMD_BUSY g) = 0 ∧ t.get (F.SER_SUB_CMD_RESULT g) = 2 ∧ t.get (F.SER_GROUP_STATE_SPARE g) = 3 ∧
      t.get (F.SER_LANE_FAILED g (txSpare s g)) = 1 ∧ (t.laneGroup g).sub = none ∧ hasBit (t.get (F.IRQ_RAW (0x0F0 + g))) 0 = true ∧
      Keeps (ofFields [F.SER_SUB_CMD_BUSY g, F.SER_SUB_CMD_RESULT g, F.SER_GROUP_STATE_SPARE g, F.SER_LANE_FAILED g (txSpare s g),
        F.SER_LANE_IN_SERVICE g (txSpare s g), F.SER_LANE_LOGICAL g (txSpare s g)]) s t) ∧
  (∀ (s : State) (g l : Nat), Running s → g < 16 → g < s.ser.length → (s.laneGroup g).sub = some ⟨false, l⟩ →
    ∃ t, exec (.lmAbort g l) s = .next t ∧ t.get (F.SER_SUB_CMD_BUSY g) = 0 ∧ t.get (F.SER_SUB_CMD_RESULT g) = 4 ∧
      t.laneGroup g = { s.laneGroup g with sub := none, rxSpareState := 0 } ∧ KeepsAllRegs (ofFields [F.SER_SUB_CMD_BUSY g, F.SER_SUB_CMD_RESULT g]) s t ∧ KeepsBytes s t) ∧
  (∀ (s : State) (g l : Nat), Running s → g < 16 → g < s.ser.length → (s.laneGroup g).sub = some ⟨true, l⟩ →
    ∃ t, exec (.substitutionTimeout g) s = .next t ∧ t.get (F.SER_SUB_CMD_BUSY g) = 0 ∧ t.get (F.SER_SUB_CMD_RESULT g) = 3 ∧ t.get (F.SER_GROUP_STATE_SPARE g) = 0 ∧
      (t.laneGroup g).sub = none ∧ .ordered g 3 [4, l, txSpare s g] ∈ t.out ∧
      Keeps (ofFields [F.SER_SUB_CMD_BUSY g, F.SER_SUB_CMD_RESULT g, F.SER_GROUP_STATE_SPARE g]) s t) ∧
  (∀ (s : State) (g l : Nat) (i : Instr), Running s → g < 16 → (s.laneGroup g).sub = none → i ∈ [Instr.lmReady g l, .lmSwap g l, .lmAbort g l, .substitutionTimeout g] → exec i s = .next s)

/-- R290, R293 to R295 (EYE_SCAN_START, EYE_SCAN_DONE, LOOP_MODE_WRITE, LOOP_COMMAND, LOOP_ELECTRICAL_IDLE_TIMEOUT, ECHO): a scan starts and ends with its
errors and interrupt; a loop is entered at once near the end, through training at the far end, and left; a peer enters the loop it is told of and
leaves it after electrical idle; echoed segments are compared with those sent. The model's own choices it rests on: log entry 79. -/
def Obligations.EyesAndLoops : Prop :=
  (∀ (s : State) (m : Master) (g data : Nat), Running s → g < 16 → MayWrite s m (0x0F0 + g) → data < 2 ^ 32 → s.get (F.SER_EYE_CTRL_BUSY g) = 0 →
    data / 2 ^ 16 % 2 ^ 8 ≠ 0x80 → 16 ≤ data % 32 → data % 32 ≤ 24 →
    ∃ t, exec (.eyeScanStart m g data) s = .next t ∧ t.get (F.SER_EYE_CTRL_BUSY g) = 1 ∧ t.get (F.SER_EYE_CTRL_ABORTED g) = 0 ∧ t.get (F.SER_EYE_CTRL_LANE g) = data % 32 ∧
      t.get (F.SER_EYE_CTRL_VOLT g) = data / 2 ^ 16 % 2 ^ 8 ∧ t.get (F.SER_EYE_CTRL_PHASE g) = data / 2 ^ 8 % 2 ^ 6 ∧ t.get (F.SER_EYE_CTRL_DWELL g) = data / 2 ^ 24 % 2 ^ 4 ∧
      KeepsAllRegs (ofFields [F.SER_EYE_CTRL_BUSY g, F.SER_EYE_CTRL_ABORTED g, F.SER_EYE_CTRL_LANE g, F.SER_EYE_CTRL_VOLT g, F.SER_EYE_CTRL_PHASE g, F.SER_EYE_CTRL_DWELL g]) s t ∧
      KeepsBytes s t) ∧
  (∀ (s : State) (g errors : Nat), Running s → g < 16 → s.get (F.SER_EYE_CTRL_BUSY g) = 1 →
    ∃ t, exec (.eyeScanDone g errors) s = .next t ∧ t.get (F.SER_EYE_CTRL_BUSY g) = 0 ∧ t.get (F.SER_EYE_ERRORS_COUNT g) = Nat.min errors (2 ^ 32 - 1) ∧
      hasBit (t.get (F.IRQ_RAW (0x0F0 + g))) 4 = true ∧ Keeps (ofFields [F.SER_EYE_CTRL_BUSY g, F.SER_EYE_ERRORS_COUNT g]) s t) ∧
  (∀ (s : State) (g errors : Nat), Running s → g < 16 → s.get (F.SER_EYE_CTRL_BUSY g) = 0 → exec (.eyeScanDone g errors) s = .next s) ∧
  (∀ (s : State) (m : Master) (g data : Nat), Running s → g < 16 → MayWrite s m (0x0F0 + g) → data < 2 ^ 32 → s.get (F.SER_CTRL_ENABLE g) = 0 → s.get (F.SER_LOOP_MODE g) = 0 →
    (data % 8 = 1 ∨ data % 8 = 2) →
    ∃ t, exec (.loopModeWrite m g data) s = .next t ∧ t.get (F.SER_LOOP_MODE g) = data % 8 ∧ t.get (F.SER_LOOP_LANE g) = data / 2 ^ 8 % 32 ∧
      t.get (F.SER_GROUP_STATE_STATE g) = 7 ∧ hasBit (t.get (F.IRQ_RAW (0x0F0 + g))) 5 = true ∧
      Keeps (ofFields [F.SER_LOOP_MODE g, F.SER_LOOP_LANE g, F.SER_GROUP_STATE_STATE g]) s t) ∧
  (∀ (s : State) (m : Master) (g data : Nat), Running s → g < 16 → MayWrite s m (0x0F0 + g) → data < 2 ^ 32 → s.get (F.SER_CTRL_ENABLE g) = 0 → s.get (F.SER_LOOP_MODE g) = 0 →
    (data % 8 = 3 ∨ data % 8 = 4) →
    ∃ t, exec (.loopModeWrite m g data) s = .next t ∧ t.get (F.SER_LOOP_MODE g) = data % 8 ∧ t.get (F.SER_GROUP_STATE_STATE g) = 1 ∧ t.get (F.SER_GROUP_STATE_ATTEMPT g) = 1 ∧
      t.laneGroup g = LaneGroup.reset ∧ Keeps (ofPages [0x0F0 + g, 0x0D0 + g]) s t) ∧
  (∀ (s : State) (m : Master) (g data : Nat), Running s → g < 12 → MayWrite s m (0x0F0 + g) → data < 2 ^ 32 → (s.get (F.SER_LOOP_MODE g) = 3 ∨ s.get (F.SER_LOOP_MODE g) = 4) → data % 8 = 0 →
    s.get (F.SER_GROUP_STATE_STATE g) = 7 → (s.get (F.PNL_PORT_STATE_STATE g) = 0 ∨ s.get (F.PNL_PORT_STATE_STATE g) = 6) → s.pnl.step = 0 →
    ∃ t, exec (.loopModeWrite m g data) s = .next t ∧ t.get (F.SER_LOOP_MODE g) = 0 ∧ t.get (F.SER_GROUP_STATE_STATE g) = 0 ∧
      .ordered g 4 [0, data / 2 ^ 8 % 32] ∈ t.out ∧ Keeps (ofPages [0x0F0 + g, 0x0D0 + g]) s t) ∧
  (∀ (s : State) (g mode lane : Nat), Running s → 12 ≤ g → g < 16 → g < s.ser.length → (mode = 3 ∨ mode = 4) →
    (s.get (F.SER_GROUP_STATE_STATE g) = 5 ∨ s.get (F.SER_GROUP_STATE_STATE g) = 6) → s.get (F.XSH_PORT_STATE (g - 12)) ≠ 2 →
    ∃ t, exec (.loopCommand g mode lane) s = .next t ∧ t.get (F.SER_GROUP_STATE_STATE g) = 7 ∧ t.get (F.XSH_PORT_STATE (g - 12)) = 1 ∧
      t.laneGroup g = { s.laneGroup g with peerLoop := mode } ∧ hasBit (t.get (F.IRQ_RAW (0x0F0 + g))) 5 = true ∧
      Keeps (ofFields [F.SER_GROUP_STATE_STATE g, F.XSH_PORT_STATE (g - 12)]) s t) ∧
  (∀ (s : State) (g lane : Nat) (i : Instr), Running s → 12 ≤ g → g < 16 → g < s.ser.length → (s.laneGroup g).peerLoop ≠ 0 → s.get (F.SER_CTRL_ENABLE g) = 0 →
    i = .loopCommand g 0 lane ∨ i = .loopElectricalIdleTimeout g →
    ∃ t, exec i s = .next t ∧ t.get (F.SER_GROUP_STATE_STATE g) = 0 ∧ t.laneGroup g = { s.laneGroup g with peerLoop := 0 } ∧
      KeepsAllRegs (ofFields [F.SER_GROUP_STATE_STATE g]) s t ∧ KeepsBytes s t) ∧
  (∀ (s : State) (g lane : Nat) (i : Instr), Running s → g < 16 → (s.laneGroup g).peerLoop = 0 → i = .loopCommand g 0 lane ∨ i = .loopElectricalIdleTimeout g → exec i s = .next s) ∧
  (∀ (s : State) (b line lane n bits : Nat) (failed : Bool) (segment : List Byte), Running s → b < 12 → b < s.ser.length → s.get (F.SER_GROUP_STATE_STATE b) = 7 → s.get (F.SER_LOOP_MODE b) = 4 →
    s.get (F.SER_PAT_CTRL_GEN b) = 4 → s.get (F.SER_PAT_CTRL_CHK_EN b) = 1 →
    n = ((List.range 2880).filter (fun j => !decide (segment[j]? = (counterSegment lane)[j]?))).length → bits = (s.laneGroup b).bits + 23040 →
    ∃ t, exec (.echo b line lane failed segment) s = .next t ∧ t.get (F.SER_PAT_ERR_COUNT b) = satAdd 32 (s.get (F.SER_PAT_ERR_COUNT b)) n ∧
      t.get (F.SER_PAT_BITS_COUNT b) = satAdd 32 (s.get (F.SER_PAT_BITS_COUNT b)) (bits / 65536) ∧ t.laneGroup b = { s.laneGroup b with bits := bits % 65536 } ∧
      KeepsAllRegs (ofFields [F.SER_PAT_ERR_COUNT b, F.SER_PAT_BITS_COUNT b]) s t ∧ KeepsBytes s t) ∧
  (∀ (s : State) (b line lane : Nat) (failed : Bool) (segment : List Byte), Running s → s.get (F.SER_GROUP_STATE_STATE b) ≠ 7 ∨ s.get (F.SER_PAT_CTRL_CHK_EN b) = 0 →
    exec (.echo b line lane failed segment) s = .next s)

/-- R297, R299, R301 to R303, R319 (what every Xiesh frame command does first, and XSH_LINK, XSH_TEST, LINK_SEND_TIMER, REPLAY_TIMEOUT): a whole frame
with the expected sequence for this device is counted, acknowledged and delivered; one on a port that is down, aborted, out of sequence or damaged is
not, and the last is refused with a NAK; an acknowledgement frees the frames up to its number, a NAK and a timeout send the others again in order; a
timer sends the port's acknowledgement and credits; a looped TEST frame is compared. The model's own choices it rests on: log entries 49, 50. -/
def Obligations.FramesCrossLinks : Prop :=
  (∀ (s : State) (rx : Rx) (typ k : Nat), rx.port % 4 = k → k < s.yard.ports.length → s.get (F.XSH_PORT_STATE k) = 2 → rx.aborted = false →
    rx.frame.lseq = (s.xport k).rxExpect → rx.headerOk = true → rx.badLanes = 0 → rx.symbols = [] → rx.reservedZero = true → rx.frame.bcast = false →
    rx.frame.dst = s.get F.XSH_ROLE_NUMBER → typ ∈ frameTypes → ownWay typ = false → (rx.frame.vc ≠ 1 ∨ s.isMember = false) →
    ∃ u, Arrives s rx typ u ∧ u.get (F.XSH_COUNT1_COUNT k) = satAdd 32 (s.get (F.XSH_COUNT1_COUNT k)) 1 ∧ (u.xport k).rxExpect = ((s.xport k).rxExpect + 1) % 4096 ∧
      u.out = s.out ++ [.link k ((s.xport k).rxExpect % 4096) (s.xport k).nakDue (u.xport k).rxFreed] ∧
      KeepsAllRegs (ofFields [F.XSH_COUNT1_COUNT k]) s u ∧ u.mem = s.mem) ∧
  (∀ (s : State) (rx : Rx) (c : Instr) (k : Nat), Running s → rx.port % 4 = k → rx.symbols = [] → s.get (F.XSH_PORT_STATE k) ≠ 2 → s.get (F.XSH_PORT_STATE k) ≠ 4 →
    c ∈ [Instr.regWr rx, .regRd rx, .regRdCpl rx, .memWr rx, .memRd rx, .memRdCpl rx, .xshDoorbell rx, .xshIrq rx, .hostWr rx, .hostRd rx, .hostRdCpl rx,
      .enum rx, .enumReply rx, .assign rx, .route rx, .routeAck rx, .linkEvent rx, .yardParam rx, .estimate rx, .rosterChange rx, .flipPrep rx, .flipAck rx, .flip rx] →
    exec c s = .next s) ∧
  (∀ (s : State) (rx : Rx) (c : Instr) (k : Nat), Running s → rx.port % 4 = k → k < s.yard.ports.length → rx.symbols = [] → s.get (F.XSH_PORT_STATE k) = 2 →
    c ∈ [Instr.regWr rx, .regRd rx, .regRdCpl rx, .memWr rx, .memRd rx, .memRdCpl rx, .xshDoorbell rx, .xshIrq rx, .hostWr rx, .hostRd rx, .hostRdCpl rx,
      .enum rx, .enumReply rx, .assign rx, .route rx, .routeAck rx, .linkEvent rx, .yardParam rx, .estimate rx, .rosterChange rx, .flipPrep rx, .flipAck rx, .flip rx] →
    (rx.aborted = true → ∃ t, exec c s = .next t ∧ t.get (F.XSH_COUNT4_COUNT k) = satAdd 32 (s.get (F.XSH_COUNT4_COUNT k)) 1 ∧ t.yard = s.yard ∧
      KeepsAllRegs (ofFields [F.XSH_COUNT4_COUNT k]) s t ∧ KeepsBytes s t) ∧
    (rx.aborted = false → rx.headerOk = true → rx.frame.lseq ≠ (s.xport k).rxExpect → ∃ t, exec c s = .next t ∧
      t.out = s.out ++ [.link k (((s.xport k).rxExpect + 4095) % 4096) (s.xport k).nakDue (s.xport k).rxFreed] ∧ KeepsAllRegs noField s t ∧ KeepsBytes s t) ∧
    (rx.aborted = false → rx.headerOk = true → rx.frame.lseq = (s.xport k).rxExpect → rx.badLanes ≠ 0 → s.get (F.SER_SUB_CFG_AUTO (12 + k)) = 0 →
      ∃ t, exec c s = .next t ∧ t.get (F.XSH_COUNT3_COUNT k) = satAdd 32 (s.get (F.XSH_COUNT3_COUNT k)) 1 ∧ (t.xport k).rxExpect = (s.xport k).rxExpect ∧
        t.out = s.out ++ [.link k (((s.xport k).rxExpect + 4095) % 4096) true (s.xport k).rxFreed] ∧
        KeepsAllRegs (ofFields [F.XSH_COUNT3_COUNT k]) s t ∧ KeepsBytes s t)) ∧
  (∀ (s : State) (rx : Rx) (k i : Nat), Running s → rx.port % 4 = k → k < s.yard.ports.length → rx.symbols = [] → 2 ≤ s.get (F.XSH_PORT_STATE k) → rx.headerOk = true →
    rx.badLanes = 0 → rx.aborted = false → hasBit rx.frame.addr 12 = false → (s.xport k).waiting = [] → s.tim.sent = [] →
    (s.xport k).unacked.findIdx? (fun f => decide (f.lseq = rx.frame.addr % 4096)) = some i →
    ∃ t, exec (.xshLink rx) s = .next t ∧ (t.xport k).unacked = (s.xport k).unacked.drop (i + 1) ∧ (t.xport k).replays = 0 ∧
      (t.xport k).peerFreed = linkCredits rx.frame.addr ∧ t.out = s.out ∧ KeepsAllRegs noField s t ∧ KeepsBytes s t) ∧
  (∀ (s : State) (rx : Rx) (k : Nat), Running s → rx.port % 4 = k → k < s.yard.ports.length → rx.symbols = [] → 2 ≤ s.get (F.XSH_PORT_STATE k) → rx.headerOk = true →
    rx.badLanes = 0 → rx.aborted = false → hasBit rx.frame.addr 12 = true → (s.xport k).waiting = [] → (∀ f ∈ (s.xport k).unacked, f.lseq ≠ rx.frame.addr % 4096) →
    (s.xport k).unacked ≠ [] → (s.xport k).replays < 4 →
    ∃ t, exec (.xshLink rx) s = .next t ∧ t.out = s.out ++ (s.xport k).unacked.map (fun f => .xiesh k f) ∧ (t.xport k).unacked = (s.xport k).unacked ∧
      (t.xport k).replays = (s.xport k).replays + 1 ∧
      t.get (F.XSH_COUNT2_COUNT k) = satAdd 32 (s.get (F.XSH_COUNT2_COUNT k)) (s.xport k).unacked.length ∧
      KeepsAllRegs (ofFields [F.XSH_COUNT2_COUNT k]) s t ∧ KeepsBytes s t) ∧
  (∀ (s : State) (k : Nat), Running s → k < 4 → k < s.yard.ports.length → s.get (F.XSH_PORT_STATE k) = 2 → (s.xport k).unacked ≠ [] → (s.xport k).replays < 4 →
    ∃ t, exec (.replayTimeout k) s = .next t ∧ t.out = s.out ++ (s.xport k).unacked.map (fun f => .xiesh k f) ∧ (t.xport k).unacked = (s.xport k).unacked ∧
      (t.xport k).replays = (s.xport k).replays + 1 ∧
      t.get (F.XSH_COUNT2_COUNT k) = satAdd 32 (s.get (F.XSH_COUNT2_COUNT k)) (s.xport k).unacked.length ∧
      KeepsAllRegs (ofFields [F.XSH_COUNT2_COUNT k]) s t ∧ KeepsBytes s t) ∧
  (∀ (s : State) (k : Nat), Running s → k < 4 → s.get (F.XSH_PORT_STATE k) ≠ 2 ∨ (s.xport k).unacked = [] → exec (.replayTimeout k) s = .next s) ∧
  (∀ (s : State) (k : Nat), Running s → k < 4 → k < s.yard.ports.length → 2 ≤ s.get (F.XSH_PORT_STATE k) →
    ∃ t, exec (.linkSendTimer k) s = .next t ∧
      t.out = s.out ++ [.link k (((s.xport k).rxExpect + 4095) % 4096) (s.xport k).nakDue (s.xport k).rxFreed] ∧ (t.xport k).nakDue = false ∧
      KeepsAllRegs noField s t ∧ KeepsBytes s t) ∧
  (∀ (s : State) (k : Nat), Running s → k < 4 → s.get (F.XSH_PORT_STATE k) < 2 → exec (.linkSendTimer k) s = .next s) ∧
  (∀ (s : State) (rx : Rx) (k errors bits : Nat), Running s → rx.port % 4 = k → rx.symbols = [] → 12 + k < s.ser.length → s.get (F.SER_GROUP_STATE_STATE (12 + k)) = 7 →
    s.get (F.SER_LOOP_MODE (12 + k)) = 4 → s.get (F.SER_PAT_CTRL_GEN (12 + k)) = 4 → s.get (F.SER_PAT_CTRL_CHK_EN (12 + k)) = 1 →
    ∃ t, exec (.xshTest rx errors bits) s = .next t ∧ t.get (F.SER_PAT_ERR_COUNT (12 + k)) = satAdd 32 (s.get (F.SER_PAT_ERR_COUNT (12 + k))) errors ∧
      t.get (F.SER_PAT_BITS_COUNT (12 + k)) = satAdd 32 (s.get (F.SER_PAT_BITS_COUNT (12 + k))) (((s.laneGroup (12 + k)).bits + bits) / 65536) ∧
      (t.laneGroup (12 + k)).bits = ((s.laneGroup (12 + k)).bits + bits) % 65536 ∧
      KeepsAllRegs (ofFields [F.SER_PAT_ERR_COUNT (12 + k), F.SER_PAT_BITS_COUNT (12 + k)]) s t ∧ KeepsBytes s t) ∧
  (∀ (s : State) (rx : Rx) (errors bits : Nat), Running s → rx.symbols = [] → s.get (F.SER_GROUP_STATE_STATE (12 + rx.port % 4)) ≠ 7 → exec (.xshTest rx errors bits) s = .next s)

/-- R34, R36, R51, R228, R313, R320, R473 (REG_WR, REG_RD, REG_RD_CPL, MEM_WR, MEM_RD, MEM_RD_CPL, XSH_DOORBELL, XSH_IRQ, HOST_WR, HOST_RD, HOST_RD_CPL):
the head's frames do at their member what the same access by its Xiesh master does, and are answered; from another source a register write is refused
and logged; a stripe's descriptor is written whole; completions end the reads they answer, in address order; a member's interrupt becomes an MSI-X
message of its vectors, its DMA writes and reads host memory. The model's own choices it rests on: log entries 17, 49, 53. -/
def Obligations.HostAccessesCrossTheYard : Prop :=
  (∀ (s u : State) (rx : Rx), Running s → Running u → Arrives s rx 0x01 u → u.isMember = true → rx.frame.src = 0 →
    rx.frame.tag ≠ 1 ∨ rx.frame.addr / 0x1000 < 0xB1 ∨ 0xB8 < rx.frame.addr / 0x1000 →
    ∃ t, exec (.regWr rx) s = .next t ∧ exec (.registerWrite .xiesh rx.frame.addr rx.frame.arg (leNat rx.frame.payload)) u = .next t) ∧
  (∀ (s u : State) (rx : Rx) (p : Nat), Running s → Arrives s rx 0x01 u → u.isMember = true → rx.frame.src = 0 → rx.frame.tag = 1 → p < 8 →
    rx.frame.addr = (0xB1 + p) * 0x1000 + 0x10C → rx.frame.arg = 4 →
    ∃ t, exec (.regWr rx) s = .next t ∧ t.get (F.CMP_PL_PITCH_BYTES p) = leNat rx.frame.payload % 2 ^ 21 ∧
      t.cmp = { u.cmp with striped := withBit u.cmp.striped p } ∧ KeepsAllRegs (ofFields [F.CMP_PL_PITCH_BYTES p]) u t ∧ KeepsBytes u t) ∧
  (∀ (s u : State) (rx : Rx) (page : Nat), Running s → Arrives s rx 0x01 u → u.isMember = false ∨ rx.frame.src ≠ 0 → page = rx.frame.addr / 0x1000 → pageHasHeader page = true →
    ∃ t, exec (.regWr rx) s = .next t ∧ (u.get (F.ERR_FIRST_VALID page) = 0 → t.get (F.ERR_FIRST_VALID page) = 1 ∧ t.get (F.ERR_FIRST_CODE page) = 0x07) ∧
      t.get F.HIF_ACC_DROPS_COUNT = satAdd 32 (u.get F.HIF_ACC_DROPS_COUNT) 1 ∧ Keeps noField u t) ∧
  (∀ (s u v : State) (rx : Rx) (val k : Nat) (r : Frame), Running s → Arrives s rx 0x02 u → u.isMember = true → rx.frame.src = 0 →
    readAccess u .xiesh rx.frame.addr rx.frame.arg 0 = (v, val) →
    r = mkFrame 0x03 2 0 0 0 (if accessAligned rx.frame.addr rx.frame.arg then 0 else 1) 0 rx.frame.tag (leBytes rx.frame.arg val) → SendsAtOnce v r k →
    ∃ t, exec (.regRd rx) s = .next t ∧ t.out = v.out ++ [.xiesh k (sentFrame v r k)] ∧ KeepsAllRegs (ofFields [F.XSH_COUNT0_COUNT k]) v t ∧ KeepsBytes v t) ∧
  (∀ (s u : State) (rx : Rx) (r : FwdRead), Running s → Arrives s rx 0x03 u → u.yard.reads.find? (fun x => decide (x.tag = rx.frame.tag) && decide (x.slot = rx.frame.src)) = some r →
    ∃ t, exec (.regRdCpl rx) s = .next t ∧ t.out = u.out ++ [.hostData r.tag rx.frame.payload] ∧ (∀ x, x ∈ t.yard.reads ↔ x ∈ u.yard.reads ∧ x.tag ≠ r.tag) ∧
      KeepsAllRegs noField u t ∧ KeepsBytes u t) ∧
  (∀ (s u : State) (rx : Rx) (c : Instr), Running s → (∀ x ∈ u.yard.reads, x.tag ≠ rx.frame.tag ∨ x.slot ≠ rx.frame.src) →
    (c = .regRdCpl rx ∧ Arrives s rx 0x03 u) ∨ (c = .memRdCpl rx ∧ Arrives s rx 0x06 u) → exec c s = .next u) ∧
  (∀ (s u : State) (rx : Rx), Running s → Arrives s rx 0x04 u → rx.frame.payload ≠ [] → SoundMemory u → dramBehind u rx.frame.addr rx.frame.payload.length = true →
    rangeSecure u rx.frame.addr rx.frame.payload.length = false →
    ∃ t, exec (.memWr rx) s = .next t ∧
      (∀ x, rx.frame.addr ≤ x → x < rx.frame.addr + rx.frame.payload.length → memGet t.mem.dram x = rx.frame.payload.getD (x - rx.frame.addr) 0) ∧
      (∀ x, (x < rx.frame.addr ∨ rx.frame.addr + rx.frame.payload.length ≤ x) → memGet t.mem.dram x = memGet u.mem.dram x) ∧ t.mem.host = u.mem.host ∧
      t.mem.loft = u.mem.loft ∧ KeepsAllRegs (ofFields [F.ERR_INJECT_ARM, F.ERR_INJECT_DONE]) u t) ∧
  (∀ (s u : State) (rx : Rx) (k : Nat) (r : Frame), Running s → Arrives s rx 0x05 u → 0 < rx.frame.arg → CleanDram u rx.frame.addr rx.frame.arg →
    r = mkFrame 0x06 2 rx.frame.src 0 0 0 rx.frame.addr rx.frame.tag (dramRead u rx.frame.addr rx.frame.arg) → SendsAtOnce u r k →
    ∃ t, exec (.memRd rx) s = .next t ∧ t.out = u.out ++ [.xiesh k (sentFrame u r k)] ∧ KeepsAllRegs (ofFields [F.XSH_COUNT0_COUNT k]) u t ∧ KeepsBytes u t) ∧
  (∀ (s u : State) (rx : Rx) (r : FwdRead), Running s → Arrives s rx 0x06 u → u.yard.reads.find? (fun x => decide (x.tag = rx.frame.tag) && decide (x.slot = rx.frame.src)) = some r →
    (r.len ≤ ((insertPart (rx.frame.addr, rx.frame.payload) r.parts).flatMap Prod.snd).length →
      ∃ t, exec (.memRdCpl rx) s = .next t ∧ t.out = u.out ++ [.hostData r.tag ((insertPart (rx.frame.addr, rx.frame.payload) r.parts).flatMap Prod.snd)] ∧
        (∀ x, x ∈ t.yard.reads ↔ x ∈ u.yard.reads ∧ x.tag ≠ r.tag) ∧ KeepsAllRegs noField u t ∧ KeepsBytes u t) ∧
    (((insertPart (rx.frame.addr, rx.frame.payload) r.parts).flatMap Prod.snd).length < r.len →
      ∃ t, exec (.memRdCpl rx) s = .next t ∧ t.out = u.out ∧
        t.yard.reads = u.yard.reads.map (fun x => if x.tag = r.tag then { x with parts := insertPart (rx.frame.addr, rx.frame.payload) r.parts } else x) ∧
        KeepsAllRegs noField u t ∧ KeepsBytes u t)) ∧
  (∀ (s u : State) (rx : Rx), Running s → Running u → Arrives s rx 0x07 u → rx.frame.payload.length = 8 →
    ∃ t, exec (.xshDoorbell rx) s = .next t ∧ exec (.doorbell .xiesh (8 * (rx.frame.addr % 2 ^ 18)) 8 (leNat rx.frame.payload)) u = .next t) ∧
  (∀ (s u : State) (rx : Rx) (v : Nat), Running s → Arrives s rx 0x08 u → v = rx.frame.src % 64 * 32 + rx.frame.arg % 32 → u.pcie.functionMask = false →
    (u.get (F.MSIX_MASK v) = 0 → u.pcie.linkUp = true → ∃ t, exec (.xshIrq rx) s = .next t ∧
      t.out = u.out ++ [.msix v (u.get (F.MSIX_ADDR_LO v) + u.get (F.MSIX_ADDR_HI v) * 2 ^ 32) (u.get (F.MSIX_DATA v))] ∧ KeepsAllRegs noField u t ∧ KeepsBytes u t) ∧
    (u.get (F.MSIX_MASK v) = 1 → ∃ t, exec (.xshIrq rx) s = .next t ∧ t.get (F.MSIX_PBA v) = 1 ∧ t.out = u.out ∧ KeepsAllRegs (ofFields [F.MSIX_PBA v]) u t ∧ KeepsBytes u t)) ∧
  (∀ (s u : State) (rx : Rx), Running s → Arrives s rx 0x09 u → SoundMemory u → u.pcie.linkUp = true →
    ∃ t, exec (.hostWr rx) s = .next t ∧
      (∀ x, rx.frame.addr ≤ x → x < rx.frame.addr + rx.frame.payload.length → memGet t.mem.host x = rx.frame.payload.getD (x - rx.frame.addr) 0) ∧
      (∀ x, (x < rx.frame.addr ∨ rx.frame.addr + rx.frame.payload.length ≤ x) → memGet t.mem.host x = memGet u.mem.host x) ∧ t.mem.dram = u.mem.dram ∧
      t.mem.loft = u.mem.loft ∧ KeepsAllRegs noField u t) ∧
  (∀ (s u : State) (rx : Rx), Running s → Arrives s rx 0x09 u → u.pcie.linkUp = false → exec (.hostWr rx) s = .next u) ∧
  (∀ (s u : State) (rx : Rx) (k : Nat) (r : Frame), Running s → Arrives s rx 0x0A u → u.pcie.linkUp = true →
    r = mkFrame 0x0B 2 rx.frame.src 0 0 0 rx.frame.addr rx.frame.tag (hostRead u rx.frame.addr rx.frame.arg) → SendsAtOnce u r k →
    ∃ t, exec (.hostRd rx) s = .next t ∧ t.out = u.out ++ [.xiesh k (sentFrame u r k)] ∧ KeepsAllRegs (ofFields [F.XSH_COUNT0_COUNT k]) u t ∧ KeepsBytes u t) ∧
  (∀ (s u : State) (rx : Rx), Running s → Arrives s rx 0x0B u → SoundMemory u → (∃ n, (rx.frame.tag, rx.frame.addr, n) ∈ u.yard.hostReads) →
    ∃ t, exec (.hostRdCpl rx) s = .next t ∧ t.yard.hostReads.length + 1 = u.yard.hostReads.length ∧
      (∀ x, rx.frame.addr ≤ x → x < rx.frame.addr + rx.frame.payload.length → memGet t.mem.host x = rx.frame.payload.getD (x - rx.frame.addr) 0) ∧
      (∀ x, (x < rx.frame.addr ∨ rx.frame.addr + rx.frame.payload.length ≤ x) → memGet t.mem.host x = memGet u.mem.host x) ∧ t.mem.dram = u.mem.dram ∧
      t.mem.loft = u.mem.loft ∧ KeepsAllRegs noField u t) ∧
  (∀ (s u : State) (rx : Rx), Running s → Arrives s rx 0x0B u → (∀ e ∈ u.yard.hostReads, e.1 ≠ rx.frame.tag ∨ e.2.1 ≠ rx.frame.addr) → exec (.hostRdCpl rx) s = .next u)

/-- R308 to R312, R319, R334 (ENUM, ENUM_REPLY, ASSIGN, HEAD_ELECTION_TIMEOUT, ORPHAN_TIMEOUT): an ENUM on a port that is not cabled to its pair makes the
link MISCABLED; a device takes its coordinates and its head from an ENUM and answers it, and a better candidate keeps its own; the head admits the
device that answers under a yard number, or refuses it with a code; the device that an ASSIGN names takes its number and is a member, or is refused; a
candidate without a better one becomes head with the next generation; a member without its head is an orphan in holdover. The model's own choices it
rests on: log entries 18, 19, 51. -/
def Obligations.YardsAreEnumerated : Prop :=
  (∀ (s u : State) (rx : Rx), Running s → Arrives s rx 0x20 u → u.get F.XSH_CTRL_EN = 0 → exec (.enum rx) s = .next u) ∧
  (∀ (s u : State) (rx : Rx) (k : Nat), Running s → Arrives s rx 0x20 u → rx.port % 4 = k → u.get F.XSH_CTRL_EN = 1 → leAt rx.frame.payload 7 1 % 4 ≠ (k + 2) % 4 →
    u.get (F.XSH_PORT_STATE k) ≠ 3 →
    ∃ t, exec (.enum rx) s = .next t ∧ t.get (F.XSH_PORT_STATE k) = 3 ∧ hasBit (t.get (F.IRQ_RAW 0x100)) 2 = true ∧ hasBit (t.get (F.IRQ_RAW 0x100)) 3 = true ∧
      t.yard.enum = u.yard.enum ∧ Keeps (ofFields [F.XSH_PORT_STATE k, F.XSH_PORT_PEER_PORT k]) u t) ∧
  (∀ (s u : State) (rx : Rx) (k xy j : Nat), Running s → Arrives s rx 0x20 u → rx.port % 4 = k → k < u.yard.ports.length → u.get F.XSH_CTRL_EN = 1 → j = (k + 2) % 4 →
    leAt rx.frame.payload 7 1 % 4 = j → u.role = 0 → u.get F.XSH_ROLE_HEAD_PRIO = 0 → u.yard.enum = none → xy = stepXY (leAt rx.frame.payload 6 1) j → upPorts u = [k] →
    (u.xport k).waiting = [] → 2 ≤ creditsHeld (u.xport k) 0 → replayBytes (u.xport k) + 96 ≤ 131072 →
    ∃ t r, exec (.enum rx) s = .next t ∧ t.get F.XSH_ROLE_X = xy % 16 ∧ t.get F.XSH_ROLE_Y = xy / 16 % 16 ∧ t.get F.XSH_YARD_ID_ID = leAt rx.frame.payload 0 4 ∧
      t.get F.XSH_GEN_YARD_GEN = leAt rx.frame.payload 4 1 ∧ t.get (F.XSH_PORT_PEER_PORT k) = j ∧
      t.yard.enum = some ⟨leAt rx.frame.payload 0 4, leAt rx.frame.payload 4 1, leAt rx.frame.payload 5 1, leAt rx.frame.payload 0x10 8, k, leAt rx.frame.payload 8 1⟩ ∧
      t.out = u.out ++ [.xiesh k r] ∧ r.typ = 0x21 ∧ r.payload.take 50 = identityDigest ++ leBytes 1 (myXY t) ++ leBytes 1 (k + 4 * j) ∧
      KeepsAllRegs (ofFields [F.XSH_ROLE_X, F.XSH_ROLE_Y, F.XSH_YARD_ID_ID, F.XSH_GEN_YARD_GEN, F.XSH_PORT_PEER_PORT k, F.XSH_COUNT0_COUNT k]) u t ∧ KeepsBytes u t) ∧
  (∀ (s u : State) (rx : Rx) (k : Nat), Running s → Arrives s rx 0x20 u → rx.port % 4 = k → u.get F.XSH_CTRL_EN = 1 → leAt rx.frame.payload 7 1 % 4 = (k + 2) % 4 → u.role = 0 →
    u.yard.enum = none → candidate u = true →
    betterEnum u ⟨leAt rx.frame.payload 0 4, leAt rx.frame.payload 4 1, leAt rx.frame.payload 5 1, leAt rx.frame.payload 0x10 8, k, leAt rx.frame.payload 8 1⟩ = false →
    ∃ t, exec (.enum rx) s = .next t ∧ t.get (F.XSH_PORT_PEER_PORT k) = (k + 2) % 4 ∧ t.yard = u.yard ∧ t.out = u.out ∧
      KeepsAllRegs (ofFields [F.XSH_PORT_PEER_PORT k]) u t ∧ KeepsBytes u t) ∧
  (∀ (s u : State) (rx : Rx) (e : EnumHeard) (f : Frame), Running s → Arrives s rx 0x21 u → u.role ≠ 1 → u.yard.enum = some e → e.port < u.yard.ports.length →
    (u.xport e.port).waiting = [] → f = { rx.frame with typ := 0x21, hops := rx.frame.hops + 1 } → f.vc < 4 → mayStart (u.xport e.port) f = true →
    ∃ t, exec (.enumReply rx) s = .next t ∧ t.yard.replyPorts = mapPut u.yard.replyPorts (leAt rx.frame.payload 0x30 1) (rx.port % 4) ∧
      t.out = u.out ++ [.xiesh e.port { f with lseq := (u.xport e.port).txNext }] ∧ KeepsAllRegs (ofFields [F.XSH_COUNT0_COUNT e.port]) u t ∧ KeepsBytes u t) ∧
  (∀ (s u : State) (rx : Rx) (k xy n facets : Nat) (digest : List Byte) (known : Bool), Running s → Arrives s rx 0x21 u → u.role = 1 → rx.port % 4 = k → k < u.yard.ports.length →
    (u.xport k).waiting = [] → 1 ≤ creditsHeld (u.xport k) 0 → replayBytes (u.xport k) + 32 ≤ 131072 → digest = rx.frame.payload.take 48 → xy = leAt rx.frame.payload 0x30 1 →
    facets = leAt rx.frame.payload 0x32 1 → known = u.yard.idRoster.any (fun e => decide (e.digest = digest) && e.enrolled) → extentOk u xy = true → xy ≠ 0 →
    (∀ m ∈ u.yard.members, m.xy = xy → m.digest = digest) → (xy, 3) ∉ u.yard.refused → known = true ∨ u.get F.XSH_CTRL_STRANGER_ADMIT = 1 →
    numberFor u digest xy = some n → n < 64 → u.yard.epochRunning = true →
    ∃ t r, exec (.enumReply rx) s = .next t ∧ t.yard.members = u.yard.members.filter (fun m => !decide (m.digest = digest)) ++ [⟨n, xy, digest, facets, known⟩] ∧
      t.yard.joining = insertNat u.yard.joining n ∧ t.yard.epochAgain = true ∧ t.out = u.out ++ [.xiesh k r] ∧ r.typ = 0x22 ∧ r.dxy = xy ∧
      r.arg = n + b2n known * 65536 ∧ r.addr = leNat (digest.take 8) ∧ KeepsAllRegs (ofFields [F.XSH_COUNT0_COUNT k]) u t ∧ KeepsBytes u t) ∧
  (∀ (s u : State) (rx : Rx) (k xy code : Nat) (digest : List Byte) (known : Bool), Running s → Arrives s rx 0x21 u → u.role = 1 → rx.port % 4 = k → k < u.yard.ports.length →
    (u.xport k).waiting = [] → 1 ≤ creditsHeld (u.xport k) 0 → replayBytes (u.xport k) + 32 ≤ 131072 → digest = rx.frame.payload.take 48 → xy = leAt rx.frame.payload 0x30 1 →
    known = u.yard.idRoster.any (fun e => decide (e.digest = digest) && e.enrolled) → (∀ e ∈ u.yard.idRoster, e.digest ≠ digest) →
    (∀ m ∈ u.yard.members, m.xy = xy → m.digest = digest) →
    (extentOk u xy = false ∧ code = 1) ∨ (extentOk u xy = true ∧ (xy = 0 ∨ (xy, 3) ∈ u.yard.refused) ∧ code = 3) ∨
      (extentOk u xy = true ∧ xy ≠ 0 ∧ (xy, 3) ∉ u.yard.refused ∧ known = false ∧ u.get F.XSH_CTRL_STRANGER_ADMIT = 0 ∧ code = 5) ∨
      (extentOk u xy = true ∧ xy ≠ 0 ∧ (xy, 3) ∉ u.yard.refused ∧ u.get F.XSH_CTRL_STRANGER_ADMIT = 1 ∧ numberFor u digest xy = none ∧ code = 2) →
    ∃ t r, exec (.enumReply rx) s = .next t ∧ t.yard.refused = u.yard.refused.filter (fun e => !decide (e.1 = xy)) ++ [(xy, code)] ∧ .xiesh k r ∈ t.out ∧ r.typ = 0x22 ∧
      r.dxy = xy ∧ r.arg = code * 256 ∧ t.yard.members = u.yard.members ∧ hasBit (t.get (F.IRQ_RAW 0x100)) 3 = true ∧ Keeps (ofFields [F.XSH_PORT_STATE k]) u t) ∧
  (∀ (s u : State) (rx : Rx), Running s → Arrives s rx 0x22 u → u.role = 0 → rx.frame.dxy = myXY u → rx.frame.addr = leNat (identityDigest.take 8) → bitsOf rx.frame.arg 8 3 = 0 →
    u.get F.TIM_SERVO_STATE = 0 →
    ∃ t, exec (.assign rx) s = .next t ∧ t.get F.XSH_ROLE_NUMBER = rx.frame.arg % 64 ∧ t.get F.XSH_ROLE_ROLE = 2 ∧ t.get F.HIF_YARD_ROLE_ROLE = 2 ∧
      hasBit (t.get (F.IRQ_RAW 0x100)) 5 = true ∧ t.get F.TIM_SERVO_STATE = 1 ∧ t.tim.head = u.get F.XSH_YARD_ID_ID ∧ t.yard.sseqRx = none ∧
      Keeps (ofFields [F.XSH_ROLE_NUMBER, F.XSH_ROLE_ROLE, F.HIF_YARD_ROLE_ROLE, F.TIM_SERVO_STATE]) u t) ∧
  (∀ (s u : State) (rx : Rx), Running s → Arrives s rx 0x22 u → u.role ≠ 1 → rx.frame.dxy = myXY u → rx.frame.addr = leNat (identityDigest.take 8) → bitsOf rx.frame.arg 8 3 ≠ 0 →
    ∃ t, exec (.assign rx) s = .next t ∧ (∀ k, k < 4 → t.get (F.XSH_PORT_STATE k) = if portUp u k then 4 else u.get (F.XSH_PORT_STATE k)) ∧
      Keeps (ofFields ((List.range 4).map F.XSH_PORT_STATE)) u t) ∧
  (∀ (s u : State) (rx : Rx) (k : Nat) (f : Frame), Running s → Arrives s rx 0x22 u → u.role ≠ 1 → rx.frame.dxy ≠ myXY u → mapGet u.yard.replyPorts rx.frame.dxy = some k →
    bitsOf rx.frame.arg 8 3 = 0 → k < u.yard.ports.length → (u.xport k).waiting = [] → f = { rx.frame with typ := 0x22, hops := rx.frame.hops + 1 } → f.vc < 4 →
    mayStart (u.xport k) f = true →
    ∃ t, exec (.assign rx) s = .next t ∧ t.out = u.out ++ [.xiesh k { f with lseq := (u.xport k).txNext }] ∧ KeepsAllRegs (ofFields [F.XSH_COUNT0_COUNT k]) u t ∧
      KeepsBytes u t) ∧
  (∀ (s u : State) (rx : Rx), Running s → Arrives s rx 0x22 u →
    u.role = 1 ∨ (rx.frame.dxy = myXY u ∧ rx.frame.addr ≠ leNat (identityDigest.take 8)) ∨ (rx.frame.dxy ≠ myXY u ∧ mapGet u.yard.replyPorts rx.frame.dxy = none) →
    exec (.assign rx) s = .next u) ∧
  (∀ s : State, Running s → candidate s = true → s.yard.enumSent = true → upPorts s ≠ [] →
    ∃ t, exec .headElectionTimeout s = .next t ∧ t.get F.XSH_ROLE_ROLE = 1 ∧ t.get F.HIF_YARD_ROLE_ROLE = 1 ∧ hasBit (t.get (F.IRQ_RAW 0x100)) 5 = true ∧
      t.get F.XSH_GEN_YARD_GEN = (s.get F.XSH_GEN_YARD_GEN + 1) % 256 ∧ t.get F.XSH_YARD_ID_ID = leNat (identityDigest.take 8) % 2 ^ 32 ∧ t.get F.XSH_ROLE_NUMBER = 0 ∧
      t.get F.XSH_ROLE_X = 0 ∧ t.get F.XSH_ROLE_Y = 0 ∧ t.get F.HIF_SLOT_PRESENT_SLOTS = 1 ∧ t.get (F.XSH_MEMBER0_STATE 0) = 1 ∧ t.get F.TIM_SERVO_STATE = 0 ∧
      t.yard.members = [] ∧ t.yard.enum = none ∧
      Keeps (ofFields [F.XSH_ROLE_ROLE, F.HIF_YARD_ROLE_ROLE, F.XSH_GEN_YARD_GEN, F.XSH_YARD_ID_ID, F.XSH_ROLE_NUMBER, F.XSH_ROLE_X, F.XSH_ROLE_Y,
        F.HIF_SLOT_PRESENT_SLOTS, F.XSH_MEMBER0_STATE 0, F.XSH_MEMBER0_FACETS 0, F.XSH_MEMBER1_DIGEST 0, F.XSH_MEMBER3_JOINED 0, F.TIM_SERVO_STATE]) s t) ∧
  (∀ s : State, Running s → candidate s = false ∨ s.yard.enumSent = false ∨ upPorts s = [] → exec .headElectionTimeout s = .next s) ∧
  (∀ s : State, Running s → s.role = 2 → s.get F.TIM_SERVO_STATE ≠ 3 → s.get F.DRU_STATE_LOCK = 1 →
    ∃ t, exec .orphanTimeout s = .next t ∧ t.get F.XSH_ROLE_ROLE = 3 ∧ t.get F.HIF_YARD_ROLE_ROLE = 3 ∧ hasBit (t.get (F.IRQ_RAW 0x100)) 5 = true ∧
      t.get F.TIM_SERVO_STATE = 3 ∧ t.get F.TIM_INCREMENT_INC = meanInc s.tim.incs (s.get F.TIM_INCREMENT_INC) % 2 ^ 36 ∧ t.get F.DRU_STATE_LOCK = 3 ∧
      Keeps (ofFields [F.XSH_ROLE_ROLE, F.HIF_YARD_ROLE_ROLE, F.TIM_SERVO_STATE, F.TIM_INCREMENT_INC, F.DRU_STATE_LOCK]) s t) ∧
  (∀ s : State, Running s → s.role ≠ 2 → exec .orphanTimeout s = .next s)

/-- R306, R307, R316, R318, R169, R170, R329 (ROUTE, ROUTE_ACK, ROUTE_QUIET_END, LINK_EVENT, YARD_PARAM, YARD_PARAM_PERIOD): a member applies the table of
a new epoch, keeps the one before, and answers; the head collects the answers, and after the quiet interval sends what it held; a link event starts an
epoch, or is gathered while one runs; a member takes the head's settings, which set its lock; the head broadcasts them. The model's own choices it
rests on: log entries 19, 52, 88. -/
def Obligations.RoutesAndSettings : Prop :=
  (∀ (s u : State) (rx : Rx), Running s → u.role ≠ 2 → (Arrives s rx 0x23 u → exec (.route rx) s = .next u) ∧ (Arrives s rx 0x26 u → exec (.yardParam rx) s = .next u)) ∧
  (∀ (s u : State) (rx : Rx) (b : RouteTable), Running s → Arrives s rx 0x23 u → u.role = 2 → b = routeOfBytes (rx.frame.addr % 4096) rx.frame.payload → b.parent < 4 →
    b.parent < u.yard.ports.length → portUp u b.parent = true → (∀ k, k < 4 → (u.xport k).waiting = [] ∧ (portUp u k = false → (u.xport k).unacked = [])) →
    1 ≤ creditsHeld (u.xport b.parent) 0 → replayBytes (u.xport b.parent) + 32 ≤ 131072 →
    ∃ t r, exec (.route rx) s = .next t ∧ t.yard.cur = b ∧ t.yard.prev = u.yard.cur ∧ t.get F.XSH_GEN_EPOCH = rx.frame.addr % 4096 ∧ t.get F.TIM_SERVO_PARENT = b.parent ∧
      (∀ k, k < 4 → t.get (F.XSH_PORT_PARENT k) = (if b.parent = k then 1 else 0) ∧ t.get (F.XSH_PORT_CHILD k) = (if hasBit b.children k then 1 else 0)) ∧
      t.out = u.out ++ [.xiesh b.parent r] ∧ r.typ = 0x24 ∧ r.src = u.get F.XSH_ROLE_NUMBER ∧ r.dst = 0 ∧ r.addr = rx.frame.addr % 4096 ∧
      KeepsAllRegs (ofFields ([F.XSH_GEN_EPOCH, F.TIM_SERVO_PARENT, F.XSH_COUNT0_COUNT b.parent] ++ (List.range 4).map F.XSH_PORT_PARENT ++
        (List.range 4).map F.XSH_PORT_CHILD)) u t ∧ KeepsBytes u t) ∧
  (∀ (s u : State) (rx : Rx), Running s → Arrives s rx 0x24 u → rx.frame.addr % 4096 = u.get F.XSH_GEN_EPOCH →
    ∃ t, exec (.routeAck rx) s = .next t ∧ t.yard.ackAwait = u.yard.ackAwait.erase rx.frame.src ∧ t.out = u.out ∧ KeepsAllRegs noField u t ∧ KeepsBytes u t) ∧
  (∀ (s u : State) (rx : Rx), Running s → Arrives s rx 0x24 u → rx.frame.addr % 4096 ≠ u.get F.XSH_GEN_EPOCH → exec (.routeAck rx) s = .next u) ∧
  (∀ s : State, Running s → s.yard.epochRunning = false ∨ s.yard.ackAwait ≠ [] → exec .routeQuietEnd s = .next s) ∧
  (∀ (s : State) (f : Frame) (k : Nat), Running s → s.yard.epochRunning = true → s.yard.ackAwait = [] → s.yard.heldFrames = [f] → s.yard.joining = [] →
    s.yard.epochAgain = false → SendsAtOnce s f k →
    ∃ t, exec .routeQuietEnd s = .next t ∧ t.yard.epochRunning = false ∧ t.yard.heldDests = [] ∧ t.yard.heldFrames = [] ∧ t.out = s.out ++ [.xiesh k (sentFrame s f k)] ∧
      KeepsAllRegs (ofFields [F.XSH_COUNT0_COUNT k]) s t ∧ KeepsBytes s t) ∧
  (∀ (s : State) (n : Nat) (m : YardMember), Running s → s.role = 1 → s.yard.epochRunning = true → s.yard.ackAwait = [] → s.yard.heldFrames = [] → s.yard.joining = [n] →
    s.yard.epochAgain = false → n < 64 → s.yard.members.find? (fun x => decide (x.number = n)) = some m → m.known = false →
    ∃ t, exec .routeQuietEnd s = .next t ∧ t.get F.HIF_SLOT_PRESENT_SLOTS = withBit (s.get F.HIF_SLOT_PRESENT_SLOTS) n ∧
      t.get F.XSH_GEN_MEMBERSHIP = (s.get F.XSH_GEN_MEMBERSHIP + 1) % 4096 ∧ t.get (F.XSH_MEMBER0_STATE n) = 2 ∧ t.get (F.XSH_MEMBER0_X n) = m.xy % 16 ∧
      t.get (F.XSH_MEMBER0_Y n) = m.xy / 16 % 16 ∧ t.get (F.XSH_MEMBER0_FACETS n) = m.facets % 256 ∧
      t.get (F.XSH_MEMBER3_JOINED n) = (s.get F.XSH_GEN_MEMBERSHIP + 1) % 4096 ∧ t.yard.joining = [] ∧ hasBit (t.get (F.IRQ_RAW 0x100)) 0 = true ∧
      hasBit (t.get (F.IRQ_RAW 0x100)) 1 = true ∧ (s.get F.XSH_STRANGER_VALID = 0 → t.get F.XSH_STRANGER_VALID = 1 ∧ t.get F.XSH_STRANGER_NUMBER = n) ∧
      Keeps (eitherField (ofPages [0x101, 0x102]) (ofFields [F.HIF_SLOT_PRESENT_SLOTS, F.XSH_GEN_MEMBERSHIP])) s t) ∧
  (∀ (s u : State) (rx : Rx), Running s → Arrives s rx 0x25 u → u.role ≠ 1 → exec (.linkEvent rx) s = .next u) ∧
  (∀ (s u : State) (rx : Rx), Running s → Arrives s rx 0x25 u → u.role = 1 → u.yard.epochRunning = true →
    ∃ t, exec (.linkEvent rx) s = .next t ∧ t.yard.epochAgain = true ∧
      (∀ e, e ∈ t.yard.downLinks ↔ if rx.frame.arg = 1 then e ∈ u.yard.downLinks ∧ e ≠ (rx.frame.src, rx.frame.addr % 4)
        else e ∈ u.yard.downLinks ∨ e = (rx.frame.src, rx.frame.addr % 4)) ∧ t.out = u.out ∧ KeepsAllRegs noField u t ∧ KeepsBytes u t) ∧
  (∀ (s u : State) (rx : Rx), Running s → Arrives s rx 0x25 u → u.role = 1 → u.yard.epochRunning = false →
    ∃ t, exec (.linkEvent rx) s = .next t ∧ t.yard.epochRunning = true ∧ t.get F.XSH_GEN_EPOCH = (u.get F.XSH_GEN_EPOCH + 1) % 4096 ∧
      t.yard.cur.epoch = (u.get F.XSH_GEN_EPOCH + 1) % 4096 ∧ t.yard.cur.parent = 7 ∧
      ((∀ m ∈ u.yard.members, m.number < 64) →
        Keeps (eitherField (ofPages [0x0A0, 0x100, 0x101]) (ofFields [F.HIF_SLOT_PRESENT_SLOTS, F.TIM_SERVO_PARENT])) u t)) ∧
  (∀ (s u : State) (rx : Rx) (b : List Byte), Running s → Arrives s rx 0x26 u → u.role = 2 → b = rx.frame.payload → leAt b 0 2 < 2 ^ 13 → u.get F.DRU_STATE_STATE = 2 →
    u.get F.DRU_STATE_LOCK = 0 → u.get F.DRU_LOCK_CTRL_EN = 1 → leAt b 3 1 % 2 = 1 → u.get F.DRU_STATE_FACETS = leAt b 2 1 → u.get F.GLB_START_STAGE ≠ 5 →
    u.get F.DRU_REQ_EFF_MODE = 1 →
    ∃ t, exec (.yardParam rx) s = .next t ∧ t.get F.DRU_REQ_EFF_RPM = leAt b 0 2 ∧
      t.get F.DRU_LOCK_PERIOD_T_REV = (if leAt b 0 2 = 0 then 0 else 60000000000 * 2 ^ 32 / leAt b 0 2) % 2 ^ 64 ∧ t.get F.DRU_LOCK_EPOCH_EPOCH = leAt b 8 8 ∧
      t.get F.DRU_STATE_N_MISMATCH = 0 ∧ t.get F.DRU_STATE_LOCK = 1 ∧ hasBit (t.get (F.IRQ_RAW 0x080)) 3 = true ∧
      t.yard.heard = some (leAt b 0 2, leAt b 2 1, 1, leAt b 4 4, leAt b 0x10 4) ∧
      Keeps (eitherField (ofPages [0x082, 0x083]) (ofFields [F.DRU_REQ_EFF_RPM, F.DRU_REQ_EFF_MODE, F.PAGE_EFF_SEQ 0x080, F.PAGE_EFF_REASON_WORD 0x080,
        F.PAGE_EFF_REASON_REASON 0x080, F.DRU_SCHED_SELECT_PENDING, F.DRU_SCHED_SELECT_SWAP, F.DRU_LOCK_PERIOD_T_REV, F.DRU_LOCK_EPOCH_EPOCH, F.DRU_STATE_N_MISMATCH,
        F.DRU_STATE_LOCK])) u t) ∧
  (∀ (s u : State) (rx : Rx) (b : List Byte), Running s → Arrives s rx 0x26 u → u.role = 2 → b = rx.frame.payload → leAt b 0 2 < 2 ^ 13 → u.get F.DRU_STATE_STATE = 0 →
    u.get F.DRU_STATE_LOCK = 0 → u.get F.DRU_STATE_FACETS ≠ 0 → u.get F.DRU_STATE_FACETS ≠ leAt b 2 1 → u.get F.GLB_START_STAGE ≠ 5 → u.get F.DRU_REQ_EFF_MODE = 0 →
    ∃ t, exec (.yardParam rx) s = .next t ∧ t.get F.DRU_STATE_N_MISMATCH = 1 ∧ t.get F.DRU_STATE_LOCK = 0 ∧ t.get F.DRU_REQ_EFF_RPM = leAt b 0 2 ∧
      Keeps (eitherField (ofPages [0x082, 0x083]) (ofFields [F.DRU_REQ_EFF_RPM, F.DRU_REQ_EFF_MODE, F.PAGE_EFF_SEQ 0x080, F.PAGE_EFF_REASON_WORD 0x080,
        F.PAGE_EFF_REASON_REASON 0x080, F.DRU_SCHED_SELECT_PENDING, F.DRU_SCHED_SELECT_SWAP, F.DRU_LOCK_PERIOD_T_REV, F.DRU_LOCK_EPOCH_EPOCH,
        F.DRU_STATE_N_MISMATCH])) u t) ∧
  (∀ s : State, Running s → s.role ≠ 1 ∨ (setBits s.yard.cur.children 4).filter (portUp s) = [] → exec .yardParamPeriod s = .next s) ∧
  (∀ (s : State) (k : Nat), Running s → s.role = 1 → (setBits s.yard.cur.children 4).filter (portUp s) = [k] → k < s.yard.ports.length → (s.xport k).waiting = [] →
    1 ≤ creditsHeld (s.xport k) 0 → replayBytes (s.xport k) + 56 ≤ 131072 →
    ∃ t r, exec .yardParamPeriod s = .next t ∧ t.out = s.out ++ [.xiesh k r] ∧ r.typ = 0x26 ∧ r.bcast = true ∧ r.payload = paramBytes s ∧
      KeepsAllRegs (ofFields [F.XSH_COUNT0_COUNT k]) s t ∧ KeepsBytes s t)

/-- R201, R205 to R207, R318 (SIGHTING, ESTIMATE, ROSTER_CHANGE): a sighting updates the eye of the viewer it names, is counted if it comes late, and says
nothing of a viewer that is not seated; an estimate sets its viewer's eyes; a roster change is gathered over its frames and applied as one edition
under the head's generation. The model's own choices it rests on: log entries 14, 62. -/
def Obligations.TheRosterCrossesTheYard : Prop :=
  (∀ (s u : State) (rx : Rx) (period : Nat), Running s → Arrives s rx 0x30 u →
    (leAt rx.frame.payload 0 4 = 0 ∧ u.role ≠ 1) ∨ (leAt rx.frame.payload 0 4 ≠ 0 ∧ ∀ v ∈ u.roster.viewers, v.id ≠ leAt rx.frame.payload 0 4) →
    exec (.sighting rx period) s = .next u) ∧
  (∀ (s u : State) (rx : Rx) (period : Nat) (b : List Byte) (v : Viewer) (e : EyeEst), Running s → Arrives s rx 0x30 u → b = rx.frame.payload → leAt b 0 4 ≠ 0 →
    u.roster.viewers.find? (fun w => decide (w.id = leAt b 0 4)) = some v → leAt b 4 1 = 0 → v.left = some e → e.te - (period : Int) ≤ ((leAt b 0x18 8 : Nat) : Int) → 2 ≤ leAt b 5 1 →
    (∀ w ∈ u.roster.viewers, ∀ x ∈ u.roster.viewers, w.id = x.id → w.owner = x.owner) →
    ∃ t, exec (.sighting rx period) s = .next t ∧
      t.roster.viewers = u.roster.viewers.map (fun w => if w.slot = v.slot then
        { w with left := some (fuse e (getS32 b 8) (getS32 b 12) (getS32 b 16) (leAt b 0x18 8) (leAt b 5 1)), coasting := false,
                 last := max w.last ((leAt b 0x18 8 : Nat) : Int) } else w) ∧
      (t.roster ≠ u.roster → t.roster.edition = t.roster.viewers ∧ t.get F.VWB_EDITION_COUNT = (u.get F.VWB_EDITION_COUNT + 1) % 2 ^ 32) ∧
      t.get F.VWB_ROSTER_GEN_GEN = u.get F.VWB_ROSTER_GEN_GEN ∧ Keeps (ofPages [0x0A0]) u t) ∧
  (∀ (s u : State) (rx : Rx) (period : Nat) (b : List Byte) (v : Viewer), Running s → Arrives s rx 0x30 u → b = rx.frame.payload → leAt b 0 4 ≠ 0 →
    u.roster.viewers.find? (fun w => decide (w.id = leAt b 0 4)) = some v → leAt b 4 1 = 1 → v.right = none →
    ∃ t, exec (.sighting rx period) s = .next t ∧
      t.roster.viewers = u.roster.viewers.map (fun w => if w.slot = v.slot then
        { w with right := some ⟨getS32 b 8, getS32 b 12, getS32 b 16, 0, 0, 0, ((leAt b 0x18 8 : Nat) : Int)⟩, coasting := false,
                 last := max w.last ((leAt b 0x18 8 : Nat) : Int) } else w) ∧ Keeps (ofPages [0x0A0]) u t) ∧
  (∀ (s u : State) (rx : Rx) (period : Nat) (b : List Byte) (v : Viewer) (e : EyeEst), Running s → Arrives s rx 0x30 u → b = rx.frame.payload → leAt b 0 4 ≠ 0 →
    u.roster.viewers.find? (fun w => decide (w.id = leAt b 0 4)) = some v → leAt b 4 1 = 0 → v.left = some e → ((leAt b 0x18 8 : Nat) : Int) < e.te - (period : Int) →
    ∃ t, exec (.sighting rx period) s = .next t ∧ t.get (F.VWB_COUNT_COUNT 4) = satAdd 32 (u.get (F.VWB_COUNT_COUNT 4)) 1 ∧ t.roster = u.roster ∧
      KeepsAllRegs (ofFields [F.VWB_COUNT_COUNT 4]) u t ∧ KeepsBytes u t) ∧
  (∀ (s u : State) (rx : Rx) (b : List Byte), Running s → Arrives s rx 0x31 u → b = rx.frame.payload →
    ∃ t, exec (.estimate rx) s = .next t ∧
      t.roster.viewers = u.roster.viewers.map (fun v => if v.id = leAt b 0 4 then
        { v with left := if hasBit (leAt b 4 4) 0 then some (eyeOfBytes b 8 ((leAt b 0x38 8 : Nat) : Int)) else none,
                 right := if hasBit (leAt b 4 4) 1 then some (eyeOfBytes b 0x20 ((leAt b 0x38 8 : Nat) : Int)) else none, coasting := false,
                 last := max v.last ((leAt b 0x38 8 : Nat) : Int) } else v) ∧
      t.roster.edition = t.roster.viewers ∧ t.get F.VWB_EDITION_COUNT = (u.get F.VWB_EDITION_COUNT + 1) % 2 ^ 32 ∧
      t.get F.VWB_STATUS_VIEWERS = u.roster.viewers.length % 64 ∧ t.roster.candidates = u.roster.candidates ∧ t.out = u.out ∧
      KeepsAllRegs (ofPages [0x0A0]) u t ∧ KeepsBytes u t) ∧
  (∀ (s u : State) (rx : Rx), Running s → Arrives s rx 0x32 u → u.role ≠ 2 → exec (.rosterChange rx) s = .next u) ∧
  (∀ (s u : State) (rx : Rx) (b : List Byte), Running s → Arrives s rx 0x32 u → u.role = 2 → b = rx.frame.payload → leAt b 4 2 ≠ 0 → 944 < b.length →
    ∃ t, exec (.rosterChange rx) s = .next t ∧ t.yard.rosterGen = leAt b 0 4 ∧
      t.yard.rosterParts = (if u.yard.rosterGen = leAt b 0 4 then u.yard.rosterParts else []) ++ b.drop 8 ∧ t.roster = u.roster ∧ t.out = u.out ∧
      KeepsAllRegs noField u t ∧ KeepsBytes u t) ∧
  (∀ (s u : State) (rx : Rx) (b : List Byte), Running s → Arrives s rx 0x32 u → u.role = 2 → b = rx.frame.payload → leAt b 4 2 = 1 → b.length = 24 →
    u.yard.rosterGen ≠ leAt b 0 4 ∨ u.yard.rosterParts = [] →
    ∃ t, exec (.rosterChange rx) s = .next t ∧ t.get F.VWB_ROSTER_GEN_GEN = leAt b 0 4 ∧ t.roster.full = true ∧ t.yard.rosterParts = [] ∧
      (leAt b 8 1 = 1 → t.roster.viewers = u.roster.viewers.filter (fun v => !decide (v.slot = leAt b 9 1)) ++
        [⟨leAt b 9 1, leAt b 12 4, leAt b 10 1, false, none, none, (u.now : Int)⟩]) ∧
      (leAt b 8 1 = 2 → t.roster.viewers = u.roster.viewers.filter (fun v => !decide (v.id = leAt b 12 4))) ∧
      t.roster.edition = t.roster.viewers ∧ t.get F.VWB_EDITION_COUNT = (u.get F.VWB_EDITION_COUNT + 1) % 2 ^ 32 ∧ t.out = u.out ∧
      KeepsAllRegs (ofPages [0x0A0]) u t ∧ KeepsBytes u t)

/-- R228, R320 (FLIP_PREP, FLIP_ACK, FLIP): a member ties the planes written since the last FLIP_PREP to its group and TAG and acknowledges them; the head
counts an acknowledgement by group and TAG, and shows READY once every member has sent one; a member applies a FLIP that it has prepared, at its time,
and ignores one it has not. The model's own choices it rests on: log entries 17, 64. -/
def Obligations.FlipsCrossTheYard : Prop :=
  (∀ (s u : State) (rx : Rx), Running s → (u.role ≠ 2 → Arrives s rx 0x38 u → exec (.flipPrep rx) s = .next u) ∧ (u.role ≠ 1 → Arrives s rx 0x39 u → exec (.flipAck rx) s = .next u) ∧
    (u.role ≠ 2 → Arrives s rx 0x3A u → exec (.flip rx) s = .next u)) ∧
  (∀ (s u : State) (rx : Rx) (g tag k : Nat) (r : Frame), Running s → Arrives s rx 0x38 u → u.role = 2 → g = rx.frame.arg % 4 → tag = rx.frame.addr % 2 ^ 32 →
    r = mkFrame 0x39 3 0 0 0 g tag 0 [] → SendsAtOnce u r k →
    ∃ t, exec (.flipPrep rx) s = .next t ∧
      t.cmp = { u.cmp with prepared := u.cmp.prepared.filter (fun e => !decide (e.1 = g)) ++ [(g, tag, u.cmp.striped)], striped := 0 } ∧
      t.out = u.out ++ [.xiesh k (sentFrame u r k)] ∧ KeepsAllRegs (ofFields [F.XSH_COUNT0_COUNT k]) u t ∧ KeepsBytes u t) ∧
  (∀ (s u : State) (rx : Rx) (g : Nat), Running s → Arrives s rx 0x39 u → u.role = 1 → g = rx.frame.arg % 4 → (g, rx.frame.src) ∈ u.cmp.acks →
    u.get (F.CMP_FLIP_TAG_TAG g) = rx.frame.addr % 2 ^ 32 →
    ∃ t, exec (.flipAck rx) s = .next t ∧ t.cmp = { u.cmp with acks := u.cmp.acks.erase (g, rx.frame.src), acked := u.cmp.acked ++ [(g, rx.frame.src)] } ∧
      t.get (F.CMP_FLIP_CTRL_READY g) = (if u.get (F.CMP_FLIP_CTRL_ARMED g) = 1 ∧ groupAcked t g = true then 1 else 0) ∧ t.out = u.out ∧
      KeepsAllRegs (ofFields [F.CMP_FLIP_CTRL_READY g]) u t ∧ KeepsBytes u t) ∧
  (∀ (s u : State) (rx : Rx) (g : Nat), Running s → Arrives s rx 0x39 u → u.role = 1 → g = rx.frame.arg % 4 →
    (g, rx.frame.src) ∉ u.cmp.acks ∨ u.get (F.CMP_FLIP_TAG_TAG g) ≠ rx.frame.addr % 2 ^ 32 → exec (.flipAck rx) s = .next u) ∧
  (∀ (s u : State) (rx : Rx) (g tag : Nat) (e : Nat × Nat × Nat), Running s → Arrives s rx 0x3A u → u.role = 2 → g = rx.frame.arg % 4 → tag = leAt rx.frame.payload 0 4 →
    u.cmp.prepared.find? (fun e => decide (e.1 = g) && decide (e.2.1 = tag)) = some e →
    ∃ t, exec (.flip rx) s = .next t ∧ t.cmp = { u.cmp with prepared := u.cmp.prepared.erase e, told := u.cmp.told ++ [(e.2.2, tag, g, rx.frame.addr)] } ∧ t.out = u.out ∧
      KeepsAllRegs noField u t ∧ KeepsBytes u t) ∧
  (∀ (s u : State) (rx : Rx), Running s → Arrives s rx 0x3A u → u.role = 2 → (∀ e ∈ u.cmp.prepared, e.1 ≠ rx.frame.arg % 4 ∨ e.2.1 ≠ leAt rx.frame.payload 0 4) →
    exec (.flip rx) s = .next u)

/-- R329 to R334 (PTP_SYNC, PTP_FOLLOW_UP, PTP_PDELAY_REQ, PTP_PDELAY_RESP, PTP_PDELAY_RESP_FOLLOW_UP, SYNC_INTERVAL, PDELAY_INTERVAL, SYNC_LOSS_TIMEOUT):
a message outside the subset, a Sync or Follow_Up off the slave port and a follow-up that matches nothing are counted in PTP_BAD; a Sync awaits its
Follow_Up, which shows the offset and moves the servo; a request is answered; a complete exchange shows the mean delay; a device sends Sync down the
tree and Pdelay_Req on every port that is up; lost Syncs put the servo into holdover. The model's own choices it rests on: log entries 28, 71. -/
def Obligations.TheYardKeepsTime : Prop :=
  (∀ (s u : State) (rx : Rx) (typ stamp : Nat) (c : Instr), Running s →
    (typ, c) ∈ [(0x0, Instr.ptpSync rx stamp), (0x8, .ptpFollowUp rx stamp), (0x2, .ptpPdelayReq rx stamp), (0x3, .ptpPdelayResp rx stamp),
      (0xA, .ptpPdelayRespFollowUp rx stamp)] → Arrives s { rx with frame := asMessage typ rx.frame } 0x40 u →
    ptpSound typ (asMessage typ rx.frame).payload = false ∨ ((typ = 0x0 ∨ typ = 0x8) ∧ slavePort u (rx.port % 4) = false) →
    ∃ t, exec c s = .next t ∧ t.get F.TIM_PTP_BAD_COUNT = satAdd 32 (u.get F.TIM_PTP_BAD_COUNT) 1 ∧ t.tim = u.tim ∧ t.out = u.out ∧
      KeepsAllRegs (ofFields [F.TIM_PTP_BAD_COUNT]) u t ∧ KeepsBytes u t) ∧
  (∀ (s u : State) (rx : Rx) (stamp k : Nat) (b : List Byte), Running s → Arrives s { rx with frame := asMessage 0x0 rx.frame } 0x40 u → rx.port % 4 = k →
    b = (asMessage 0x0 rx.frame).payload → ptpSound 0x0 b = true → u.role = 2 → k = u.yard.cur.parent →
    ∃ t, exec (.ptpSync rx stamp) s = .next t ∧
      t.tim = { u.tim with syncs := (⟨beAt b 30 2, beAt b 20 8, stamp - u.get (F.TIM_RX_LAT_LAT k), toSigned (beAt b 8 8) 64, u.get F.TIM_STEPS_COUNT % 16⟩ :: u.tim.syncs).take 16 } ∧
      t.out = u.out ∧ KeepsAllRegs noField u t ∧ KeepsBytes u t) ∧
  (∀ (s u : State) (rx : Rx) (stamp k : Nat) (b : List Byte) (e : SyncSeen) (theta : Int), Running s → Arrives s { rx with frame := asMessage 0x8 rx.frame } 0x40 u → rx.port % 4 = k →
    b = (asMessage 0x8 rx.frame).payload → ptpSound 0x8 b = true → u.role = 2 → k = u.yard.cur.parent →
    (u.tim.syncs.find? (fun x => decide (x.seq = beAt b 30 2 ∧ x.clock = beAt b 20 8)) = none →
      ∃ t, exec (.ptpFollowUp rx stamp) s = .next t ∧ t.get F.TIM_PTP_BAD_COUNT = satAdd 32 (u.get F.TIM_PTP_BAD_COUNT) 1 ∧ t.tim = u.tim ∧
        KeepsAllRegs (ofFields [F.TIM_PTP_BAD_COUNT]) u t ∧ KeepsBytes u t) ∧
    (u.tim.syncs.find? (fun x => decide (x.seq = beAt b 30 2 ∧ x.clock = beAt b 20 8)) = some e →
      theta = (e.stamp : Int) - (ptpTime b + e.corr) - (((u.get (F.TIM_MEAN_DELAY_D k) : Nat) : Int) + u.getInt (F.TIM_ASYM_A k)) →
      (e.stepGen ≠ u.get F.TIM_STEPS_COUNT % 16 →
        ∃ t, exec (.ptpFollowUp rx stamp) s = .next t ∧ t.tim = { u.tim with syncs := u.tim.syncs.erase e } ∧ KeepsAllRegs noField u t ∧ KeepsBytes u t) ∧
      (e.stepGen = u.get F.TIM_STEPS_COUNT % 16 → u.get F.TIM_SERVO_STATE = 1 → 10000 * 65536 < iabs theta → u.tim.stepped = false →
        ∃ t, exec (.ptpFollowUp rx stamp) s = .next t ∧ t.get F.TIM_TIME_NS = ofSigned ((u.now : Int) + -(truncDiv theta 65536)) 64 ∧ t.tim.stepped = true ∧
          t.getInt F.TIM_OFFSET_NS = clampInt (truncDiv theta 65536) (-2147483648) 2147483647 ∧ t.get F.TIM_STEPS_COUNT = (u.get F.TIM_STEPS_COUNT + 1) % 2 ^ 32 ∧
          hasBit (t.get (F.IRQ_RAW 0x110)) 1 = true ∧ t.get F.TIM_SERVO_STATE = 1 ∧ Keeps (ofFields [F.TIM_TIME_NS, F.TIM_OFFSET_NS, F.TIM_STEPS_COUNT]) u t) ∧
      (e.stepGen = u.get F.TIM_STEPS_COUNT % 16 → u.get F.TIM_SERVO_STATE = 2 → iabs theta ≤ 1000 * 65536 → 0x1FF7CED91 + u.tim.lockedMean * 200 / 1000000 ≤ u.tim.lockedMean →
        u.tim.lockedMean + u.tim.lockedMean * 200 / 1000000 ≤ 0x20083126F →
        ∃ t, exec (.ptpFollowUp rx stamp) s = .next t ∧ t.getInt F.TIM_OFFSET_NS = truncDiv theta 65536 ∧ t.get F.TIM_SERVO_STATE = 2 ∧
          u.tim.lockedMean - u.tim.lockedMean * 200 / 1000000 ≤ t.get F.TIM_INCREMENT_INC ∧
          t.get F.TIM_INCREMENT_INC ≤ u.tim.lockedMean + u.tim.lockedMean * 200 / 1000000 ∧ KeepsAllRegs (ofFields [F.TIM_OFFSET_NS, F.TIM_INCREMENT_INC]) u t ∧ KeepsBytes u t) ∧
      (e.stepGen = u.get F.TIM_STEPS_COUNT % 16 → u.get F.TIM_SERVO_STATE = 3 → iabs theta ≤ 1000 * 65536 →
        ∃ t, exec (.ptpFollowUp rx stamp) s = .next t ∧ t.get F.TIM_SERVO_STATE = 2 ∧ hasBit (t.get (F.IRQ_RAW 0x110)) 0 = true ∧
          0x1FF7CED91 ≤ t.get F.TIM_INCREMENT_INC ∧ t.get F.TIM_INCREMENT_INC ≤ 0x20083126F ∧
          Keeps (ofFields [F.TIM_OFFSET_NS, F.TIM_INCREMENT_INC, F.TIM_SERVO_STATE]) u t))) ∧
  (∀ (s u : State) (rx : Rx) (stamp k : Nat) (b : List Byte), Running s → Arrives s { rx with frame := asMessage 0x2 rx.frame } 0x40 u → rx.port % 4 = k → k < u.yard.ports.length →
    b = (asMessage 0x2 rx.frame).payload → ptpSound 0x2 b = true → b.length = 54 → (u.xport k).waiting = [] → 2 ≤ creditsHeld (u.xport k) 0 → replayBytes (u.xport k) + 86 ≤ 131072 →
    ∃ t r, exec (.ptpPdelayReq rx stamp) s = .next t ∧ t.out = u.out ++ [.xiesh k r] ∧ r.typ = 0x40 ∧
      r.payload = ptpBytes k 0x3 (beAt b 30 2) (stamp - u.get (F.TIM_RX_LAT_LAT k)) true 5 0x7F ((b.drop 20).take 10) ∧
      t.tim.answers = ((u.tim.answers ++ [(k, beAt b 30 2, beAt b 20 8, beAt b 28 2)]).reverse.take 64).reverse ∧ KeepsAllRegs (ofFields [F.XSH_COUNT0_COUNT k]) u t ∧ KeepsBytes u t) ∧
  (∀ (s u : State) (rx : Rx) (stamp k : Nat) (b : List Byte), Running s → Arrives s { rx with frame := asMessage 0x3 rx.frame } 0x40 u → rx.port % 4 = k →
    b = (asMessage 0x3 rx.frame).payload → ptpSound 0x3 b = true →
    (beAt b 44 8 ≠ myClock ∨ beAt b 52 2 ≠ k + 1 ∨ (∀ e ∈ u.tim.exchanges, e.port ≠ k ∨ e.seq ≠ beAt b 30 2) → exec (.ptpPdelayResp rx stamp) s = .next u) ∧
    (∀ e : DelayExchange, beAt b 44 8 = myClock → beAt b 52 2 = k + 1 → u.tim.exchanges.find? (fun x => decide (x.port = k ∧ x.seq = beAt b 30 2)) = some e →
      e.t1 = none ∨ e.t3 = none →
      ∃ t, exec (.ptpPdelayResp rx stamp) s = .next t ∧
        t.tim = { u.tim with exchanges := u.tim.exchanges.map (fun q => if q.port = k ∧ q.seq = beAt b 30 2 then
          { q with resp := some (beAt b 20 8, (ptpTime b).toNat, stamp - u.get (F.TIM_RX_LAT_LAT k)) } else q) } ∧ KeepsAllRegs noField u t ∧ KeepsBytes u t)) ∧
  (∀ (s u : State) (rx : Rx) (stamp k seq : Nat) (b : List Byte), Running s → Arrives s { rx with frame := asMessage 0xA rx.frame } 0x40 u → rx.port % 4 = k →
    b = (asMessage 0xA rx.frame).payload → ptpSound 0xA b = true → seq = beAt b 30 2 →
    ((∀ e ∈ u.tim.exchanges, e.port = k → e.seq = seq → ∀ r, e.resp = some r → r.1 ≠ beAt b 20 8) →
      ∃ t, exec (.ptpPdelayRespFollowUp rx stamp) s = .next t ∧ t.get F.TIM_PTP_BAD_COUNT = satAdd 32 (u.get F.TIM_PTP_BAD_COUNT) 1 ∧ t.tim = u.tim ∧
        KeepsAllRegs (ofFields [F.TIM_PTP_BAD_COUNT]) u t ∧ KeepsBytes u t) ∧
    (∀ (e : DelayExchange) (t1 t2 t4 : Nat) (l : List Int), u.tim.exchanges.find? (fun x => decide (x.port = k ∧ x.seq = seq)) = some e → e.t1 = some t1 →
      e.resp = some (beAt b 20 8, t2, t4) → e.stepGen = u.get F.TIM_STEPS_COUNT % 16 →
      l = (truncDiv (((t4 : Int) - (t1 : Int)) - (((ptpTime b).toNat : Int) - (t2 : Int))) 2 :: (u.tim.delays.filter (fun q => decide (q.1 = k))).map Prod.snd).take 8 →
      ∃ t, exec (.ptpPdelayRespFollowUp rx stamp) s = .next t ∧
        t.get (F.TIM_MEAN_DELAY_D k) = (clampInt (truncDiv (l.foldl (· + ·) 0) (l.length : Int)) 0 4294967295).toNat ∧
        (∀ q ∈ t.tim.exchanges, q.port ≠ k ∨ q.seq ≠ seq) ∧ KeepsAllRegs (ofFields [F.TIM_MEAN_DELAY_D k]) u t ∧ KeepsBytes u t)) ∧
  (∀ s : State, Running s → (setBits s.yard.cur.children 4).filter (portUp s) = [] → exec .syncInterval s = .next s) ∧
  (∀ (s : State) (k : Nat), Running s → (setBits s.yard.cur.children 4).filter (portUp s) = [k] → k < s.yard.ports.length → (s.xport k).waiting = [] → 2 ≤ creditsHeld (s.xport k) 0 →
    replayBytes (s.xport k) + 76 ≤ 131072 →
    ∃ t r, exec .syncInterval s = .next t ∧ t.out = s.out ++ [.xiesh k r] ∧ r.typ = 0x40 ∧
      r.payload = ptpBytes k 0x0 ((mapVal s.tim.syncSeq k + 1) % 65536) 0 true 0 0xF9 [] ∧ mapVal t.tim.syncSeq k = (mapVal s.tim.syncSeq k + 1) % 65536 ∧
      KeepsAllRegs (ofFields [F.XSH_COUNT0_COUNT k]) s t ∧ KeepsBytes s t) ∧
  (∀ s : State, Running s → upPorts s = [] → exec .pdelayInterval s = .next s) ∧
  (∀ (s : State) (k : Nat), Running s → upPorts s = [k] → k < s.yard.ports.length → (s.xport k).waiting = [] → 2 ≤ creditsHeld (s.xport k) 0 →
    replayBytes (s.xport k) + 86 ≤ 131072 →
    ∃ t r, exec .pdelayInterval s = .next t ∧ t.out = s.out ++ [.xiesh k r] ∧ r.typ = 0x40 ∧
      r.payload = ptpBytes k 0x2 ((mapVal s.tim.reqSeq k + 1) % 65536) 0 false 5 0xFD (leBytes 10 0) ∧
      ⟨k, (mapVal s.tim.reqSeq k + 1) % 65536, none, none, none, s.get F.TIM_STEPS_COUNT % 16⟩ ∈ t.tim.exchanges ∧
      KeepsAllRegs (ofFields [F.XSH_COUNT0_COUNT k]) s t ∧ KeepsBytes s t) ∧
  (∀ s : State, Running s → s.get F.TIM_SERVO_STATE = 1 ∨ s.get F.TIM_SERVO_STATE = 2 → s.get F.DRU_STATE_LOCK = 0 →
    ∃ t, exec .syncLossTimeout s = .next t ∧ t.get F.TIM_SERVO_STATE = 3 ∧ t.get F.TIM_INCREMENT_INC = meanInc s.tim.incs (s.get F.TIM_INCREMENT_INC) % 2 ^ 36 ∧
      hasBit (t.get (F.IRQ_RAW 0x110)) 0 = true ∧ Keeps (ofFields [F.TIM_SERVO_STATE, F.TIM_INCREMENT_INC]) s t) ∧
  (∀ s : State, Running s → s.get F.TIM_SERVO_STATE ≠ 1 → s.get F.TIM_SERVO_STATE ≠ 2 → exec .syncLossTimeout s = .next s)

/-- R327, R331, R336 to R339 (TIME_STEP, TRIGGER_EDGE, TRIGGER_UPDATE, CAPTURE_EDGE, CAP_POP, TXQ_FIND, TXQ_AGE_EXPIRY): a step moves the counter and the
times held with it, and is counted; a trigger rises at its scheduled time, stays high for its width and takes new values at the end of a pulse or at
once while it is low; an edge is stamped in its channel's queue, or counted where that is full; pops and finds move the oldest entry into the entry
register; an aged stamp is discarded and counted. The model's own choices it rests on: log entry 71. -/
def Obligations.StepsTriggersAndStamps : Prop :=
  (∀ (s : State) (m : Master) (data : Nat) (d : Int), Running s → MayWrite s m 0x110 → data < 2 ^ 64 → d = toSigned data 64 →
    ∃ t, exec (.timeStep m data) s = .next t ∧ t.get F.TIM_TIME_NS = ofSigned ((s.now : Int) + d) 64 ∧ t.get F.TIM_STEPS_COUNT = (s.get F.TIM_STEPS_COUNT + 1) % 2 ^ 32 ∧
      hasBit (t.get (F.IRQ_RAW 0x110)) 1 = true ∧ t.drum.te = s.drum.te + d ∧ t.drum.hist = s.drum.hist.map (fun e => (e.1, e.2 + d)) ∧
      t.drum.plans = s.drum.plans.map (stepPlan d) ∧ t.tim.caps = s.tim.caps ∧ t.tim.txq = s.tim.txq ∧
      Keeps (ofFields [F.TIM_TIME_NS, F.TIM_STEPS_COUNT, F.TIM_STEP_NS]) s t) ∧
  (∀ (s : State) (n : Nat) (g : Trig), Running s → n < 16 → s.tim.trigs[n]? = some g → g.fall = none → s.get (F.TIM_TRIG_CTRL_EN n) = 1 → trigSound g = true →
    g.count = 0 ∨ g.made < g.count → pulseTime g ≤ ((timeFrac s : Nat) : Int) → (∀ c, c < 8 → s.get (F.TIM_CAP_CFG_SOURCE c) ≠ 16 + n) →
    ∃ t, exec (.triggerEdge n) s = .next t ∧ t.get (F.TIM_TRIG_CTRL_LEVEL n) = 1 ∧
      t.tim = { s.tim with trigs := s.tim.trigs.set n { g with made := g.made + 1, fall := some (pulseTime g + ((g.width * 2 ^ 32 : Nat) : Int)) } } ∧
      t.out = s.out ++ ((List.range 8).filter (fun p => decide (s.get (F.CAM_CFG_TRIGGERED p) = 1) && decide (s.get (F.CAM_CFG_FSYNC_TRIG p) = n))).map (fun p => .pin 3 p 1) ++
        (if s.get F.TIM_SYNC_OUT_EN = 1 ∧ s.get F.TIM_SYNC_OUT_SEL = n then [.pin 0 0 1] else []) ∧
      KeepsAllRegs (ofFields [F.TIM_TRIG_CTRL_LEVEL n]) s t ∧ KeepsBytes s t) ∧
  (∀ (s : State) (n : Nat) (g : Trig) (f : Int), Running s → n < 16 → s.tim.trigs[n]? = some g → g.fall = some f → f ≤ ((timeFrac s : Nat) : Int) →
    (∀ c, c < 8 → s.get (F.TIM_CAP_CFG_SOURCE c) ≠ 16 + n) →
    (s.get (F.TIM_TRIG_CTRL_UPDATE n) = 0 →
      ∃ t, exec (.triggerEdge n) s = .next t ∧ t.get (F.TIM_TRIG_CTRL_LEVEL n) = 0 ∧ t.tim = { s.tim with trigs := s.tim.trigs.set n { g with fall := none, next := pulseAfter g f } } ∧
        KeepsAllRegs (ofFields [F.TIM_TRIG_CTRL_LEVEL n]) s t ∧ KeepsBytes s t) ∧
    (s.get (F.TIM_TRIG_CTRL_UPDATE n) = 1 → ∀ h : Trig,
      h = ⟨s.get (F.TIM_TRIG_START_NS n), s.get (F.TIM_TRIG_PERIOD_PERIOD n), s.get (F.TIM_TRIG_WIDTH_NS n), s.get (F.TIM_TRIG_COUNT_COUNT n), 0, 0, none⟩ →
      ∃ t, exec (.triggerEdge n) s = .next t ∧ t.get (F.TIM_TRIG_CTRL_LEVEL n) = 0 ∧ t.get (F.TIM_TRIG_CTRL_UPDATE n) = 0 ∧
        t.tim = { s.tim with trigs := s.tim.trigs.set n { h with next := pulseAfter h f } } ∧
        KeepsAllRegs (ofFields [F.TIM_TRIG_CTRL_LEVEL n, F.TIM_TRIG_CTRL_UPDATE n]) s t ∧ KeepsBytes s t)) ∧
  (∀ (s : State) (n : Nat) (g : Trig), Running s → n < 16 → s.tim.trigs[n]? = some g →
    (g.fall = none ∧ (s.get (F.TIM_TRIG_CTRL_EN n) = 0 ∨ trigSound g = false ∨ (g.count ≠ 0 ∧ g.count ≤ g.made) ∨ ((timeFrac s : Nat) : Int) < pulseTime g)) ∨
      (∃ f, g.fall = some f ∧ ((timeFrac s : Nat) : Int) < f) → exec (.triggerEdge n) s = .next s) ∧
  (∀ (s : State) (m : Master) (n data : Nat) (g h : Trig), Running s → MayWrite s m 0x112 → n < 16 → data < 2 ^ 32 → s.tim.trigs[n]? = some g → g.fall = none →
    h = ⟨s.get (F.TIM_TRIG_START_NS n), s.get (F.TIM_TRIG_PERIOD_PERIOD n), s.get (F.TIM_TRIG_WIDTH_NS n), s.get (F.TIM_TRIG_COUNT_COUNT n), 0, 0, none⟩ →
    ∃ t, exec (.triggerUpdate m n data) s = .next t ∧ t.get (F.TIM_TRIG_CTRL_EN n) = data % 2 ∧ t.get (F.TIM_TRIG_CTRL_UPDATE n) = 0 ∧
      t.tim = { s.tim with trigs := s.tim.trigs.set n { h with next := pulseAfter h ((timeFrac s : Nat) : Int) } } ∧
      KeepsAllRegs (ofFields [F.TIM_TRIG_CTRL_EN n, F.TIM_TRIG_CTRL_UPDATE n]) s t ∧ KeepsBytes s t) ∧
  (∀ (s : State) (m : Master) (n data : Nat) (g : Trig) (f : Int), Running s → MayWrite s m 0x112 → n < 16 → data < 2 ^ 32 → s.tim.trigs[n]? = some g → g.fall = some f →
    s.get (F.TIM_TRIG_CTRL_EN n) = 1 →
    ∃ t, exec (.triggerUpdate m n data) s = .next t ∧ t.get (F.TIM_TRIG_CTRL_EN n) = data % 2 ∧ t.get (F.TIM_TRIG_CTRL_UPDATE n) = 1 ∧ t.tim = s.tim ∧
      KeepsAllRegs (ofFields [F.TIM_TRIG_CTRL_EN n, F.TIM_TRIG_CTRL_UPDATE n]) s t ∧ KeepsBytes s t) ∧
  (∀ (s : State) (source c : Nat) (falling : Bool), Running s → source < 13 → c < 8 → source ≠ 1 ∨ s.get F.TIM_SERVO_STATE ≠ 0 ∨ s.get F.TIM_SERVO_PPS = 0 →
    (∀ x, x < 8 → (s.get (F.TIM_CAP_CFG_SOURCE x) = source ∧ hasBit (s.get (F.TIM_CAP_CFG_EDGE x)) (if falling then 1 else 0) = true ↔ x = c)) →
    ((s.tim.caps.filter (fun e => decide (e.channel = c))).length < 16 →
      ∃ t, exec (.captureEdge source falling) s = .next t ∧ t.tim = { s.tim with caps := s.tim.caps ++ [⟨c, s.now, s.get F.TIM_STEPS_COUNT % 16, falling⟩] } ∧ t.out = s.out ∧
        KeepsAllRegs noField s t ∧ KeepsBytes s t) ∧
    (16 ≤ (s.tim.caps.filter (fun e => decide (e.channel = c))).length →
      ∃ t, exec (.captureEdge source falling) s = .next t ∧ t.tim.caps = s.tim.caps ∧ t.get (F.TIM_CAP_CFG_OVERFLOW c) = satAdd 16 (s.get (F.TIM_CAP_CFG_OVERFLOW c)) 1 ∧
        hasBit (t.get (F.IRQ_RAW 0x110)) 3 = true ∧ Keeps (ofFields [F.TIM_CAP_CFG_OVERFLOW c]) s t)) ∧
  (∀ (s : State) (source : Nat) (falling : Bool), Running s → source ≠ 1 ∨ s.get F.TIM_SERVO_STATE ≠ 0 ∨ s.get F.TIM_SERVO_PPS = 0 →
    13 ≤ source ∨ (∀ x, x < 8 → ¬(s.get (F.TIM_CAP_CFG_SOURCE x) = source ∧ hasBit (s.get (F.TIM_CAP_CFG_EDGE x)) (if falling then 1 else 0) = true)) →
    exec (.captureEdge source falling) s = .next s) ∧
  (∀ (s : State) (falling : Bool), Running s → s.get F.TIM_SERVO_STATE = 0 → s.get F.TIM_SERVO_PPS = 1 → s.get (F.TIM_CAP_CFG_SOURCE 1) = 1 →
    hasBit (s.get (F.TIM_CAP_CFG_EDGE 1)) (if falling then 1 else 0) = true →
    ∃ t, exec (.captureEdge 1 falling) s = .next t ∧ 0x1FF7CED91 ≤ t.get F.TIM_INCREMENT_INC ∧ t.get F.TIM_INCREMENT_INC ≤ 0x20083126F ∧ t.get F.TIM_SERVO_STATE = 0 ∧
      Keeps (ofFields (F.TIM_INCREMENT_INC :: (List.range 8).map F.TIM_CAP_CFG_OVERFLOW)) s t) ∧
  (∀ (s : State) (m : Master) (c data : Nat), Running s → MayWrite s m 0x113 → c < 8 → data < 2 ^ 32 →
    (s.tim.caps.filter (fun e => decide (e.channel = c)) = [] →
      ∃ t, exec (.capPop m c data) s = .next t ∧ t.get (F.TIM_CAP_ENTRY_VALID c) = 0 ∧ t.get (F.TIM_CAP_ENTRY_COUNT c) = 0 ∧ t.tim = s.tim ∧
        KeepsAllRegs (ofFields [F.TIM_CAP_POP_POP c, F.TIM_CAP_ENTRY_VALID c, F.TIM_CAP_ENTRY_COUNT c]) s t ∧ KeepsBytes s t) ∧
    (∀ (e : Capture) (rest : List Capture), s.tim.caps.filter (fun e => decide (e.channel = c)) = e :: rest →
      ∃ t, exec (.capPop m c data) s = .next t ∧ t.get (F.TIM_CAP_ENTRY_VALID c) = 1 ∧ t.get (F.TIM_CAP_ENTRY_COUNT c) = rest.length % 32 ∧
        t.get (F.TIM_CAP_ENTRY_NS c) = e.ns % 2 ^ 64 ∧ t.get (F.TIM_CAP_ENTRY_STEP_GEN c) = e.stepGen % 16 ∧ t.get (F.TIM_CAP_ENTRY_FALLING c) = (if e.falling then 1 else 0) ∧
        t.tim = { s.tim with caps := s.tim.caps.erase e } ∧
        KeepsAllRegs (ofFields [F.TIM_CAP_POP_POP c, F.TIM_CAP_ENTRY_VALID c, F.TIM_CAP_ENTRY_COUNT c, F.TIM_CAP_ENTRY_NS c, F.TIM_CAP_ENTRY_STEP_GEN c, F.TIM_CAP_ENTRY_FALLING c]) s t ∧
        KeepsBytes s t)) ∧
  (∀ (s : State) (m : Master) (k data : Nat), Running s → MayWrite s m 0x111 → k < 4 → data < 2 ^ 32 →
    ((txqOf s k).find? (fun e => decide (e.typ = bitsOf data 24 4 ∧ e.seq = bitsOf data 0 16)) = none →
      ∃ t, exec (.txqFind m k data) s = .next t ∧ t.get (F.TIM_TXQ_ENTRY_FOUND k) = 0 ∧ t.tim = s.tim ∧
        KeepsAllRegs (ofFields [F.TIM_TXQ_ENTRY_FOUND k, F.TIM_TXQ_FIND_TYPE k, F.TIM_TXQ_FIND_SEQ k]) s t ∧ KeepsBytes s t) ∧
    (∀ e : TxStamp, (txqOf s k).find? (fun e => decide (e.typ = bitsOf data 24 4 ∧ e.seq = bitsOf data 0 16)) = some e → (∀ i, m ≠ .mp i) ∨ e.replayed = true →
      ∃ t, exec (.txqFind m k data) s = .next t ∧ t.get (F.TIM_TXQ_ENTRY_FOUND k) = 1 ∧ t.get (F.TIM_TXQ_ENTRY_NS k) = e.stamp / 2 ^ 16 % 2 ^ 64 ∧
        t.get (F.TIM_TXQ_ENTRY_FRAC k) = e.stamp % 2 ^ 16 ∧ t.get (F.TIM_TXQ_ENTRY_STEP_GEN k) = e.stepGen % 16 ∧
        t.get (F.TIM_TXQ_ENTRY_REPLAYED k) = (if e.replayed then 1 else 0) ∧ t.tim = { s.tim with txq := s.tim.txq.erase e } ∧ t.out = s.out ∧
        KeepsAllRegs (ofFields [F.TIM_TXQ_ENTRY_FOUND k, F.TIM_TXQ_FIND_TYPE k, F.TIM_TXQ_FIND_SEQ k, F.TIM_TXQ_ENTRY_NS k, F.TIM_TXQ_ENTRY_FRAC k, F.TIM_TXQ_ENTRY_STEP_GEN k,
          F.TIM_TXQ_ENTRY_REPLAYED k, F.TIM_TXQ_STAT_COUNT k]) s t ∧ KeepsBytes s t) ∧
    (∀ (e : TxStamp) (i : Nat), m = .mp i → (txqOf s k).find? (fun e => decide (e.typ = bitsOf data 24 4 ∧ e.seq = bitsOf data 0 16)) = some e → e.replayed = false → e.typ = 0 →
      k < s.yard.ports.length → (s.xport k).waiting = [] → 2 ≤ creditsHeld (s.xport k) 0 → replayBytes (s.xport k) + 76 ≤ 131072 →
      ∃ t r, exec (.txqFind m k data) s = .next t ∧ t.get (F.TIM_TXQ_ENTRY_FOUND k) = 1 ∧ t.out = s.out ++ [.xiesh k r] ∧ r.typ = 0x40 ∧
        r.payload = ptpBytes k 0x8 e.seq e.stamp false 2 0xF9 [] ∧
        KeepsAllRegs (ofFields [F.TIM_TXQ_ENTRY_FOUND k, F.TIM_TXQ_FIND_TYPE k, F.TIM_TXQ_FIND_SEQ k, F.TIM_TXQ_ENTRY_NS k, F.TIM_TXQ_ENTRY_FRAC k, F.TIM_TXQ_ENTRY_STEP_GEN k,
          F.TIM_TXQ_ENTRY_REPLAYED k, F.TIM_TXQ_STAT_COUNT k, F.XSH_COUNT0_COUNT k]) s t ∧ KeepsBytes s t)) ∧
  (∀ (s : State) (k : Nat), Running s → k < 4 → txqOf s k = [] → exec (.txqAgeExpiry k) s = .next s) ∧
  (∀ (s : State) (k : Nat) (e : TxStamp), Running s → k < 4 → (txqOf s k).head? = some e →
    ∃ t, exec (.txqAgeExpiry k) s = .next t ∧ t.tim = { s.tim with txq := s.tim.txq.erase e } ∧
      t.get (F.TIM_TXQ_STAT_AGED k) = satAdd 8 (s.get (F.TIM_TXQ_STAT_AGED k)) 1 ∧ t.get (F.TIM_TXQ_STAT_COUNT k) = ((txqOf s k).length - 1) % 32 ∧
      KeepsAllRegs (ofFields [F.TIM_TXQ_STAT_AGED k, F.TIM_TXQ_STAT_COUNT k]) s t ∧ KeepsBytes s t)

/-- R350, R351, R354 to R363, R365 (REFRESH_INTERVAL, READ_CENTRING_CHECK, SCRUB_PASS, SPEED_GO, SPEED_CHANGE_DONE, MIGRATION_DONE, DMC_LOOP,
DMC_LOOP_DONE): banks that are not in use pay their debts, and one that stays in use is owed one more, forced at 8; a rank's delays move by at most a
sixty-fourth; the scrubber's correctable and uncorrectable words are counted and handled; the timing sets exchange in a dark interval and are refused
otherwise; a migration ends its remap entry, and the last of an event takes the rank out of service; a loop runs on a rank out of use, and a spare
that fails it is no spare. The model's own choices it rests on: log entries 23, 24, 33, 34. -/
def Obligations.DramIsKept : Prop :=
  (∀ s : State, Running s →
    ∃ t, exec (.refreshInterval []) s = .next t ∧ t.dmc = { s.dmc with debts := [] } ∧
      (∀ c, c < 16 → t.get (F.DMC_REF_DEBT_MAX_DEBT c) = if s.get (F.DMC_CH_STATE_STATE c) = 2 then Nat.max (s.get (F.DMC_REF_DEBT_MAX_DEBT c)) 1 else s.get (F.DMC_REF_DEBT_MAX_DEBT c)) ∧
      KeepsAllRegs (ofFields ((List.range 16).map F.DMC_REF_DEBT_MAX_DEBT)) s t ∧ KeepsBytes s t) ∧
  (∀ (s : State) (k d : Nat), Running s → k < 768 → rankPresent s (k / 48 * 4 + k / 16 % 3) = true → d = mapVal s.dmc.debts k + 1 →
    (d < 8 → ∃ t, exec (.refreshInterval [k]) s = .next t ∧ mapVal t.dmc.debts k = d ∧ d ≤ t.get (F.DMC_REF_DEBT_MAX_DEBT (k / 48)) ∧
      KeepsAllRegs (ofFields ((List.range 16).map F.DMC_REF_DEBT_MAX_DEBT)) s t ∧ KeepsBytes s t) ∧
    (8 ≤ d → ∃ t, exec (.refreshInterval [k]) s = .next t ∧ mapVal t.dmc.debts k = 7 ∧ 8 ≤ t.get (F.DMC_REF_DEBT_MAX_DEBT (k / 48)) ∧
      t.get (F.DMC_REF_FORCED_COUNT (k / 48)) = satAdd 32 (s.get (F.DMC_REF_FORCED_COUNT (k / 48))) 1 ∧
      KeepsAllRegs (ofFields (F.DMC_REF_FORCED_COUNT (k / 48) :: (List.range 16).map F.DMC_REF_DEBT_MAX_DEBT)) s t ∧ KeepsBytes s t)) ∧
  (∀ (s : State) (c r : Nat) (step : Int), Running s → c < 16 → r < 3 →
    ∃ t, exec (.readCentringCheck c r step) s = .next t ∧ assoc t.dmc.centring (4 * c + r) = some ((assoc s.dmc.centring (4 * c + r)).getD 0 + clampInt step (-1) 1) ∧
      KeepsAllRegs noField s t ∧ KeepsBytes s t) ∧
  (∀ (s : State) (a w found : Nat), Running s → w = a / 8 * 8 → w ∉ s.mem.badDram → w ∉ s.mem.weakDram →
    found = 0 ∨ w ∈ s.mem.poisonDram → exec (.scrubPass (.plain a) found) s = .next s) ∧
  (∀ (s : State) (a w u : Nat), Running s → w = a / 8 * 8 → w ∉ s.mem.badDram → w ∉ s.mem.weakDram → w ∉ s.mem.poisonDram → rankOf s w = some u → u < 64 → u % 4 < 3 →
    s.dmc.ceTimes = [] → 1 ≤ s.get F.DMC_SPARE_CFG_CE_LIMIT →
    ∃ t, exec (.scrubPass (.plain a) 1) s = .next t ∧ t.get (F.DMC_CE_COUNT_COUNT (u / 4) (u % 4)) = satAdd 32 (s.get (F.DMC_CE_COUNT_COUNT (u / 4) (u % 4))) 1 ∧
      t.dmc.ceTimes = [(u, s.now)] ∧ t.dmc.requests = s.dmc.requests ∧ Keeps (ofFields [F.DMC_CE_COUNT_COUNT (u / 4) (u % 4)]) s t) ∧
  (∀ (s : State) (a w u : Nat), Running s → w = a / 8 * 8 → w ∉ s.mem.weakDram → w ∉ s.mem.poisonDram → rankOf s w = some u → u < 64 → u % 4 < 3 →
    ∃ t, exec (.scrubPass (.plain a) 2) s = .next t ∧ w ∈ t.mem.badDram ∧ t.get (F.DMC_UE_COUNT_COUNT (u / 4) (u % 4)) = satAdd 32 (s.get (F.DMC_UE_COUNT_COUNT (u / 4) (u % 4))) 1 ∧
      w ∈ t.dmc.rebuild ∧ u ∈ t.dmc.requests ∧ hasBit (t.get (F.IRQ_RAW 0x130)) 0 = true ∧ Keeps (ofFields [F.DMC_UE_COUNT_COUNT (u / 4) (u % 4)]) s t) ∧
  (∀ (s : State) (u : Nat), Running s → u < 64 → u % 4 < 3 → s.dmc.ceTimes = [] → 1 ≤ s.get F.DMC_SPARE_CFG_CE_LIMIT →
    exec (.scrubPass (.spare u) 0) s = .next s ∧
    ∃ t, exec (.scrubPass (.spare u) 1) s = .next t ∧ t.get (F.DMC_CE_COUNT_COUNT (u / 4) (u % 4)) = satAdd 32 (s.get (F.DMC_CE_COUNT_COUNT (u / 4) (u % 4))) 1 ∧
      Keeps (ofFields [F.DMC_CE_COUNT_COUNT (u / 4) (u % 4)]) s t) ∧
  (∀ (s : State) (a w u n : Nat), Running s → w = a / 8 * 8 → w ∉ s.mem.weakDram → w ∉ s.mem.poisonDram → rankOf s w = some u → u < 64 → u % 4 < 3 →
    (∃ t, exec (.scrubPass (.lenslet a n) 2) s = .next t ∧ n ∈ t.dmc.badLens ∧ w ∈ t.mem.badDram ∧ Keeps (ofFields [F.DMC_UE_COUNT_COUNT (u / 4) (u % 4)]) s t) ∧
    (n < 8 → ∃ t, exec (.scrubPass (.model a n) 2) s = .next t ∧ n ∈ t.dmc.lostModels ∧ w ∈ t.mem.badDram ∧ Keeps (ofFields [F.DMC_UE_COUNT_COUNT (u / 4) (u % 4)]) s t) ∧
    (n < 4 → s.rsy.kernel.slot ≠ n → ∃ t, exec (.scrubPass (.package a n) 2) s = .next t ∧ t.get (F.RSY_PKG_INFO_VALID n) = (if n = 0 then 1 else 0) ∧ w ∈ t.mem.badDram ∧
      Keeps (ofFields [F.DMC_UE_COUNT_COUNT (u / 4) (u % 4), F.RSY_PKG_INFO_VALID n]) s t)) ∧
  (∀ (s : State) (m : Master) (data : Nat), Running s → MayWrite s m 0x130 → data < 2 ^ 32 →
    (speedAllowed s = true → ∃ t, exec (.speedGo m data) s = .next t ∧ t.get F.DMC_SPEED_BUSY = 1 ∧ t.get F.DMC_STATE_GO_REFUSED = 0 ∧ t.dmc.debts = [] ∧
      (∀ c, c < 16 → t.get (F.DMC_CH_STATE_STATE c) = if s.get (F.DMC_CH_STATE_STATE c) = 2 then 3 else s.get (F.DMC_CH_STATE_STATE c)) ∧
      KeepsAllRegs (ofFields ([F.DMC_SPEED_BUSY, F.DMC_STATE_GO_REFUSED, F.DMC_SPEED_GO] ++ (List.range 16).map F.DMC_CH_STATE_STATE)) s t ∧ KeepsBytes s t) ∧
    (speedAllowed s = false → ∃ t, exec (.speedGo m data) s = .next t ∧ t.get F.DMC_STATE_GO_REFUSED = 1 ∧ t.dmc = s.dmc ∧
      KeepsAllRegs (ofFields [F.DMC_STATE_GO_REFUSED, F.DMC_SPEED_GO]) s t ∧ KeepsBytes s t)) ∧
  (∀ s : State, Running s → s.get F.DMC_SPEED_BUSY = 1 →
    ∃ t, exec .speedChangeDone s = .next t ∧ t.get F.DMC_SPEED_BUSY = 0 ∧ t.get F.DMC_SPEED_ACTIVE = 1 - s.get F.DMC_SPEED_ACTIVE ∧ hasBit (t.get (F.IRQ_RAW 0x130)) 3 = true ∧
      (∀ c, c < 16 → t.get (F.DMC_CH_STATE_STATE c) = if s.get (F.DMC_CH_STATE_STATE c) = 3 then 2 else s.get (F.DMC_CH_STATE_STATE c)) ∧
      Keeps (ofFields ([F.DMC_SPEED_BUSY, F.DMC_SPEED_ACTIVE] ++ (List.range 16).map F.DMC_CH_STATE_STATE)) s t) ∧
  (∀ s : State, Running s → s.get F.DMC_SPEED_BUSY = 0 → exec .speedChangeDone s = .next s) ∧
  (∀ s : State, Running s → s.dmc.event = none ∨ (∃ u, s.dmc.event = some (u, [])) ∨ s.get F.DMC_SPEED_BUSY = 1 → exec .migrationDone s = .next s) ∧
  (∀ (s : State) (u e : Nat), Running s → s.dmc.event = some (u, [e]) → e < 4 → u < 64 → u % 4 < 3 → s.get F.DMC_SPEED_BUSY = 0 → s.dmc.requests = [u] → s.mem.badDram = [] →
    ∃ t, exec .migrationDone s = .next t ∧ t.get (F.DMC_REMAP_STATE e) = 2 ∧ t.get (F.DMC_REMAP_POINTER e) = 16384 ∧ t.get F.DMC_STATE_MIGRATING = 0 ∧
      t.get F.DMC_STATE_SPARES_LEFT = s.get F.DMC_STATE_SPARES_LEFT - 1 ∧ hasBit (t.get (F.DMC_CH_STATE_RANK_FAILED (u / 4))) (u % 4) = true ∧ t.dmc.event = none ∧
      t.dmc.requests = [] ∧ hasBit (t.get (F.IRQ_RAW 0x130)) 1 = true ∧
      Keeps (eitherField (ofPages [0x130, 0x140, 0x141]) (ofFields [F.DMC_CH_STATE_RANK_FAILED (u / 4)])) s t) ∧
  (∀ (s : State) (u e f : Nat), Running s → s.dmc.event = some (u, [e, f]) → e < 4 → f < 4 → e ≠ f → s.get F.DMC_SPEED_BUSY = 0 → s.mem.badDram = [] →
    ∃ t, exec .migrationDone s = .next t ∧ t.get (F.DMC_REMAP_STATE e) = 2 ∧ t.get (F.DMC_REMAP_POINTER e) = 16384 ∧ t.get (F.DMC_REMAP_STATE f) = 1 ∧ t.dmc.event = some (u, [f]) ∧
      t.get F.DMC_STATE_SPARES_LEFT = s.get F.DMC_STATE_SPARES_LEFT ∧ hasBit (t.get (F.IRQ_RAW 0x130)) 1 = true ∧ Keeps (ofPages [0x130, 0x140, 0x141]) s t) ∧
  (∀ (s : State) (m : Master) (c data : Nat), Running s → c < 16 → MayWrite s m (0x120 + c) → data < 2 ^ 32 → bitsOf data 28 2 ≤ 2 → 1 ≤ bitsOf data 0 10 →
    (s.get (F.DMC_CH_STATE_STATE c) < 2 ∨ hasBit (s.get F.DMC_SPARE_SET_RANKS) (3 * c + bitsOf data 16 2) = true →
      ∃ t, exec (.dmcLoop m c data) s = .next t ∧ t.get (F.DMC_LOOP_BUSY c) = 1 ∧ t.get (F.DMC_LOOP_RANK c) = bitsOf data 16 2 ∧ t.get (F.DMC_LOOP_PATTERN c) = bitsOf data 28 2 ∧
        t.get (F.DMC_LOOP_MIB c) = bitsOf data 0 10 ∧
        KeepsAllRegs (ofFields [F.DMC_LOOP_BUSY c, F.DMC_LOOP_RANK c, F.DMC_LOOP_PATTERN c, F.DMC_LOOP_MIB c, F.DMC_LOOP_START c]) s t ∧ KeepsBytes s t) ∧
    (2 ≤ s.get (F.DMC_CH_STATE_STATE c) → hasBit (s.get F.DMC_SPARE_SET_RANKS) (3 * c + bitsOf data 16 2) = false →
      ∃ t, exec (.dmcLoop m c data) s = .next t ∧ (s.get (F.ERR_FIRST_VALID (0x120 + c)) = 0 → t.get (F.ERR_FIRST_CODE (0x120 + c)) = 0x20) ∧ Keeps noField s t)) ∧
  (∀ (s : State) (c errors lane : Nat), Running s → c < 16 → s.get (F.DMC_LOOP_BUSY c) = 0 → exec (.dmcLoopDone c errors lane) s = .next s) ∧
  (∀ (s : State) (c errors lane u : Nat), Running s → c < 16 → s.get (F.DMC_LOOP_BUSY c) = 1 → u = 4 * c + s.get (F.DMC_LOOP_RANK c) →
    (errors = 0 ∨ u ∉ standby s →
      ∃ t, exec (.dmcLoopDone c errors lane) s = .next t ∧ t.get (F.DMC_LOOP_BUSY c) = 0 ∧ t.get (F.DMC_LOOP_ERR_COUNT c) = Nat.min errors (2 ^ 32 - 1) ∧
        t.get (F.DMC_LOOP_LANE_WORST_LANE c) = lane % 72 ∧ hasBit (t.get (F.IRQ_RAW (0x120 + c))) 1 = true ∧
        Keeps (ofFields [F.DMC_LOOP_BUSY c, F.DMC_LOOP_ERR_COUNT c, F.DMC_LOOP_LANE_WORST_LANE c]) s t) ∧
    (0 < errors → u ∈ standby s →
      ∃ t, exec (.dmcLoopDone c errors lane) s = .next t ∧ t.get (F.DMC_LOOP_BUSY c) = 0 ∧ hasBit (t.get F.DMC_SPARE_SET_RANKS) (3 * c + u % 4) = false ∧
        t.get F.DMC_STATE_SPARES_LEFT = s.get F.DMC_STATE_SPARES_LEFT - 1 ∧ hasBit (t.get (F.IRQ_RAW (0x120 + c))) 1 = true ∧
        Keeps (ofFields [F.DMC_LOOP_BUSY c, F.DMC_LOOP_ERR_COUNT c, F.DMC_LOOP_LANE_WORST_LANE c, F.DMC_SPARE_SET_RANKS, F.DMC_CH_STATE_RANK_SPARE c, F.DMC_STATE_SPARES_LEFT]) s t))

/-- R369, R372 to R379 (BUF_CLAIM, BUF_RELEASE, BUF_DATA_ACCESS, BUF_FILL, BUF_FILL_DONE, STORE, COMMIT_DONE, LOFT_READ_DATA, LOFT_SCRUB): a free buffer
goes to the master that claims it and is let go by it, after a commit that runs; data pass through the pointer, which advances; a fill brings secure
DRAM; a store is judged by the checks in order and starts a commit, or shows the code of the first that fails; the end of a commit puts its bytes into
the array and counts it; reads of the array advance; corrected pages are rewritten. The model's own choices it rests on: log entries 37, 38, 39, 40,
41. -/
def Obligations.TheLoftIsWritten : Prop :=
  (∀ (s : State) (m : Master) (data : Nat), Running s → MayWrite s m 0x140 → data < 2 ^ 32 → hasBit data 30 = false →
    ∃ t, exec (.bufClaim m data) s = .next t ∧ t.get F.LFT_BUF_CLAIM_HOLDER = (if s.get F.LFT_BUF_CLAIM_HOLDER = 0xF then m.code else s.get F.LFT_BUF_CLAIM_HOLDER) ∧
      t.loft = s.loft ∧ KeepsAllRegs (ofFields [F.LFT_BUF_CLAIM_HOLDER, F.LFT_BUF_CLAIM_CLAIM, F.LFT_BUF_CLAIM_RELEASE]) s t ∧ KeepsBytes s t) ∧
  (∀ (s : State) (m : Master) (data : Nat), Running s → MayWrite s m 0x140 → data < 2 ^ 32 → hasBit data 31 = false →
    (s.get F.LFT_BUF_CLAIM_HOLDER = m.code → s.get F.LFT_CMD_STATUS_BUSY = 0 →
      ∃ t, exec (.bufRelease m data) s = .next t ∧ t.get F.LFT_BUF_CLAIM_HOLDER = 0xF ∧
        KeepsAllRegs (ofFields [F.LFT_BUF_CLAIM_HOLDER, F.LFT_BUF_CLAIM_CLAIM, F.LFT_BUF_CLAIM_RELEASE]) s t ∧ KeepsBytes s t) ∧
    (s.get F.LFT_BUF_CLAIM_HOLDER = m.code → s.get F.LFT_CMD_STATUS_BUSY = 1 →
      ∃ t, exec (.bufRelease m data) s = .next t ∧ t.get F.LFT_BUF_CLAIM_HOLDER = m.code ∧ t.loft = { s.loft with releaseWait := true } ∧
        KeepsAllRegs (ofFields [F.LFT_BUF_CLAIM_CLAIM, F.LFT_BUF_CLAIM_RELEASE]) s t ∧ KeepsBytes s t) ∧
    (s.get F.LFT_BUF_CLAIM_HOLDER ≠ m.code →
      ∃ t, exec (.bufRelease m data) s = .next t ∧ t.loft = s.loft ∧ KeepsAllRegs (ofFields [F.LFT_BUF_CLAIM_CLAIM, F.LFT_BUF_CLAIM_RELEASE]) s t ∧ KeepsBytes s t)) ∧
  (∀ (s : State) (m : Master) (v o : Nat), Running s → MayWrite s m 0x140 → v < 2 ^ 64 → s.get F.LFT_BUF_CLAIM_HOLDER = m.code → s.get F.LFT_CMD_STATUS_BUSY = 0 →
    s.get F.ERR_INJECT_ARM = 0 → o = s.get F.LFT_BUF_PTR_OFFSET * 8 →
    ∃ t, exec (.bufDataAccess m (some v)) s = .next t ∧ t.get F.LFT_BUF_PTR_OFFSET = (s.get F.LFT_BUF_PTR_OFFSET + 1) % 2 ^ 13 ∧ leNat (bufBytes t.loft o 8) = v ∧
      (∀ x, x < o ∨ o + 8 ≤ x → bufByte t.loft x = bufByte s.loft x) ∧ o ∉ t.loft.badBuf ∧ KeepsAllRegs (ofFields [F.LFT_BUF_PTR_OFFSET, F.LFT_BUF_DATA_DATA]) s t ∧ KeepsBytes s t) ∧
  (∀ (s : State) (m : Master), Running s → MayRead s m 0x140 →
    ∃ t, exec (.bufDataAccess m none) s = .next t ∧ t.out = s.out ++ [.readData m 0x140110 (bufDataValue s)] ∧
      t.get F.LFT_BUF_PTR_OFFSET = (s.get F.LFT_BUF_PTR_OFFSET + 1) % 2 ^ 13 ∧ t.loft = s.loft ∧ KeepsAllRegs (ofFields [F.LFT_BUF_PTR_OFFSET]) s t ∧ KeepsBytes s t) ∧
  (∀ (s : State) (m : Master) (data a n : Nat), Running s → MayWrite s m 0x140 → data < 2 ^ 64 → s.get F.LFT_BUF_CLAIM_HOLDER = m.code → s.get F.LFT_CMD_STATUS_BUSY = 0 →
    s.get F.LFT_BUF_FILL_BUSY = 0 → 1 ≤ bitsOf data 48 7 → bitsOf data 48 7 ≤ 64 → a = bitsOf data 6 30 * 64 → n = bitsOf data 48 7 * 1024 →
    ((mibPoints a n).all (byteSecure s) = true →
      ∃ t, exec (.bufFill m data) s = .next t ∧ t.get F.LFT_BUF_FILL_BUSY = 1 ∧ t.get F.LFT_BUF_FILL_ADDR = bitsOf data 6 30 ∧ t.get F.LFT_BUF_FILL_KIB = bitsOf data 48 7 ∧
        t.loft = { s.loft with fill := some (a, n) } ∧ KeepsAllRegs (ofFields [F.LFT_BUF_FILL_BUSY, F.LFT_BUF_FILL_ADDR, F.LFT_BUF_FILL_KIB]) s t ∧ KeepsBytes s t) ∧
    ((mibPoints a n).all (byteSecure s) = false →
      ∃ t, exec (.bufFill m data) s = .next t ∧ t.get F.LFT_CMD_STATUS_CODE = 5 ∧ t.get (F.LFT_COUNT_COUNT 1) = satAdd 32 (s.get (F.LFT_COUNT_COUNT 1)) 1 ∧
        hasBit (t.get (F.IRQ_RAW 0x140)) 1 = true ∧ t.loft = s.loft ∧ Keeps (ofFields [F.LFT_CMD_STATUS_CODE, F.LFT_COUNT_COUNT 1, F.LFT_BUF_FILL_ADDR, F.LFT_BUF_FILL_KIB]) s t)) ∧
  (∀ s : State, Running s → s.loft.fill = none → exec .bufFillDone s = .next s) ∧
  (∀ (s : State) (a n : Nat), Running s → s.loft.fill = some (a, n) → dramBehind s a n = true → (∀ w ∈ wordsOf a n, w ∉ s.mem.badDram ∧ w ∉ s.mem.poisonDram ∧ w ∉ s.mem.weakDram) →
    s.get F.ERR_INJECT_ARM = 0 →
    ∃ t, exec .bufFillDone s = .next t ∧ t.get F.LFT_BUF_FILL_BUSY = 0 ∧ t.loft.fill = none ∧ (∀ i, i < n → bufByte t.loft i = memGet s.mem.dram (a + i)) ∧
      (∀ x, n ≤ x → bufByte t.loft x = bufByte s.loft x) ∧ KeepsAllRegs (ofFields [F.LFT_BUF_FILL_BUSY]) s t ∧ KeepsBytes s t) ∧
  (∀ (s : State) (m : Master) (a n mv p : Nat), Running s → MayWrite s m 0x140 → n < 2 ^ 17 → mv < 2 ^ 16 → a = s.get F.LFT_STORE_ADDR_ADDR → s.get F.LFT_CMD_STATUS_BUSY = 0 →
    s.get F.LFT_BUF_FILL_BUSY = 0 → s.get F.LFT_BUF_CLAIM_HOLDER = m.code → 0 < n → n ≤ 65536 → loftPartition (a / 256) = some p → loftPartition ((a + n - 1) / 256) = some p →
    (bpProtects (s.get F.LFT_CTRL_BP) ((a + n - 1) / 256) = false → mayWritePartition m p = true → s.get F.LFT_STATUS_POWER_DOWN = 0 → s.get F.LFT_STATUS_TEMP_OK = 1 →
      s.get F.LFT_STATUS_JOURNAL ≠ 3 → reserveCovers mv (s.get F.LFT_HOLDUP_CFG_CAP_UF) (loftPages a n) = true → (∀ w ∈ s.loft.badBuf, n ≤ w) →
      ∃ t, exec (.store m n mv) s = .next t ∧ t.get F.LFT_CMD_STATUS_BUSY = 1 ∧ t.get F.LFT_CMD_STATUS_COMMITTED = 0 ∧ t.get F.LFT_CMD_STATUS_CODE = 0 ∧ t.get F.LFT_STORE_LEN_LENGTH = n ∧
        t.get F.LFT_HOLDUP_CFG_V_MV = mv ∧ t.loft = { s.loft with commit := some (a, bufBytes s.loft 0 n) } ∧
        KeepsAllRegs (ofFields [F.LFT_CMD_STATUS_BUSY, F.LFT_CMD_STATUS_COMMITTED, F.LFT_CMD_STATUS_CODE, F.LFT_STORE_LEN_LENGTH, F.LFT_HOLDUP_CFG_V_MV, F.LFT_RESERVE_UJ,
          F.LFT_STATUS_CHARGING]) s t ∧ KeepsBytes s t) ∧
    (∀ code : Nat,
      (bpProtects (s.get F.LFT_CTRL_BP) ((a + n - 1) / 256) = true ∧ code = 4) ∨
      (bpProtects (s.get F.LFT_CTRL_BP) ((a + n - 1) / 256) = false ∧ mayWritePartition m p = false ∧ code = 5) ∨
      (bpProtects (s.get F.LFT_CTRL_BP) ((a + n - 1) / 256) = false ∧ mayWritePartition m p = true ∧ s.get F.LFT_STATUS_POWER_DOWN = 1 ∧ code = 6) ∨
      (bpProtects (s.get F.LFT_CTRL_BP) ((a + n - 1) / 256) = false ∧ mayWritePartition m p = true ∧ s.get F.LFT_STATUS_POWER_DOWN = 0 ∧
        (s.get F.LFT_STATUS_TEMP_OK = 0 ∨ s.get F.LFT_STATUS_JOURNAL = 3) ∧ code = 7) ∨
      (bpProtects (s.get F.LFT_CTRL_BP) ((a + n - 1) / 256) = false ∧ mayWritePartition m p = true ∧ s.get F.LFT_STATUS_POWER_DOWN = 0 ∧ s.get F.LFT_STATUS_TEMP_OK = 1 ∧
        s.get F.LFT_STATUS_JOURNAL ≠ 3 ∧ reserveCovers mv (s.get F.LFT_HOLDUP_CFG_CAP_UF) (loftPages a n) = false ∧ code = 8) ∨
      (bpProtects (s.get F.LFT_CTRL_BP) ((a + n - 1) / 256) = false ∧ mayWritePartition m p = true ∧ s.get F.LFT_STATUS_POWER_DOWN = 0 ∧ s.get F.LFT_STATUS_TEMP_OK = 1 ∧
        s.get F.LFT_STATUS_JOURNAL ≠ 3 ∧ reserveCovers mv (s.get F.LFT_HOLDUP_CFG_CAP_UF) (loftPages a n) = true ∧ (∃ w ∈ s.loft.badBuf, w < n) ∧ code = 9) →
      ∃ t, exec (.store m n mv) s = .next t ∧ t.get F.LFT_CMD_STATUS_CODE = code ∧ t.get (F.LFT_COUNT_COUNT 1) = satAdd 32 (s.get (F.LFT_COUNT_COUNT 1)) 1 ∧
        hasBit (t.get (F.IRQ_RAW 0x140)) 1 = true ∧ t.loft = s.loft ∧
        Keeps (ofFields [F.LFT_CMD_STATUS_CODE, F.LFT_COUNT_COUNT 1, F.LFT_STORE_LEN_LENGTH, F.LFT_HOLDUP_CFG_V_MV, F.LFT_RESERVE_UJ, F.LFT_STATUS_CHARGING]) s t)) ∧
  (∀ (s : State) (m : Master) (n mv code : Nat), Running s → MayWrite s m 0x140 → n < 2 ^ 17 → mv < 2 ^ 16 →
    s.get F.LFT_BUF_CLAIM_HOLDER = 0xF ∨ s.get F.LFT_BUF_CLAIM_HOLDER = m.code →
    ((s.get F.LFT_CMD_STATUS_BUSY = 1 ∨ s.get F.LFT_BUF_FILL_BUSY = 1) ∧ code = 1) ∨
      (s.get F.LFT_CMD_STATUS_BUSY = 0 ∧ s.get F.LFT_BUF_FILL_BUSY = 0 ∧ s.get F.LFT_BUF_CLAIM_HOLDER = 0xF ∧ code = 2) ∨
      (s.get F.LFT_CMD_STATUS_BUSY = 0 ∧ s.get F.LFT_BUF_FILL_BUSY = 0 ∧ s.get F.LFT_BUF_CLAIM_HOLDER = m.code ∧ (n = 0 ∨ 65536 < n ∨ s.get F.LFT_STORE_ADDR_ADDR < 0x12400) ∧ code = 3) →
    ∃ t, exec (.store m n mv) s = .next t ∧ t.get F.LFT_CMD_STATUS_CODE = code ∧ t.get (F.LFT_COUNT_COUNT 1) = satAdd 32 (s.get (F.LFT_COUNT_COUNT 1)) 1 ∧
      hasBit (t.get (F.IRQ_RAW 0x140)) 1 = true ∧ t.loft = s.loft ∧
      Keeps (ofFields [F.LFT_CMD_STATUS_CODE, F.LFT_COUNT_COUNT 1, F.LFT_STORE_LEN_LENGTH, F.LFT_HOLDUP_CFG_V_MV, F.LFT_RESERVE_UJ, F.LFT_STATUS_CHARGING]) s t) ∧
  (∀ s : State, Running s → s.loft.commit = none → exec .commitDone s = .next s) ∧
  (∀ (s : State) (a : Nat) (bs : List Byte), Running s → s.loft.commit = some (a, bs) → SoundMemory s → s.loft.saveDue = false →
    ∃ t, exec .commitDone s = .next t ∧ t.get F.LFT_CMD_STATUS_BUSY = 0 ∧ t.get F.LFT_CMD_STATUS_COMMITTED = 0 ∧ t.get F.LFT_COMMIT_SEQ_SEQ = (s.get F.LFT_COMMIT_SEQ_SEQ + 1) % 2 ^ 32 ∧
      t.get (F.LFT_COUNT_COUNT 0) = satAdd 32 (s.get (F.LFT_COUNT_COUNT 0)) 1 ∧ hasBit (t.get (F.IRQ_RAW 0x140)) 0 = true ∧ t.loft.commit = none ∧
      (∀ x, a ≤ x → x < a + bs.length → memGet t.mem.loft x = bs.getD (x - a) 0) ∧ (∀ x, x < a ∨ a + bs.length ≤ x → memGet t.mem.loft x = memGet s.mem.loft x) ∧
      t.mem.dram = s.mem.dram ∧ t.mem.host = s.mem.host ∧ t.get F.LFT_BUF_CLAIM_HOLDER = (if s.loft.releaseWait then 0xF else s.get F.LFT_BUF_CLAIM_HOLDER) ∧
      KeepsRegs (ofFields [F.LFT_CMD_STATUS_BUSY, F.LFT_CMD_STATUS_COMMITTED, F.LFT_COMMIT_SEQ_SEQ, F.LFT_COUNT_COUNT 0, F.LFT_BUF_CLAIM_HOLDER]) s t) ∧
  (∀ (s : State) (m : Master) (a : Nat), Running s → MayRead s m 0x140 → a = s.get F.LFT_RD_ADDR_WORD * 8 → a ∉ s.mem.badLoft → a < 0xBF0000 ∨ 0xC00000 ≤ a →
    (∃ t, exec (.loftReadData m 0) s = .next t ∧ t.out = s.out ++ [.readData m 0x140148 (leNat (memRead s.mem.loft a 8))] ∧
      t.get F.LFT_RD_ADDR_WORD = (s.get F.LFT_RD_ADDR_WORD + 1) % 2 ^ 21 ∧ KeepsAllRegs (ofFields [F.LFT_RD_ADDR_WORD]) s t ∧ KeepsBytes s t) ∧
    (∃ t, exec (.loftReadData m 1) s = .next t ∧ t.out = s.out ++ [.readData m 0x140148 (leNat (memRead s.mem.loft a 8))] ∧ a ∈ t.loft.weak ∧
      t.get (F.LFT_COUNT_COUNT 2) = satAdd 32 (s.get (F.LFT_COUNT_COUNT 2)) 1 ∧ t.get F.LFT_RD_ADDR_WORD = (s.get F.LFT_RD_ADDR_WORD + 1) % 2 ^ 21 ∧
      KeepsAllRegs (ofFields [F.LFT_RD_ADDR_WORD, F.LFT_COUNT_COUNT 2]) s t ∧ KeepsBytes s t) ∧
    (∃ t, exec (.loftReadData m 2) s = .next t ∧ .readData m 0x140148 0 ∈ t.out ∧ a ∈ t.mem.badLoft ∧
      t.get (F.LFT_COUNT_COUNT 3) = satAdd 32 (s.get (F.LFT_COUNT_COUNT 3)) 1 ∧ hasBit (t.get (F.IRQ_RAW 0x140)) 2 = true ∧
      Keeps (ofFields [F.LFT_RD_ADDR_WORD, F.LFT_COUNT_COUNT 3]) s t)) ∧
  (∀ (s : State) (m : Master) (a found : Nat), Running s → MayRead s m 0x140 → a = s.get F.LFT_RD_ADDR_WORD * 8 → 0xBF0000 ≤ a → a < 0xC00000 → (∀ i, i % 4 = 0 → m ≠ .mp i) →
    ∃ t, exec (.loftReadData m found) s = .next t ∧ .readData m 0x140148 0 ∈ t.out ∧ t.get F.LFT_RD_ADDR_WORD = (s.get F.LFT_RD_ADDR_WORD + 1) % 2 ^ 21 ∧
      (s.get (F.ERR_FIRST_VALID 0x140) = 0 → t.get (F.ERR_FIRST_CODE 0x140) = 0x04) ∧ Keeps (ofFields [F.LFT_RD_ADDR_WORD]) s t) ∧
  (∀ s : State, Running s → s.loft.weak = [] ∨ (∃ w, s.loft.weak = [w] ∧ ownCheck s (w / 256) 1 ≠ 0) → exec .loftScrub s = .next s) ∧
  (∀ (s : State) (w : Nat), Running s → SoundMemory s → s.loft.weak = [w] → ownCheck s (w / 256) 1 = 0 →
    ∃ t, exec .loftScrub s = .next t ∧ t.loft.weak = [] ∧ t.get F.LFT_COMMIT_SEQ_SEQ = (s.get F.LFT_COMMIT_SEQ_SEQ + 1) % 2 ^ 32 ∧
      t.get (F.LFT_COUNT_COUNT 0) = satAdd 32 (s.get (F.LFT_COUNT_COUNT 0)) 1 ∧ hasBit (t.get (F.IRQ_RAW 0x140)) 0 = true ∧
      Keeps (ofFields [F.LFT_COMMIT_SEQ_SEQ, F.LFT_COUNT_COUNT 0, F.LFT_CMD_STATUS_CODE]) s t)

/-- R390, R391, R394 to R402 (GROOM_NOW, GROOM_PASS_START, GROOM_PASS_END, GROOM_ANALYSIS_DONE, CAL_APPLY_ARM, XTAL_BAD, REF_WINDOW, REF_HOLDOVER_TIMEOUT,
XTAL_RECOVERED): a request stands in CAL.REQ, and NOW asks for a pass; a pass that is due waits for its boundary; its end starts the analysis; an
analysis beyond the limits rejects the pass, another arms a correction set with a lenslet build; ARM makes a set pending, and none is taken while one
is; the reference goes to the external input where it is present, to holdover where it is not, and back; ten windows make the input present; holdover
for 1 s is a device failure. The model's own choices it rests on: log entries 44, 45, 86. -/
def Obligations.CorrectionsAndTheReference : Prop :=
  (∀ (s : State) (m : Master) (data : Nat), Running s → (s.isMember = true → m ≠ .pcie) → (s.pageWorld 0x150 = 0 → m.secure = true) → data < 2 ^ 32 →
    ∃ t, exec (.groomNow m data) s = .next t ∧ t.get F.CAL_REQ_NOW = 1 ∧ t.get F.CAL_REQ_ALLOW_VIEWERS = bitsOf data 6 1 ∧
      t.get F.CAL_REQ_MODE = (if bitsOf data 16 2 ≤ 2 then bitsOf data 16 2 else s.get F.CAL_REQ_MODE) ∧
      t.get F.CAL_REQ_INTERVAL_H = (if 1 ≤ bitsOf data 8 8 then bitsOf data 8 8 else s.get F.CAL_REQ_INTERVAL_H) ∧
      Keeps (ofFields [F.CAL_REQ_NOW, F.CAL_REQ_ALLOW_VIEWERS, F.CAL_REQ_MODE, F.CAL_REQ_INTERVAL_H]) s t) ∧
  (∀ s : State, Running s → (passDue s).isSome = true → s.cal.pass = none → s.cal.ended = none → s.cal.applying = none →
    ∃ t, exec .groomPassStart s = .next t ∧ t.get F.CAL_STATE_STATE = 1 ∧ t.cal = s.cal ∧ KeepsAllRegs (ofFields [F.CAL_STATE_STATE]) s t ∧ KeepsBytes s t) ∧
  (∀ s : State, Running s → passDue s = none ∨ s.cal.pass.isSome = true ∨ s.cal.ended.isSome = true ∨ s.cal.applying.isSome = true → exec .groomPassStart s = .next s) ∧
  (∀ s : State, Running s → s.cal.ended = none ∨ s.get F.CAL_STATE_STATE ≠ 2 → exec .groomPassEnd s = .next s) ∧
  (∀ s : State, Running s → s.cal.ended.isSome = true → s.get F.CAL_STATE_STATE = 2 →
    ∃ t, exec .groomPassEnd s = .next t ∧ t.get F.CAL_STATE_STATE = 3 ∧ hasBit (t.get (F.IRQ_RAW 0x150)) 0 = true ∧ t.cal = s.cal ∧ Keeps (ofFields [F.CAL_STATE_STATE]) s t) ∧
  (∀ (s : State) (r : GroomResult), Running s → s.cal.ended = none → exec (.groomAnalysisDone r) s = .next s) ∧
  (∀ (s : State) (r : GroomResult) (full : Bool) (bands bad : List Nat) (ended : Nat), Running s → s.cal.ended = some (full, bands, ended) → (∀ b ∈ bands, b < 12) → bad = exceeding s bands r →
    (passRejected bands bad = true →
      ∃ t, exec (.groomAnalysisDone r) s = .next t ∧ t.get F.CAL_STATE_STATE = 0 ∧ t.get F.CAL_STATE_RESULT = 2 ∧ t.get (F.CAL_COUNT_COUNT 3) = satAdd 32 (s.get (F.CAL_COUNT_COUNT 3)) 1 ∧
        t.cal = { s.cal with ended := none } ∧ t.rsy = s.rsy ∧ Keeps (ofFields [F.CAL_STATE_STATE, F.CAL_STATE_RESULT, F.CAL_COUNT_COUNT 3]) s t) ∧
    (passRejected bands bad = false → s.rsy.lens.build = none →
      ∃ t o, exec (.groomAnalysisDone r) s = .next t ∧ t.get F.CAL_STATE_STATE = 4 ∧ t.get F.CAL_APPLY_LENSLET = 1 ∧ t.get F.CAL_APPLY_ARM = 1 ∧ t.get F.CAL_APPLY_PENDING = 1 ∧
        t.cal = { s.cal with ended := none, applying := some (full, ended) } ∧ t.rsy.lens.build = some ⟨false, groomDeltas s bands bad r, s.rsy.lens.host, o, false⟩ ∧
        Keeps (eitherField (ofPages [0x151]) (ofFields [F.CAL_STATE_STATE])) s t)) ∧
  (∀ (s : State) (m : Master) (data : Nat), Running s → MayWrite s m 0x151 → data < 2 ^ 32 →
    (s.get F.CAL_APPLY_PENDING = 0 →
      ∃ t, exec (.calApplyArm m data) s = .next t ∧ t.get F.CAL_APPLY_PENDING = 1 ∧ t.get F.CAL_APPLY_ARM = 1 ∧ t.get F.CAL_APPLY_OVD = bitsOf data 2 1 ∧
        t.get F.CAL_APPLY_LENSLET = bitsOf data 1 1 ∧
        KeepsAllRegs (ofFields [F.CAL_APPLY_PENDING, F.CAL_APPLY_ARM, F.CAL_APPLY_OVD, F.CAL_APPLY_LENSLET]) s t ∧ KeepsBytes s t) ∧
    (s.get F.CAL_APPLY_PENDING = 1 →
      ∃ t, exec (.calApplyArm m data) s = .next t ∧ (s.get (F.ERR_FIRST_VALID 0x151) = 0 → t.get (F.ERR_FIRST_CODE 0x151) = 0x20) ∧ Keeps noField s t)) ∧
  (∀ s : State, Running s →
    (s.get F.CAL_REF_SOURCE ≠ 0 → ∃ t, exec .xtalBad s = .next t ∧ t.get F.CAL_REF_XTAL_BAD = 1 ∧ KeepsAllRegs (ofFields [F.CAL_REF_XTAL_BAD]) s t ∧ KeepsBytes s t) ∧
    (s.get F.CAL_REF_SOURCE = 0 → s.get F.CAL_REF_EXT ≠ 0 →
      ∃ t, exec .xtalBad s = .next t ∧ t.get F.CAL_REF_XTAL_BAD = 1 ∧ t.get F.CAL_REF_SOURCE = 1 ∧ t.get (F.CAL_COUNT_COUNT 4) = satAdd 32 (s.get (F.CAL_COUNT_COUNT 4)) 1 ∧
        hasBit (t.get (F.IRQ_RAW 0x150)) 3 = true ∧ Keeps (ofFields [F.CAL_REF_XTAL_BAD, F.CAL_REF_SOURCE, F.CAL_COUNT_COUNT 4]) s t) ∧
    (s.get F.CAL_REF_SOURCE = 0 → s.get F.CAL_REF_EXT = 0 →
      ∃ t, exec .xtalBad s = .next t ∧ t.get F.CAL_REF_XTAL_BAD = 1 ∧ t.get F.CAL_REF_SOURCE = 2 ∧ KeepsAllRegs (ofFields [F.CAL_REF_XTAL_BAD, F.CAL_REF_SOURCE]) s t ∧ KeepsBytes s t)) ∧
  (∀ (s : State) (edges : Nat) (offset : Int) (f : Nat), Running s → f = refFrequency edges →
    (f = 0 → ∃ t, exec (.refWindow edges offset) s = .next t ∧ t.get F.CAL_REF_EXT = 0 ∧ t.get F.CAL_REF_OFFSET = 0 ∧
      t.get F.CAL_REF_SOURCE = (if s.get F.CAL_REF_SOURCE = 1 ∧ s.get F.CAL_REF_XTAL_BAD = 1 then 2 else s.get F.CAL_REF_SOURCE) ∧
      t.cal = { s.cal with refFreq := 0, refRun := 0 } ∧ KeepsAllRegs (ofFields [F.CAL_REF_EXT, F.CAL_REF_OFFSET, F.CAL_REF_SOURCE]) s t ∧ KeepsBytes s t) ∧
    (f ≠ 0 → f ≠ s.cal.refFreq ∨ s.cal.refRun < 9 →
      ∃ t, exec (.refWindow edges offset) s = .next t ∧ t.cal = { s.cal with refFreq := f, refRun := if f = s.cal.refFreq then s.cal.refRun + 1 else 1 } ∧
        (-32768 ≤ offset → offset < 32768 → t.getInt F.CAL_REF_OFFSET =
          (if s.get F.CAL_REF_EXT = 0 then 0 else if s.get F.CAL_REF_XTAL_BAD = 0 then offset else s.getInt F.CAL_REF_OFFSET)) ∧
        KeepsAllRegs (ofFields [F.CAL_REF_OFFSET]) s t ∧ KeepsBytes s t) ∧
    (f ≠ 0 → f = s.cal.refFreq → 9 ≤ s.cal.refRun → s.get F.CAL_REF_SOURCE ≠ 2 →
      ∃ t, exec (.refWindow edges offset) s = .next t ∧ t.get F.CAL_REF_EXT = f ∧ t.cal = { s.cal with refFreq := f, refRun := 10 } ∧
        (-32768 ≤ offset → offset < 32768 → s.get F.CAL_REF_XTAL_BAD = 0 → t.getInt F.CAL_REF_OFFSET = offset) ∧
        KeepsAllRegs (ofFields [F.CAL_REF_EXT, F.CAL_REF_OFFSET]) s t ∧ KeepsBytes s t) ∧
    (f ≠ 0 → f = s.cal.refFreq → 9 ≤ s.cal.refRun → s.get F.CAL_REF_SOURCE = 2 →
      ∃ t, exec (.refWindow edges offset) s = .next t ∧ t.get F.CAL_REF_EXT = f ∧ t.get F.CAL_REF_SOURCE = 1 ∧ t.get (F.CAL_COUNT_COUNT 4) = satAdd 32 (s.get (F.CAL_COUNT_COUNT 4)) 1 ∧
        hasBit (t.get (F.IRQ_RAW 0x150)) 3 = true ∧ Keeps (ofFields [F.CAL_REF_EXT, F.CAL_REF_OFFSET, F.CAL_REF_SOURCE, F.CAL_COUNT_COUNT 4]) s t)) ∧
  (∀ s : State, Running s → s.get F.CAL_REF_SOURCE ≠ 2 → exec .refHoldoverTimeout s = .next s) ∧
  (∀ s : State, Running s → s.get F.CAL_REF_SOURCE = 2 → s.get F.ERR_STATE_FAILED = 0 → s.pnl.step = 30 →
    ∃ t, exec .refHoldoverTimeout s = .next t ∧ t.get F.ERR_STATE_FAILED = 1 ∧ t.get F.ERR_STATE_FAIL_CODE = 4 ∧ t.get F.GLB_START_STAGE = 8 ∧ t.power.held = true ∧
      hasBit (t.get (F.IRQ_RAW 0x180)) 3 = true ∧ Keeps (ofFields [F.ERR_STATE_FAILED, F.ERR_STATE_FAIL_CODE, F.GLB_START_STAGE, F.LFT_COUNT_COUNT 6]) s t) ∧
  (∀ s : State, Running s → s.get F.CAL_REF_SOURCE = 2 → s.get F.ERR_STATE_FAILED = 0 → s.pnl.step < 20 → s.isMember = false → s.cal.pass = none → s.rsy.lots = [] →
    (∀ g, g < 12 → s.get (F.SER_GROUP_STATE_STATE g) ≠ 7) → (∃ p ∈ s.drum.plans, p.started = true ∧ p.closed = false) →
    ∃ t, exec .refHoldoverTimeout s = .next t ∧ t.get F.ERR_STATE_FAILED = 1 ∧ t.get F.ERR_STATE_FAIL_CODE = 4 ∧ t.get F.GLB_START_STAGE = 8 ∧ t.get F.PNL_SEQ_STATE_STATE = 3 ∧
      t.pnl.step = 21 ∧ t.power = { s.power with off := .failure } ∧ hasBit (t.get (F.IRQ_RAW 0x180)) 3 = true ∧
      Keeps (ofFields [F.ERR_STATE_FAILED, F.ERR_STATE_FAIL_CODE, F.GLB_START_STAGE, F.PNL_SEQ_STATE_STATE]) s t) ∧
  (∀ s : State, Running s →
    ∃ t, exec .xtalRecovered s = .next t ∧ t.get F.CAL_REF_XTAL_BAD = 0 ∧ t.get F.CAL_REF_SOURCE = (if s.get F.CAL_REF_SOURCE = 1 then 0 else s.get F.CAL_REF_SOURCE) ∧
      KeepsAllRegs (ofFields [F.CAL_REF_XTAL_BAD, F.CAL_REF_SOURCE]) s t ∧ KeepsBytes s t)

/-- R404 to R409 (SENSOR_SAMPLE): an input judged against the median of its usable neighbours holds its reading or the median, and one with fewer than two
is unchecked; a reading outside its range or not completed makes the input FAILED; T_hot at the throttle threshold takes the first step and the warn
level; the fourth critical sample with the panel dark gates the stalls, idles the lanes, disables the cameras, asserts THERM_TRIP_N and holds the
controller. The model's own choices it rests on: log entries 43, 85. -/
def Obligations.SamplesAreJudged : Prop :=
  (∀ (s : State) (i : Nat) (x : Int) (us : List Int), Running s → i < 48 → -880 ≤ x → x ≤ 2400 → s.get (F.THM_SENSOR_STATE i) = 0 → i ∉ nbrInputs s i → us = usable s s [] i →
    s.therm.dieCrit < 3 → s.therm.ainCrit < 3 → s.loft.journal = none → mapVal s.therm.far i < 15 →
    ∃ t, exec (.sensorSample [(i, some x)]) s = .next t ∧ t.getInt (F.THM_RAW_TEMP i) = x ∧ t.get (F.THM_SENSOR_STATE i) = 0 ∧
      (us.length < 2 → t.getInt (F.THM_SENSOR_TEMP i) = x ∧ t.get (F.THM_SENSOR_UNCHECKED i) = 1) ∧
      (2 ≤ us.length → t.get (F.THM_SENSOR_UNCHECKED i) = 0 ∧ t.getInt (F.THM_SENSOR_TEMP i) = (if (x - medianOf us).natAbs ≤ 128 then x else medianOf us)) ∧
      Keeps (ofPages ((List.range 12).map (fun k => 0x060 + k) ++ [0x140, 0x160, 0x161])) s t) ∧
  (∀ (s : State) (i : Nat) (v : Option Int), Running s → i < 48 → v = none ∨ (∃ x, v = some x ∧ (x < -880 ∨ 2400 < x) ∧ -32768 ≤ x ∧ x < 32768) → s.get (F.THM_SENSOR_STATE i) ≠ 2 →
    s.therm.dieCrit < 3 → s.therm.ainCrit < 3 → s.loft.journal = none →
    ∃ t, exec (.sensorSample [(i, v)]) s = .next t ∧ t.get (F.THM_SENSOR_STATE i) = 2 ∧ t.get (F.THM_COUNT_COUNT 4) = satAdd 32 (s.get (F.THM_COUNT_COUNT 4)) 1 ∧
      Keeps (ofPages ((List.range 12).map (fun k => 0x060 + k) ++ [0x140, 0x160, 0x161])) s t) ∧
  (∀ (s : State) (i : Nat) (x : Int), Running s → i < 48 → 1600 ≤ x → x ≤ 2400 → s.get (F.THM_SENSOR_STATE i) = 0 → i ∉ nbrInputs s i → (usable s s [] i).length < 2 →
    s.therm.dieCrit < 3 → s.therm.ainCrit < 3 → s.loft.journal = none → s.get F.THM_STATE_STEP = 0 → s.get F.THM_STATE_LANE_CLOCK ≠ 2 → s.get F.THM_STATE_WARN = 0 →
    (∀ d, d < 3 → dieBlind s d = false) →
    ∃ t, exec (.sensorSample [(i, some x)]) s = .next t ∧ t.get F.THM_STATE_STEP = 1 ∧ t.get F.THM_STATE_WARN = 1 ∧ x ≤ t.getInt F.THM_STATE_T_HOT ∧
      t.get (F.THM_COUNT_COUNT 0) = satAdd 32 (s.get (F.THM_COUNT_COUNT 0)) 1 ∧ t.get (F.THM_COUNT_COUNT 1) = satAdd 32 (s.get (F.THM_COUNT_COUNT 1)) 1 ∧
      hasBit (t.get (F.IRQ_RAW 0x160)) 0 = true ∧ hasBit (t.get (F.IRQ_RAW 0x160)) 1 = true ∧
      Keeps (ofPages ((List.range 12).map (fun k => 0x060 + k) ++ [0x140, 0x160, 0x161])) s t) ∧
  (∀ (s : State) (i : Nat) (x : Int), Running s → i < 48 → 1760 ≤ x → x ≤ 2400 → s.get (F.THM_SENSOR_STATE i) = 0 → i ∉ nbrInputs s i → (usable s s [] i).length < 2 →
    s.therm.dieCrit = 3 → s.loft.journal = none → s.power.critical = false → s.pnl.step = 30 →
    ∃ t, exec (.sensorSample [(i, some x)]) s = .next t ∧ t.get F.THM_STATE_CRITICAL = 1 ∧ hasBit (t.get (F.IRQ_RAW 0x160)) 2 = true ∧
      t.power = { s.power with critical := true, held := true, trip := true } ∧ .pin 1 0 0 ∈ t.out ∧
      (∀ k, k < 12 → t.get (F.STL_STATE_STATE k) = if s.get (F.STL_STATE_STATE k) = 0 then 2 else s.get (F.STL_STATE_STATE k)) ∧
      (∀ g, g < 16 → t.get (F.SER_GROUP_STATE_STATE g) = 0) ∧ (∀ k, k < 4 → t.get (F.XSH_PORT_STATE k) = 0) ∧ (∀ p, p < 8 → t.get (F.CAM_CFG_ENABLE p) = 0) ∧
      Keeps (eitherField (ofPages ((List.range 12).map (fun k => 0x060 + k) ++ [0x140, 0x141, 0x160, 0x161])) (ofFields ((List.range 16).map F.SER_GROUP_STATE_STATE ++
        (List.range 4).map F.XSH_PORT_STATE ++ (List.range 8).map F.CAM_CFG_ENABLE))) s t)

/-- R424 to R426 (ATTEST_CHALLENGE, ATTEST_STATEMENT, ATTEST_KEYS, ATTEST_DONE, REATTEST_TIMER): a message arrives in fragments and takes effect once
whole; a device that cannot sign, or that meets a malformed challenge, ends the exchange with its status, and otherwise answers with a STATEMENT; the
head sends KEYS for a good STATEMENT and makes the device a stranger for another; KEYS that open give the owner key and the yard key; DONE makes the
device known; a frame outside the exchange does nothing; the timer attests every member anew. The model's own choices it rests on: log entry 20. -/
def Obligations.MembersAreAttested : Prop :=
  (∀ (s u : State) (rx : Rx) (i count : Nat), Running s → Arrives s rx 0x50 u → u.sec.device = none → i = rx.frame.arg / 256 % 256 → count = rx.frame.arg / 65536 % 256 → count ≠ 1 ∨ i ≠ 0 →
    ∃ t, exec (.attestChallenge rx) s = .next t ∧ t.sec = { u.sec with device := some ⟨leBytes 8 rx.frame.addr, 0, [], 1, count, [(i, rx.frame.payload)]⟩ } ∧ t.out = u.out ∧
      KeepsAllRegs noField u t ∧ KeepsBytes u t) ∧
  (∀ (s u : State) (rx : Rx) (b nonce : List Byte) (k st : Nat) (r : Frame), Running s → Arrives s rx 0x50 u → rx.frame.arg / 256 % 256 = 0 → rx.frame.arg / 65536 % 256 = 1 →
    b = rx.frame.payload → nonce = b.take 32 → canAttest u = false ∨ b.length ≠ 0x88 + leAt b 0x84 2 ∨ leAt b 0x81 3 ≠ 0 ∨ leAt b 0x86 2 ≠ 0 → st = (if canAttest u then 1 else 4) →
    r = mkFrame 0x50 0 0 0 0 (4 + 65536) (leNat (nonce.take 8)) 0 (leBytes 1 st ++ leBytes 15 0) → SendsAtOnce u r k →
    ∃ t, exec (.attestChallenge rx) s = .next t ∧ t.sec = { u.sec with device := none } ∧ t.out = u.out ++ [.xiesh k (sentFrame u r k)] ∧
      KeepsAllRegs (ofFields [F.XSH_COUNT0_COUNT k]) u t ∧ KeepsBytes u t) ∧
  (∀ (s u v : State) (rx : Rx) (b nonce : List Byte), Running s → Arrives s rx 0x50 u → rx.frame.arg / 256 % 256 = 0 → rx.frame.arg / 65536 % 256 = 1 → b = rx.frame.payload → nonce = b.take 32 →
    canAttest u = true → b.length = 0x88 + leAt b 0x84 2 → leAt b 0x81 3 = 0 → leAt b 0x86 2 = 0 →
    v = { u with free := u.free + 1, sec := { u.sec with device := some ⟨nonce, u.free, (b.drop 0x20).take 97, 0, 0, []⟩ } } →
    ∃ t, exec (.attestChallenge rx) s = .next t ∧
      t = (if (Config.certKey (b.drop 0x88)).isSome then sendMessage { v with free := u.free + 2 } 0 2 nonce (statementBytes v nonce (Config.ephemeralKey u.free))
        else sendMessage { u with sec := { u.sec with device := none } } 0 4 nonce (leBytes 1 1 ++ leBytes 15 0)) ∧ Keeps noField u t) ∧
  (∀ (s u : State) (rx : Rx) (c : Instr), Running s → Arrives s rx 0x50 u → c ∈ [Instr.attestStatement rx, .attestDone rx] →
    (∀ x, assoc u.sec.heads rx.frame.src = some x → leNat (x.nonce.take 8) ≠ rx.frame.addr) → exec c s = .next u) ∧
  (∀ (s u : State) (rx : Rx), Running s → Arrives s rx 0x50 u → (∀ x, u.sec.device = some x → leNat (x.nonce.take 8) ≠ rx.frame.addr) → exec (.attestKeys rx) s = .next u) ∧
  (∀ (s u : State) (rx : Rx) (c : Instr) (n : Nat) (x : Exchange), Running s → Arrives s rx 0x50 u → rx.frame.src = n → n < 64 → assoc u.sec.heads n = some x → leNat (x.nonce.take 8) = rx.frame.addr →
    rx.frame.arg / 256 % 256 = 0 → rx.frame.arg / 65536 % 256 = 1 →
    (c = .attestStatement rx ∧ statementGood u n x rx.frame.payload = false) ∨ (c = .attestDone rx ∧ leAt rx.frame.payload 0 1 ≠ 0) →
    ∃ t, exec c s = .next t ∧ t.get (F.XSH_MEMBER0_STATE n) = 2 ∧ t.yard.members = u.yard.members.map (fun m => if m.number = n then { m with known := false } else m) ∧
      (∀ e, e ∈ t.sec.heads ↔ e ∈ u.sec.heads ∧ e.1 ≠ n) ∧ hasBit (t.get (F.IRQ_RAW 0x170)) 1 = true ∧
      (∀ m, u.yard.members.find? (fun m => decide (m.number = n)) = some m → hasBit (t.get (F.IRQ_RAW 0x100)) 1 = true ∧ t.get F.XSH_STRANGER_VALID = 1 ∧
        (u.get F.XSH_STRANGER_VALID = 0 → t.get F.XSH_STRANGER_NUMBER = n ∧ ∀ i, i < 12 → t.get (F.XSH_STRANGER_DIGEST_BYTES i) = leAt m.digest (4 * i) 4 % 2 ^ 32)) ∧
      Keeps (ofFields ([F.XSH_MEMBER0_STATE n, F.XSH_STRANGER_VALID, F.XSH_STRANGER_NUMBER] ++ (List.range 12).map F.XSH_STRANGER_DIGEST_BYTES)) u t) ∧
  (∀ (s u : State) (rx : Rx) (n : Nat) (x : Exchange) (b : List Byte), Running s → Arrives s rx 0x50 u → rx.frame.src = n → assoc u.sec.heads n = some x → leNat (x.nonce.take 8) = rx.frame.addr →
    rx.frame.arg / 256 % 256 = 0 → rx.frame.arg / 65536 % 256 = 1 → b = rx.frame.payload → u.sec.yardKey.isSome = true →
    ∃ t, exec (.attestStatement rx) s = .next t ∧ (statementGood u n x b = true → ∃ v, assoc t.sec.heads n = some { x with message := 2, count := 1, parts := [], peerKey := (b.drop 0x60).take 97 } ∧
      t.sec.yardKey = u.sec.yardKey ∧ t.sec.owner = u.sec.owner ∧ v.yard = u.yard ∧ v.out = u.out ∧
      t = sendMessage v n 3 x.nonce (leBytes 2 133 ++ leBytes 14 0 ++ Config.gcmSeal (sessionKey x.ephemeral ((b.drop 0x60).take 97)) (x.nonce.take 12) x.nonce
        (u.sec.owner.getD (List.replicate 97 0) ++ u.sec.yardKey.getD [] ++ leBytes 4 (u.get F.SEC_YARD_KEY_GEN_GEN))) ∧ Keeps noField u t)) ∧
  (∀ (s u : State) (rx : Rx) (x : Exchange) (p : Option (List Byte)) (k : Nat) (done : Nat → Frame), Running s → Arrives s rx 0x50 u → u.sec.device = some x → leNat (x.nonce.take 8) = rx.frame.addr →
    rx.frame.arg / 256 % 256 = 0 → rx.frame.arg / 65536 % 256 = 1 →
    p = Config.gcmOpen (sessionKey x.ephemeral x.peerKey) (x.nonce.take 12) x.nonce ((rx.frame.payload.drop 0x10).take 149) →
    (∀ st, done st = mkFrame 0x50 0 0 0 0 (4 + 65536) (leNat (x.nonce.take 8)) 0 (leBytes 1 st ++ leBytes 15 0)) → (∀ st, SendsAtOnce u (done st) k) →
    ∃ t, exec (.attestKeys rx) s = .next t ∧
      (p = none → t.sec = { u.sec with device := none } ∧ t.out = u.out ++ [.xiesh k (sentFrame u (done 2) k)] ∧ KeepsAllRegs (ofFields [F.XSH_COUNT0_COUNT k]) u t ∧ KeepsBytes u t) ∧
      (∀ q, p = some q → u.sec.owner.isSome = true → u.sec.owner ≠ some (q.take 97) →
        t.sec = { u.sec with device := none } ∧ t.out = u.out ++ [.xiesh k (sentFrame u (done 3) k)] ∧ KeepsAllRegs (ofFields [F.XSH_COUNT0_COUNT k]) u t ∧ KeepsBytes u t) ∧
      (∀ q, p = some q → u.sec.owner = some (q.take 97) →
        t.sec = { u.sec with device := none, yardKey := some ((q.drop 97).take 32) } ∧ t.get F.SEC_YARD_KEY_GEN_GEN = (u.get F.SEC_YARD_KEY_GEN_GEN + 1) % 2 ^ 32 ∧
        t.out = u.out ++ [.xiesh k (sentFrame u (done 0) k)] ∧ KeepsAllRegs (ofFields [F.XSH_COUNT0_COUNT k, F.SEC_YARD_KEY_GEN_GEN]) u t ∧ KeepsBytes u t) ∧
      (∀ q, p = some q → u.sec.owner = none →
        t.sec = { u.sec with device := none, owner := some (q.take 97), yardKey := some ((q.drop 97).take 32) } ∧ t.get F.SEC_STATE_OWNED = 1 ∧
        t.get F.SEC_YARD_KEY_GEN_GEN = (u.get F.SEC_YARD_KEY_GEN_GEN + 1) % 2 ^ 32 ∧ (ownCheck u 0xBF00 1 = 0 → t.nv.owner = some (q.take 97)) ∧
        Keeps (eitherField ofLoft (ofFields [F.SEC_STATE_OWNED, F.SEC_YARD_KEY_GEN_GEN])) u t)) ∧
  (∀ (s u : State) (rx : Rx) (n : Nat) (x : Exchange), Running s → Arrives s rx 0x50 u → rx.frame.src = n → n < 64 → assoc u.sec.heads n = some x → leNat (x.nonce.take 8) = rx.frame.addr →
    rx.frame.arg / 256 % 256 = 0 → rx.frame.arg / 65536 % 256 = 1 → leAt rx.frame.payload 0 1 = 0 →
    ∃ t, exec (.attestDone rx) s = .next t ∧ t.get (F.XSH_MEMBER0_STATE n) = 1 ∧ t.yard.members = u.yard.members.map (fun m => if m.number = n then { m with known := true } else m) ∧
      (∀ e, e ∈ t.sec.heads ↔ e ∈ u.sec.heads ∧ e.1 ≠ n) ∧ t.out = u.out ∧ KeepsAllRegs (ofFields [F.XSH_MEMBER0_STATE n]) u t ∧ KeepsBytes u t) ∧
  (∀ s : State, Running s → s.isHead = false ∨ s.yard.members = [] → exec .reattestTimer s = .next s) ∧
  (∀ (s : State) (m : YardMember) (nonce : List Byte) (x : Exchange), Running s → s.isHead = true → s.yard.members = [m] → nonce = Config.freeBytes s.free 32 → x = ⟨nonce, s.free, [], 0, 0, []⟩ →
    ∃ t, exec .reattestTimer s = .next t ∧ t.free = s.free + 1 ∧ assoc t.sec.heads m.number = some x ∧
      t = sendMessage { s with free := s.free + 1, sec := { s.sec with heads := assocPut s.sec.heads m.number x } } m.number 1 nonce (challengeBytes nonce (Config.ephemeralKey s.free)) ∧
      Keeps noField s t)

/-- R371, R423, R427 to R432 (GET_IDENTITY, MBX_ATTEST, CLAIM_OWNER, REPLACE_OWNER, RELEASE_OWNER, SET_PAGE, SET_LOFT_PROTECT, LOFT_READ, DEBUG_LOCK): a
checked request is carried out and answered in memory and in HIF.MBX_STATUS; without one of its command a handler does nothing; the owner is claimed
only where there is none, replaced and released by a tack room commit, whose refusal shows in DETAIL; pages take their world and owner; BP waits in
the shadow block; bytes of the loft are read within its partitions 2 and 3. The model's own choices it rests on: log entries 20, 37, 47. -/
def Obligations.RequestsAreAnswered : Prop :=
  (∀ (s : State) (c : Instr) (cmd : Nat), Running s →
    (c, cmd) ∈ [(Instr.getIdentity, 0x0001), (.mbxAttest, 0x0002), (.claimOwner, 0x0010), (.replaceOwner, 0x0011), (.releaseOwner, 0x0012), (.setPage, 0x0020), (.setLoftProtect, 0x0031),
      (.loftRead, 0x0030), (.fwUpdate, 0x0040), (.enrol, 0x0050), (.unenrol, 0x0051), (.rotateYardKey, 0x0052), (.protectedLoad, 0x0060), (.debugUnlock, 0x0070), (.debugLock, 0x0071)] →
    (∀ b, s.sec.request = some b → reqCommand b ≠ cmd) → exec c s = .next s) ∧
  (∀ (s : State) (p : List Byte), Asks s 0x0001 p →
    ∃ t, exec .getIdentity s = .next t ∧
      Answers noField 0x0001 0 0 (identityDigest ++ Config.identityKey ++ leBytes 3 0 ++ leBytes 2 Config.identityCert.length ++ leBytes 2 0 ++ Config.identityCert) s s.mem t) ∧
  (∀ (s : State) (p : List Byte), Asks s 0x0002 p →
    (canAttest s = false → ∃ t, exec .mbxAttest s = .next t ∧ Answers noField 0x0002 6 0 [] s s.mem t) ∧
    (canAttest s = true → ∃ t, exec .mbxAttest s = .next t ∧ s.free < t.free ∧ Answers noField 0x0002 0 0 (statementBytes s p (List.replicate 97 0)) s s.mem t)) ∧
  (∀ (s : State) (p : List Byte), Asks s 0x0010 p → s.sec.owner.isSome = true → ∃ t, exec .claimOwner s = .next t ∧ t.sec.owner = s.sec.owner ∧ t.nv = s.nv ∧ Answers noField 0x0010 6 0 [] s s.mem t) ∧
  (∀ (s : State) (p : List Byte) (c : Instr) (cmd : Nat), Asks s cmd p → (c = .claimOwner ∧ cmd = 0x0010 ∧ s.sec.owner = none) ∨ (c = .replaceOwner ∧ cmd = 0x0011) →
    (ownCheck s 0xBF00 1 = 0 →
      ∃ t, exec c s = .next t ∧ t.sec.owner = some (p.take 97) ∧ t.nv = { s.nv with owner := some (p.take 97) } ∧ t.get F.SEC_STATE_OWNED = 1 ∧
        t.get F.LFT_COMMIT_SEQ_SEQ = (s.get F.LFT_COMMIT_SEQ_SEQ + 1) % 2 ^ 32 ∧ Answers (eitherField ofLoft (ofFields [F.SEC_STATE_OWNED])) cmd 0 0 [] s s.mem t) ∧
    (ownCheck s 0xBF00 1 ≠ 0 →
      ∃ t, exec c s = .next t ∧ t.sec.owner = s.sec.owner ∧ t.nv = s.nv ∧ t.get F.LFT_CMD_STATUS_CODE = ownCheck s 0xBF00 1 ∧ Answers ofLoft cmd 11 (ownCheck s 0xBF00 1) [] s s.mem t)) ∧
  (∀ (s : State) (p : List Byte), Asks s 0x0012 p → (∀ m ∈ s.yard.members, m.number < 64) →
    (ownCheck s 0xBF00 1 = 0 → ownCheck s (copyBase 1 0 / 256) 17 = 0 →
      ∃ t, exec .releaseOwner s = .next t ∧ t.sec.owner = none ∧ t.sec.yardKey = none ∧ t.nv = { s.nv with owner := none, ids := [] } ∧ t.yard.idRoster = [] ∧
        (∀ m ∈ t.yard.members, m.known = false ∧ t.get (F.XSH_MEMBER0_STATE m.number) = 2) ∧ t.get F.SEC_STATE_OWNED = 0 ∧
        Answers (eitherField ofLoft (ofFields (F.SEC_STATE_OWNED :: s.yard.members.map (fun m => F.XSH_MEMBER0_STATE m.number)))) 0x0012 0 0 [] s s.mem t) ∧
    (ownCheck s 0xBF00 1 ≠ 0 → ∃ t, exec .releaseOwner s = .next t ∧ t.sec.owner = s.sec.owner ∧ t.sec.yardKey = s.sec.yardKey ∧ t.nv = s.nv ∧ t.yard.idRoster = s.yard.idRoster ∧
      Answers ofLoft 0x0012 11 (ownCheck s 0xBF00 1) [] s s.mem t)) ∧
  (∀ (s : State) (p : List Byte) (pages : List Nat) (w o : Nat), Asks s 0x0020 p → pages = (List.range (leAt p 2 2)).map (fun i => leAt p 0 2 + i) → w = leAt p 4 1 → o = leAt p 5 1 → w < 2 → o < 2 →
    ((∃ x ∈ pages, fixedHostPage x = true ∨ fixedSecurePage x = true) → ∃ t, exec .setPage s = .next t ∧ t.nv = s.nv ∧ Answers noField 0x0020 6 0 [] s s.mem t) ∧
    ((∀ x ∈ pages, fixedHostPage x = false ∧ fixedSecurePage x = false) → ownCheck s (copyBase 0 0 / 256) 4 ≠ 0 →
      ∃ t, exec .setPage s = .next t ∧ t.nv = s.nv ∧ Answers ofLoft 0x0020 11 (ownCheck s (copyBase 0 0 / 256) 4) [] s s.mem t) ∧
    ((∀ x ∈ pages, fixedHostPage x = false ∧ fixedSecurePage x = false) → ownCheck s (copyBase 0 0 / 256) 4 = 0 →
      ∃ t, exec .setPage s = .next t ∧ (∀ x ∈ pages, t.pageWorld x = w ∧ t.pageOwner x = o ∧ (x, w, o) ∈ t.nv.pages) ∧
        Answers (eitherField ofLoft (ofFields (pages.flatMap (fun x => [F.PAGE_SEC_WORLD x, F.PAGE_OWNER_OWNER x])))) 0x0020 0 0 [] s s.mem t)) ∧
  (∀ (s : State) (p : List Byte), Asks s 0x0031 p →
    (loftTempOk s = true → ∃ t, exec .setLoftProtect s = .next t ∧ t.loft.shadow = { s.loft.shadow with bp := some (leAt p 0 1) } ∧
      t.get (F.LFT_COUNT_COUNT 6) = satAdd 32 (s.get (F.LFT_COUNT_COUNT 6)) 1 ∧ Answers (ofFields [F.LFT_COUNT_COUNT 6]) 0x0031 0 0 [] s s.mem t) ∧
    (loftTempOk s = false → ∃ t, exec .setLoftProtect s = .next t ∧ t.loft = s.loft ∧ t.nv = s.nv ∧ Answers noField 0x0031 11 7 [] s s.mem t)) ∧
  (∀ (s : State) (p : List Byte) (a n : Nat), Asks s 0x0030 p → a = leAt p 0 4 → n = leAt p 4 4 →
    (a < 0x012400 ∨ 0xBF0000 < a + n → ∃ t, exec .loftRead s = .next t ∧ Answers noField 0x0030 6 0 [] s s.mem t) ∧
    (0x012400 ≤ a → a + n ≤ 0xBF0000 → s.mem.badLoft = [] → ∃ t, exec .loftRead s = .next t ∧ Answers noField 0x0030 0 0 (memRead s.mem.loft a n) s s.mem t)) ∧
  (∀ (s : State) (p : List Byte), Asks s 0x0071 p → ∃ t, exec .debugLock s = .next t ∧ t.sec = { s.sec with request := none } ∧ Answers noField 0x0071 0 0 [] s s.mem t)

/-- R229, R419 to R422, R428, R430, R433 (FW_UPDATE, ENROL, UNENROL, ROTATE_YARD_KEY, PROTECTED_LOAD, DEBUG_UNLOCK): an image is fetched, judged and
staged, in recovery written to slot A and followed by a reset; the head's roster takes a digest under a number, and drops one; a new yard key goes to
the members known; a protected surface with the digest given is copied, its registers and references written and SWAP set; an unlock clears the layer,
its surfaces and the keys. The model's own choices it rests on: log entries 20, 21, 46, 47. -/
def Obligations.KeysImagesAndSurfaces : Prop :=
  (∀ (s : State) (p : List Byte) (a n : Nat), Asks s 0x0040 p → hasBit (leAt p 0x0C 1) 0 = false → a = leAt p 0 8 → n = leAt p 8 4 → s.mem.badDram = [] → s.mem.poisonDram = [] → s.mem.weakDram = [] →
    (dramBehind s a n = false → ∃ t, exec .fwUpdate s = .next t ∧ Answers noField 0x0040 12 0 [] s s.mem t) ∧
    (∀ img, img = dramRead s a n → dramBehind s a n = true →
      (imageValid 1 0 img = false → ∃ t, exec .fwUpdate s = .next t ∧ t.nv = s.nv ∧ Answers noField 0x0040 7 0 [] s s.mem t) ∧
      (imageValid 1 0 img = true → leAt img 0x0C 4 < s.get F.SEC_MIN_ROLLBACK_LEVEL → ∃ t, exec .fwUpdate s = .next t ∧ t.nv = s.nv ∧ Answers noField 0x0040 8 0 [] s s.mem t) ∧
      (imageValid 1 0 img = true → s.get F.SEC_MIN_ROLLBACK_LEVEL ≤ leAt img 0x0C 4 → s.get F.SEC_STATE_BOOT ≠ 2 → (commitImage s 0x400000 img).2 = 0 → ownCheck s (copyBase 10 0 / 256) 1 = 0 →
        ∃ t m, exec .fwUpdate s = .next t ∧ t.get F.SEC_STATE_STAGED = 1 ∧ t.nv = { s.nv with staged := some n } ∧ PutAt s.mem.loft m.loft 0x400000 img ∧ m.dram = s.mem.dram ∧ m.host = s.mem.host ∧
          Answers (eitherField ofLoft (ofFields [F.SEC_STATE_STAGED])) 0x0040 0 0 [] s m t) ∧
      (imageValid 1 0 img = true → s.get F.SEC_MIN_ROLLBACK_LEVEL ≤ leAt img 0x0C 4 → s.get F.SEC_STATE_BOOT = 2 → (commitImage s 0xC00000 img).2 = 0 →
        imageValid 1 (s.get F.SEC_MIN_ROLLBACK_LEVEL) (slotImage (commitImage s 0xC00000 img).1 0) = true → s.loft.commit = none →
        ∃ t, exec .fwUpdate s = .next t ∧ t.get F.GLB_RESET_CAUSE_CAUSE = 2 ∧ t.mech.loaded = none ∧ PutAt s.mem.loft t.mem.loft 0xC00000 img ∧ t.pending = s.pending))) ∧
  (∀ (s : State) (p digest : List Byte) (n : Nat), Asks s 0x0050 p → digest = p.take 48 → n = leAt p 0x30 1 →
    (s.isHead = false ∨ (∃ e ∈ s.yard.idRoster, e.number = n ∧ e.digest ≠ digest ∧ ∃ m ∈ s.yard.members, m.digest = e.digest) →
      ∃ t, exec .enrol s = .next t ∧ t.yard.idRoster = s.yard.idRoster ∧ t.nv = s.nv ∧ Answers noField 0x0050 6 0 [] s s.mem t) ∧
    (s.isHead = true → (∀ e ∈ s.yard.idRoster, e.number = n → e.digest = digest ∨ ∀ m ∈ s.yard.members, m.digest ≠ e.digest) →
      (ownCheck s (copyBase 1 0 / 256) 17 ≠ 0 → ∃ t, exec .enrol s = .next t ∧ t.yard.idRoster = s.yard.idRoster ∧ t.nv = s.nv ∧
        Answers ofLoft 0x0050 11 (ownCheck s (copyBase 1 0 / 256) 17) [] s s.mem t) ∧
      (ownCheck s (copyBase 1 0 / 256) 17 = 0 → (∀ m ∈ s.yard.members, m.digest ≠ digest) →
        ∃ t ids, exec .enrol s = .next t ∧ ids = s.yard.idRoster.filter (fun e => !decide (e.number = n) && !decide (e.digest = digest)) ++ [⟨digest, n, true, 0⟩] ∧ t.yard.idRoster = ids ∧
          t.nv = { s.nv with ids := ids } ∧ t.sec.heads = s.sec.heads ∧ Answers ofLoft 0x0050 0 0 [] s s.mem t) ∧
      (∀ m, ownCheck s (copyBase 1 0 / 256) 17 = 0 → s.yard.members.find? (fun m => decide (m.digest = digest)) = some m →
        ∃ t, exec .enrol s = .next t ∧ (⟨digest, n, true, m.xy⟩ ∈ t.yard.idRoster) ∧ t.nv = { s.nv with ids := t.yard.idRoster } ∧
          assoc t.sec.heads m.number = some ⟨Config.freeBytes s.free 32, s.free, [], 0, 0, []⟩ ∧ Answers ofLoft 0x0050 0 0 [] s s.mem t))) ∧
  (∀ (s : State) (p digest : List Byte), Asks s 0x0051 p → digest = p.take 48 →
    (s.isHead = false → ∃ t, exec .unenrol s = .next t ∧ t.yard.idRoster = s.yard.idRoster ∧ t.nv = s.nv ∧ Answers noField 0x0051 6 0 [] s s.mem t) ∧
    (s.isHead = true → (∀ e ∈ s.yard.idRoster, e.digest ≠ digest) → ∃ t, exec .unenrol s = .next t ∧ t.yard.idRoster = s.yard.idRoster ∧ t.nv = s.nv ∧ Answers noField 0x0051 10 0 [] s s.mem t) ∧
    (s.isHead = true → (∃ e ∈ s.yard.idRoster, e.digest = digest) → ownCheck s (copyBase 1 0 / 256) 17 = 0 →
      ∃ t, exec .unenrol s = .next t ∧ t.yard.idRoster = s.yard.idRoster.filter (fun e => !decide (e.digest = digest)) ∧ t.nv = { s.nv with ids := t.yard.idRoster } ∧
        (∀ m, s.yard.members.find? (fun m => decide (m.digest = digest)) = some m → m.number < 64 →
          t.get (F.XSH_MEMBER0_STATE m.number) = 2 ∧ hasBit (t.get (F.IRQ_RAW 0x100)) 1 = true ∧ t.get F.XSH_STRANGER_VALID = 1 ∧
          Answers (eitherField ofLoft (ofFields ([F.XSH_MEMBER0_STATE m.number, F.XSH_STRANGER_VALID, F.XSH_STRANGER_NUMBER] ++ (List.range 12).map F.XSH_STRANGER_DIGEST_BYTES))) 0x0051 0 0 [] s s.mem t) ∧
        ((∀ m ∈ s.yard.members, m.digest ≠ digest) → t.yard.members = s.yard.members ∧ Answers ofLoft 0x0051 0 0 [] s s.mem t))) ∧
  (∀ (s : State) (p : List Byte), Asks s 0x0052 p →
    (s.isMember = true → ∃ t, exec .rotateYardKey s = .next t ∧ t.sec.yardKey = s.sec.yardKey ∧ Answers noField 0x0052 6 0 [] s s.mem t) ∧
    (s.isMember = false → ∃ t, exec .rotateYardKey s = .next t ∧ t.sec.yardKey = some (Config.freeBytes s.free 32) ∧ t.get F.SEC_YARD_KEY_GEN_GEN = (s.get F.SEC_YARD_KEY_GEN_GEN + 1) % 2 ^ 32 ∧
      (∀ m ∈ s.yard.members, m.known = true → ∃ x, assoc t.sec.heads m.number = some x ∧ x.message = 0) ∧ Answers (ofFields [F.SEC_YARD_KEY_GEN_GEN]) 0x0052 0 0 [] s s.mem t)) ∧
  (∀ (s : State) (p : List Byte) (a n : Nat), Asks s 0x0060 p → a = leAt p 0 8 → n = leAt p 8 4 → s.mem.badDram = [] → s.mem.poisonDram = [] → s.mem.weakDram = [] →
    (dramBehind s a n = false → ∃ t, exec .protectedLoad s = .next t ∧ Answers noField 0x0060 12 0 [] s s.mem t) ∧
    (dramBehind s a n = true →
      (Config.sha384 (dramRead s a n) ≠ (p.drop 0x10).take 48 → ∃ t, exec .protectedLoad s = .next t ∧ Answers noField 0x0060 7 0 [] s s.mem t) ∧
      (Config.sha384 (dramRead s a n) = (p.drop 0x10).take 48 → ∀ c, c = Config.protSurface s.free % 2 ^ 30 →
        ∃ t m, exec .protectedLoad s = .next t ∧ t.get F.CMP_PROT_ADDR_ADDR = c ∧ t.get F.CMP_PROT_PITCH_BYTES = leAt p 0x0C 4 % 2 ^ 21 ∧
          t.get F.CMP_PROT_DST_DST_X = bitsOf (leAt p 0x40 4) 0 16 ∧ t.get F.CMP_PROT_DST_DST_Y = bitsOf (leAt p 0x40 4) 16 16 ∧
          t.get F.CMP_PROT_SIZE_W = bitsOf (leAt p 0x44 4) 0 16 ∧ t.get F.CMP_PROT_SIZE_H = bitsOf (leAt p 0x44 4) 16 16 ∧ t.get F.CMP_PROT_CTRL_EN = 1 ∧ t.get F.CMP_PROT_CTRL_SWAP = 1 ∧
          (dramBehind s (64 * c) n = true → PutAt s.mem.dram m.dram (64 * c) (dramRead s a n)) ∧ (dramBehind s (64 * c) n = false → m.dram = s.mem.dram) ∧ m.host = s.mem.host ∧ m.loft = s.mem.loft ∧
          (∀ b, b < 12 → t.get (F.CMP_PROT_CRC_REF_CRC b) = protRef { t with mem := m } ((protBack t).localTo t) b % 2 ^ 32) ∧
          Answers (ofFields ([F.CMP_PROT_ADDR_ADDR, F.CMP_PROT_PITCH_BYTES, F.CMP_PROT_DST_DST_X, F.CMP_PROT_DST_DST_Y, F.CMP_PROT_SIZE_W, F.CMP_PROT_SIZE_H, F.CMP_PROT_CTRL_EN,
            F.CMP_PROT_CTRL_SWAP] ++ (List.range 12).map F.CMP_PROT_CRC_REF_CRC)) 0x0060 0 0 [] s m t))) ∧
  (∀ (s : State) (p : List Byte) (surfaces : List Plane), Asks s 0x0070 p → surfaces = protBack s :: s.cmp.prot.toList.map Prod.fst →
    ∃ t m, exec .debugUnlock s = .next t ∧
      (Config.debugDisable = true → t.sec = { s.sec with request := none } ∧ m = s.mem ∧ Answers noField 0x0070 6 0 [] s m t) ∧
      (Config.debugDisable = false → t.get F.CMP_PROT_CTRL_EN = 0 ∧ t.get F.CMP_PROT_CTRL_SWAP = 0 ∧ t.get F.CMP_STATUS_PROT_ACTIVE = 0 ∧ t.get F.SEC_STATE_DEBUG_UNLOCKED = 1 ∧
        t.cmp = { s.cmp with prot := none, protTaken := none } ∧ t.sec = { s.sec with yardKey := none, keys := false, request := none } ∧ hasBit (t.get (F.IRQ_RAW 0x170)) 2 = true ∧
        (∀ q ∈ surfaces, dramBehind s q.addr (q.pitch * q.h) = true → ∀ i, i < q.pitch * q.h → memGet m.dram (q.addr + i) = 0) ∧
        (∀ x, (∀ q ∈ surfaces, x < q.addr ∨ q.addr + q.pitch * q.h ≤ x) → memGet m.dram x = memGet s.mem.dram x) ∧ m.host = s.mem.host ∧ m.loft = s.mem.loft ∧
        Answers (ofFields [F.CMP_PROT_CTRL_EN, F.CMP_PROT_CTRL_SWAP, F.CMP_STATUS_PROT_ACTIVE, F.SEC_STATE_DEBUG_UNLOCKED]) 0x0070 0 0 [] s m t))

/-- R443 to R448, R456 to R458, R460, R462 (HELD_ENTRY_POST, ENTRY_SERVICE, LOG_COMMIT, ERR_INJECT_ARM, MUCK_OUT_GO, MUCK_OUT_DONE): a held entry is
posted once the ring has room; the entry presented leaves the ring with its ACTION, is logged, and the captures that name it are released; the entries
that wait go to the loft's log, the counts by the hour, unless the loft refuses; an injection is armed; the muck-out is let begin from the dark panel
alone, clears the secrets, and its end commits its record and stops the clocks or resets. The model's own choices it rests on: log entries 27, 35, 43. -/
def Obligations.EntriesAreServiced : Prop :=
  (∀ s : State, Running s → s.err.held = [] ∨ 64 ≤ s.err.ring.length → exec .heldEntryPost s = .next s) ∧
  (∀ (s : State) (page : Nat) (e : ErrEntry) (rest : List (Nat × ErrEntry)), Running s → s.err.held = (page, e) :: rest → s.err.ring.length < 64 → (∀ h ∈ rest, h.1 ≠ page) →
    ((∀ x ∈ s.err.ring, x.cls ≠ e.cls ∨ x.code ≠ e.code ∨ x.unit ≠ e.unit) → ∀ q, q = (s.get F.ERR_SEQ_SEQ + 1) % 2 ^ 32 →
      ∃ t, exec .heldEntryPost s = .next t ∧ t.err = { s.err with ring := s.err.ring ++ [{ e with seq := q, afterDrop := s.err.dropPending }], held := rest, dropPending := false } ∧
        t.get F.ERR_SEQ_SEQ = q ∧ t.get F.ERR_RING_OCCUPIED = s.err.ring.length + 1 ∧
        (pageHasHeader page = true → s.get (F.ERR_FIRST_VALID page) = 0 → t.get (F.ERR_FIRST_CODE page) = 0x7F ∧ t.get (F.ERR_INFO page 0) = q) ∧ Keeps noField s t) ∧
    (∀ old, s.err.ring.find? (fun x => decide (x.cls = e.cls) && decide (x.code = e.code) && decide (x.unit = e.unit)) = some old →
      ∃ t, exec .heldEntryPost s = .next t ∧ t.err.held = rest ∧ t.err.ring.length = s.err.ring.length ∧ { old with rep := Nat.min (old.rep + 1 + e.rep) 0xFFFF } ∈ t.err.ring ∧
        (pageHasHeader page = true → s.get (F.ERR_FIRST_VALID page) = 0 → t.get (F.ERR_FIRST_CODE page) = 0x7F ∧ t.get (F.ERR_INFO page 0) = old.seq % 2 ^ 32) ∧
        t.get F.ERR_SEQ_SEQ = s.get F.ERR_SEQ_SEQ ∧ Keeps noField s t)) ∧
  (∀ s : State, Running s → s.err.ring = [] → exec .entryService s = .next s) ∧
  (∀ (s u : State) (e d : ErrEntry), Running s → presented s.err.ring = some e → u = servicePolicy s e → d = { e with action := actionOf e, serviced := true } →
    (e.cls = 2 ∨ e.cls = 3 ∨ e.cls = 4 ∨ e.cls = 5 ∨ (u.err = s.err ∧ KeepsAllRegs noField s u ∧ KeepsBytes s u)) ∧
    ∃ t, exec .entryService s = .next t ∧ t.err.ring = u.err.ring.erase e ∧ t.err.hostLog = (if 256 ≤ u.err.hostLog.length then u.err.hostLog.drop 1 else u.err.hostLog) ++ [d] ∧
      t.get F.ERR_LOG_COUNT_COUNT = (u.get F.ERR_LOG_COUNT_COUNT + 1) % 2 ^ 32 ∧
      t.get F.ERR_LOG_LOST_COUNT = (if 256 ≤ u.err.hostLog.length then satAdd 32 (u.get F.ERR_LOG_LOST_COUNT) 1 else u.get F.ERR_LOG_LOST_COUNT) ∧
      (e.sev = 0 → mapVal t.err.sev0 e.cls = mapVal u.err.sev0 e.cls + 1 + e.rep ∧ t.err.toLoft = u.err.toLoft) ∧
      (1 ≤ e.sev → t.err.sev0 = u.err.sev0 ∧ ((∀ x ∈ u.err.toLoft, x.cls ≠ e.cls ∨ x.code ≠ e.code ∨ x.time ≠ e.time ∨ x.unit ≠ e.unit) → t.err.toLoft = u.err.toLoft ++ [d])) ∧
      (∀ p, p < 0x1B0 → u.get (F.ERR_FIRST_VALID p) = 1 → u.get (F.ERR_FIRST_CODE p) = 0x7F → u.get (F.ERR_INFO p 0) = e.seq → u.get (F.PAGE_OWNER_OWNER p) = 0 → t.get (F.ERR_FIRST_VALID p) = 0) ∧
      (u.get F.ERR_CFG_IRQ_LEVEL ≤ e.sev → hasBit (t.get (F.IRQ_RAW 0x180)) 0 = true) ∧ Keeps (ofFields [F.ERR_LOG_COUNT_COUNT, F.ERR_LOG_LOST_COUNT]) u t) ∧
  (∀ (s : State) (hour : Bool), Running s → s.err.toLoft = [] → hour = false ∨ s.err.sev0 = [] → exec (.logCommit hour) s = .next s) ∧
  (∀ s : State, Running s → s.err.toLoft ≠ [] → ∀ c, c = ownCheck s 0x0124 ((s.err.toLoft.length * 32 + 255) / 256) →
    ∃ t, exec (.logCommit false) s = .next t ∧
      (c = 0 → t.err = { s.err with toLoft := [] } ∧ t.nv = { s.nv with log := s.nv.log ++ s.err.toLoft } ∧ t.get F.LFT_COMMIT_SEQ_SEQ = (s.get F.LFT_COMMIT_SEQ_SEQ + 1) % 2 ^ 32) ∧
      (c ≠ 0 → t.err = s.err ∧ t.nv = s.nv ∧ t.get F.LFT_CMD_STATUS_CODE = c) ∧ Keeps ofLoft s t) ∧
  (∀ s : State, Running s → s.err.toLoft = [] → s.err.sev0 ≠ [] →
    ∃ t, exec (.logCommit true) s = .next t ∧
      (ownCheck s 0x0124 1 = 0 → t.err = { s.err with sev0 := [] } ∧ t.nv = { s.nv with counts := s.err.sev0.foldl (fun m p => mapPut m p.1 (mapVal m p.1 + p.2)) s.nv.counts }) ∧
      (ownCheck s 0x0124 1 ≠ 0 → t.err = s.err ∧ t.nv = s.nv ∧ t.get F.LFT_CMD_STATUS_CODE = ownCheck s 0x0124 1) ∧ Keeps ofLoft s t) ∧
  (∀ (s : State) (m : Master) (data : Nat), Running s → MayWrite s m 0x180 → data < 2 ^ 32 →
    ∃ t, exec (.errInjectArm m data) s = .next t ∧ t.get F.ERR_INJECT_ARM = 1 ∧ t.get F.ERR_INJECT_DONE = 0 ∧ t.get F.ERR_INJECT_KIND = bitsOf data 28 2 ∧ t.get F.ERR_INJECT_UNIT = bitsOf data 0 12 ∧
      t.get F.ERR_INJECT_TARGET = (if bitsOf data 24 3 ≤ 3 then bitsOf data 24 3 else s.get F.ERR_INJECT_TARGET) ∧
      t.get F.ERR_INJECT_BIT = (if bitsOf data 16 8 ≤ 71 then bitsOf data 16 8 else s.get F.ERR_INJECT_BIT) ∧
      Keeps (ofFields [F.ERR_INJECT_ARM, F.ERR_INJECT_DONE, F.ERR_INJECT_KIND, F.ERR_INJECT_UNIT, F.ERR_INJECT_TARGET, F.ERR_INJECT_BIT]) s t) ∧
  (∀ (s : State) (m : Master) (data : Nat), Running s → MayWrite s m 0x190 → data < 2 ^ 32 →
    (s.get F.PNL_SEQ_STATE_STATE = 5 → s.power.off = .command → s.get F.BST_STATE_STATE ≤ 1 →
      ∃ t, exec (.muckOutGo m data) s = .next t ∧ t.get F.BST_STATE_STATE = 2 ∧ t.get F.BST_CTRL_MUCK_EN = bitsOf data 0 1 ∧
        t.sec = { s.sec with keys := false, yardKey := none, heads := [], device := none } ∧ t.loft = { s.loft with shadow := Shadow.reset, badBuf := [], buf := [], zeroBuf := true } ∧
        KeepsAllRegs (ofFields [F.BST_STATE_STATE, F.BST_CTRL_MUCK_EN, F.BST_CTRL_GO]) s t ∧ KeepsBytes s t) ∧
    (s.get F.PNL_SEQ_STATE_STATE ≠ 5 ∨ s.power.off ≠ .command ∨ 2 ≤ s.get F.BST_STATE_STATE →
      ∃ t, exec (.muckOutGo m data) s = .next t ∧ (s.get (F.ERR_FIRST_VALID 0x190) = 0 → t.get (F.ERR_FIRST_CODE 0x190) = 0x20) ∧ t.sec = s.sec ∧ t.loft = s.loft ∧ Keeps noField s t)) ∧
  (∀ (s : State) (readBack : Bool) (mhz : Nat) (parts repairs : List Nat), Running s → s.get F.BST_STATE_STATE ≠ 2 → exec (.muckOutDone readBack mhz parts repairs) s = .next s) ∧
  (∀ (s v : State) (readBack : Bool) (mhz why : Nat) (parts repairs ps : List Nat), Running s → s.get F.BST_STATE_STATE = 2 → why = (if s.power.muckWhy = 0 then (if readBack then 0 else 1) else s.power.muckWhy) →
    ps = muckParts s readBack parts → v = muckRecord (s.set F.BST_STATE_TEST_MHZ mhz) (muckResult why ps) why mhz ps (repairs.map (fun r => r % 2 ^ 32)) →
    (s.power.waiting = none →
      ∃ t, exec (.muckOutDone readBack mhz parts repairs) s = .next t ∧ t.get F.BST_STATE_STATE = 6 ∧ t.get F.BST_STATE_TEST_MHZ = mhz % 2 ^ 16 ∧ t.power = { v.power with stopped := true } ∧
        t.pcie.linkUp = false ∧ t.mem = v.mem ∧ t.nv = v.nv ∧ t.mem.dram = s.mem.dram ∧ t.mem.host = s.mem.host ∧
        KeepsRegs (eitherField ofLoft (ofFields [F.BST_STATE_STATE, F.BST_STATE_TEST_MHZ])) s t) ∧
    (∀ c, s.power.waiting = some c → exec (.muckOutDone readBack mhz parts repairs) s = .next (resetState v c)))

/-- R308, R421, R457, R471 to R474, R478, R488 (POWER_ON_RESET, PERST_ASSERT, DEVICE_RESET, LINK_RESET, PCIE_LINK_UP, START_UP, PANEL_WAIT_END): a reset
leaves every register, queue, engine and DRAM byte as after reset and keeps host memory and the loft; one that meets the lit panel waits for the dark,
one that meets the muck-out ends it first; a link reset clears the host interface alone; the link's coming up makes a candidate flood ENUM; start-up
examines the journal and runs the image it finds, or recovers, and stops at once where TEST_EN was high; the panel is then brought up. The model's own
choices it rests on: log entries 25, 35, 36. -/
def Obligations.ResetsAndStartUp : Prop :=
  (∀ (s : State) (e : Bool) (fate : CommitFate), s.loft.commit = none ∨ fate = .completed → ∃ t, exec (.powerOnReset e fate) s = .next t ∧ HasReset .powerOn s t ∧ t.power.test = e ∧
    (∀ a bs, s.loft.commit = some (a, bs) → SoundMemory s → PutAt s.mem.loft t.mem.loft a bs) ∧ (s.loft.commit = none → t.loft.journal = s.loft.journal ∧ t.loft.torn = s.loft.torn)) ∧
  (∀ (s : State) (e : Bool) (a : Nat) (bs : List Byte), s.loft.commit = some (a, bs) →
    (∃ t, exec (.powerOnReset e .beforePoint) s = .next t ∧ t.mem.loft = s.mem.loft ∧ t.loft.torn = true ∧ HasReset .powerOn { s with loft := { s.loft with commit := none } } t) ∧
    (∃ t, exec (.powerOnReset e .afterPoint) s = .next t ∧ t.mem.loft = s.mem.loft ∧ t.loft.journal = some (a, bs) ∧ HasReset .powerOn { s with loft := { s.loft with commit := none } } t)) ∧
  (∀ (s : State) (c : Instr) (why : Cause), (c = .perstAssert ∧ why = .perst) ∨
      (∃ m data, c = .deviceReset m data ∧ why = .device ∧ Running s ∧ MayWrite s m 0x000 ∧ data < 2 ^ 32 ∧ hasBit data 0 = true ∧ bitsOf data 16 16 = 0xD1CE) →
    (ResetsAtOnce s → ∃ t, exec c s = .next t ∧ HasReset why s t ∧ (why = .perst → t.power.perst = true)) ∧
    (s.power.stopped = false → s.power.held = false → s.get F.BST_STATE_STATE = 1 →
      ∃ t v, exec c s = .next t ∧ v = muckRecord s 3 3 0 (List.replicate 24 0xC0000000) (repairsNow s) ∧ HasReset why v t) ∧
    (s.power.stopped = false → s.power.held = false → 2 ≤ s.get F.BST_STATE_STATE → s.get F.BST_STATE_STATE ≤ 5 →
      ∃ t, exec c s = .next t ∧ t.power = { s.power with waiting := some (s.power.waiting.getD why), muckWhy := (if s.power.muckWhy = 0 then 3 else s.power.muckWhy), perst := t.power.perst } ∧
        t.power.perst = (if why = .perst then true else s.power.perst) ∧ KeepsAllRegs noField s t ∧ KeepsBytes s t) ∧
    (s.power.stopped = false → s.power.held = false → s.get F.BST_STATE_STATE = 0 → s.pnl.step ≠ 0 ∨ s.get F.PNL_SEQ_STATE_STATE = 2 → PanelShows s →
      ∃ t, exec c s = .next t ∧ t.get F.PNL_SEQ_STATE_STATE = 3 ∧ t.pnl.step = 21 ∧
        t.power = { s.power with waiting := some (s.power.waiting.getD why), off := .reset, perst := t.power.perst } ∧
        t.power.perst = (if why = .perst then true else s.power.perst) ∧ KeepsAllRegs (ofFields [F.PNL_SEQ_STATE_STATE]) s t ∧ KeepsBytes s t)) ∧
  (∀ (s : State) (m : Master) (data : Nat), Running s → MayWrite s m 0x000 → data < 2 ^ 32 →
    (hasBit data 0 = false → exec (.deviceReset m data) s = .next s) ∧
    (hasBit data 0 = true → bitsOf data 16 16 ≠ 0xD1CE →
      ∃ t, exec (.deviceReset m data) s = .next t ∧ (s.get (F.ERR_FIRST_VALID 0x000) = 0 → t.get (F.ERR_FIRST_CODE 0x000) = 0x20) ∧ t.power = s.power ∧ Keeps noField s t)) ∧
  (∀ s : State, Running s →
    ∃ t, exec .linkReset s = .next t ∧ t.pcie = ⟨false, false⟩ ∧ t.get F.GLB_LINK_RESETS_COUNT = satAdd 32 (s.get F.GLB_LINK_RESETS_COUNT) 1 ∧ t.mem = s.mem ∧ t.out = s.out ∧ t.scene = s.scene ∧
      (∀ f : Field, f.lo < 512 → f.key ≠ F.GLB_LINK_RESETS_COUNT.key →
        t.get f = if linkResetClears f.addr then fieldDefault s.mech.loaded f % 2 ^ f.w else s.get f)) ∧
  (∀ (s v : State), Running s → v = { s with pcie := { s.pcie with linkUp := true } } →
    (candidate v = false ∨ upPorts v = [] ∨ s.yard.enumSent = true → exec .pcieLinkUp s = .next v) ∧
    (candidate v = true → upPorts v ≠ [] → s.yard.enumSent = false →
      ∃ t, exec .pcieLinkUp s = .next t ∧ t.pcie.linkUp = true ∧ t.yard.enumSent = true ∧ t = (upPorts v).foldl sendEnum { v with yard := { v.yard with enum := none, enumSent := true } } ∧ Keeps noField s t)) ∧
  (∀ (s : State) (x : Start), Running s → s.mech.loaded.isSome = true ∨ s.get F.GLB_START_STAGE ≠ 0 → exec (.startUp x) s = .next s) ∧
  (∀ (s : State) (x : Start) (ok : Nat), Running s → s.power.test = false → s.mech.loaded = none → s.get F.GLB_START_STAGE = 0 → ok = (if 0 ≤ x.loftTemp ∧ x.loftTemp ≤ 1440 then 1 else 0) →
    (s.loft.torn = false → s.loft.journal = none → bootSlot s = none →
      ∃ t, exec (.startUp x) s = .next t ∧ t.get F.SEC_STATE_BOOT = 2 ∧ t.get F.GLB_START_STAGE = 6 ∧ t.get F.GLB_STRAPS_LINKW = x.linkw % 4 ∧ t.get F.LFT_STATUS_TEMP_OK = ok ∧
        t.power = { s.power with t0 := s.now, perst := false } ∧ t.loft = { s.loft with temp := some x.loftTemp, charger := true } ∧
        KeepsAllRegs (ofFields [F.SEC_STATE_BOOT, F.GLB_START_STAGE, F.GLB_STRAPS_LINKW, F.LFT_STATUS_TEMP_OK]) s t ∧ KeepsBytes s t) ∧
    (s.loft.torn = true → bootSlot s = none →
      ∃ t, exec (.startUp x) s = .next t ∧ t.get F.SEC_STATE_BOOT = 2 ∧ t.get F.GLB_START_STAGE = 6 ∧ t.get F.LFT_STATUS_JOURNAL = 2 ∧ t.loft.torn = false ∧
        t.get (F.LFT_COUNT_COUNT 8) = satAdd 32 (s.get (F.LFT_COUNT_COUNT 8)) 1 ∧ hasBit (t.get (F.IRQ_RAW 0x140)) 4 = true ∧
        Keeps (ofFields [F.SEC_STATE_BOOT, F.GLB_START_STAGE, F.GLB_STRAPS_LINKW, F.LFT_STATUS_TEMP_OK, F.LFT_STATUS_JOURNAL, F.LFT_COUNT_COUNT 8]) s t) ∧
    (∀ a bs, s.loft.torn = false → s.loft.journal = some (a, bs) → ok = 1 → SoundMemory s → bootSlot { s with mem := { s.mem with loft := memWrite s.mem.loft a bs } } = none →
      ∃ t, exec (.startUp x) s = .next t ∧ PutAt s.mem.loft t.mem.loft a bs ∧ t.loft.journal = none ∧ t.get F.LFT_STATUS_JOURNAL = 1 ∧
        t.get (F.LFT_COUNT_COUNT 7) = satAdd 32 (s.get (F.LFT_COUNT_COUNT 7)) 1 ∧ hasBit (t.get (F.IRQ_RAW 0x140)) 4 = true ∧ t.mem.dram = s.mem.dram ∧ t.mem.host = s.mem.host ∧
        KeepsRegs (ofFields [F.SEC_STATE_BOOT, F.GLB_START_STAGE, F.GLB_STRAPS_LINKW, F.LFT_STATUS_TEMP_OK, F.LFT_STATUS_JOURNAL, F.LFT_COUNT_COUNT 7]) s t) ∧
    (∀ a bs, s.loft.torn = false → s.loft.journal = some (a, bs) → ok = 0 → bootSlot s = none →
      ∃ t, exec (.startUp x) s = .next t ∧ t.get F.LFT_STATUS_JOURNAL = 3 ∧ t.loft.journal = some (a, bs) ∧
        KeepsAllRegs (ofFields [F.SEC_STATE_BOOT, F.GLB_START_STAGE, F.GLB_STRAPS_LINKW, F.LFT_STATUS_TEMP_OK, F.LFT_STATUS_JOURNAL]) s t ∧ KeepsBytes s t) ∧
    (∀ slot, s.loft.torn = false → s.loft.journal = none → bootSlot s = some slot → s.get F.ERR_STATE_FAILED = 0 → s.power.waiting = none →
      ∃ t, exec (.startUp x) s = .next t ∧ t.mech.loaded.isSome = true ∧ t.get F.SEC_STATE_BOOT = slot ∧ t.get F.SEC_STATE_OWNED = b2n s.nv.owner.isSome ∧ t.sec.owner = s.nv.owner ∧
        t.get F.SEC_MIN_ROLLBACK_LEVEL = s.nv.minRollback % 2 ^ 32 ∧ t.get (F.PAGE_SEC_LOCK 0x140) = 1 ∧ (∀ i, i < 64 → t.get (F.SEC_REGION_LOCK i) = 1) ∧
        (t.get F.ERR_STATE_FAILED = 0 → t.get F.GLB_START_STAGE = 3 ∧ t.get F.CKP_PNL_PWR_EN = 1))) ∧
  (∀ s : State, Running s → s.get F.GLB_START_STAGE ≠ 3 → exec .panelWaitEnd s = .next s) ∧
  (∀ s : State, Running s → s.get F.GLB_START_STAGE = 3 → (∃ b, b < 12 ∧ s.get (F.SER_GROUP_STATE_STATE b) ∉ [0, 6, 8]) →
    ∃ t, exec .panelWaitEnd s = .next t ∧ t.get F.GLB_START_STAGE = 4 ∧ t.get F.PNL_SEQ_STATE_STATE = 1 ∧ t.pnl = { s.pnl with step := 11 } ∧ (∀ b, b < 12 → t.get (F.PNL_PORT_STATE_STATE b) = 1) ∧
      Keeps (ofFields ([F.GLB_START_STAGE, F.PNL_SEQ_STATE_STATE] ++ (List.range 12).map F.PNL_PORT_STATE_STATE)) s t) ∧
  (∀ (s : State) (x : Start), Running s → s.power.test = true → s.mech.loaded = none → s.get F.GLB_START_STAGE = 0 →
    ∃ t, exec (.startUp x) s = .next t ∧ t.get F.GLB_STRAPS_LINKW = x.linkw % 4 ∧ t.power = { s.power with t0 := s.now, perst := false } ∧
      KeepsAllRegs (ofFields [F.GLB_STRAPS_LINKW]) s t ∧ KeepsBytes s t)

/-- R379, R391, R465, R466, R470, R492 (PWRFAIL_ASSERT, PWRFAIL_DEASSERT, RAIL_OUT_OF_RANGE, RAIL_RETURNS_TO_TOLERANCE, PLL_UNLOCK): the warning is shown
once, counted and kept for the next reset; it stops later commits and saves the shadow block, halts a start-up, starts the panel's sequence, or ends
the muck-out; its end resets the controller; a rail shows its state and voltage, and its leaving the tolerance makes an error; a PLL that loses lock
loses its stall or its die, retrains its groups, or moves the reference. The model's own choices it rests on: log entries 43, 78, 87. -/
def Obligations.SuppliesAndClocksFail : Prop :=
  (∀ s : State, Running s → s.get F.CKP_PNL_PWR_WARN = 1 → exec .pwrfailAssert s = .next s) ∧
  (∀ s : State, Running s → s.get F.CKP_PNL_PWR_WARN = 0 →
    (2 ≤ s.get F.BST_STATE_STATE → s.get F.BST_STATE_STATE ≤ 5 →
      ∃ t, exec .pwrfailAssert s = .next t ∧ t.get F.CKP_PNL_PWR_WARN = 1 ∧ hasBit (t.get (F.IRQ_RAW 0x1A0)) 2 = true ∧ t.loft.shadow.warnings = s.loft.shadow.warnings + 1 ∧
        t.power = { s.power with warned := true, muckWhy := if s.power.muckWhy = 0 then 2 else s.power.muckWhy } ∧ Keeps (ofFields [F.CKP_PNL_PWR_WARN]) s t) ∧
    (s.get F.BST_STATE_STATE < 2 ∨ 5 < s.get F.BST_STATE_STATE →
      (s.power.held = true ∨ s.get F.ERR_STATE_FAILED = 1 ∨ s.power.critical = true ∨ 5 < s.get F.GLB_START_STAGE →
        ∃ t, exec .pwrfailAssert s = .next t ∧ t.get F.CKP_PNL_PWR_WARN = 1 ∧ t.get F.LFT_STATUS_POWER_DOWN = 1 ∧ hasBit (t.get (F.IRQ_RAW 0x1A0)) 2 = true ∧ hasBit (t.get (F.IRQ_RAW 0x140)) 5 = true ∧
          t.loft.shadow.warnings = s.loft.shadow.warnings + 1 ∧ t.power = { s.power with warned := true } ∧ t.pnl = s.pnl ∧
          (s.loft.commit = none → loftTempOk s = true → t.get (F.LFT_COUNT_COUNT 6) = satAdd 32 (s.get (F.LFT_COUNT_COUNT 6)) 1) ∧
          (s.loft.commit.isSome = true → t.loft.saveDue = true ∧ t.get (F.LFT_COUNT_COUNT 6) = s.get (F.LFT_COUNT_COUNT 6)) ∧
          Keeps (ofFields [F.CKP_PNL_PWR_WARN, F.LFT_STATUS_POWER_DOWN, F.LFT_COUNT_COUNT 6]) s t) ∧
      (s.power.held = false → s.get F.ERR_STATE_FAILED = 0 → s.power.critical = false → s.get F.GLB_START_STAGE < 4 →
        ∃ t, exec .pwrfailAssert s = .next t ∧ t.get F.CKP_PNL_PWR_WARN = 1 ∧ t.get F.LFT_STATUS_POWER_DOWN = 1 ∧ t.get F.GLB_START_STAGE = 7 ∧ t.get F.CKP_PNL_PWR_EN = 0 ∧
          t.loft.shadow.warnings = s.loft.shadow.warnings + 1 ∧ t.power = { s.power with warned := true } ∧
          Keeps (ofFields [F.CKP_PNL_PWR_WARN, F.LFT_STATUS_POWER_DOWN, F.LFT_COUNT_COUNT 6, F.GLB_START_STAGE, F.CKP_PNL_PWR_EN]) s t) ∧
      (s.power.held = false → s.get F.ERR_STATE_FAILED = 0 → s.power.critical = false → 4 ≤ s.get F.GLB_START_STAGE → s.get F.GLB_START_STAGE ≤ 5 → PanelShows s →
        ∃ t, exec .pwrfailAssert s = .next t ∧ t.get F.CKP_PNL_PWR_WARN = 1 ∧ t.get F.LFT_STATUS_POWER_DOWN = 1 ∧ t.get F.PNL_SEQ_STATE_STATE = 3 ∧ t.pnl.step = 21 ∧
          t.power = { s.power with warned := true, off := .warning } ∧
          Keeps (ofFields [F.CKP_PNL_PWR_WARN, F.LFT_STATUS_POWER_DOWN, F.LFT_COUNT_COUNT 6, F.PNL_SEQ_STATE_STATE]) s t))) ∧
  (∀ s : State, Running s → s.get F.CKP_PNL_PWR_WARN = 0 → exec .pwrfailDeassert s = .next s) ∧
  (∀ s : State, Running s → s.get F.CKP_PNL_PWR_WARN = 1 →
    (ResetsAtOnce s → ∃ t, exec .pwrfailDeassert s = .next t ∧ HasReset .warnRecovered s t) ∧
    (s.power.held = false → 2 ≤ s.get F.BST_STATE_STATE → s.get F.BST_STATE_STATE ≤ 5 →
      ∃ t, exec .pwrfailDeassert s = .next t ∧ t.get F.CKP_PNL_PWR_WARN = 0 ∧ t.get F.LFT_STATUS_POWER_DOWN = 0 ∧
        t.power = { s.power with waiting := some (s.power.waiting.getD .warnRecovered), muckWhy := if s.power.muckWhy = 0 then 3 else s.power.muckWhy } ∧
        KeepsAllRegs (ofFields [F.CKP_PNL_PWR_WARN, F.LFT_STATUS_POWER_DOWN]) s t ∧ KeepsBytes s t)) ∧
  (∀ (s : State) (rail mv r : Nat) (c : Instr), Running s → r = rail % 9 → c ∈ [Instr.railOutOfRange rail mv, .railReturnsToTolerance rail mv] →
    ∃ t, exec c s = .next t ∧ t.get (F.CKP_RAIL_STATE r) = railState r mv ∧ t.get (F.CKP_RAIL_MV r) = mv % 2 ^ 16 ∧
      (railState r mv = 2 → s.get (F.CKP_RAIL_STATE r) ≠ 2 → hasBit (t.get (F.IRQ_RAW 0x1A0)) 0 = true ∧
        t.get (F.ERR_CLASS_COUNT_COUNT 5) = satAdd 32 (s.get (F.ERR_CLASS_COUNT_COUNT 5)) 1 ∧ t.get (F.ERR_SEV_COUNT_COUNT 2) = satAdd 32 (s.get (F.ERR_SEV_COUNT_COUNT 2)) 1) ∧
      (railState r mv ≠ 2 ∨ s.get (F.CKP_RAIL_STATE r) = 2 → t.out = s.out ∧ KeepsAllRegs (ofFields [F.CKP_RAIL_STATE r, F.CKP_RAIL_MV r]) s t) ∧
      Keeps (ofFields [F.CKP_RAIL_STATE r, F.CKP_RAIL_MV r]) s t) ∧
  (∀ s : State, Running s →
    ∃ t, exec (.pllUnlock .reference) s = .next t ∧ t.get F.CAL_REF_XTAL_BAD = 1 ∧ hasBit (t.get (F.IRQ_RAW 0x1A0)) 1 = true ∧
      t.get F.CAL_REF_SOURCE = (if s.get F.CAL_REF_SOURCE ≠ 0 then s.get F.CAL_REF_SOURCE else if s.get F.CAL_REF_EXT ≠ 0 then 1 else 2) ∧
      Keeps (ofFields [F.CAL_REF_XTAL_BAD, F.CAL_REF_SOURCE, F.CAL_COUNT_COUNT 4]) s t) ∧
  (∀ (s : State) (d : Nat) (pll : Pll) (domains : List Nat), Running s →
    (pll, domains) ∈ [(Pll.computeDie d, [12 + 2 * (d % 2), 13 + 2 * (d % 2)]), (.dieLink d, [16 + d % 2]), (.ioCore, [18, 41, 42, 43]), (.ioLink, [16, 17]), (.dram d, [19 + d % 4]), (.timeBase, [44, 45])] →
    (s.get F.ERR_STATE_FAILED = 0 → s.pnl.step = 30 →
      ∃ t, exec (.pllUnlock pll) s = .next t ∧ t.get F.ERR_STATE_FAILED = 1 ∧ t.get F.ERR_STATE_FAIL_CODE = 1 ∧ t.get F.GLB_START_STAGE = 8 ∧ hasBit (t.get (F.IRQ_RAW 0x1A0)) 1 = true ∧
        hasBit (t.get (F.IRQ_RAW 0x180)) 3 = true ∧ t.power = { s.power with unlocked := s.power.unlocked ++ domains, held := true } ∧
        Keeps (ofFields [F.ERR_STATE_FAILED, F.ERR_STATE_FAIL_CODE, F.GLB_START_STAGE, F.LFT_COUNT_COUNT 6]) s t) ∧
    (s.get F.ERR_STATE_FAILED = 0 → PanelShows s →
      ∃ t, exec (.pllUnlock pll) s = .next t ∧ t.get F.ERR_STATE_FAILED = 1 ∧ t.get F.ERR_STATE_FAIL_CODE = 1 ∧ t.get F.GLB_START_STAGE = 8 ∧ t.get F.PNL_SEQ_STATE_STATE = 3 ∧ t.pnl.step = 21 ∧
        t.power = { s.power with unlocked := s.power.unlocked ++ domains, off := .failure } ∧
        Keeps (ofFields [F.ERR_STATE_FAILED, F.ERR_STATE_FAIL_CODE, F.GLB_START_STAGE, F.PNL_SEQ_STATE_STATE]) s t) ∧
    (s.get F.ERR_STATE_FAILED = 1 →
      ∃ t, exec (.pllUnlock pll) s = .next t ∧ t.power = { s.power with unlocked := s.power.unlocked ++ domains } ∧ hasBit (t.get (F.IRQ_RAW 0x1A0)) 1 = true ∧ Keeps noField s t)) ∧
  (∀ (s : State) (k : Nat), Running s → k < 12 →
    (stallActive s k = false →
      ∃ t, exec (.pllUnlock (.stall k)) s = .next t ∧ t.power = { s.power with unlocked := s.power.unlocked ++ [k] } ∧ hasBit (t.get (F.IRQ_RAW 0x1A0)) 1 = true ∧ t.rsy = s.rsy ∧ Keeps noField s t) ∧
    (stallActive s k = true → k < s.rsy.stalls.length → (∀ l ∈ s.rsy.lots, l.stall ≠ k ∨ l.phase ≠ .running) →
      ∃ t, exec (.pllUnlock (.stall k)) s = .next t ∧ t.get (F.STL_STATE_STATE k) = 1 ∧ t.get (F.STL_STATE_ENGINES k) = 0 ∧ t.get (F.STL_BANDS_OWN_VALID k) = 0 ∧
        hasBit (t.get (F.IRQ_RAW (0x060 + k))) 1 = true ∧ t.power.unlocked = s.power.unlocked ++ [k] ∧
        Keeps (ofPages ([0x0A0, 0x0A2, 0x150, 0x180] ++ (List.range 12).map (fun i => 0x060 + i))) s t)) ∧
  (∀ (s : State) (d g : Nat), Running s → d ≠ 28 → (∀ i, i < 3 → 3 * (d % 4) + i ≠ g → s.get (F.SER_CTRL_ENABLE (3 * (d % 4) + i)) = 0) →
    (s.get (F.SER_CTRL_ENABLE g) = 0 ∨ (∀ i, i < 3 → 3 * (d % 4) + i ≠ g) →
      ∃ t, exec (.pllUnlock (.laneGroup d)) s = .next t ∧ t.ser = s.ser ∧ hasBit (t.get (F.IRQ_RAW 0x1A0)) 1 = true ∧ Keeps noField s t) ∧
    (s.get (F.SER_CTRL_ENABLE g) = 1 → g / 3 = d % 4 → s.rsy.lots = [] →
      ∃ t, exec (.pllUnlock (.laneGroup d)) s = .next t ∧ t.get (F.SER_GROUP_STATE_STATE g) = 1 ∧ t.get (F.SER_GROUP_STATE_ATTEMPT g) = 1 ∧
        t.get (F.SER_TRAINS_COUNT g) = satAdd 32 (s.get (F.SER_TRAINS_COUNT g)) 1 ∧ t.laneGroup g = LaneGroup.reset ∧ hasBit (t.get (F.IRQ_RAW 0x1A0)) 1 = true ∧
        Keeps (ofPages [0x0F0 + g, 0x0D0 + g, 0x0DC]) s t))

/-- Log entry 3, R471: every step keeps the canonical form of device memory, host memory and the loft: addresses strictly rising and no entry zero, so
that equal memories are equal data. -/
def Obligations.EveryStepKeepsMemorySound : Prop :=
  ∀ s t : State, SoundMemory s → step s = .next t → SoundMemory t

/-- R456 step 7: once the muck-out has stopped the clocks, a step takes the command in front and changes nothing else, and the controller stays stopped,
until a command of the queue is a power-on or an assertion of PERST#. The model's own choices it rests on: log entries 2, 84. -/
def Obligations.StoppedClocksStayStopped : Prop :=
  ∀ s t : State, Halted s → step s = .next t → t = { s with pending := s.pending.tail } ∧ Halted t

/-- R5, R471: what reset leaves: a running controller with no command waiting and sound memories; every field at its reset value (for the fields to which
the tables give none, and those loaded from the loft, the zero of log entry 7 until something sets them). The model's own choices it rests on: log
entry 3. -/
def Obligations.ResetLeaves : Prop :=
  Running State.reset ∧ SoundMemory State.reset ∧ State.reset.pending = [] ∧ (∀ a, memGet State.reset.mem.dram a = 0 ∧ memGet State.reset.mem.host a = 0) ∧
  (∀ f : Field, State.reset.get f = f.rst % 2 ^ f.w)

/-- R437 to R440: a stored word read back: as stored it is clean; with one of its 72 bits inverted it is corrected, and with two it is uncorrectable, but
where its data lies within two bits of the poison pattern, where it is delivered as poisoned; a word stored poisoned is delivered as poisoned, and is
so still with one bit more inverted. -/
def Obligations.StoredWordsAreCorrected : Prop :=
  (∀ d : Nat, d < 2 ^ 64 → injectedRead d (some []) = .clean d) ∧
  (∀ d i : Nat, d < 2 ^ 64 → i < 72 → 2 < weight64 (Nat.xor (if i < 64 then Nat.xor d (2 ^ i) else d) poisonPattern) →
    injectedRead d (some [i]) = .corrected d) ∧
  (∀ d i : Nat, d < 2 ^ 64 → i < 72 → weight64 (Nat.xor (if i < 64 then Nat.xor d (2 ^ i) else d) poisonPattern) ≤ 2 →
    injectedRead d (some [i]) = .poison) ∧
  (∀ d i j : Nat, d < 2 ^ 64 → i < 72 → j < 72 → i ≠ j → injectedRead d (some [i, j]) = .poison ∨ injectedRead d (some [i, j]) = .uncorrectable) ∧
  (∀ d : Nat, injectedRead d none = .poison) ∧
  eccDecode poisonPattern (Nat.xor (eccCheck poisonPattern) 0xFF) = .poison ∧
  (∀ i : Nat, i < 64 → eccDecode (Nat.xor poisonPattern (2 ^ i)) (Nat.xor (eccCheck poisonPattern) 0xFF) = .poison) ∧
  (∀ j : Nat, j < 8 → eccDecode poisonPattern (Nat.xor (Nat.xor (eccCheck poisonPattern) 0xFF) (2 ^ j)) = .poison)

/-- R438: the columns of the code: data bits 0 to 55 take the values of weight 3 in increasing order, data bits 56 to 63 eight values of weight 5, no
column occurs twice, and every row of the check matrix holds 26 data ones. -/
def Obligations.CheckColumns : Prop :=
  eccColumns.length = 64 ∧ eccColumns.take 56 = (List.range 256).filter (fun v => decide ((setBits v 8).length = 3)) ∧
  eccColumns.drop 56 = [0xF4, 0xE9, 0xD3, 0xA7, 0x4F, 0x9E, 0x3D, 0x7A] ∧ (∀ c ∈ eccColumns.drop 56, (setBits c 8).length = 5) ∧
  (∀ j : Nat, j < 8 → (eccColumns.filter (fun c => hasBit c j)).length = 26) ∧ eccColumns.Nodup

/-- R107: the address of a tile's slot, and of its retain slot at the same offset; a set takes 1,887,436,800 bytes, the four sets 7.03 GiB, and no two
slots share a byte. -/
def Obligations.TileSlotAddresses : Prop :=
  (∀ (s : State) (k l t x : Nat), k < 4 → l < 64 → t < 3600 → x < 2 →
    slotAddr s (tileNo k l t) x = s.get F.LAY_TILE_BASE_ADDR * 2 ^ 12 + k * 0x70800000 + ((l * 3600 + t) * 2 + x) * 4096 ∧
    retainAddr s (tileNo k l t) x = s.get F.LAY_RETAIN_BASE_ADDR * 2 ^ 12 + k * 0x70800000 + ((l * 3600 + t) * 2 + x) * 4096) ∧
  64 * 3600 * 2 * 4096 = 1887436800 ∧ (4 * 1887436800 * 100 + 2 ^ 29) / 2 ^ 30 = 703 ∧
  (∀ (s : State) (n m x y : Nat), x < 2 → y < 2 → n ≠ m ∨ x ≠ y → slotAddr s n x + 4096 ≤ slotAddr s m y ∨ slotAddr s m y + 4096 ≤ slotAddr s n x)

/-- R73, R74: a lossy tile is a payload of 1,024 bytes, 64 cells of 16: every channel of a texel is mixed from its cell's two endpoints by the texel's
4-bit index; index 0 gives the first endpoint exactly, index 15 the second, and the spec's example gives 85. The tile's bytes lie as R65 says. -/
def Obligations.LossyTexelsAreMixed : Prop :=
  kindRow 0x11 = some (.tile, 1024, 1024) ∧
  (∀ (p : List Byte) (a b c : Nat), p.length = 1024 → a < 32 → b < 32 → c < 4 →
    decodeTile 0x11 p = some (decodeLossy p) ∧ (decodeLossy p).length = 4096 ∧
    ∀ cell n i, cell = (b / 4 * 8 + a / 4) * 16 → n = 4 * (b % 4) + a % 4 → i = (p.getD (cell + 8 + n / 2) 0).toNat / 16 ^ (n % 2) % 16 →
      (decodeLossy p)[(b * 32 + a) * 4 + c]? =
        some (BitVec.ofNat 8 (((p.getD (cell + c) 0).toNat * (15 - i) + (p.getD (cell + 4 + c) 0).toNat * i + 7) / 15))) ∧
  (∀ e0 e1 : Nat, e0 < 256 → e1 < 256 → lossyChannel e0 e1 0 = e0 ∧ lossyChannel e0 e1 15 = e1) ∧ lossyChannel 0 255 5 = 85

/-- R121: the record in use: each numeric field is the sum of the factory, groom and host values clamped to its format (0 to 65,535 for GAIN_R, GAIN_G,
GAIN_B and XTALK, 16 bits signed for the others); each flag is set and cleared by the groom source and then by the host source; a lenslet with no
entry in a source has zero deltas and empty masks there. -/
def Obligations.RecordsInUseAreSums : Prop :=
  (∀ (s : State) (v : Version) (n i : Nat) (f : LensRec) (g h : LensDelta), i < 12 →
    f = (assoc s.rsy.lens.factory n).getD LensRec.zero → g = (assoc v.groom n).getD LensDelta.zero → h = (assoc v.host n).getD LensDelta.zero →
    (∀ x, x = f.at i + g.vals.getD i 0 + h.vals.getD i 0 →
      (6 ≤ i ∧ i ≤ 9 → (recordOf s v n).at i = max 0 (min x 65535)) ∧ (i < 6 ∨ 9 < i → (recordOf s v n).at i = max (-32768) (min x 32767))) ∧
    ∀ b, hasBit (recordOf s v n).flags b =
      ((((hasBit f.flags b || hasBit g.setBits b) && !hasBit g.clearBits b) || hasBit h.setBits b) && !hasBit h.clearBits b)) ∧
  (∀ i, LensDelta.zero.vals.getD i 0 = 0) ∧ LensDelta.zero.setBits = 0 ∧ LensDelta.zero.clearBits = 0
end

