-- ==== Sys2Proof/Laws/State.lean ====
section
/-! SUPPORT. Laws/State.lean: the laws of register fields (a field reads what was last set, every other field is left alone), one
lemma for each component of State under each named update, and the laws of the canonical memories. -/

namespace Sys2Proof.Machine

/-! ### Sorted maps -/

@[simp] theorem mapGet_mapPut_same (m : Map) (x v : Nat) : mapGet (mapPut m x v) x = some v := by
  induction m with
  | nil => simp [mapPut, mapGet]
  | cons p m ih =>
    obtain ⟨k, u⟩ := p
    by_cases h : x = k
    · simp [mapPut, mapGet, h]
    · by_cases g : x < k
      · simp [mapPut, mapGet, h, g]
      · simp [mapPut, mapGet, h, g, ih]

theorem mapGet_mapPut_ne (m : Map) {x y : Nat} (v : Nat) (h : y ≠ x) : mapGet (mapPut m x v) y = mapGet m y := by
  induction m with
  | nil => simp [mapPut, mapGet, h]
  | cons p m ih =>
    obtain ⟨k, u⟩ := p
    by_cases e : x = k
    · subst e; simp [mapPut, mapGet, h]
    · by_cases g : x < k
      · simp [mapPut, mapGet, h, e, g]
      · simp [mapPut, mapGet, e, g, ih]

@[simp] theorem mapVal_mapPut_same (m : Map) (x v : Nat) : mapVal (mapPut m x v) x = v := by simp [mapVal]

theorem mapVal_mapPut_ne (m : Map) {x y : Nat} (v : Nat) (h : y ≠ x) : mapVal (mapPut m x v) y = mapVal m y := by
  simp [mapVal, mapGet_mapPut_ne m v h]

/-! ### Register fields -/

/-- A field's value fits its width. -/
theorem State.get_lt (s : State) (f : Field) : s.get f < 2 ^ f.w := Nat.mod_lt _ (Nat.two_pow_pos _)

/-- A field reads what was last set, in its width. -/
@[simp] theorem State.get_set_same (s : State) (f : Field) (v : Nat) : (s.set f v).get f = v % 2 ^ f.w := by
  simp [State.set, State.get, State.raw]

/-- A set leaves every other field. -/
theorem State.get_set_ne (s : State) {f g : Field} (v : Nat) (h : g.key ≠ f.key) : (s.set f v).get g = s.get g := by
  simp [State.set, State.get, State.raw, mapGet_mapPut_ne _ _ h]

@[simp] theorem State.setAll_nil (s : State) : s.setAll [] = s := rfl

/-- Setting several fields is setting one after the other. -/
theorem State.setAll_cons (s : State) (p : Field × Nat) (l : List (Field × Nat)) : s.setAll (p :: l) = (s.set p.1 p.2).setAll l := rfl

/-- A set of several fields leaves every field whose number it does not name. -/
theorem State.get_setAll_ne (s : State) (l : List (Field × Nat)) (g : Field) (h : ∀ p ∈ l, g.key ≠ p.1.key) :
    (s.setAll l).get g = s.get g := by
  induction l generalizing s with
  | nil => rfl
  | cons p l ih =>
    rw [State.setAll_cons, ih _ (fun q hq => h q (List.mem_cons_of_mem _ hq)), State.get_set_ne _ _ (h p (List.mem_cons_self ..))]

@[simp] theorem State.get_bumpBy_same (s : State) (f : Field) (n : Nat) : (s.bumpBy f n).get f = satAdd f.w (s.get f) n := by
  have h : satAdd f.w (s.get f) n < 2 ^ f.w :=
    Nat.lt_of_le_of_lt (Nat.min_le_right _ _) (Nat.sub_lt (Nat.two_pow_pos _) (by decide))
  show (State.raw _ f) % 2 ^ f.w = _
  simp only [State.bumpBy, State.raw, mapGet_mapPut_same]
  exact Nat.mod_eq_of_lt h

theorem State.get_bumpBy_ne (s : State) {f g : Field} (n : Nat) (h : g.key ≠ f.key) : (s.bumpBy f n).get g = s.get g := by
  simp [State.bumpBy, State.get, State.raw, mapGet_mapPut_ne _ _ h]

@[simp] theorem State.get_bump_same (s : State) (f : Field) : (s.bump f).get f = satAdd f.w (s.get f) 1 := by simp [State.bump]

theorem State.get_bump_ne (s : State) {f g : Field} (h : g.key ≠ f.key) : (s.bump f).get g = s.get g := by
  simp [State.bump, State.get_bumpBy_ne _ _ h]

theorem State.get_raiseTo_ne (s : State) {f g : Field} (n : Nat) (h : g.key ≠ f.key) : (s.raiseTo f n).get g = s.get g := by
  simp [State.raiseTo, State.get, State.raw, mapGet_mapPut_ne _ _ h]

@[simp] theorem State.get_step1_same (s : State) (f : Field) : (s.step1 f).get f = (s.get f + 1) % 2 ^ f.w := by simp [State.step1]

theorem State.get_step1_ne (s : State) {f g : Field} (h : g.key ≠ f.key) : (s.step1 f).get g = s.get g := by
  simp [State.step1, State.get_set_ne _ _ h]

theorem State.get_setInt_ne (s : State) {f g : Field} (v : Int) (h : g.key ≠ f.key) : (s.setInt f v).get g = s.get g := by
  simp [State.setInt, State.get_set_ne _ _ h]

theorem State.get_setFree_ne (s : State) {f g : Field} (h : g.key ≠ f.key) : (s.setFree f).get g = s.get g := by
  show ((s.set f _).tookFree).get g = _
  exact State.get_set_ne _ _ h

@[simp] theorem State.get_emit (s : State) (x : Output) (g : Field) : (s.emit x).get g = s.get g := rfl
@[simp] theorem State.get_tookFree (s : State) (g : Field) : s.tookFree.get g = s.get g := rfl
@[simp] theorem State.get_setErr (s : State) (f : ErrMgr → ErrMgr) (g : Field) : (s.setErr f).get g = s.get g := rfl

/-- A field is on when it does not read zero. -/
theorem State.on_iff (s : State) (f : Field) : s.on f = true ↔ s.get f ≠ 0 := by simp [State.on]

/-- What a state reads depends on its registers and on what start-up loaded. -/
theorem State.get_congr {s t : State} (hr : t.regs = s.regs) (hl : t.mech.loaded = s.mech.loaded) (g : Field) : t.get g = s.get g := by
  simp [State.get, State.raw, hr, hl]

/-! ### Components under the updates of registers -/

@[simp] theorem State.set_pending (s : State) (f : Field) (v : Nat) : (s.set f v).pending = s.pending := rfl
@[simp] theorem State.set_mech (s : State) (f : Field) (v : Nat) : (s.set f v).mech = s.mech := rfl
@[simp] theorem State.set_mem (s : State) (f : Field) (v : Nat) : (s.set f v).mem = s.mem := rfl
@[simp] theorem State.set_out (s : State) (f : Field) (v : Nat) : (s.set f v).out = s.out := rfl
@[simp] theorem State.set_free (s : State) (f : Field) (v : Nat) : (s.set f v).free = s.free := rfl
@[simp] theorem State.set_mgmt (s : State) (f : Field) (v : Nat) : (s.set f v).mgmt = s.mgmt := rfl
@[simp] theorem State.set_err (s : State) (f : Field) (v : Nat) : (s.set f v).err = s.err := rfl
@[simp] theorem State.set_pcie (s : State) (f : Field) (v : Nat) : (s.set f v).pcie = s.pcie := rfl
@[simp] theorem State.set_scene (s : State) (f : Field) (v : Nat) : (s.set f v).scene = s.scene := rfl
@[simp] theorem State.set_rsy (s : State) (f : Field) (v : Nat) : (s.set f v).rsy = s.rsy := rfl
@[simp] theorem State.set_drum (s : State) (f : Field) (v : Nat) : (s.set f v).drum = s.drum := rfl
@[simp] theorem State.set_cams (s : State) (f : Field) (v : Nat) : (s.set f v).cams = s.cams := rfl
@[simp] theorem State.set_roster (s : State) (f : Field) (v : Nat) : (s.set f v).roster = s.roster := rfl
@[simp] theorem State.set_cmp (s : State) (f : Field) (v : Nat) : (s.set f v).cmp = s.cmp := rfl
@[simp] theorem State.set_pnl (s : State) (f : Field) (v : Nat) : (s.set f v).pnl = s.pnl := rfl
@[simp] theorem State.set_ser (s : State) (f : Field) (v : Nat) : (s.set f v).ser = s.ser := rfl
@[simp] theorem State.set_yard (s : State) (f : Field) (v : Nat) : (s.set f v).yard = s.yard := rfl
@[simp] theorem State.set_tim (s : State) (f : Field) (v : Nat) : (s.set f v).tim = s.tim := rfl
@[simp] theorem State.set_dmc (s : State) (f : Field) (v : Nat) : (s.set f v).dmc = s.dmc := rfl
@[simp] theorem State.set_loft (s : State) (f : Field) (v : Nat) : (s.set f v).loft = s.loft := rfl
@[simp] theorem State.set_cal (s : State) (f : Field) (v : Nat) : (s.set f v).cal = s.cal := rfl
@[simp] theorem State.set_therm (s : State) (f : Field) (v : Nat) : (s.set f v).therm = s.therm := rfl
@[simp] theorem State.set_sec (s : State) (f : Field) (v : Nat) : (s.set f v).sec = s.sec := rfl
@[simp] theorem State.set_power (s : State) (f : Field) (v : Nat) : (s.set f v).power = s.power := rfl
@[simp] theorem State.set_nv (s : State) (f : Field) (v : Nat) : (s.set f v).nv = s.nv := rfl

@[simp] theorem State.setAll_pending (s : State) (l : List (Field × Nat)) : (s.setAll l).pending = s.pending := rfl
@[simp] theorem State.setAll_mech (s : State) (l : List (Field × Nat)) : (s.setAll l).mech = s.mech := rfl
@[simp] theorem State.setAll_mem (s : State) (l : List (Field × Nat)) : (s.setAll l).mem = s.mem := rfl
@[simp] theorem State.setAll_out (s : State) (l : List (Field × Nat)) : (s.setAll l).out = s.out := rfl
@[simp] theorem State.setAll_free (s : State) (l : List (Field × Nat)) : (s.setAll l).free = s.free := rfl
@[simp] theorem State.setAll_mgmt (s : State) (l : List (Field × Nat)) : (s.setAll l).mgmt = s.mgmt := rfl
@[simp] theorem State.setAll_err (s : State) (l : List (Field × Nat)) : (s.setAll l).err = s.err := rfl
@[simp] theorem State.setAll_pcie (s : State) (l : List (Field × Nat)) : (s.setAll l).pcie = s.pcie := rfl
@[simp] theorem State.setAll_scene (s : State) (l : List (Field × Nat)) : (s.setAll l).scene = s.scene := rfl
@[simp] theorem State.setAll_rsy (s : State) (l : List (Field × Nat)) : (s.setAll l).rsy = s.rsy := rfl
@[simp] theorem State.setAll_drum (s : State) (l : List (Field × Nat)) : (s.setAll l).drum = s.drum := rfl
@[simp] theorem State.setAll_cams (s : State) (l : List (Field × Nat)) : (s.setAll l).cams = s.cams := rfl
@[simp] theorem State.setAll_roster (s : State) (l : List (Field × Nat)) : (s.setAll l).roster = s.roster := rfl
@[simp] theorem State.setAll_cmp (s : State) (l : List (Field × Nat)) : (s.setAll l).cmp = s.cmp := rfl
@[simp] theorem State.setAll_pnl (s : State) (l : List (Field × Nat)) : (s.setAll l).pnl = s.pnl := rfl
@[simp] theorem State.setAll_ser (s : State) (l : List (Field × Nat)) : (s.setAll l).ser = s.ser := rfl
@[simp] theorem State.setAll_yard (s : State) (l : List (Field × Nat)) : (s.setAll l).yard = s.yard := rfl
@[simp] theorem State.setAll_tim (s : State) (l : List (Field × Nat)) : (s.setAll l).tim = s.tim := rfl
@[simp] theorem State.setAll_dmc (s : State) (l : List (Field × Nat)) : (s.setAll l).dmc = s.dmc := rfl
@[simp] theorem State.setAll_loft (s : State) (l : List (Field × Nat)) : (s.setAll l).loft = s.loft := rfl
@[simp] theorem State.setAll_cal (s : State) (l : List (Field × Nat)) : (s.setAll l).cal = s.cal := rfl
@[simp] theorem State.setAll_therm (s : State) (l : List (Field × Nat)) : (s.setAll l).therm = s.therm := rfl
@[simp] theorem State.setAll_sec (s : State) (l : List (Field × Nat)) : (s.setAll l).sec = s.sec := rfl
@[simp] theorem State.setAll_power (s : State) (l : List (Field × Nat)) : (s.setAll l).power = s.power := rfl
@[simp] theorem State.setAll_nv (s : State) (l : List (Field × Nat)) : (s.setAll l).nv = s.nv := rfl

@[simp] theorem State.bumpBy_pending (s : State) (f : Field) (n : Nat) : (s.bumpBy f n).pending = s.pending := rfl
@[simp] theorem State.bumpBy_mem (s : State) (f : Field) (n : Nat) : (s.bumpBy f n).mem = s.mem := rfl
@[simp] theorem State.bumpBy_out (s : State) (f : Field) (n : Nat) : (s.bumpBy f n).out = s.out := rfl
@[simp] theorem State.bumpBy_free (s : State) (f : Field) (n : Nat) : (s.bumpBy f n).free = s.free := rfl
@[simp] theorem State.bumpBy_mgmt (s : State) (f : Field) (n : Nat) : (s.bumpBy f n).mgmt = s.mgmt := rfl
@[simp] theorem State.bumpBy_err (s : State) (f : Field) (n : Nat) : (s.bumpBy f n).err = s.err := rfl
@[simp] theorem State.bumpBy_pcie (s : State) (f : Field) (n : Nat) : (s.bumpBy f n).pcie = s.pcie := rfl
@[simp] theorem State.bumpBy_scene (s : State) (f : Field) (n : Nat) : (s.bumpBy f n).scene = s.scene := rfl
@[simp] theorem State.bumpBy_rsy (s : State) (f : Field) (n : Nat) : (s.bumpBy f n).rsy = s.rsy := rfl
@[simp] theorem State.bumpBy_drum (s : State) (f : Field) (n : Nat) : (s.bumpBy f n).drum = s.drum := rfl
@[simp] theorem State.bumpBy_cams (s : State) (f : Field) (n : Nat) : (s.bumpBy f n).cams = s.cams := rfl
@[simp] theorem State.bumpBy_roster (s : State) (f : Field) (n : Nat) : (s.bumpBy f n).roster = s.roster := rfl
@[simp] theorem State.bumpBy_cmp (s : State) (f : Field) (n : Nat) : (s.bumpBy f n).cmp = s.cmp := rfl
@[simp] theorem State.bumpBy_pnl (s : State) (f : Field) (n : Nat) : (s.bumpBy f n).pnl = s.pnl := rfl
@[simp] theorem State.bumpBy_ser (s : State) (f : Field) (n : Nat) : (s.bumpBy f n).ser = s.ser := rfl
@[simp] theorem State.bumpBy_yard (s : State) (f : Field) (n : Nat) : (s.bumpBy f n).yard = s.yard := rfl
@[simp] theorem State.bumpBy_tim (s : State) (f : Field) (n : Nat) : (s.bumpBy f n).tim = s.tim := rfl
@[simp] theorem State.bumpBy_dmc (s : State) (f : Field) (n : Nat) : (s.bumpBy f n).dmc = s.dmc := rfl
@[simp] theorem State.bumpBy_loft (s : State) (f : Field) (n : Nat) : (s.bumpBy f n).loft = s.loft := rfl
@[simp] theorem State.bumpBy_cal (s : State) (f : Field) (n : Nat) : (s.bumpBy f n).cal = s.cal := rfl
@[simp] theorem State.bumpBy_therm (s : State) (f : Field) (n : Nat) : (s.bumpBy f n).therm = s.therm := rfl
@[simp] theorem State.bumpBy_sec (s : State) (f : Field) (n : Nat) : (s.bumpBy f n).sec = s.sec := rfl
@[simp] theorem State.bumpBy_power (s : State) (f : Field) (n : Nat) : (s.bumpBy f n).power = s.power := rfl
@[simp] theorem State.bumpBy_nv (s : State) (f : Field) (n : Nat) : (s.bumpBy f n).nv = s.nv := rfl
@[simp] theorem State.bumpBy_loaded (s : State) (f : Field) (n : Nat) : (s.bumpBy f n).mech.loaded = s.mech.loaded := rfl

@[simp] theorem State.bump_pending (s : State) (f : Field) : (s.bump f).pending = s.pending := rfl
@[simp] theorem State.bump_mem (s : State) (f : Field) : (s.bump f).mem = s.mem := rfl
@[simp] theorem State.bump_out (s : State) (f : Field) : (s.bump f).out = s.out := rfl
@[simp] theorem State.bump_free (s : State) (f : Field) : (s.bump f).free = s.free := rfl
@[simp] theorem State.bump_mgmt (s : State) (f : Field) : (s.bump f).mgmt = s.mgmt := rfl
@[simp] theorem State.bump_err (s : State) (f : Field) : (s.bump f).err = s.err := rfl
@[simp] theorem State.bump_pcie (s : State) (f : Field) : (s.bump f).pcie = s.pcie := rfl
@[simp] theorem State.bump_scene (s : State) (f : Field) : (s.bump f).scene = s.scene := rfl
@[simp] theorem State.bump_rsy (s : State) (f : Field) : (s.bump f).rsy = s.rsy := rfl
@[simp] theorem State.bump_drum (s : State) (f : Field) : (s.bump f).drum = s.drum := rfl
@[simp] theorem State.bump_cams (s : State) (f : Field) : (s.bump f).cams = s.cams := rfl
@[simp] theorem State.bump_roster (s : State) (f : Field) : (s.bump f).roster = s.roster := rfl
@[simp] theorem State.bump_cmp (s : State) (f : Field) : (s.bump f).cmp = s.cmp := rfl
@[simp] theorem State.bump_pnl (s : State) (f : Field) : (s.bump f).pnl = s.pnl := rfl
@[simp] theorem State.bump_ser (s : State) (f : Field) : (s.bump f).ser = s.ser := rfl
@[simp] theorem State.bump_yard (s : State) (f : Field) : (s.bump f).yard = s.yard := rfl
@[simp] theorem State.bump_tim (s : State) (f : Field) : (s.bump f).tim = s.tim := rfl
@[simp] theorem State.bump_dmc (s : State) (f : Field) : (s.bump f).dmc = s.dmc := rfl
@[simp] theorem State.bump_loft (s : State) (f : Field) : (s.bump f).loft = s.loft := rfl
@[simp] theorem State.bump_cal (s : State) (f : Field) : (s.bump f).cal = s.cal := rfl
@[simp] theorem State.bump_therm (s : State) (f : Field) : (s.bump f).therm = s.therm := rfl
@[simp] theorem State.bump_sec (s : State) (f : Field) : (s.bump f).sec = s.sec := rfl
@[simp] theorem State.bump_power (s : State) (f : Field) : (s.bump f).power = s.power := rfl
@[simp] theorem State.bump_nv (s : State) (f : Field) : (s.bump f).nv = s.nv := rfl
@[simp] theorem State.bump_loaded (s : State) (f : Field) : (s.bump f).mech.loaded = s.mech.loaded := rfl

@[simp] theorem State.raiseTo_pending (s : State) (f : Field) (n : Nat) : (s.raiseTo f n).pending = s.pending := rfl
@[simp] theorem State.raiseTo_mem (s : State) (f : Field) (n : Nat) : (s.raiseTo f n).mem = s.mem := rfl
@[simp] theorem State.raiseTo_out (s : State) (f : Field) (n : Nat) : (s.raiseTo f n).out = s.out := rfl
@[simp] theorem State.raiseTo_free (s : State) (f : Field) (n : Nat) : (s.raiseTo f n).free = s.free := rfl
@[simp] theorem State.raiseTo_mgmt (s : State) (f : Field) (n : Nat) : (s.raiseTo f n).mgmt = s.mgmt := rfl
@[simp] theorem State.raiseTo_err (s : State) (f : Field) (n : Nat) : (s.raiseTo f n).err = s.err := rfl
@[simp] theorem State.raiseTo_pcie (s : State) (f : Field) (n : Nat) : (s.raiseTo f n).pcie = s.pcie := rfl
@[simp] theorem State.raiseTo_scene (s : State) (f : Field) (n : Nat) : (s.raiseTo f n).scene = s.scene := rfl
@[simp] theorem State.raiseTo_rsy (s : State) (f : Field) (n : Nat) : (s.raiseTo f n).rsy = s.rsy := rfl
@[simp] theorem State.raiseTo_drum (s : State) (f : Field) (n : Nat) : (s.raiseTo f n).drum = s.drum := rfl
@[simp] theorem State.raiseTo_cams (s : State) (f : Field) (n : Nat) : (s.raiseTo f n).cams = s.cams := rfl
@[simp] theorem State.raiseTo_roster (s : State) (f : Field) (n : Nat) : (s.raiseTo f n).roster = s.roster := rfl
@[simp] theorem State.raiseTo_cmp (s : State) (f : Field) (n : Nat) : (s.raiseTo f n).cmp = s.cmp := rfl
@[simp] theorem State.raiseTo_pnl (s : State) (f : Field) (n : Nat) : (s.raiseTo f n).pnl = s.pnl := rfl
@[simp] theorem State.raiseTo_ser (s : State) (f : Field) (n : Nat) : (s.raiseTo f n).ser = s.ser := rfl
@[simp] theorem State.raiseTo_yard (s : State) (f : Field) (n : Nat) : (s.raiseTo f n).yard = s.yard := rfl
@[simp] theorem State.raiseTo_tim (s : State) (f : Field) (n : Nat) : (s.raiseTo f n).tim = s.tim := rfl
@[simp] theorem State.raiseTo_dmc (s : State) (f : Field) (n : Nat) : (s.raiseTo f n).dmc = s.dmc := rfl
@[simp] theorem State.raiseTo_loft (s : State) (f : Field) (n : Nat) : (s.raiseTo f n).loft = s.loft := rfl
@[simp] theorem State.raiseTo_cal (s : State) (f : Field) (n : Nat) : (s.raiseTo f n).cal = s.cal := rfl
@[simp] theorem State.raiseTo_therm (s : State) (f : Field) (n : Nat) : (s.raiseTo f n).therm = s.therm := rfl
@[simp] theorem State.raiseTo_sec (s : State) (f : Field) (n : Nat) : (s.raiseTo f n).sec = s.sec := rfl
@[simp] theorem State.raiseTo_power (s : State) (f : Field) (n : Nat) : (s.raiseTo f n).power = s.power := rfl
@[simp] theorem State.raiseTo_nv (s : State) (f : Field) (n : Nat) : (s.raiseTo f n).nv = s.nv := rfl
@[simp] theorem State.raiseTo_loaded (s : State) (f : Field) (n : Nat) : (s.raiseTo f n).mech.loaded = s.mech.loaded := rfl

@[simp] theorem State.step1_pending (s : State) (f : Field) : (s.step1 f).pending = s.pending := rfl
@[simp] theorem State.step1_mech (s : State) (f : Field) : (s.step1 f).mech = s.mech := rfl
@[simp] theorem State.step1_mem (s : State) (f : Field) : (s.step1 f).mem = s.mem := rfl
@[simp] theorem State.step1_out (s : State) (f : Field) : (s.step1 f).out = s.out := rfl
@[simp] theorem State.step1_free (s : State) (f : Field) : (s.step1 f).free = s.free := rfl
@[simp] theorem State.step1_mgmt (s : State) (f : Field) : (s.step1 f).mgmt = s.mgmt := rfl
@[simp] theorem State.step1_err (s : State) (f : Field) : (s.step1 f).err = s.err := rfl
@[simp] theorem State.step1_pcie (s : State) (f : Field) : (s.step1 f).pcie = s.pcie := rfl
@[simp] theorem State.step1_scene (s : State) (f : Field) : (s.step1 f).scene = s.scene := rfl
@[simp] theorem State.step1_rsy (s : State) (f : Field) : (s.step1 f).rsy = s.rsy := rfl
@[simp] theorem State.step1_drum (s : State) (f : Field) : (s.step1 f).drum = s.drum := rfl
@[simp] theorem State.step1_cams (s : State) (f : Field) : (s.step1 f).cams = s.cams := rfl
@[simp] theorem State.step1_roster (s : State) (f : Field) : (s.step1 f).roster = s.roster := rfl
@[simp] theorem State.step1_cmp (s : State) (f : Field) : (s.step1 f).cmp = s.cmp := rfl
@[simp] theorem State.step1_pnl (s : State) (f : Field) : (s.step1 f).pnl = s.pnl := rfl
@[simp] theorem State.step1_ser (s : State) (f : Field) : (s.step1 f).ser = s.ser := rfl
@[simp] theorem State.step1_yard (s : State) (f : Field) : (s.step1 f).yard = s.yard := rfl
@[simp] theorem State.step1_tim (s : State) (f : Field) : (s.step1 f).tim = s.tim := rfl
@[simp] theorem State.step1_dmc (s : State) (f : Field) : (s.step1 f).dmc = s.dmc := rfl
@[simp] theorem State.step1_loft (s : State) (f : Field) : (s.step1 f).loft = s.loft := rfl
@[simp] theorem State.step1_cal (s : State) (f : Field) : (s.step1 f).cal = s.cal := rfl
@[simp] theorem State.step1_therm (s : State) (f : Field) : (s.step1 f).therm = s.therm := rfl
@[simp] theorem State.step1_sec (s : State) (f : Field) : (s.step1 f).sec = s.sec := rfl
@[simp] theorem State.step1_power (s : State) (f : Field) : (s.step1 f).power = s.power := rfl
@[simp] theorem State.step1_nv (s : State) (f : Field) : (s.step1 f).nv = s.nv := rfl

@[simp] theorem State.setInt_pending (s : State) (f : Field) (v : Int) : (s.setInt f v).pending = s.pending := rfl
@[simp] theorem State.setInt_mech (s : State) (f : Field) (v : Int) : (s.setInt f v).mech = s.mech := rfl
@[simp] theorem State.setInt_mem (s : State) (f : Field) (v : Int) : (s.setInt f v).mem = s.mem := rfl
@[simp] theorem State.setInt_out (s : State) (f : Field) (v : Int) : (s.setInt f v).out = s.out := rfl
@[simp] theorem State.setInt_free (s : State) (f : Field) (v : Int) : (s.setInt f v).free = s.free := rfl
@[simp] theorem State.setInt_mgmt (s : State) (f : Field) (v : Int) : (s.setInt f v).mgmt = s.mgmt := rfl
@[simp] theorem State.setInt_err (s : State) (f : Field) (v : Int) : (s.setInt f v).err = s.err := rfl
@[simp] theorem State.setInt_pcie (s : State) (f : Field) (v : Int) : (s.setInt f v).pcie = s.pcie := rfl
@[simp] theorem State.setInt_scene (s : State) (f : Field) (v : Int) : (s.setInt f v).scene = s.scene := rfl
@[simp] theorem State.setInt_rsy (s : State) (f : Field) (v : Int) : (s.setInt f v).rsy = s.rsy := rfl
@[simp] theorem State.setInt_drum (s : State) (f : Field) (v : Int) : (s.setInt f v).drum = s.drum := rfl
@[simp] theorem State.setInt_cams (s : State) (f : Field) (v : Int) : (s.setInt f v).cams = s.cams := rfl
@[simp] theorem State.setInt_roster (s : State) (f : Field) (v : Int) : (s.setInt f v).roster = s.roster := rfl
@[simp] theorem State.setInt_cmp (s : State) (f : Field) (v : Int) : (s.setInt f v).cmp = s.cmp := rfl
@[simp] theorem State.setInt_pnl (s : State) (f : Field) (v : Int) : (s.setInt f v).pnl = s.pnl := rfl
@[simp] theorem State.setInt_ser (s : State) (f : Field) (v : Int) : (s.setInt f v).ser = s.ser := rfl
@[simp] theorem State.setInt_yard (s : State) (f : Field) (v : Int) : (s.setInt f v).yard = s.yard := rfl
@[simp] theorem State.setInt_tim (s : State) (f : Field) (v : Int) : (s.setInt f v).tim = s.tim := rfl
@[simp] theorem State.setInt_dmc (s : State) (f : Field) (v : Int) : (s.setInt f v).dmc = s.dmc := rfl
@[simp] theorem State.setInt_loft (s : State) (f : Field) (v : Int) : (s.setInt f v).loft = s.loft := rfl
@[simp] theorem State.setInt_cal (s : State) (f : Field) (v : Int) : (s.setInt f v).cal = s.cal := rfl
@[simp] theorem State.setInt_therm (s : State) (f : Field) (v : Int) : (s.setInt f v).therm = s.therm := rfl
@[simp] theorem State.setInt_sec (s : State) (f : Field) (v : Int) : (s.setInt f v).sec = s.sec := rfl
@[simp] theorem State.setInt_power (s : State) (f : Field) (v : Int) : (s.setInt f v).power = s.power := rfl
@[simp] theorem State.setInt_nv (s : State) (f : Field) (v : Int) : (s.setInt f v).nv = s.nv := rfl

@[simp] theorem State.emit_pending (s : State) (x : Output) : (s.emit x).pending = s.pending := rfl
@[simp] theorem State.emit_mech (s : State) (x : Output) : (s.emit x).mech = s.mech := rfl
@[simp] theorem State.emit_mem (s : State) (x : Output) : (s.emit x).mem = s.mem := rfl
@[simp] theorem State.emit_free (s : State) (x : Output) : (s.emit x).free = s.free := rfl
@[simp] theorem State.emit_mgmt (s : State) (x : Output) : (s.emit x).mgmt = s.mgmt := rfl
@[simp] theorem State.emit_err (s : State) (x : Output) : (s.emit x).err = s.err := rfl
@[simp] theorem State.emit_pcie (s : State) (x : Output) : (s.emit x).pcie = s.pcie := rfl
@[simp] theorem State.emit_scene (s : State) (x : Output) : (s.emit x).scene = s.scene := rfl
@[simp] theorem State.emit_rsy (s : State) (x : Output) : (s.emit x).rsy = s.rsy := rfl
@[simp] theorem State.emit_drum (s : State) (x : Output) : (s.emit x).drum = s.drum := rfl
@[simp] theorem State.emit_cams (s : State) (x : Output) : (s.emit x).cams = s.cams := rfl
@[simp] theorem State.emit_roster (s : State) (x : Output) : (s.emit x).roster = s.roster := rfl
@[simp] theorem State.emit_cmp (s : State) (x : Output) : (s.emit x).cmp = s.cmp := rfl
@[simp] theorem State.emit_pnl (s : State) (x : Output) : (s.emit x).pnl = s.pnl := rfl
@[simp] theorem State.emit_ser (s : State) (x : Output) : (s.emit x).ser = s.ser := rfl
@[simp] theorem State.emit_yard (s : State) (x : Output) : (s.emit x).yard = s.yard := rfl
@[simp] theorem State.emit_tim (s : State) (x : Output) : (s.emit x).tim = s.tim := rfl
@[simp] theorem State.emit_dmc (s : State) (x : Output) : (s.emit x).dmc = s.dmc := rfl
@[simp] theorem State.emit_loft (s : State) (x : Output) : (s.emit x).loft = s.loft := rfl
@[simp] theorem State.emit_cal (s : State) (x : Output) : (s.emit x).cal = s.cal := rfl
@[simp] theorem State.emit_therm (s : State) (x : Output) : (s.emit x).therm = s.therm := rfl
@[simp] theorem State.emit_sec (s : State) (x : Output) : (s.emit x).sec = s.sec := rfl
@[simp] theorem State.emit_power (s : State) (x : Output) : (s.emit x).power = s.power := rfl
@[simp] theorem State.emit_nv (s : State) (x : Output) : (s.emit x).nv = s.nv := rfl

@[simp] theorem State.tookFree_pending (s : State) : (s.tookFree).pending = s.pending := rfl
@[simp] theorem State.tookFree_mech (s : State) : (s.tookFree).mech = s.mech := rfl
@[simp] theorem State.tookFree_mem (s : State) : (s.tookFree).mem = s.mem := rfl
@[simp] theorem State.tookFree_out (s : State) : (s.tookFree).out = s.out := rfl
@[simp] theorem State.tookFree_mgmt (s : State) : (s.tookFree).mgmt = s.mgmt := rfl
@[simp] theorem State.tookFree_err (s : State) : (s.tookFree).err = s.err := rfl
@[simp] theorem State.tookFree_pcie (s : State) : (s.tookFree).pcie = s.pcie := rfl
@[simp] theorem State.tookFree_scene (s : State) : (s.tookFree).scene = s.scene := rfl
@[simp] theorem State.tookFree_rsy (s : State) : (s.tookFree).rsy = s.rsy := rfl
@[simp] theorem State.tookFree_drum (s : State) : (s.tookFree).drum = s.drum := rfl
@[simp] theorem State.tookFree_cams (s : State) : (s.tookFree).cams = s.cams := rfl
@[simp] theorem State.tookFree_roster (s : State) : (s.tookFree).roster = s.roster := rfl
@[simp] theorem State.tookFree_cmp (s : State) : (s.tookFree).cmp = s.cmp := rfl
@[simp] theorem State.tookFree_pnl (s : State) : (s.tookFree).pnl = s.pnl := rfl
@[simp] theorem State.tookFree_ser (s : State) : (s.tookFree).ser = s.ser := rfl
@[simp] theorem State.tookFree_yard (s : State) : (s.tookFree).yard = s.yard := rfl
@[simp] theorem State.tookFree_tim (s : State) : (s.tookFree).tim = s.tim := rfl
@[simp] theorem State.tookFree_dmc (s : State) : (s.tookFree).dmc = s.dmc := rfl
@[simp] theorem State.tookFree_loft (s : State) : (s.tookFree).loft = s.loft := rfl
@[simp] theorem State.tookFree_cal (s : State) : (s.tookFree).cal = s.cal := rfl
@[simp] theorem State.tookFree_therm (s : State) : (s.tookFree).therm = s.therm := rfl
@[simp] theorem State.tookFree_sec (s : State) : (s.tookFree).sec = s.sec := rfl
@[simp] theorem State.tookFree_power (s : State) : (s.tookFree).power = s.power := rfl
@[simp] theorem State.tookFree_nv (s : State) : (s.tookFree).nv = s.nv := rfl

@[simp] theorem State.setFree_pending (s : State) (f : Field) : (s.setFree f).pending = s.pending := rfl
@[simp] theorem State.setFree_mech (s : State) (f : Field) : (s.setFree f).mech = s.mech := rfl
@[simp] theorem State.setFree_mem (s : State) (f : Field) : (s.setFree f).mem = s.mem := rfl
@[simp] theorem State.setFree_out (s : State) (f : Field) : (s.setFree f).out = s.out := rfl
@[simp] theorem State.setFree_mgmt (s : State) (f : Field) : (s.setFree f).mgmt = s.mgmt := rfl
@[simp] theorem State.setFree_err (s : State) (f : Field) : (s.setFree f).err = s.err := rfl
@[simp] theorem State.setFree_pcie (s : State) (f : Field) : (s.setFree f).pcie = s.pcie := rfl
@[simp] theorem State.setFree_scene (s : State) (f : Field) : (s.setFree f).scene = s.scene := rfl
@[simp] theorem State.setFree_rsy (s : State) (f : Field) : (s.setFree f).rsy = s.rsy := rfl
@[simp] theorem State.setFree_drum (s : State) (f : Field) : (s.setFree f).drum = s.drum := rfl
@[simp] theorem State.setFree_cams (s : State) (f : Field) : (s.setFree f).cams = s.cams := rfl
@[simp] theorem State.setFree_roster (s : State) (f : Field) : (s.setFree f).roster = s.roster := rfl
@[simp] theorem State.setFree_cmp (s : State) (f : Field) : (s.setFree f).cmp = s.cmp := rfl
@[simp] theorem State.setFree_pnl (s : State) (f : Field) : (s.setFree f).pnl = s.pnl := rfl
@[simp] theorem State.setFree_ser (s : State) (f : Field) : (s.setFree f).ser = s.ser := rfl
@[simp] theorem State.setFree_yard (s : State) (f : Field) : (s.setFree f).yard = s.yard := rfl
@[simp] theorem State.setFree_tim (s : State) (f : Field) : (s.setFree f).tim = s.tim := rfl
@[simp] theorem State.setFree_dmc (s : State) (f : Field) : (s.setFree f).dmc = s.dmc := rfl
@[simp] theorem State.setFree_loft (s : State) (f : Field) : (s.setFree f).loft = s.loft := rfl
@[simp] theorem State.setFree_cal (s : State) (f : Field) : (s.setFree f).cal = s.cal := rfl
@[simp] theorem State.setFree_therm (s : State) (f : Field) : (s.setFree f).therm = s.therm := rfl
@[simp] theorem State.setFree_sec (s : State) (f : Field) : (s.setFree f).sec = s.sec := rfl
@[simp] theorem State.setFree_power (s : State) (f : Field) : (s.setFree f).power = s.power := rfl
@[simp] theorem State.setFree_nv (s : State) (f : Field) : (s.setFree f).nv = s.nv := rfl

@[simp] theorem State.setErr_pending (s : State) (f : ErrMgr → ErrMgr) : (s.setErr f).pending = s.pending := rfl
@[simp] theorem State.setErr_mech (s : State) (f : ErrMgr → ErrMgr) : (s.setErr f).mech = s.mech := rfl
@[simp] theorem State.setErr_mem (s : State) (f : ErrMgr → ErrMgr) : (s.setErr f).mem = s.mem := rfl
@[simp] theorem State.setErr_out (s : State) (f : ErrMgr → ErrMgr) : (s.setErr f).out = s.out := rfl
@[simp] theorem State.setErr_free (s : State) (f : ErrMgr → ErrMgr) : (s.setErr f).free = s.free := rfl
@[simp] theorem State.setErr_mgmt (s : State) (f : ErrMgr → ErrMgr) : (s.setErr f).mgmt = s.mgmt := rfl
@[simp] theorem State.setErr_pcie (s : State) (f : ErrMgr → ErrMgr) : (s.setErr f).pcie = s.pcie := rfl
@[simp] theorem State.setErr_scene (s : State) (f : ErrMgr → ErrMgr) : (s.setErr f).scene = s.scene := rfl
@[simp] theorem State.setErr_rsy (s : State) (f : ErrMgr → ErrMgr) : (s.setErr f).rsy = s.rsy := rfl
@[simp] theorem State.setErr_drum (s : State) (f : ErrMgr → ErrMgr) : (s.setErr f).drum = s.drum := rfl
@[simp] theorem State.setErr_cams (s : State) (f : ErrMgr → ErrMgr) : (s.setErr f).cams = s.cams := rfl
@[simp] theorem State.setErr_roster (s : State) (f : ErrMgr → ErrMgr) : (s.setErr f).roster = s.roster := rfl
@[simp] theorem State.setErr_cmp (s : State) (f : ErrMgr → ErrMgr) : (s.setErr f).cmp = s.cmp := rfl
@[simp] theorem State.setErr_pnl (s : State) (f : ErrMgr → ErrMgr) : (s.setErr f).pnl = s.pnl := rfl
@[simp] theorem State.setErr_ser (s : State) (f : ErrMgr → ErrMgr) : (s.setErr f).ser = s.ser := rfl
@[simp] theorem State.setErr_yard (s : State) (f : ErrMgr → ErrMgr) : (s.setErr f).yard = s.yard := rfl
@[simp] theorem State.setErr_tim (s : State) (f : ErrMgr → ErrMgr) : (s.setErr f).tim = s.tim := rfl
@[simp] theorem State.setErr_dmc (s : State) (f : ErrMgr → ErrMgr) : (s.setErr f).dmc = s.dmc := rfl
@[simp] theorem State.setErr_loft (s : State) (f : ErrMgr → ErrMgr) : (s.setErr f).loft = s.loft := rfl
@[simp] theorem State.setErr_cal (s : State) (f : ErrMgr → ErrMgr) : (s.setErr f).cal = s.cal := rfl
@[simp] theorem State.setErr_therm (s : State) (f : ErrMgr → ErrMgr) : (s.setErr f).therm = s.therm := rfl
@[simp] theorem State.setErr_sec (s : State) (f : ErrMgr → ErrMgr) : (s.setErr f).sec = s.sec := rfl
@[simp] theorem State.setErr_power (s : State) (f : ErrMgr → ErrMgr) : (s.setErr f).power = s.power := rfl
@[simp] theorem State.setErr_nv (s : State) (f : ErrMgr → ErrMgr) : (s.setErr f).nv = s.nv := rfl

/-! ### Canonical memories -/

theorem Memory.wf_cons (a : Nat) (b : Byte) (m : List Host.Cell) :
    Memory.wf ((a, b) :: m) = true ↔ b ≠ 0 ∧ (∀ p ∈ m, a < p.1) ∧ Memory.wf m = true := by
  induction m generalizing a b with
  | nil => simp [Memory.wf]
  | cons p m ih =>
    obtain ⟨k, c⟩ := p
    have hk := ih k c
    simp only [Memory.wf, Bool.and_eq_true, decide_eq_true_eq, Bool.not_eq_true', decide_eq_false_iff_not, List.mem_cons,
      forall_eq_or_imp] at *
    constructor
    · rintro ⟨⟨h1, h2⟩, h3⟩
      exact ⟨h1, ⟨h2, fun q hq => Nat.lt_trans h2 ((hk.1 h3).2.1 q hq)⟩, h3⟩
    · rintro ⟨h1, ⟨h2, _⟩, h3⟩
      exact ⟨⟨h1, h2⟩, h3⟩

/-- An address below every listed one reads zero. -/
theorem memGet_below (m : List Host.Cell) (a : Nat) (h : ∀ p ∈ m, a < p.1) : memGet m a = 0 := by
  induction m with
  | nil => rfl
  | cons p m ih =>
    obtain ⟨k, c⟩ := p
    have hk : a < k := h (k, c) (List.mem_cons_self ..)
    simp [memGet, Nat.ne_of_lt hk, ih (fun q hq => h q (List.mem_cons_of_mem _ hq))]

/-- A write lists no address but its own and those listed before. -/
theorem mem_memPut {m : List Host.Cell} {a : Nat} {b : Byte} {p : Host.Cell} (h : p ∈ memPut m a b) : p = (a, b) ∨ p ∈ m := by
  induction m with
  | nil =>
    simp only [memPut] at h
    split at h
    · cases h
    · exact Or.inl (List.mem_singleton.1 h)
  | cons q m ih =>
    obtain ⟨k, c⟩ := q
    simp only [memPut] at h
    split at h
    · split at h
      · exact Or.inr (List.mem_cons_of_mem _ h)
      · rcases List.mem_cons.1 h with h | h
        · exact Or.inl h
        · exact Or.inr (List.mem_cons_of_mem _ h)
    · split at h
      · split at h
        · exact Or.inr h
        · rcases List.mem_cons.1 h with h | h
          · exact Or.inl h
          · exact Or.inr h
      · rcases List.mem_cons.1 h with h | h
        · exact Or.inr (h ▸ List.mem_cons_self ..)
        · rcases ih h with h | h
          · exact Or.inl h
          · exact Or.inr (List.mem_cons_of_mem _ h)

/-- A write of a byte keeps the canonical form. -/
theorem memPut_wf {m : List Host.Cell} (h : Memory.wf m = true) (a : Nat) (b : Byte) : Memory.wf (memPut m a b) = true := by
  induction m with
  | nil =>
    simp only [memPut]
    split
    · rfl
    · next hb => simp only [Memory.wf, hb, decide_false, Bool.not_false]
  | cons q m ih =>
    obtain ⟨k, c⟩ := q
    obtain ⟨h1, h2, h3⟩ := (Memory.wf_cons k c m).1 h
    simp only [memPut]
    split
    · next e =>
      subst e
      split
      · exact h3
      · next hb => exact (Memory.wf_cons _ _ _).2 ⟨hb, h2, h3⟩
    · split
      · next hlt =>
        split
        · exact h
        · next hb =>
          refine (Memory.wf_cons _ _ _).2 ⟨hb, ?_, h⟩
          intro p hp
          rcases List.mem_cons.1 hp with hp | hp
          · subst hp; exact hlt
          · exact Nat.lt_trans hlt (h2 p hp)
      · next hne hge =>
        refine (Memory.wf_cons _ _ _).2 ⟨h1, ?_, ih h3⟩
        intro p hp
        rcases mem_memPut hp with hp | hp
        · subst hp; exact Nat.lt_of_le_of_ne (Nat.le_of_not_lt hge) (fun e => hne e.symm)
        · exact h2 p hp

/-- After a write of a byte, its address reads the byte and every other address what it read before. -/
theorem memGet_memPut {m : List Host.Cell} (h : Memory.wf m = true) (a x : Nat) (b : Byte) :
    memGet (memPut m a b) x = if x = a then b else memGet m x := by
  induction m with
  | nil =>
    simp only [memPut]
    split <;> split <;> simp_all [memGet]
  | cons q m ih =>
    obtain ⟨k, c⟩ := q
    obtain ⟨h1, h2, h3⟩ := (Memory.wf_cons k c m).1 h
    simp only [memPut]
    split
    · next e =>
      subst e
      split
      · next hb =>
        by_cases hx : x = a
        · subst hx; simp [hb, memGet_below m x h2]
        · simp [memGet, hx]
      · by_cases hx : x = a <;> simp [memGet, hx]
    · next hne =>
      split
      · next hlt =>
        split
        · next hb =>
          by_cases hx : x = a
          · subst hx
            have hm : ∀ p ∈ (k, c) :: m, x < p.1 := by
              intro p hp
              rcases List.mem_cons.1 hp with hp | hp
              · subst hp; exact hlt
              · exact Nat.lt_trans hlt (h2 p hp)
            simp [hb, memGet_below _ _ hm]
          · simp [hx]
        · by_cases hx : x = a <;> simp [memGet, hx]
      · by_cases hx : x = k
        · subst hx; simp [memGet, Ne.symm hne]
        · simp [memGet, hx, ih h3]

/-- A write of bytes keeps the canonical form. -/
theorem memWrite_wf {m : List Host.Cell} (h : Memory.wf m = true) (a : Nat) (bs : List Byte) : Memory.wf (memWrite m a bs) = true := by
  induction bs generalizing m a with
  | nil => exact h
  | cons b bs ih => exact ih (memPut_wf h a b) (a + 1)

/-- After a write of bytes, the addresses written read them, and every other address what it read before. -/
theorem memGet_memWrite {m : List Host.Cell} (h : Memory.wf m = true) (a x : Nat) (bs : List Byte) :
    memGet (memWrite m a bs) x = if a ≤ x ∧ x < a + bs.length then bs.getD (x - a) 0 else memGet m x := by
  induction bs generalizing m a with
  | nil => rw [if_neg (by simp only [List.length_nil]; omega)]; rfl
  | cons b bs ih =>
    simp only [memWrite, ih (memPut_wf h a b), memGet_memPut h, List.length_cons]
    by_cases hx : x = a
    · subst hx
      rw [if_neg (by omega), if_pos rfl, if_pos (by omega)]; simp
    · by_cases hin : a + 1 ≤ x ∧ x < a + 1 + bs.length
      · rw [if_pos hin, if_pos (by omega)]
        obtain ⟨j, hj⟩ : ∃ j, x - a = j + 1 := ⟨x - a - 1, by omega⟩
        have e : x - (a + 1) = j := by omega
        rw [e, hj]; simp
      · rw [if_neg hin, if_neg hx, if_neg (by omega)]

/-- The bytes written are the bytes read back. -/
theorem memRead_memWrite {m : List Host.Cell} (h : Memory.wf m = true) (a : Nat) (bs : List Byte) :
    memRead (memWrite m a bs) a bs.length = bs := by
  apply List.ext_getElem
  · simp [memRead]
  · intro i h1 h2
    simp only [memRead, List.getElem_map, List.getElem_range, memGet_memWrite h]
    rw [if_pos (by omega)]
    have e : a + i - a = i := by omega
    rw [e, List.getD_eq_getElem?_getD, List.getElem?_eq_getElem h2]; rfl

/-- Filling with one byte keeps the canonical form. -/
theorem memFill_wf {m : List Host.Cell} (h : Memory.wf m = true) (a n : Nat) (b : Byte) : Memory.wf (memFill m a n b) = true :=
  memWrite_wf h a _

/-- The memories of a reset machine are in canonical form. -/
theorem Mem.reset_wf : Memory.wf Mem.reset.dram = true ∧ Memory.wf Mem.reset.host = true ∧ Memory.wf Mem.reset.loft = true :=
  ⟨rfl, rfl, rfl⟩

/-- The canonical form of a state's three memories. -/
theorem State.reset_wf : Memory.wf State.reset.mem.dram = true ∧ Memory.wf State.reset.mem.host = true ∧ Memory.wf State.reset.mem.loft = true :=
  ⟨rfl, rfl, rfl⟩

/-- An injection leaves every byte of the memories. -/
theorem injectDram_mem (s : State) (ws : List Nat) :
    (injectDram s ws).mem.dram = s.mem.dram ∧ (injectDram s ws).mem.host = s.mem.host ∧ (injectDram s ws).mem.loft = s.mem.loft := by
  unfold injectDram
  dsimp only
  split
  · cases injectedRead (leNat (memRead s.mem.dram (s.get F.ERR_INJECT_ADDR_ADDR * 8) 8)) (injectFlips s) <;> exact ⟨rfl, rfl, rfl⟩
  · exact ⟨rfl, rfl, rfl⟩

/-- A write to device memory writes its bytes there and nothing in the other memories. -/
theorem dramWrite_mem (s : State) (a : Nat) (bs : List Byte) :
    (dramWrite s a bs).mem.dram = memWrite s.mem.dram a bs ∧ (dramWrite s a bs).mem.host = s.mem.host ∧
      (dramWrite s a bs).mem.loft = s.mem.loft := by
  unfold dramWrite
  exact injectDram_mem _ _

/-- A write to device memory keeps its canonical form. -/
theorem dramWrite_wf {s : State} (h : Memory.wf s.mem.dram = true) (a : Nat) (bs : List Byte) :
    Memory.wf (dramWrite s a bs).mem.dram = true := by
  rw [(dramWrite_mem s a bs).1]; exact memWrite_wf h a bs

/-- A write to host memory keeps its canonical form. -/
theorem hostWrite_wf {s : State} (h : Memory.wf s.mem.host = true) (a : Nat) (bs : List Byte) :
    Memory.wf (hostWrite s a bs).mem.host = true := by
  unfold hostWrite
  split
  · exact memWrite_wf h a bs
  · exact h

end Sys2Proof.Machine
end

