-- ==== Sys2Proof/Laws/Report.lean ====
section
/-! SUPPORT. Laws/Report.lean: everything that a report can do. Raising an interrupt, sending a frame, logging an access and posting an error
change the common header registers, the error manager and its page, HIF.ACC_STATUS, the MSI-X pending bits, the yard's ports
and counts, and what leaves the chip; nothing else. -/

namespace Sys2Proof.Machine

/-- What a change of some register fields, of the interrupt latches, of the error manager, of the yard's ports and of what leaves the
chip leaves as it was. -/
structure Touches (may : Nat → Bool) (s t : State) : Prop where
  get : ∀ f : Field, may f.key = false → t.get f = s.get f
  second : ∀ k : Nat, may k = false → mapVal t.mech.second k = mapVal s.mech.second k
  loaded : t.mech.loaded = s.mech.loaded
  captures : t.mech.captures = s.mech.captures
  holds : t.mech.holds = s.mech.holds
  evaluated : t.mech.evaluated = s.mech.evaluated
  pages : t.mech.pages = s.mech.pages
  pending : t.pending = s.pending
  mem : t.mem = s.mem
  free : t.free = s.free
  mgmt : t.mgmt = s.mgmt
  pcie : t.pcie = s.pcie
  scene : t.scene = s.scene
  rsy : t.rsy = s.rsy
  drum : t.drum = s.drum
  cams : t.cams = s.cams
  roster : t.roster = s.roster
  cmp : t.cmp = s.cmp
  pnl : t.pnl = s.pnl
  ser : t.ser = s.ser
  dmc : t.dmc = s.dmc
  loft : t.loft = s.loft
  cal : t.cal = s.cal
  therm : t.therm = s.therm
  sec : t.sec = s.sec
  power : t.power = s.power
  nv : t.nv = s.nv
  yard : { t.yard with ports := [] } = { s.yard with ports := [] }
  tim : { t.tim with sent := [] } = { s.tim with sent := [] }

theorem Touches.refl (may : Nat → Bool) (s : State) : Touches may s s := by constructor <;> first | rfl | (intros; rfl)

theorem Touches.trans {may : Nat → Bool} {s t u : State} (h : Touches may s t) (g : Touches may t u) : Touches may s u := by
  constructor
  case get => intro f hf; rw [g.get f hf, h.get f hf]
  case second => intro k hk; rw [g.second k hk, h.second k hk]
  case loaded => rw [g.loaded, h.loaded]
  case captures => rw [g.captures, h.captures]
  case holds => rw [g.holds, h.holds]
  case evaluated => rw [g.evaluated, h.evaluated]
  case pages => rw [g.pages, h.pages]
  case pending => rw [g.pending, h.pending]
  case mem => rw [g.mem, h.mem]
  case free => rw [g.free, h.free]
  case mgmt => rw [g.mgmt, h.mgmt]
  case pcie => rw [g.pcie, h.pcie]
  case scene => rw [g.scene, h.scene]
  case rsy => rw [g.rsy, h.rsy]
  case drum => rw [g.drum, h.drum]
  case cams => rw [g.cams, h.cams]
  case roster => rw [g.roster, h.roster]
  case cmp => rw [g.cmp, h.cmp]
  case pnl => rw [g.pnl, h.pnl]
  case ser => rw [g.ser, h.ser]
  case dmc => rw [g.dmc, h.dmc]
  case loft => rw [g.loft, h.loft]
  case cal => rw [g.cal, h.cal]
  case therm => rw [g.therm, h.therm]
  case sec => rw [g.sec, h.sec]
  case power => rw [g.power, h.power]
  case nv => rw [g.nv, h.nv]
  case yard => rw [g.yard, h.yard]
  case tim => rw [g.tim, h.tim]

/-- What may change a field may change more. -/
theorem Touches.mono {may some' : Nat → Bool} {s t : State} (h : Touches may s t) (g : ∀ k, some' k = false → may k = false) :
    Touches some' s t := { h with get := fun f hf => h.get f (g _ hf), second := fun k hk => h.second k (g _ hk) }

/-- What the sending of a frame or a message leaves as it was. -/
abbrev Sends (s t : State) : Prop := Touches sendKey s t

/-- What an event or an entry shown leaves as it was. -/
abbrev Posts (s t : State) : Prop := Touches postKey s t

/-- What a report leaves as it was. -/
abbrev Reports (s t : State) : Prop := Touches reportKey s t

theorem sendKey_of_postKey (k : Nat) (h : postKey k = false) : sendKey k = false := by
  simp only [postKey, Bool.or_eq_false_iff] at h
  exact h.2

theorem postKey_of_reportKey (k : Nat) (h : reportKey k = false) : postKey k = false := by
  simp only [reportKey, Bool.or_eq_false_iff] at h
  exact h.2

theorem sendKey_of_reportKey (k : Nat) (h : reportKey k = false) : sendKey k = false := sendKey_of_postKey k (postKey_of_reportKey k h)

theorem Touches.reports {s t : State} (h : Sends s t) : Reports s t := h.mono sendKey_of_reportKey

theorem Touches.posts {s t : State} (h : Sends s t) : Posts s t := h.mono sendKey_of_postKey

theorem Touches.ofPosts {s t : State} (h : Posts s t) : Reports s t := h.mono postKey_of_reportKey

/-- A set of a field that may change. -/
theorem touches_set {may : Nat → Bool} (s : State) (f : Field) (v : Nat) (h : may f.key = true) : Touches may s (s.set f v) := by
  constructor
  case get =>
    intro g hg
    exact State.get_set_ne s v (fun e => by rw [e, h] at hg; exact Bool.noConfusion hg)
  case second => intros; rfl
  all_goals rfl

theorem touches_setAll {may : Nat → Bool} (s : State) (l : List (Field × Nat)) (h : ∀ p ∈ l, may p.1.key = true) :
    Touches may s (s.setAll l) := by
  induction l generalizing s with
  | nil => exact Touches.refl may s
  | cons p l ih =>
    rw [State.setAll_cons]
    exact (touches_set s p.1 p.2 (h p (List.mem_cons_self ..))).trans (ih _ (fun q hq => h q (List.mem_cons_of_mem _ hq)))

theorem touches_bump {may : Nat → Bool} (s : State) (f : Field) (h : may f.key = true) : Touches may s (s.bump f) := by
  constructor
  case get =>
    intro g hg
    exact State.get_bump_ne s (fun e => by rw [e, h] at hg; exact Bool.noConfusion hg)
  case second =>
    intro k hk
    exact mapVal_mapPut_ne _ _ (fun e => by rw [e, h] at hk; exact Bool.noConfusion hk)
  all_goals rfl

theorem touches_emit (may : Nat → Bool) (s : State) (x : Output) : Touches may s (s.emit x) := by
  constructor <;> first | rfl | (intros; rfl)

theorem touches_setErr (may : Nat → Bool) (s : State) (f : ErrMgr → ErrMgr) : Touches may s (s.setErr f) := by
  constructor <;> first | rfl | (intros; rfl)

theorem touches_setXport (may : Nat → Bool) (s : State) (k : Nat) (f : XPort → XPort) : Touches may s (s.setXport k f) := by
  constructor <;> first | rfl | (intros; rfl)

theorem sends_stampTx (s : State) (k : Nat) (f : Frame) : Sends s (stampTx s k f) := by
  unfold stampTx
  dsimp only
  split
  · constructor <;> first | rfl | (intros; rfl)
  · exact Touches.refl _ s

/-- A field's number, page and offset. -/
theorem postKey_header (pg off lo : Nat) (h : off = 0x010 ∨ (0x028 ≤ off ∧ off < 0x048)) (hl : lo < 512) :
    postKey ((pg * 0x1000 + off) * 512 + lo) = true := by
  have e : ((pg * 0x1000 + off) * 512 + lo) / 512 % 4096 = off := by omega
  rcases h with h | h
  · subst h; simp [postKey, e]
  · simp [postKey, e, h.1, h.2]

theorem postKey_irqRaw (p : Nat) : postKey (F.IRQ_RAW p).key = true := postKey_header p 0x10 0 (by decide) (by decide)
theorem postKey_errCount (p : Nat) : postKey (F.ERR_COUNT p).key = true := postKey_header p 0x2C 0 (by decide) (by decide)

theorem sendKey_pba (v : Nat) (h : v < 2048) : sendKey (F.MSIX_PBA v).key = true := by
  have e : (F.MSIX_PBA v).key / 512 / 4096 = 7 := by simp only [F.MSIX_PBA, Field.key]; omega
  have e1 : 0x100 ≤ (F.MSIX_PBA v).key / 512 % 4096 := by simp only [F.MSIX_PBA, Field.key]; omega
  have e2 : (F.MSIX_PBA v).key / 512 % 4096 < 0x200 := by simp only [F.MSIX_PBA, Field.key]; omega
  simp [sendKey, e, e1, e2]

theorem sendKey_count0 (k : Nat) (h : k < 4) : sendKey (F.XSH_COUNT0_COUNT k).key = true := by
  have e : (F.XSH_COUNT0_COUNT k).key / 512 / 4096 = 0x100 := by simp only [F.XSH_COUNT0_COUNT, fld, Field.key]; omega
  have e1 : 0x140 ≤ (F.XSH_COUNT0_COUNT k).key / 512 % 4096 := by simp only [F.XSH_COUNT0_COUNT, fld, Field.key]; omega
  have e2 : (F.XSH_COUNT0_COUNT k).key / 512 % 4096 < 0x1D0 := by simp only [F.XSH_COUNT0_COUNT, fld, Field.key]; omega
  simp [sendKey, e, e1, e2]

theorem sends_pump (n k : Nat) (s : State) (hk : k < 4) : Sends s (pumpPort n k s) := by
  induction n generalizing s with
  | zero => exact Touches.refl _ s
  | succ n ih =>
    unfold pumpPort
    split
    · exact Touches.refl _ s
    · have hq := sendKey_count0 k hk
      exact ((((touches_setXport _ _ _ _).trans (touches_bump _ _ hq)).trans (sends_stampTx _ _ _)).trans (touches_emit _ _ _)).trans (ih _)

/-- R302, R303: a frame is given to a port. -/
theorem sends_sendOn (s : State) (k : Nat) (f : Frame) (hk : k < 4) : Sends s (sendOn s k f) :=
  (touches_setXport _ _ _ _).trans (sends_pump _ _ _ hk)

/-- R306: a frame is forwarded or discarded. -/
theorem sends_forwardFrame (s : State) (f : Frame) (i : Option Nat) : Sends s (forwardFrame s f i) := by
  unfold forwardFrame
  dsimp only
  split
  · next h => exact sends_sendOn _ _ _ h.1
  · exact touches_bump _ _ (by decide)

theorem sends_foldl {α : Type} (l : List α) (g : State → α → State) (h : ∀ t x, x ∈ l → Sends t (g t x)) (s : State) :
    Sends s (l.foldl g s) := by
  induction l generalizing s with
  | nil => exact Touches.refl _ s
  | cons x l ih =>
    exact (h s x (List.mem_cons_self ..)).trans (ih (fun t y hy => h t y (List.mem_cons_of_mem _ hy)) _)

theorem sends_broadcastDown (s : State) (f : Frame) : Sends s (broadcastDown s f) := by
  unfold broadcastDown
  apply sends_foldl
  intro t k hk
  have : k < 4 := by
    simp only [List.mem_filter, setBits, List.mem_range] at hk
    exact hk.1.1
  exact sends_sendOn _ _ _ this

/-- R300: a frame that this device originates. -/
theorem sends_originate (s : State) (f : Frame) : Sends s (originate s f) := by
  unfold originate
  dsimp only
  split
  · exact sends_broadcastDown _ _
  · exact sends_forwardFrame _ _ _

/-- R307: a frame of the head's ordered stream: it is sent or held, and takes the destination's next stream sequence. -/
theorem sendVc1_spec (s : State) (f : Frame) :
    (∀ g : Field, sendKey g.key = false → (sendVc1 s f).get g = s.get g) ∧ (sendVc1 s f).mem = s.mem ∧ (sendVc1 s f).yard.reads = s.yard.reads ∧
      (sendVc1 s f).yard.sseqTx = mapPut s.yard.sseqTx f.dst (nextSseq s f.dst) ∧ (sendVc1 s f).pending = s.pending ∧
      (sendVc1 s f).mech.loaded = s.mech.loaded ∧ (sendVc1 s f).cmp = s.cmp ∧ (sendVc1 s f).power = s.power := by
  unfold sendVc1
  dsimp only
  split
  · exact ⟨fun _ _ => rfl, rfl, rfl, rfl, rfl, rfl, rfl, rfl⟩
  · have h := sends_originate { s with yard := { s.yard with sseqTx := mapPut s.yard.sseqTx f.dst (nextSseq s f.dst) } }
      { f with sseq := nextSseq s f.dst }
    exact ⟨fun g hg => h.get g hg, h.mem, congrArg (fun y => y.reads) h.yard, congrArg (fun y => y.sseqTx) h.yard, h.pending, h.loaded, h.cmp, h.power⟩

/-- R50: one MSI-X message. -/
theorem sends_sendMsix (s : State) (v : Nat) (h : v < 2048) : Sends s (sendMsix s v) := by
  unfold sendMsix
  split
  · exact touches_set _ _ _ (sendKey_pba v h)
  · split
    · exact touches_emit _ _ _
    · exact Touches.refl _ s

theorem vectorOf_lt (s : State) (p : Nat) : vectorOf s p < 2048 := by
  have h : s.get (F.INT_VEC_VECTOR p) < 2048 := State.get_lt s (F.INT_VEC_VECTOR p)
  unfold vectorOf
  split
  · omega
  · exact h

theorem sends_signalVector (s : State) (v : Nat) (h : v < 2048) : Sends s (signalVector s v) := by
  unfold signalVector
  split
  · exact sends_originate _ _
  · exact sends_sendMsix _ _ h

theorem posts_setLatch (s : State) (p b : Nat) : Posts s (setLatch s p b) := by
  constructor
  case get => intros; rfl
  case second =>
    intro k hk
    exact mapVal_mapPut_ne _ _ (fun e => by rw [e, postKey_irqRaw p] at hk; exact Bool.noConfusion hk)
  all_goals rfl

/-- R40, R50, R52: an interrupt raised. -/
theorem posts_raiseIrq (s : State) (p b : Nat) : Posts s (raiseIrq s p b) := by
  have h := (posts_setLatch s p b).trans (touches_set (setLatch s p b) (F.IRQ_RAW p)
    (withBit (s.get (F.IRQ_RAW p)) b) (postKey_irqRaw p))
  unfold raiseIrq onRise
  split
  · exact h.trans (sends_signalVector _ _ (vectorOf_lt s p)).posts
  · exact h

/-- R40: an error captured on a page. -/
theorem posts_capturePage (s : State) (page code master off i0 i1 i3 : Nat) :
    Posts s (capturePage s page code master off i0 i1 i3) := by
  unfold capturePage
  split
  · split
    · exact touches_bump _ _ (postKey_errCount page)
    · refine (touches_setAll _ _ ?_).trans (posts_raiseIrq _ _ _)
      intro p hp
      simp only [List.mem_cons, List.not_mem_nil, or_false] at hp
      rcases hp with hp | hp | hp | hp | hp | hp | hp | hp <;> rw [hp]
      · exact postKey_header page 0x28 31 (by decide) (by decide)
      · exact postKey_header page 0x28 24 (by decide) (by decide)
      · exact postKey_header page 0x28 20 (by decide) (by decide)
      · exact postKey_header page 0x28 0 (by decide) (by decide)
      · exact postKey_header page 0x30 0 (by decide) (by decide)
      · exact postKey_header page 0x34 0 (by decide) (by decide)
      · exact postKey_header page 0x38 0 (by decide) (by decide)
      · exact postKey_header page 0x3C 0 (by decide) (by decide)
  · exact Touches.refl _ s

/-- R37: a host access captured. -/
theorem posts_captureHost (s : State) (code master page off : Nat) : Posts s (captureHost s code master page off) := by
  unfold captureHost
  dsimp only
  split
  · exact touches_bump _ _ (by decide)
  · refine (touches_bump _ _ (by decide)).trans (touches_setAll _ _ ?_)
    intro p hp
    simp only [List.mem_cons, List.not_mem_nil, or_false] at hp
    rcases hp with hp | hp | hp | hp | hp <;> rw [hp] <;> dsimp only <;> decide

/-- R41: an access error logged. -/
theorem posts_logAccess (s : State) (m : Master) (page off code data size : Nat) : Posts s (logAccess s m page off code data size) := by
  unfold logAccess
  dsimp only
  split
  · exact (posts_capturePage _ _ _ _ _ _ _ _).trans (posts_captureHost _ _ _ _ _)
  · exact posts_capturePage _ _ _ _ _ _ _ _

theorem posts_showRing (s : State) : Posts s (showRing s) := by
  apply touches_setAll
  intro p hp
  simp only [List.mem_cons, List.not_mem_nil, or_false] at hp
  rcases hp with hp | hp <;> rw [hp] <;> dsimp only <;> decide

theorem posts_ringOverflow (s : State) : Posts s (ringOverflow s) :=
  (touches_set _ _ _ (by decide)).trans (posts_raiseIrq _ _ _)

theorem posts_admitEntry (s : State) (e : ErrEntry) : Posts s (admitEntry s e) := by
  unfold admitEntry
  exact ((touches_set s F.ERR_SEQ_SEQ _ (by decide)).trans (touches_setErr _ _ _)).trans (posts_showRing _)

theorem posts_dropEntry (s : State) : Posts s (dropEntry s) :=
  ((touches_bump s F.ERR_DROPPED_COUNT (by decide)).trans (touches_setErr _ _ _)).trans (posts_ringOverflow _)

theorem posts_foldEntry (s : State) (x : Err) (e h : ErrEntry) : Posts s (foldEntry s x e h).1 := by
  unfold foldEntry
  split
  · dsimp only; exact touches_setErr _ _ _
  · split
    · exact Touches.refl _ s
    · exact (touches_setErr _ _ _).trans (posts_ringOverflow _)

theorem posts_postFull (s : State) (x : Err) (e : ErrEntry) : Posts s (postFull s x e).1 := by
  unfold postFull
  split
  · exact ((touches_setErr _ s _).trans (posts_dropEntry _)).trans (posts_admitEntry _ _)
  · split
    · exact posts_dropEntry s
    · exact ((touches_setErr _ s _).trans (posts_ringOverflow _)).trans (posts_showRing _)

/-- R444, R445: an error posted to the ring. -/
theorem posts_postEntry (s : State) (x : Err) : Posts s (postEntry s x).1 := by
  unfold postEntry
  split
  · dsimp only; exact touches_setErr _ _ _
  · dsimp only
    split
    · exact posts_foldEntry _ _ _ _
    · split
      · exact posts_admitEntry _ _
      · exact posts_postFull _ _ _

theorem posts_captureErr {s : State} {r : State × Posted} (h : Posts s r.1) (x : Err) (own : Option (Nat × Nat × Nat)) :
    Posts s (captureErr r x own) := by
  unfold captureErr
  split
  · exact h.trans (posts_capturePage _ _ _ _ _ _ _ _)
  · exact h.trans (posts_capturePage _ _ _ _ _ _ _ _)
  · split
    · exact h.trans (touches_bump _ _ (postKey_errCount x.page))
    · exact h
  · exact h

/-! ### The same as reports -/

theorem reports_raiseIrq (s : State) (p b : Nat) : Reports s (raiseIrq s p b) := (posts_raiseIrq s p b).ofPosts

theorem reports_capturePage (s : State) (page code master off i0 i1 i3 : Nat) :
    Reports s (capturePage s page code master off i0 i1 i3) := (posts_capturePage s page code master off i0 i1 i3).ofPosts

theorem reports_captureHost (s : State) (code master page off : Nat) : Reports s (captureHost s code master page off) :=
  (posts_captureHost s code master page off).ofPosts

theorem reports_logAccess (s : State) (m : Master) (page off code data size : Nat) : Reports s (logAccess s m page off code data size) :=
  (posts_logAccess s m page off code data size).ofPosts

theorem reportKey_classCount (c : Nat) (h : c ≤ 20) : reportKey (F.ERR_CLASS_COUNT_COUNT (c - 1)).key = true := by
  have e : (F.ERR_CLASS_COUNT_COUNT (c - 1)).key / 512 / 4096 = 0x180 := by
    simp only [F.ERR_CLASS_COUNT_COUNT, fld, Field.key]; omega
  have e1 : 0x144 ≤ (F.ERR_CLASS_COUNT_COUNT (c - 1)).key / 512 % 4096 := by
    simp only [F.ERR_CLASS_COUNT_COUNT, fld, Field.key]; omega
  have e2 : (F.ERR_CLASS_COUNT_COUNT (c - 1)).key / 512 % 4096 < 0x1B4 := by
    simp only [F.ERR_CLASS_COUNT_COUNT, fld, Field.key]; omega
  simp [reportKey, e, e1, e2]

theorem reportKey_sevCount (c : Nat) (h : c ≤ 4) : reportKey (F.ERR_SEV_COUNT_COUNT c).key = true := by
  have e : (F.ERR_SEV_COUNT_COUNT c).key / 512 / 4096 = 0x180 := by
    simp only [F.ERR_SEV_COUNT_COUNT, fld, Field.key]; omega
  have e1 : 0x144 ≤ (F.ERR_SEV_COUNT_COUNT c).key / 512 % 4096 := by
    simp only [F.ERR_SEV_COUNT_COUNT, fld, Field.key]; omega
  have e2 : (F.ERR_SEV_COUNT_COUNT c).key / 512 % 4096 < 0x1B4 := by
    simp only [F.ERR_SEV_COUNT_COUNT, fld, Field.key]; omega
  simp [reportKey, e, e1, e2]

/-- R444: an error detected: counted, posted and captured. -/
theorem reports_raiseWith (s : State) (x : Err) (own : Option (Nat × Nat × Nat)) (hc : x.cls ≤ 20) (hs : x.sev ≤ 4) :
    Reports s (raiseWith s x own) :=
  ((touches_bump _ _ (reportKey_classCount _ hc)).trans (touches_bump _ _ (reportKey_sevCount _ hs))).trans
    (posts_captureErr (posts_postEntry _ _) _ _).ofPosts

/-- R444: an error detected is counted by its class and its severity. -/
theorem get_raise_counts (s : State) (x : Err) (hc : x.cls ≤ 20) (hs : x.sev ≤ 4) :
    (raise s x).get (F.ERR_CLASS_COUNT_COUNT (x.cls - 1)) = satAdd 32 (s.get (F.ERR_CLASS_COUNT_COUNT (x.cls - 1))) 1 ∧
      (raise s x).get (F.ERR_SEV_COUNT_COUNT x.sev) = satAdd 32 (s.get (F.ERR_SEV_COUNT_COUNT x.sev)) 1 := by
  have kc : (F.ERR_CLASS_COUNT_COUNT (x.cls - 1)).key = (0x180144 + 4 * (x.cls - 1)) * 512 := by
    simp only [F.ERR_CLASS_COUNT_COUNT, fld, Field.key]; omega
  have ks : (F.ERR_SEV_COUNT_COUNT x.sev).key = (0x1801A0 + 4 * x.sev) * 512 := by
    simp only [F.ERR_SEV_COUNT_COUNT, fld, Field.key]; omega
  have quiet : ∀ k, 0x180144 * 512 ≤ k → k < 0x180200 * 512 → postKey k = false := by
    intro k h1 h2
    have e1 : k / 512 / 4096 = 0x180 := by omega
    have e2 : 0x144 ≤ k / 512 % 4096 := by omega
    have n1 : ¬ k / 512 % 4096 = 0x010 := by omega
    have n2 : ¬ k / 512 % 4096 < 0x048 := by omega
    have n3 : ¬ k / 512 % 4096 < 0x110 := by omega
    simp [postKey, sendKey, e1, n1, n2, n3]
  have h := posts_captureErr (posts_postEntry ((s.bump (F.ERR_CLASS_COUNT_COUNT (x.cls - 1))).bump (F.ERR_SEV_COUNT_COUNT x.sev)) x) x none
  constructor
  · show (captureErr _ x none).get _ = _
    rw [h.get _ (quiet _ (by omega) (by omega)), State.get_bump_ne _ (by omega), State.get_bump_same]
    rfl
  · show (captureErr _ x none).get _ = _
    rw [h.get _ (quiet _ (by omega) (by omega)), State.get_bump_same, State.get_bump_ne _ (by omega)]
    rfl

theorem reports_raise (s : State) (x : Err) (hc : x.cls ≤ 20) (hs : x.sev ≤ 4) : Reports s (raise s x) := reports_raiseWith s x none hc hs

/-- R416: a non-secure access to a secure page or field. -/
theorem reports_worldViolation (s : State) (m : Master) (page off data size : Nat) : Reports s (worldViolation s m page off data size) := by
  unfold worldViolation
  exact (posts_logAccess _ _ _ _ _ _ _).ofPosts.trans (((touches_bump _ _ (by decide)).trans (touches_bump _ _ (by decide))).trans
    (posts_postEntry _ _).ofPosts)

/-! ### What a report leaves, by component -/
@[simp] theorem raiseIrq_pending (s : State) (p b : Nat) : (raiseIrq s p b).pending = s.pending := (reports_raiseIrq s p b).pending
@[simp] theorem raiseIrq_mem (s : State) (p b : Nat) : (raiseIrq s p b).mem = s.mem := (reports_raiseIrq s p b).mem
@[simp] theorem raiseIrq_free (s : State) (p b : Nat) : (raiseIrq s p b).free = s.free := (reports_raiseIrq s p b).free
@[simp] theorem raiseIrq_mgmt (s : State) (p b : Nat) : (raiseIrq s p b).mgmt = s.mgmt := (reports_raiseIrq s p b).mgmt
@[simp] theorem raiseIrq_pcie (s : State) (p b : Nat) : (raiseIrq s p b).pcie = s.pcie := (reports_raiseIrq s p b).pcie
@[simp] theorem raiseIrq_scene (s : State) (p b : Nat) : (raiseIrq s p b).scene = s.scene := (reports_raiseIrq s p b).scene
@[simp] theorem raiseIrq_rsy (s : State) (p b : Nat) : (raiseIrq s p b).rsy = s.rsy := (reports_raiseIrq s p b).rsy
@[simp] theorem raiseIrq_drum (s : State) (p b : Nat) : (raiseIrq s p b).drum = s.drum := (reports_raiseIrq s p b).drum
@[simp] theorem raiseIrq_cams (s : State) (p b : Nat) : (raiseIrq s p b).cams = s.cams := (reports_raiseIrq s p b).cams
@[simp] theorem raiseIrq_roster (s : State) (p b : Nat) : (raiseIrq s p b).roster = s.roster := (reports_raiseIrq s p b).roster
@[simp] theorem raiseIrq_cmp (s : State) (p b : Nat) : (raiseIrq s p b).cmp = s.cmp := (reports_raiseIrq s p b).cmp
@[simp] theorem raiseIrq_pnl (s : State) (p b : Nat) : (raiseIrq s p b).pnl = s.pnl := (reports_raiseIrq s p b).pnl
@[simp] theorem raiseIrq_ser (s : State) (p b : Nat) : (raiseIrq s p b).ser = s.ser := (reports_raiseIrq s p b).ser
@[simp] theorem raiseIrq_dmc (s : State) (p b : Nat) : (raiseIrq s p b).dmc = s.dmc := (reports_raiseIrq s p b).dmc
@[simp] theorem raiseIrq_loft (s : State) (p b : Nat) : (raiseIrq s p b).loft = s.loft := (reports_raiseIrq s p b).loft
@[simp] theorem raiseIrq_cal (s : State) (p b : Nat) : (raiseIrq s p b).cal = s.cal := (reports_raiseIrq s p b).cal
@[simp] theorem raiseIrq_therm (s : State) (p b : Nat) : (raiseIrq s p b).therm = s.therm := (reports_raiseIrq s p b).therm
@[simp] theorem raiseIrq_sec (s : State) (p b : Nat) : (raiseIrq s p b).sec = s.sec := (reports_raiseIrq s p b).sec
@[simp] theorem raiseIrq_power (s : State) (p b : Nat) : (raiseIrq s p b).power = s.power := (reports_raiseIrq s p b).power
@[simp] theorem raiseIrq_nv (s : State) (p b : Nat) : (raiseIrq s p b).nv = s.nv := (reports_raiseIrq s p b).nv
@[simp] theorem raiseIrq_loaded (s : State) (p b : Nat) : (raiseIrq s p b).mech.loaded = s.mech.loaded := (reports_raiseIrq s p b).loaded
theorem get_raiseIrq (s : State) (p b : Nat) {f : Field} (h : reportKey f.key = false) : (raiseIrq s p b).get f = s.get f := (reports_raiseIrq s p b).get f h

@[simp] theorem originate_pending (s : State) (f : Frame) : (originate s f).pending = s.pending := (sends_originate s f).pending
@[simp] theorem originate_mem (s : State) (f : Frame) : (originate s f).mem = s.mem := (sends_originate s f).mem
@[simp] theorem originate_free (s : State) (f : Frame) : (originate s f).free = s.free := (sends_originate s f).free
@[simp] theorem originate_mgmt (s : State) (f : Frame) : (originate s f).mgmt = s.mgmt := (sends_originate s f).mgmt
@[simp] theorem originate_pcie (s : State) (f : Frame) : (originate s f).pcie = s.pcie := (sends_originate s f).pcie
@[simp] theorem originate_scene (s : State) (f : Frame) : (originate s f).scene = s.scene := (sends_originate s f).scene
@[simp] theorem originate_rsy (s : State) (f : Frame) : (originate s f).rsy = s.rsy := (sends_originate s f).rsy
@[simp] theorem originate_drum (s : State) (f : Frame) : (originate s f).drum = s.drum := (sends_originate s f).drum
@[simp] theorem originate_cams (s : State) (f : Frame) : (originate s f).cams = s.cams := (sends_originate s f).cams
@[simp] theorem originate_roster (s : State) (f : Frame) : (originate s f).roster = s.roster := (sends_originate s f).roster
@[simp] theorem originate_cmp (s : State) (f : Frame) : (originate s f).cmp = s.cmp := (sends_originate s f).cmp
@[simp] theorem originate_pnl (s : State) (f : Frame) : (originate s f).pnl = s.pnl := (sends_originate s f).pnl
@[simp] theorem originate_ser (s : State) (f : Frame) : (originate s f).ser = s.ser := (sends_originate s f).ser
@[simp] theorem originate_dmc (s : State) (f : Frame) : (originate s f).dmc = s.dmc := (sends_originate s f).dmc
@[simp] theorem originate_loft (s : State) (f : Frame) : (originate s f).loft = s.loft := (sends_originate s f).loft
@[simp] theorem originate_cal (s : State) (f : Frame) : (originate s f).cal = s.cal := (sends_originate s f).cal
@[simp] theorem originate_therm (s : State) (f : Frame) : (originate s f).therm = s.therm := (sends_originate s f).therm
@[simp] theorem originate_sec (s : State) (f : Frame) : (originate s f).sec = s.sec := (sends_originate s f).sec
@[simp] theorem originate_power (s : State) (f : Frame) : (originate s f).power = s.power := (sends_originate s f).power
@[simp] theorem originate_nv (s : State) (f : Frame) : (originate s f).nv = s.nv := (sends_originate s f).nv
@[simp] theorem originate_loaded (s : State) (f : Frame) : (originate s f).mech.loaded = s.mech.loaded := (sends_originate s f).loaded
theorem get_originate (s : State) (fr : Frame) {f : Field} (h : reportKey f.key = false) : (originate s fr).get f = s.get f :=
  (sends_originate s fr).reports.get f h

@[simp] theorem logAccess_pending (s : State) (m : Master) (page off code data size : Nat) : (logAccess s m page off code data size).pending = s.pending := (reports_logAccess s m page off code data size).pending
@[simp] theorem logAccess_mem (s : State) (m : Master) (page off code data size : Nat) : (logAccess s m page off code data size).mem = s.mem := (reports_logAccess s m page off code data size).mem
@[simp] theorem logAccess_free (s : State) (m : Master) (page off code data size : Nat) : (logAccess s m page off code data size).free = s.free := (reports_logAccess s m page off code data size).free
@[simp] theorem logAccess_mgmt (s : State) (m : Master) (page off code data size : Nat) : (logAccess s m page off code data size).mgmt = s.mgmt := (reports_logAccess s m page off code data size).mgmt
@[simp] theorem logAccess_pcie (s : State) (m : Master) (page off code data size : Nat) : (logAccess s m page off code data size).pcie = s.pcie := (reports_logAccess s m page off code data size).pcie
@[simp] theorem logAccess_scene (s : State) (m : Master) (page off code data size : Nat) : (logAccess s m page off code data size).scene = s.scene := (reports_logAccess s m page off code data size).scene
@[simp] theorem logAccess_rsy (s : State) (m : Master) (page off code data size : Nat) : (logAccess s m page off code data size).rsy = s.rsy := (reports_logAccess s m page off code data size).rsy
@[simp] theorem logAccess_drum (s : State) (m : Master) (page off code data size : Nat) : (logAccess s m page off code data size).drum = s.drum := (reports_logAccess s m page off code data size).drum
@[simp] theorem logAccess_cams (s : State) (m : Master) (page off code data size : Nat) : (logAccess s m page off code data size).cams = s.cams := (reports_logAccess s m page off code data size).cams
@[simp] theorem logAccess_roster (s : State) (m : Master) (page off code data size : Nat) : (logAccess s m page off code data size).roster = s.roster := (reports_logAccess s m page off code data size).roster
@[simp] theorem logAccess_cmp (s : State) (m : Master) (page off code data size : Nat) : (logAccess s m page off code data size).cmp = s.cmp := (reports_logAccess s m page off code data size).cmp
@[simp] theorem logAccess_pnl (s : State) (m : Master) (page off code data size : Nat) : (logAccess s m page off code data size).pnl = s.pnl := (reports_logAccess s m page off code data size).pnl
@[simp] theorem logAccess_ser (s : State) (m : Master) (page off code data size : Nat) : (logAccess s m page off code data size).ser = s.ser := (reports_logAccess s m page off code data size).ser
@[simp] theorem logAccess_dmc (s : State) (m : Master) (page off code data size : Nat) : (logAccess s m page off code data size).dmc = s.dmc := (reports_logAccess s m page off code data size).dmc
@[simp] theorem logAccess_loft (s : State) (m : Master) (page off code data size : Nat) : (logAccess s m page off code data size).loft = s.loft := (reports_logAccess s m page off code data size).loft
@[simp] theorem logAccess_cal (s : State) (m : Master) (page off code data size : Nat) : (logAccess s m page off code data size).cal = s.cal := (reports_logAccess s m page off code data size).cal
@[simp] theorem logAccess_therm (s : State) (m : Master) (page off code data size : Nat) : (logAccess s m page off code data size).therm = s.therm := (reports_logAccess s m page off code data size).therm
@[simp] theorem logAccess_sec (s : State) (m : Master) (page off code data size : Nat) : (logAccess s m page off code data size).sec = s.sec := (reports_logAccess s m page off code data size).sec
@[simp] theorem logAccess_power (s : State) (m : Master) (page off code data size : Nat) : (logAccess s m page off code data size).power = s.power := (reports_logAccess s m page off code data size).power
@[simp] theorem logAccess_nv (s : State) (m : Master) (page off code data size : Nat) : (logAccess s m page off code data size).nv = s.nv := (reports_logAccess s m page off code data size).nv
@[simp] theorem logAccess_loaded (s : State) (m : Master) (page off code data size : Nat) : (logAccess s m page off code data size).mech.loaded = s.mech.loaded := (reports_logAccess s m page off code data size).loaded
theorem get_logAccess (s : State) (m : Master) (page off code data size : Nat) {f : Field} (h : reportKey f.key = false) : (logAccess s m page off code data size).get f = s.get f := (reports_logAccess s m page off code data size).get f h

theorem get_raise (s : State) (x : Err) {f : Field} (h : reportKey f.key = false) (hc : x.cls ≤ 20) (hs : x.sev ≤ 4) :
    (raise s x).get f = s.get f := (reports_raise s x hc hs).get f h

end Sys2Proof.Machine
end

