-- ==== Sys2Proof/Laws/Access.lean ====
section
/-! SUPPORT. Laws/Access.lean: what a running controller's command comes to, what an interrupt leaves in IRQ_RAW, and what a master's access
to a register page does when nothing but the register's fields judges it. -/

namespace Sys2Proof.Machine

/-- R456 step 7: with the clocks running a command has its effect. -/
theorem live_running {s : State} (h : Running s) (t : State) : live s t = .next t := by
  simp only [Running] at h
  simp [live, h]

theorem hasBit_withBit (v b : Nat) : hasBit (withBit v b) b = true := by
  unfold withBit
  split
  · assumption
  · next h =>
    have hp := Nat.two_pow_pos b
    have e : (v + 2 ^ b) / 2 ^ b = v / 2 ^ b + 1 := by rw [Nat.add_div_right _ hp]
    have h' : ¬ v / 2 ^ b % 2 = 1 := fun q => h (decide_eq_true q)
    show decide ((v + 2 ^ b) / 2 ^ b % 2 = 1) = true
    rw [e]
    exact decide_eq_true (by omega)

theorem withBit_lt {v b w : Nat} (hv : v < 2 ^ w) (hb : b < w) : withBit v b < 2 ^ w := by
  unfold withBit
  split
  · exact hv
  · next h =>
    simp only [hasBit, decide_eq_true_eq] at h
    have hp := Nat.two_pow_pos b
    have hw : 2 ^ w = 2 ^ b * (2 * 2 ^ (w - b - 1)) := by
      rw [← Nat.pow_succ', ← Nat.pow_add]; congr 1; omega
    have h1 : v / 2 ^ b < 2 * 2 ^ (w - b - 1) := by
      rw [Nat.div_lt_iff_lt_mul hp, Nat.mul_comm, ← hw]; exact hv
    have h2 : v / 2 ^ b + 1 < 2 * 2 ^ (w - b - 1) := by omega
    rw [hw, Nat.mul_comm, ← Nat.div_lt_iff_lt_mul hp, Nat.add_div_right _ hp]
    exact h2

/-- R50: what follows a rise leaves every field but those of a frame or message sent. -/
theorem get_onRise (b : State) (v : Nat) (a : State) (hv : v < 2048) {f : Field} (h : sendKey f.key = false) :
    (onRise b v a).get f = a.get f := by
  unfold onRise
  split
  · exact (sends_signalVector a v hv).get f h
  · rfl

/-- A field of the common header is none in which a frame or message is counted. -/
theorem sendKey_low (k : Nat) (h : k / 512 % 4096 < 0x100) : sendKey k = false := by
  have h1 : ¬ 0x100 ≤ k / 512 % 4096 := by omega
  have h2 : ¬ 0x140 ≤ k / 512 % 4096 := by omega
  simp [sendKey, h1, h2]

theorem sendKey_irqRaw (p : Nat) : sendKey (F.IRQ_RAW p).key = false :=
  sendKey_low _ (by simp only [F.IRQ_RAW, fld, Field.key]; omega)

/-- R40: an event's bit in IRQ_RAW. -/
theorem get_raiseIrq_raw (s : State) (p b : Nat) (hb : b < 32) :
    (raiseIrq s p b).get (F.IRQ_RAW p) = withBit (s.get (F.IRQ_RAW p)) b := by
  unfold raiseIrq
  rw [get_onRise _ _ _ (vectorOf_lt s p) (sendKey_irqRaw p), State.get_set_same]
  exact Nat.mod_eq_of_lt (withBit_lt (State.get_lt s (F.IRQ_RAW p)) hb)

/-- R40: an event's bit is set. -/
theorem raiseIrq_hasBit (s : State) (p b : Nat) (hb : b < 32) : hasBit ((raiseIrq s p b).get (F.IRQ_RAW p)) b = true := by
  rw [get_raiseIrq_raw s p b hb]; exact hasBit_withBit _ _

/-- R40: an event changes no other field but those of a frame or message sent. -/
theorem get_raiseIrq_other (s : State) (p b : Nat) {f : Field} (h : f.key ≠ (F.IRQ_RAW p).key) (hs : sendKey f.key = false) :
    (raiseIrq s p b).get f = s.get f := by
  unfold raiseIrq
  rw [get_onRise _ _ _ (vectorOf_lt s p) hs, State.get_set_ne _ _ h]
  rfl

/-! ### Frames -/

/-- A state with the same memories keeps every byte. -/
theorem keepsBytes_of_mem {s t : State} (h : t.mem = s.mem) : KeepsBytes s t := by
  intro a; rw [h]; exact ⟨rfl, rfl, rfl⟩

/-- What only reports may change, and fields that may. -/
theorem Touches.keeps {may other : Nat → Bool} {s t : State} (h : Touches may s t)
    (hm : ∀ k, other k = false → reportKey k = false → may k = false) : Keeps other s t :=
  ⟨fun f ho hr => h.get f (hm _ ho hr), keepsBytes_of_mem h.mem⟩

/-- What only reports change. -/
theorem Touches.keepsReported {may : Nat → Bool} {s t : State} (h : Reports s t) : Keeps may s t := h.keeps (fun _ _ hr => hr)

theorem ofFields_self (f : Field) (l : List Field) : ofFields (f :: l) f.key = true := by simp [ofFields]

/-- A field that a list of fields does not hold. -/
theorem ne_of_ofFields {l : List Field} {f g : Field} (h : ofFields l f.key = false) (hg : g ∈ l) : f.key ≠ g.key := by
  intro e
  have : ofFields l f.key = true := by
    simp only [ofFields, List.any_eq_true, decide_eq_true_eq]
    exact ⟨g, hg, e.symm⟩
  rw [h] at this; exact Bool.noConfusion this

theorem sends_reevaluate (s : State) (v : Nat) (h : v < 2048) : Sends s (reevaluate s v) := by
  unfold reevaluate
  split
  · exact sends_signalVector s v h
  · exact Touches.refl _ s

/-! ### Writes -/

/-- R4 to R45: a word written to an implemented page that the master may write as a whole. -/
theorem writeAccess_word (s : State) (m : Master) (a d : Nat) (h4 : a % 4 = 0) (hi : pageImplemented (a / 0x1000) = true)
    (hm : s.isMember = true → m = .pcie → ctrlPage (a / 0x1000) = false) (hw : s.pageWorld (a / 0x1000) = 0 → m.secure = true) :
    writeAccess s m a 4 d =
      ⟨logDrop (writeWord m a (d % 2 ^ 32) ⟨s, [], none⟩).s m a d 4 (writeWord m a (d % 2 ^ 32) ⟨s, [], none⟩).drop,
        (writeWord m a (d % 2 ^ 32) ⟨s, [], none⟩).took, (writeWord m a (d % 2 ^ 32) ⟨s, [], none⟩).drop⟩ := by
  have h1 : accessAligned a 4 = true := by simp [accessAligned, h4]
  have h2 : (s.isMember && decide (m = .pcie) && ctrlPage (a / 0x1000)) = false := by
    cases hx : s.isMember
    · rfl
    · by_cases hp : m = .pcie
      · simp [hm hx hp]
      · simp [hp]
  have h3 : (decide (s.pageWorld (a / 0x1000) = 0) && !m.secure) = false := by
    by_cases hx : s.pageWorld (a / 0x1000) = 0
    · simp [hw hx]
    · simp [hx]
  simp only [writeAccess]
  rw [h1, hi, h2, h3]
  rfl

/-- A word that lies in a row, not in IRQ_CLR. -/
theorem writeWord_row (s : State) (m : Master) (a d : Nat) (h : RowHit) (hf : findRow a = some h)
    (hc : ¬ (a % 0x1000 = 0x01C ∧ pageHasHeader (a / 0x1000) = true)) :
    writeWord m a d ⟨s, [], none⟩ =
      ⟨routerAfter s (writeReg s m h [(h.piece, d)]).s a, (writeReg s m h [(h.piece, d)]).took, (writeReg s m h [(h.piece, d)]).drop⟩ := by
  simp only [writeWord]
  rw [if_neg hc, hf]
  simp [Option.or]

/-- R45: a 32-bit register whose fields all took the write, and whose block does not refuse it. -/
theorem writeReg_narrow (s : State) (m : Master) (h : RowHit) (now : Map) (hb : h.bits ≤ 32)
    (hr : registerRule s m h.base now = none) : writeReg s m h now = writeFields m now h.fields ⟨s, [], none⟩ := by
  simp only [writeReg, gatherPieces, hb, if_true]
  rw [hr]
  split <;> rfl

/-- The value that a write of a 32-bit register's word brings to a field. -/
theorem fieldWritten_word (s : State) (f : Field) (d : Nat) (h : f.lo + f.w ≤ 32) (hw : 0 < f.w) (hd : d < 2 ^ 32) :
    fieldWritten s f [(0, d)] = some (d / 2 ^ f.lo % 2 ^ f.w) := by
  have hlo : f.lo / 32 = 0 := by omega
  have key : ((List.range (f.w / 32 + 2)).map (fun j => f.lo / 32 + j)).filter
      (fun j => decide (32 * j < f.lo + f.w) && (mapGet [(0, d)] j).isSome) = [0] := by
    rw [hlo]
    have e : List.range (f.w / 32 + 2) = 0 :: (List.range (f.w / 32 + 1)).map Nat.succ := List.range_succ_eq_map
    have hz : ((List.range (f.w / 32 + 1)).map Nat.succ).filter
        (fun j => decide (32 * j < f.lo + f.w) && (mapGet [(0, d)] j).isSome) = [] := by
      rw [List.filter_eq_nil_iff]
      intro j hj
      rw [List.mem_map] at hj
      obtain ⟨i, -, rfl⟩ := hj
      simp [mapGet]
    simp only [Nat.zero_add, List.map_id', e, List.filter_cons, hz]
    simp [mapGet]
    omega
  simp only [fieldWritten]
  rw [key]
  simp only [List.isEmpty_cons, Bool.false_eq_true, if_false, List.foldl_cons, List.foldl_nil, Nat.mul_zero]
  congr 1
  have hv : mapVal [(0, d)] 0 = d := by simp [mapVal, mapGet]
  rw [hv]
  simp only [withBits, bitsOf, Nat.zero_add, Nat.pow_zero, Nat.mul_one, Nat.mod_one, Nat.add_zero]
  rw [Nat.mod_eq_of_lt hd]
  generalize (match f.acc with | .wo => 0 | .w1c => 0 | .w1s => 0 | _ => fieldNow s f) * 2 ^ f.lo / 2 ^ 32 = c
  have hs : (2 : Nat) ^ 32 = 2 ^ f.lo * (2 ^ f.w * 2 ^ (32 - f.lo - f.w)) := by
    rw [← Nat.pow_add, ← Nat.pow_add]; congr 1; omega
  have hp := Nat.two_pow_pos f.lo
  rw [show c * 2 ^ 32 + d = d + 2 ^ f.lo * (2 ^ f.w * (2 ^ (32 - f.lo - f.w) * c)) by rw [hs]; ac_rfl]
  rw [Nat.add_mul_div_left _ _ hp, Nat.add_mul_mod_self_left]

/-- Two words put together. -/
theorem bitsOf_two (c x y : Nat) (hx : x < 2 ^ 32) (hy : y < 2 ^ 32) :
    bitsOf (withBits (withBits c 0 32 x) 32 32 y) 0 64 = y * 2 ^ 32 + x := by
  simp only [withBits, bitsOf, Nat.mul_one, Nat.zero_add, Nat.pow_zero, Nat.mod_one, Nat.add_zero, Nat.div_one]
  rw [Nat.mod_eq_of_lt hx, Nat.mod_eq_of_lt hy]
  have e64' : (2 : Nat) ^ (32 + 32) = 2 ^ 32 * 2 ^ 32 := by rw [← Nat.pow_add]
  rw [e64']
  generalize (2 : Nat) ^ 32 = M at hx hy
  have hr : (c / M * M + x) % M = x := by rw [Nat.mul_comm, Nat.mul_add_mod, Nat.mod_eq_of_lt hx]
  have hl : y * M + x < M * M := by
    have : (y + 1) * M ≤ M * M := Nat.mul_le_mul_right _ hy
    rw [Nat.add_mul, Nat.one_mul] at this
    exact Nat.lt_of_lt_of_le (Nat.add_lt_add_left hx _) this
  rw [hr, Nat.add_assoc, Nat.mul_comm _ (M * M), Nat.mul_add_mod, Nat.mod_eq_of_lt hl]

/-- The value that both words of a write bring to a field of 64 bits. -/
theorem fieldWritten_pair (s : State) (f : Field) (x y : Nat) (h : f.lo = 0) (hw : f.w = 64) (hx : x < 2 ^ 32) (hy : y < 2 ^ 32) :
    fieldWritten s f [(0, x), (1, y)] = some (y * 2 ^ 32 + x) := by
  have k1 : ((List.range (f.w / 32 + 2)).map (fun j => f.lo / 32 + j)).filter
      (fun j => decide (32 * j < f.lo + f.w) && (mapGet [(0, x), (1, y)] j).isSome) = [0, 1] := by
    rw [h, hw]
    rfl
  have h0 : mapVal [(0, x), (1, y)] 0 = x := rfl
  have h1 : mapVal [(0, x), (1, y)] 1 = y := rfl
  unfold fieldWritten
  dsimp only
  rw [k1]
  rw [if_neg (by simp)]
  rw [List.foldl_cons, List.foldl_cons, List.foldl_nil, h0, h1, h, hw]
  rw [Nat.mul_zero, Nat.mul_one, bitsOf_two _ _ _ hx hy]

/-- A field that takes what is written. -/
theorem writeFields_take (m : Master) (ps : Map) (f : Field) (fs : List Field) (w : Written) {v u : Nat}
    (h : fieldWritten w.s f ps = some v) (hj : judgeField w.s m f v = .take u) (hr : fieldRule w.s f u = none) :
    writeFields m ps (f :: fs) w = writeFields m ps fs ⟨storeField w.s f u, w.took ++ [(f, u)], w.drop⟩ := by
  simp only [writeFields, h, hj, hr]

/-- A field that ignores what is written. -/
theorem writeFields_skip (m : Master) (ps : Map) (f : Field) (fs : List Field) (w : Written) {v : Nat}
    (h : fieldWritten w.s f ps = some v) (hj : judgeField w.s m f v = .skip) :
    writeFields m ps (f :: fs) w = writeFields m ps fs w := by
  simp only [writeFields, h, hj]

/-- A field in a piece that is not written. -/
theorem writeFields_absent (m : Master) (ps : Map) (f : Field) (fs : List Field) (w : Written) (h : fieldWritten w.s f ps = none) :
    writeFields m ps (f :: fs) w = writeFields m ps fs w := by
  simp only [writeFields, h]

/-- R45: a field of a page that the master owns takes a defined value. -/
theorem judgeField_owned (s : State) (m : Master) (f : Field) (v : Nat) (ha : f.acc ≠ .ro ∧ f.acc ≠ .rc ∧ f.acc ≠ .srw ∧ f.acc ≠ .rwl)
    (ho : f.plain = true ∨ ownsPage s m (f.addr / 0x1000) = true) (hl : f.legal.ok v = true) : judgeField s m f v = .take v := by
  have hp : (!f.plain && !ownsPage s m (f.addr / 0x1000)) = false := by
    rcases ho with h | h <;> simp [h]
  cases hx : f.acc <;> simp_all [judgeField]

/-- R7: a read-only field ignores what is written. -/
theorem judgeField_ro (s : State) (m : Master) (f : Field) (v : Nat) (ha : f.acc = .ro ∨ f.acc = .rc) : judgeField s m f v = .skip := by
  rcases ha with h | h <;> simp [judgeField, h]

/-- Nothing follows a write of a header register but what the interrupt router does. -/
theorem afterWrite_header (s : State) (m : Master) (base : Nat) (w : Written) (h : base % 0x1000 < 0x100) : afterWrite s m base w = w := by
  have : (if base < 0xC0000 then afterLow s m base w else afterHigh s m base w) = w.s := by
    split
    · unfold afterLow
      dsimp only
      repeat (first | rfl | (rw [if_neg (by omega)]))
    · unfold afterHigh
      dsimp only
      repeat (first | rfl | (rw [if_neg (by omega)]))
  cases w
  simp only [afterWrite, this]

theorem pageImplemented_of_header {page : Nat} (h : pageHasHeader page = true) : pageImplemented page = true := by
  simp only [pageHasHeader, Bool.and_eq_true] at h
  exact h.1

/-- No block refuses the write of a header register, but a plane page of a yard member's a host write (R228). -/
theorem registerRule_header (s : State) (m : Master) (page off : Nat) (ps : Map) (ho : off < 0x100)
    (hp : 0xB1 ≤ page → page ≤ 0xB8 → s.isMember = true → m.host = false) : registerRule s m (page * 0x1000 + off) ps = none := by
  have h1 : (page * 0x1000 + off) / 0x1000 = page := by omega
  have h2 : (page * 0x1000 + off) % 0x1000 = off := by omega
  unfold registerRule
  rw [h1, h2, if_neg (by omega)]
  split
  · next h =>
    have : (s.isMember && m.host) = false := by
      cases hx : s.isMember
      · rfl
      · simp [hp h.1 h.2 hx]
    rw [this, if_neg (by simp), if_neg (by omega)]
  · have hl : [0x10C, 0x110, 0x118, 0x120, 0x124].contains off = false := by
      simp; omega
    have hps : pagesRule s m (page * 0x1000 + off) ps = none := by
      unfold pagesRule
      dsimp only
      rw [h1, h2]
      repeat (first | rfl | (rw [if_neg (by omega)]))
    rw [hps, hl]
    split
    · dsimp only
      repeat (first | rfl | (rw [if_neg (by omega)]))
    · have hs := State.get_lt s F.DMC_SPEED_ACTIVE
      simp only [F.DMC_SPEED_ACTIVE, fld] at hs
      rw [if_neg (by simp), if_neg (by omega), if_neg (by omega), if_neg (by omega), if_neg (by simp only [F.DMC_SPEED_ACTIVE, fld]; omega),
        if_neg (by omega)]

/-- No block refuses a field of a header register. -/
theorem fieldRule_header (s : State) (f : Field) (v : Nat) (hf : f.addr % 0x1000 < 0x100) (hl : f.lo < 512) : fieldRule s f v = none := by
  have hk : f.key / 512 % 0x1000 = f.addr % 0x1000 := by simp only [Field.key]; omega
  unfold fieldRule
  rw [if_neg (fun e => ?_), if_neg (by clear hk; omega), if_neg (fun e => ?_), if_neg (by clear hk; omega)]
  · rw [e.1] at hk
    have : F.DRU_REQ_RPM.key / 512 % 0x1000 = 0x100 := by decide
    omega
  · rw [e.1] at hk
    have : F.QMG_CTRL_ENABLE.key / 512 % 0x1000 = 0x108 := by decide
    omega

/-- A header register's address names its row. -/
theorem findRow_header (page off : Nat) (hh : pageHasHeader page = true) (ho : off < 0x100) :
    findRow (page * 0x1000 + off) = headerHit page off := by
  have hp : (page * 0x1000 + off) / 0x1000 = page := by omega
  have hq : (page * 0x1000 + off) % 0x1000 = off := by omega
  have hn : ¬ (0x008 ≤ page ∧ page ≤ 0x00F) := by
    intro hx
    simp [pageHasHeader, hx.1, hx.2] at hh
  simp only [findRow]
  rw [hp, hq, if_neg hn, if_neg (by omega), hh]
  simp [ho]

/-- A write of a header register but IRQ_CLR. -/
theorem regWrite_header (s : State) (m : Master) (page off d : Nat) (h : RowHit) (hh : pageHasHeader page = true) (ho : off < 0x100)
    (h4 : off % 4 = 0) (hc : off ≠ 0x01C) (hf : headerHit page off = some h) (hb : h.base = page * 0x1000 + off) (hd : d < 2 ^ 32)
    (hm : s.isMember = true → m = .pcie → ctrlPage page = false) (hw : s.pageWorld page = 0 → m.secure = true) :
    regWrite s m (page * 0x1000 + off) 4 d =
      logDrop (routerAfter s (writeReg s m h [(h.piece, d)]).s (page * 0x1000 + off)) m (page * 0x1000 + off) d 4
        (writeReg s m h [(h.piece, d)]).drop := by
  have hp : (page * 0x1000 + off) / 0x1000 = page := by omega
  have hq : (page * 0x1000 + off) % 0x1000 = off := by omega
  have hr := (findRow_header page off hh ho).trans hf
  have hwa := writeAccess_word s m (page * 0x1000 + off) d (by omega) (by rw [hp]; exact pageImplemented_of_header hh) (by rw [hp]; exact hm)
    (by rw [hp]; exact hw)
  rw [writeWord_row _ _ _ _ _ hr (by rw [hq]; exact fun e => hc e.1), Nat.mod_eq_of_lt hd] at hwa
  simp only [regWrite, hwa]
  split
  · rfl
  · have hl : ([h.base] ++ if (none : Option Nat) = some h.base then [] else (none : Option Nat).toList) = [h.base] := by simp
    simp only [touched, hr, Option.map_some, Option.toList_some, show ¬ (4 : Nat) = 8 by decide, if_false]
    rw [hl, List.foldl_cons, List.foldl_nil, afterWrite_header _ _ _ _ (by rw [hb, hq]; exact ho)]

/-- Nothing follows a write that no register took. -/
theorem regWrite_none (s : State) (m : Master) (addr size data : Nat) (h : (writeAccess s m addr size data).took = []) :
    regWrite s m addr size data = (writeAccess s m addr size data).s := by
  simp [regWrite, h]

/-- R4: an access of another size or alignment is logged, and that is all. -/
theorem regWrite_misaligned (s : State) (m : Master) (addr size data : Nat) (h : accessAligned addr size = false) :
    regWrite s m addr size data = logAccess s m (addr / 0x1000) (addr % 0x1000) 0x01 data size := by
  have : writeAccess s m addr size data = ⟨logAccess s m (addr / 0x1000) (addr % 0x1000) 0x01 data size, [], some 0x01⟩ := by
    simp [writeAccess, h]
  rw [regWrite_none _ _ _ _ _ (by rw [this]), this]

/-- R40: the capture of the first error on a page. -/
theorem get_capturePage (s : State) (page code master off i0 i1 i3 : Nat) (hh : pageHasHeader page = true)
    (hv : s.get (F.ERR_FIRST_VALID page) = 0) :
    (capturePage s page code master off i0 i1 i3).get (F.ERR_FIRST_VALID page) = 1 ∧
    (capturePage s page code master off i0 i1 i3).get (F.ERR_FIRST_CODE page) = code % 2 ^ 7 ∧
    (capturePage s page code master off i0 i1 i3).get (F.ERR_FIRST_MASTER page) = master % 2 ^ 4 ∧
    (capturePage s page code master off i0 i1 i3).get (F.ERR_FIRST_OFFSET page) = off % 2 ^ 12 ∧
    (capturePage s page code master off i0 i1 i3).get (F.ERR_INFO page 0) = i0 % 2 ^ 32 ∧
    (capturePage s page code master off i0 i1 i3).get (F.ERR_INFO page 1) = i1 % 2 ^ 32 ∧
    (capturePage s page code master off i0 i1 i3).get (F.ERR_INFO page 2) = s.now % 2 ^ 32 ∧
    (capturePage s page code master off i0 i1 i3).get (F.ERR_INFO page 3) = i3 % 2 ^ 32 ∧
    hasBit ((capturePage s page code master off i0 i1 i3).get (F.IRQ_RAW page)) 30 = true := by
  have hn : s.on (F.ERR_FIRST_VALID page) = false := by simp [State.on, hv]
  unfold capturePage
  rw [if_pos hh, hn]
  simp only [Bool.false_eq_true, if_false, State.setAll_cons, State.setAll_nil]
  refine ⟨?_, ?_, ?_, ?_, ?_, ?_, ?_, ?_, raiseIrq_hasBit _ _ _ (by decide)⟩
  all_goals
    rw [get_raiseIrq_other _ _ _ (by simp only [F.ERR_FIRST_VALID, F.ERR_FIRST_CODE, F.ERR_FIRST_MASTER, F.ERR_FIRST_OFFSET, F.ERR_INFO, F.IRQ_RAW, fld, Field.key]; omega)
      (sendKey_low _ (by simp only [F.ERR_FIRST_VALID, F.ERR_FIRST_CODE, F.ERR_FIRST_MASTER, F.ERR_FIRST_OFFSET, F.ERR_INFO, fld, Field.key]; omega))]
    repeat
      first
        | rw [State.get_set_same]; rfl
        | rw [State.get_set_ne _ _ (by simp only [F.ERR_FIRST_VALID, F.ERR_FIRST_CODE, F.ERR_FIRST_MASTER, F.ERR_FIRST_OFFSET, F.ERR_INFO, fld, Field.key]; omega)]

/-- R37: the capture of a host access changes no page's capture. -/
theorem get_captureHost (s : State) (code master page off : Nat) {f : Field} (h : f.key / 512 % 4096 < 0x100) :
    (captureHost s code master page off).get f = s.get f := by
  have hk : ∀ g : Field, 0x100 ≤ g.key / 512 % 4096 → f.key ≠ g.key := by
    intro g hg e; rw [e] at h; omega
  unfold captureHost
  dsimp only
  split
  · exact State.get_bump_ne _ (hk _ (by decide))
  · rw [State.get_setAll_ne, State.get_bump_ne _ (hk _ (by decide))]
    intro p hp
    simp only [List.mem_cons, List.not_mem_nil, or_false] at hp
    rcases hp with hp | hp | hp | hp | hp <;> rw [hp] <;> exact hk _ (by dsimp only; decide)

/-- R40, R41: the first access error on a page with a header. -/
theorem get_logAccess_first (s : State) (m : Master) (page off code data size : Nat) (hh : pageHasHeader page = true)
    (hv : s.get (F.ERR_FIRST_VALID page) = 0) :
    (logAccess s m page off code data size).get (F.ERR_FIRST_VALID page) = 1 ∧
    (logAccess s m page off code data size).get (F.ERR_FIRST_CODE page) = code % 2 ^ 7 ∧
    (logAccess s m page off code data size).get (F.ERR_FIRST_MASTER page) = m.code % 2 ^ 4 ∧
    (logAccess s m page off code data size).get (F.ERR_FIRST_OFFSET page) = off % 2 ^ 12 ∧
    (logAccess s m page off code data size).get (F.ERR_INFO page 0) = data % 2 ^ 32 % 2 ^ 32 ∧
    (logAccess s m page off code data size).get (F.ERR_INFO page 1) = data / 2 ^ 32 % 2 ^ 32 ∧
    (logAccess s m page off code data size).get (F.ERR_INFO page 2) = s.now % 2 ^ 32 ∧
    (logAccess s m page off code data size).get (F.ERR_INFO page 3) = size % 256 % 2 ^ 32 ∧
    hasBit ((logAccess s m page off code data size).get (F.IRQ_RAW page)) 30 = true := by
  have h := get_capturePage s page code m.code off (data % 2 ^ 32) (data / 2 ^ 32) (size % 256) hh hv
  unfold logAccess
  dsimp only
  split
  · refine ⟨?_, ?_, ?_, ?_, ?_, ?_, ?_, ?_, ?_⟩
    all_goals
      rw [get_captureHost _ _ _ _ _ (by simp only [F.ERR_FIRST_VALID, F.ERR_FIRST_CODE, F.ERR_FIRST_MASTER, F.ERR_FIRST_OFFSET, F.ERR_INFO, F.IRQ_RAW, fld, Field.key]; omega)]
    · exact h.1
    · exact h.2.1
    · exact h.2.2.1
    · exact h.2.2.2.1
    · exact h.2.2.2.2.1
    · exact h.2.2.2.2.2.1
    · exact h.2.2.2.2.2.2.1
    · exact h.2.2.2.2.2.2.2.1
    · exact h.2.2.2.2.2.2.2.2
  · exact h

/-! ### Reads -/

/-- A register's address names none of the header words that hold no field. -/
theorem headerWord_of_findRow (s : State) (a : Nat) (h : RowHit) (hf : findRow a = some h) :
    (if pageHasHeader (a / 0x1000) && decide (a % 0x1000 < 0x100) then headerWord s (a / 0x1000) (a % 0x1000) else none) = none := by
  split
  · next hc =>
    simp only [Bool.and_eq_true, decide_eq_true_eq] at hc
    have hf' := hf
    rw [show a = a / 0x1000 * 0x1000 + a % 0x1000 by omega, findRow_header _ _ hc.1 hc.2] at hf'
    generalize a % 0x1000 = off at hf'
    unfold headerHit at hf'
    dsimp only at hf'
    unfold headerWord
    split <;> simp_all
  · rfl

/-- R4: a word read from a page that the master may read. -/
theorem readAccess_word (s : State) (m : Master) (a found : Nat) (h4 : a % 4 = 0) (hm : MayRead s m (a / 0x1000)) :
    readAccess s m a 4 found = readWord s m a found := by
  have h1 : accessAligned a 4 = true := by simp [accessAligned, h4]
  have h3 : (decide (s.pageWorld (a / 0x1000) = 0) && !m.secure) = false := by
    by_cases hx : s.pageWorld (a / 0x1000) = 0
    · simp [hm.2 hx]
    · simp [hx]
  simp only [readAccess]
  rw [h1, hm.1, h3]
  rfl

/-- R5: a word of a register whose read does nothing else. -/
theorem readWord_plain (s : State) (m : Master) (a found : Nat) (h : RowHit) (hf : findRow a = some h) (hp : PlainRead s m a h) :
    readWord s m a found = readPiece s m h found := by
  obtain ⟨hl, h1, h2, -, -⟩ := hp
  have hb : ∀ t : State, captureBeside t m a = t := by
    intro t
    have e1 : a ≠ 0x181120 := fun e => by subst e; simp [liveWord] at hl
    have e2 : a ≠ 0xA3100 := fun e => by subst e; simp [liveWord] at hl
    unfold captureBeside
    rw [if_neg h1, if_neg e1, if_neg e2, if_neg h2]
  simp only [readWord]
  rw [headerWord_of_findRow s a h hf, hl]
  simp only [Option.or, hf, hb]

/-- R7: a read's clearing of a register's RC fields. -/
theorem get_clearRc (s : State) (fs : List Field) (g : Field) :
    ((∃ f ∈ fs, f.acc = .rc ∧ f.key = g.key) → (clearRc s fs).get g = 0) ∧
    ((¬ ∃ f ∈ fs, f.acc = .rc ∧ f.key = g.key) → (clearRc s fs).get g = s.get g) := by
  have gen : ∀ (l : List Field) (r : Map),
      ((∃ f ∈ l, f.acc = .rc ∧ f.key = g.key) → mapGet (l.foldl (fun r f => if f.acc = .rc then mapPut r f.key 0 else r) r) g.key = some 0) ∧
      ((¬ ∃ f ∈ l, f.acc = .rc ∧ f.key = g.key) →
        mapGet (l.foldl (fun r f => if f.acc = .rc then mapPut r f.key 0 else r) r) g.key = mapGet r g.key) := by
    intro l
    induction l with
    | nil => intro r; exact ⟨fun ⟨f, hf, _⟩ => absurd hf (by simp), fun _ => rfl⟩
    | cons f l ih =>
      intro r
      simp only [List.foldl_cons]
      obtain ⟨ih1, ih2⟩ := ih (if f.acc = .rc then mapPut r f.key 0 else r)
      by_cases hl : ∃ f ∈ l, f.acc = .rc ∧ f.key = g.key
      · refine ⟨fun _ => ih1 hl, fun hn => absurd ?_ hn⟩
        obtain ⟨x, hx, hy⟩ := hl
        exact ⟨x, List.mem_cons_of_mem _ hx, hy⟩
      · rw [ih2 hl]
        by_cases hf : f.acc = .rc
        · rw [if_pos hf]
          by_cases hk : f.key = g.key
          · refine ⟨fun _ => by rw [hk]; exact mapGet_mapPut_same _ _ _, fun hn => absurd ⟨f, List.mem_cons_self .., hf, hk⟩ hn⟩
          · rw [mapGet_mapPut_ne _ _ (fun e => hk e.symm)]
            refine ⟨fun ⟨x, hx, hy⟩ => ?_, fun _ => rfl⟩
            rcases List.mem_cons.1 hx with e | e
            · subst e; exact absurd hy.2 hk
            · exact absurd ⟨x, e, hy⟩ hl
        · rw [if_neg hf]
          refine ⟨fun ⟨x, hx, hy⟩ => ?_, fun _ => rfl⟩
          rcases List.mem_cons.1 hx with e | e
          · subst e; exact absurd hy.1 hf
          · exact absurd ⟨x, e, hy⟩ hl
  obtain ⟨g1, g2⟩ := gen fs s.regs
  constructor
  · intro h
    simp only [State.get, State.raw, clearRc, g1 h, Nat.zero_mod]
  · intro h
    simp only [State.get, State.raw, clearRc, g2 h]

/-! ### Rows by page -/

/-- A row holds offsets of its own pages only. -/
theorem findSome_rows (l : List Reg) (page off : Nat) :
    l.findSome? (fun r => r.hit page off) =
      (l.filter (fun r => decide (r.pLo ≤ page) && decide (page ≤ r.pHi))).findSome? (fun r => r.hit page off) := by
  induction l with
  | nil => rfl
  | cons r l ih =>
    rw [List.findSome?_cons, ih]
    by_cases h : r.pLo ≤ page ∧ page ≤ r.pHi
    · rw [List.filter_cons_of_pos (by simp [h.1, h.2]), List.findSome?_cons]
    · rw [List.filter_cons_of_neg (by simp only [Bool.and_eq_true, decide_eq_true_eq]; exact h)]
      have : r.hit page off = none := by
        unfold Reg.hit
        rw [if_neg (fun e => h ⟨e.1, e.2.1⟩)]
      rw [this]

/-- An address past the header of a page names a row of that page. -/
theorem findRow_rows (page off : Nat) (ho : 0x100 ≤ off) (ho' : off < 0x1000) (hp : 0x010 ≤ page)
    (hi : 0x090 ≤ page → page ≤ 0x097 → page % 2 = 1 → 0x214 ≤ off) :
    findRow (page * 0x1000 + off) =
      (regRows.filter (fun r => decide (r.pLo ≤ page) && decide (page ≤ r.pHi))).findSome? (fun r => r.hit page off) := by
  have h1 : (page * 0x1000 + off) / 0x1000 = page := by omega
  have h2 : (page * 0x1000 + off) % 0x1000 = off := by omega
  have h3 : (pageHasHeader page && decide (off < 0x100)) = false := by
    rw [decide_eq_false (by omega)]; simp
  simp only [findRow]
  rw [h1, h2, if_neg (by omega), if_neg (by omega), h3, ← findSome_rows]
  rw [if_neg (by simp), if_neg (by omega)]

/-! ### Pages whose registers no block's rule judges and nothing follows -/

/-- The pages below 0x070 but for GLB, HIF's mailbox, QMG's context command, its completion rings and LAY.FENCE_MAX: no block refuses the
write of a register there. -/
theorem registerRule_low (s : State) (m : Master) (b : Nat) (ps : Map) (h : b < 0x70000) (h1 : b ≠ 0x110) (h2 : b ≠ 0x2110) (h3 : b ≠ 0x21100) :
    registerRule s m b ps = none := by
  have hs := State.get_lt s F.DMC_SPEED_ACTIVE
  simp only [F.DMC_SPEED_ACTIVE, fld] at hs
  have hps : pagesRule s m b ps = none := by
    unfold pagesRule
    dsimp only
    repeat (first | rfl | (rw [if_neg (by omega)]))
  unfold registerRule
  rw [hps]
  rw [if_neg h3, if_neg (by omega), if_neg (by omega), if_neg (by omega), if_neg (by omega), if_neg (by omega), if_neg (by omega),
    if_neg (by simp only [F.DMC_SPEED_ACTIVE, fld]; omega), if_neg (by omega)]

/-- Nothing follows a write of a register there. -/
theorem afterWrite_low (s : State) (m : Master) (b : Nat) (w : Written) (h : b < 0x70000) (h1 : b ≠ 0x110) (h2 : b ≠ 0x2110) (h3 : b ≠ 0x21100)
    (h4 : b < 0x30000 ∨ 0x40000 ≤ b) (h5 : b < 0x52000 ∨ 0x53000 ≤ b) : afterWrite s m b w = w := by
  have : (if b < 0xC0000 then afterLow s m b w else afterHigh s m b w) = w.s := by
    rw [if_pos (by omega)]
    unfold afterLow
    dsimp only
    repeat (first | rfl | (rw [if_neg (by omega)]))
  cases w
  simp only [afterWrite, this]

/-- No block refuses a field there but QMG.CTRL.ENABLE. -/
theorem fieldRule_low (s : State) (f : Field) (v : Nat) (h : f.addr < 0x70000) (h1 : f.key ≠ F.QMG_CTRL_ENABLE.key) (hl : f.lo < 512) :
    fieldRule s f v = none := by
  have k2 : F.DRU_REQ_RPM.key = 0x80100 * 512 := by decide
  have hk : f.key = f.addr * 512 + f.lo := rfl
  unfold fieldRule
  rw [k2, if_neg (fun e => h1 e.1), if_neg (by omega), if_neg (by omega), if_neg (by omega)]

/-- R45: a word written to a 32-bit register past its page's header, where no block refuses it. -/
theorem regWrite_row (s : State) (m : Master) (b d : Nat) (h : RowHit) (hf : findRow b = some h) (h4 : b % 4 = 0)
    (hc : ¬ (b % 0x1000 = 0x01C ∧ pageHasHeader (b / 0x1000) = true))
    (hbs : h.base = b) (hi : pageImplemented (b / 0x1000) = true) (hm : s.isMember = true → m = .pcie → ctrlPage (b / 0x1000) = false)
    (hw : s.pageWorld (b / 0x1000) = 0 → m.secure = true) (w : Written) (hr : writeReg s m h [(h.piece, d % 2 ^ 32)] = w) :
    regWrite s m b 4 d =
      if w.took.isEmpty then logDrop (routerAfter s w.s b) m b d 4 w.drop
      else (afterWrite s m b ⟨logDrop (routerAfter s w.s b) m b d 4 w.drop, w.took, w.drop⟩).s := by
  have hwa := writeAccess_word s m b d h4 hi hm hw
  rw [writeWord_row _ _ _ _ _ hf hc, hr] at hwa
  unfold regWrite
  rw [hwa]
  dsimp only
  have hl : ([b] ++ if (none : Option Nat) = some b then [] else (none : Option Nat).toList) = [b] := by simp
  simp only [touched, hf, Option.map_some, Option.toList_some, show ¬ (4 : Nat) = 8 by decide, if_false, hbs]
  rw [hl, List.foldl_cons, List.foldl_nil]

end Sys2Proof.Machine
end

