-- ==== Sys2Proof/Laws/Frame.lean ====
section
/-! SUPPORT. Laws/Frame.lean: what a chain of named updates leaves as it was, one lemma per update, in the terms of the statements: a register
set that may change, a counter, an interrupt, an error, a frame that leaves. -/

namespace Sys2Proof.Machine

theorem ofFields_mem {l : List Field} {f : Field} (h : f ∈ l) : ofFields l f.key = true := by
  simp only [ofFields, List.any_eq_true, decide_eq_true_eq]
  exact ⟨f, h, rfl⟩

theorem Keeps.refl (may : Nat → Bool) (s : State) : Keeps may s s := ⟨fun _ _ _ => rfl, fun _ => ⟨rfl, rfl, rfl⟩⟩

theorem Keeps.trans {may : Nat → Bool} {s t u : State} (h : Keeps may s t) (g : Keeps may t u) : Keeps may s u :=
  ⟨fun f a b => (g.1 f a b).trans (h.1 f a b), fun a => ⟨(g.2 a).1.trans (h.2 a).1, (g.2 a).2.1.trans (h.2 a).2.1, (g.2 a).2.2.trans (h.2 a).2.2⟩⟩

theorem Keeps.mono {may may' : Nat → Bool} {s t : State} (h : Keeps may s t) (hm : ∀ k, may' k = false → may k = false) : Keeps may' s t :=
  ⟨fun f a b => h.1 f (hm _ a) b, h.2⟩

theorem Keeps.noField {may : Nat → Bool} {s t : State} (h : Keeps noField s t) : Keeps may s t := h.mono (fun _ _ => rfl)

/-- A step that changes no register and no memory. -/
theorem Keeps.same {may : Nat → Bool} {s t u : State} (h : Keeps may s t) (hr : u.regs = t.regs) (hl : u.mech.loaded = t.mech.loaded)
    (hm : u.mem = t.mem) : Keeps may s u :=
  h.trans ⟨fun f _ _ => State.get_congr hr hl f, keepsBytes_of_mem hm⟩

/-- A step that touches only what may change. -/
theorem Keeps.touches {may other : Nat → Bool} {s t u : State} (h : Keeps may s t) (g : Touches other t u)
    (hm : ∀ k, may k = false → reportKey k = false → other k = false) : Keeps may s u := h.trans (g.keeps hm)

theorem Keeps.reports {may : Nat → Bool} {s t u : State} (h : Keeps may s t) (g : Reports t u) : Keeps may s u := h.touches g (fun _ _ hr => hr)

theorem Keeps.set {may : Nat → Bool} {s t : State} (h : Keeps may s t) {f : Field} (v : Nat) (hf : may f.key = true) : Keeps may s (t.set f v) :=
  h.touches (touches_set t f v hf) (fun _ a _ => a)

theorem Keeps.setAll {may : Nat → Bool} {s t : State} (h : Keeps may s t) (l : List (Field × Nat)) (hf : ∀ p ∈ l, may p.1.key = true) :
    Keeps may s (t.setAll l) := h.touches (touches_setAll t l hf) (fun _ a _ => a)

theorem Keeps.bump {may : Nat → Bool} {s t : State} (h : Keeps may s t) {f : Field} (hf : may f.key = true) : Keeps may s (t.bump f) :=
  h.touches (touches_bump t f hf) (fun _ a _ => a)

theorem Keeps.bumpBy {may : Nat → Bool} {s t : State} (h : Keeps may s t) {f : Field} (n : Nat) (hf : may f.key = true) :
    Keeps may s (t.bumpBy f n) :=
  h.trans ⟨fun g a _ => State.get_bumpBy_ne t n (fun e => by rw [e, hf] at a; exact Bool.noConfusion a), fun _ => ⟨rfl, rfl, rfl⟩⟩

theorem Keeps.raiseTo {may : Nat → Bool} {s t : State} (h : Keeps may s t) {f : Field} (n : Nat) (hf : may f.key = true) :
    Keeps may s (t.raiseTo f n) :=
  h.trans ⟨fun g a _ => State.get_raiseTo_ne t n (fun e => by rw [e, hf] at a; exact Bool.noConfusion a), fun _ => ⟨rfl, rfl, rfl⟩⟩

theorem Keeps.step1 {may : Nat → Bool} {s t : State} (h : Keeps may s t) {f : Field} (hf : may f.key = true) : Keeps may s (t.step1 f) :=
  h.set _ hf

theorem Keeps.setInt {may : Nat → Bool} {s t : State} (h : Keeps may s t) {f : Field} (v : Int) (hf : may f.key = true) :
    Keeps may s (t.setInt f v) := h.set _ hf

theorem Keeps.setFree {may : Nat → Bool} {s t : State} (h : Keeps may s t) {f : Field} (hf : may f.key = true) : Keeps may s (t.setFree f) :=
  (h.set (Config.freeValue t.free) hf).same rfl rfl rfl

theorem Keeps.emit {may : Nat → Bool} {s t : State} (h : Keeps may s t) (x : Output) : Keeps may s (t.emit x) := h.same rfl rfl rfl

theorem Keeps.raiseIrq {may : Nat → Bool} {s t : State} (h : Keeps may s t) (p b : Nat) : Keeps may s (raiseIrq t p b) :=
  h.reports (reports_raiseIrq t p b)

theorem Keeps.raise {may : Nat → Bool} {s t : State} (h : Keeps may s t) (x : Err) (hc : x.cls ≤ 20) (hs : x.sev ≤ 4) : Keeps may s (raise t x) :=
  h.reports (reports_raise t x hc hs)

theorem Keeps.capturePage {may : Nat → Bool} {s t : State} (h : Keeps may s t) (page code master off i0 i1 i3 : Nat) :
    Keeps may s (capturePage t page code master off i0 i1 i3) := h.reports (reports_capturePage ..)

theorem Keeps.captureHost {may : Nat → Bool} {s t : State} (h : Keeps may s t) (code master page off : Nat) :
    Keeps may s (captureHost t code master page off) := h.reports (reports_captureHost ..)

theorem Keeps.logAccess {may : Nat → Bool} {s t : State} (h : Keeps may s t) (m : Master) (page off code data size : Nat) :
    Keeps may s (logAccess t m page off code data size) := h.reports (reports_logAccess ..)

theorem Keeps.originate {may : Nat → Bool} {s t : State} (h : Keeps may s t) (f : Frame) : Keeps may s (originate t f) :=
  h.reports (sends_originate t f).reports

theorem Keeps.broadcastDown {may : Nat → Bool} {s t : State} (h : Keeps may s t) (f : Frame) : Keeps may s (broadcastDown t f) :=
  h.reports (sends_broadcastDown t f).reports

theorem Keeps.sendVc1 {may : Nat → Bool} {s t : State} (h : Keeps may s t) (f : Frame) : Keeps may s (sendVc1 t f) :=
  h.trans ⟨fun g _ hr => (sendVc1_spec t f).1 g (sendKey_of_reportKey _ hr), keepsBytes_of_mem (sendVc1_spec t f).2.1⟩

/-- The frame of a command, from the registers it may set. -/
theorem Keeps.foldl {α : Type} {may : Nat → Bool} {s t : State} (h : Keeps may s t) (l : List α) (g : State → α → State)
    (hg : ∀ u x, x ∈ l → Keeps may u (g u x)) : Keeps may s (l.foldl g t) := by
  induction l generalizing t with
  | nil => exact h
  | cons x l ih => exact ih (h.trans (hg t x (List.mem_cons_self ..))) (fun u y hy => hg u y (List.mem_cons_of_mem _ hy))

/-- A command that reports nothing. -/
theorem KeepsAllRegs.refl (may : Nat → Bool) (s : State) : KeepsAllRegs may s s := fun _ _ => rfl

theorem KeepsAllRegs.trans {may : Nat → Bool} {s t u : State} (h : KeepsAllRegs may s t) (g : KeepsAllRegs may t u) : KeepsAllRegs may s u :=
  fun f hf => (g f hf).trans (h f hf)

theorem KeepsAllRegs.same {may : Nat → Bool} {s t u : State} (h : KeepsAllRegs may s t) (hr : u.regs = t.regs)
    (hl : u.mech.loaded = t.mech.loaded) : KeepsAllRegs may s u := fun f hf => (State.get_congr hr hl f).trans (h f hf)

theorem KeepsAllRegs.set {may : Nat → Bool} {s t : State} (h : KeepsAllRegs may s t) {f : Field} (v : Nat) (hf : may f.key = true) :
    KeepsAllRegs may s (t.set f v) := h.trans (fun g hg => (touches_set t f v hf).get g hg)

theorem KeepsAllRegs.setAll {may : Nat → Bool} {s t : State} (h : KeepsAllRegs may s t) (l : List (Field × Nat))
    (hf : ∀ p ∈ l, may p.1.key = true) : KeepsAllRegs may s (t.setAll l) := h.trans (fun g hg => (touches_setAll t l hf).get g hg)

theorem KeepsAllRegs.bump {may : Nat → Bool} {s t : State} (h : KeepsAllRegs may s t) {f : Field} (hf : may f.key = true) :
    KeepsAllRegs may s (t.bump f) := h.trans (fun g hg => (touches_bump t f hf).get g hg)

theorem KeepsAllRegs.bumpBy {may : Nat → Bool} {s t : State} (h : KeepsAllRegs may s t) {f : Field} (n : Nat) (hf : may f.key = true) :
    KeepsAllRegs may s (t.bumpBy f n) :=
  h.trans (fun g a => State.get_bumpBy_ne t n (fun e => by rw [e, hf] at a; exact Bool.noConfusion a))

theorem KeepsAllRegs.raiseTo {may : Nat → Bool} {s t : State} (h : KeepsAllRegs may s t) {f : Field} (n : Nat) (hf : may f.key = true) :
    KeepsAllRegs may s (t.raiseTo f n) :=
  h.trans (fun g a => State.get_raiseTo_ne t n (fun e => by rw [e, hf] at a; exact Bool.noConfusion a))

theorem KeepsAllRegs.keeps {may : Nat → Bool} {s t : State} (h : KeepsAllRegs may s t) (g : KeepsBytes s t) : Keeps may s t :=
  ⟨fun f a _ => h f a, g⟩

/-! ### Association lists -/

theorem assoc_assocPut_same {α : Type} (l : List (Nat × α)) (k : Nat) (v : α) : assoc (assocPut l k v) k = some v := by
  unfold assoc assocPut
  split
  · next h =>
    induction l with
    | nil => simp at h
    | cons p l ih =>
      rw [List.map_cons]
      by_cases hp : p.1 = k
      · simp [hp]
      · rw [if_neg hp, List.find?_cons_of_neg (by simp [hp])]
        apply ih
        simpa [hp] using h
  · next h =>
    rw [List.find?_append]
    have : l.find? (fun p => decide (p.1 = k)) = none := by
      rw [List.find?_eq_none]
      intro x hx
      simp only [List.any_eq_true, not_exists, not_and] at h
      exact h x hx
    rw [this]; simp

theorem assoc_assocPut_ne {α : Type} (l : List (Nat × α)) {k j : Nat} (v : α) (hj : j ≠ k) : assoc (assocPut l k v) j = assoc l j := by
  unfold assoc assocPut
  split
  · congr 1
    next h =>
    clear h
    induction l with
    | nil => rfl
    | cons p l ih =>
      rw [List.map_cons]
      by_cases hp : p.1 = k
      · rw [if_pos hp, List.find?_cons_of_neg (by simp [Ne.symm hj]), List.find?_cons_of_neg (by simp [hp, Ne.symm hj])]
        exact ih
      · rw [if_neg hp]
        by_cases hq : p.1 = j
        · rw [List.find?_cons_of_pos (by simp [hq]), List.find?_cons_of_pos (by simp [hq])]
        · rw [List.find?_cons_of_neg (by simp [hq]), List.find?_cons_of_neg (by simp [hq])]
          exact ih
  · rw [List.find?_append]
    simp [Ne.symm hj]

theorem ctxOf_setCtx_same (s : State) (q : Nat) (f : QCtx → QCtx) : ctxOf (setCtx s q f) q = f (ctxOf s q) := by
  show (assoc (assocPut s.scene.ctxs q (f (ctxOf s q))) q).getD QCtx.zero = _
  rw [assoc_assocPut_same]; rfl

theorem ctxOf_setCtx_ne (s : State) {q p : Nat} (f : QCtx → QCtx) (h : p ≠ q) : ctxOf (setCtx s q f) p = ctxOf s p := by
  show (assoc (assocPut s.scene.ctxs q (f (ctxOf s q))) p).getD QCtx.zero = _
  rw [assoc_assocPut_ne _ _ h]; rfl

/-- A read of clean device memory reports nothing. -/
theorem reportBad_clean (s : State) (a n : Nat) (h : ∀ w ∈ wordsOf a n, w ∉ s.mem.badDram ∧ w ∉ s.mem.poisonDram ∧ w ∉ s.mem.weakDram) :
    reportBad s a n = s := by
  have h1 : (wordsOf a n).filter (fun w => s.mem.badDram.contains w) = [] := by
    rw [List.filter_eq_nil_iff]; intro w hw; simpa using (h w hw).1
  have h2 : (wordsOf a n).filter (fun w => s.mem.weakDram.contains w) = [] := by
    rw [List.filter_eq_nil_iff]; intro w hw; simpa using (h w hw).2.2
  unfold reportBad
  dsimp only
  rw [h1, List.foldl_nil, h2, List.foldl_nil]

theorem dramBad_clean {s : State} {a n : Nat} (h : CleanDram s a n) : dramBad s a n = false := by
  simp only [dramBad, List.any_eq_false]
  intro w hw
  simp [(h.2.2 w hw).1, (h.2.2 w hw).2.1]

theorem dramFetch_clean {s : State} {a n : Nat} (h : CleanDram s a n) (m : Nat) : dramFetch s m a n = (s, some (dramRead s a n)) := by
  unfold dramFetch
  simp [h.1, h.2.1, dramBad_clean h, reportBad_clean s a n h.2.2]

theorem blockFetch_clean {s : State} {a n : Nat} (h : CleanDram s a n) : blockFetch s false a n = (s, some (dramRead s a n)) := by
  unfold blockFetch
  simp [dramFetch_clean h]

end Sys2Proof.Machine
end

