-- ==== Sys2Proof/Laws/Write.lean ====
section
/-! SUPPORT. Laws/Write.lean: a word written to a register whose every field takes its bits or is read-only. -/

namespace Sys2Proof.Machine

/-- Does a field take what is written to it? -/
def takesBits (f : Field) : Bool := decide (f.acc = .rw) || decide (f.acc = .wo) || decide (f.acc = .rwl)

/-- The fields of a word that take a value, with it. -/
def wordTaken (d : Nat) (fs : List Field) : List (Field × Nat) := (fs.filter takesBits).map (fun f => (f, d / 2 ^ f.lo % 2 ^ f.w))

/-- The fields of a word that keep a value, with it. -/
def wordSets (d : Nat) (fs : List Field) : List (Field × Nat) :=
  (fs.filter (fun f => takesBits f && !decide (f.acc = .wo))).map (fun f => (f, d / 2 ^ f.lo % 2 ^ f.w))

/-- A field of a word past its page's header that a master's write of the word sets, or that ignores it. -/
structure WordField (s : State) (m : Master) (d : Nat) (f : Field) : Prop where
  low : f.lo + f.w ≤ 32
  wide : 0 < f.w
  off : 0x100 ≤ f.addr % 0x1000
  acc : f.acc = .ro ∨ takesBits f = true
  owns : takesBits f = true → f.plain = true ∨ ownsPage s m (f.addr / 0x1000) = true
  unlocked : f.acc = .rwl → s.pageLocked (f.addr / 0x1000) = false
  legal : takesBits f = true → f.legal.ok (d / 2 ^ f.lo % 2 ^ f.w) = true
  rule : ∀ u, fieldRule u f (d / 2 ^ f.lo % 2 ^ f.w) = none

theorem key_off (f : Field) (hl : f.lo < 512) : f.key / 512 % 0x1000 = f.addr % 0x1000 := by
  simp only [Field.key]; omega

theorem pageOwner_set (s : State) (f : Field) (v page : Nat) (ho : 0x100 ≤ f.addr % 0x1000) (hl : f.lo < 512) :
    (s.set f v).pageOwner page = s.pageOwner page := by
  have hk := key_off f hl
  have hne : (F.PAGE_OWNER_OWNER page).key ≠ f.key := by
    intro e
    have h2 : (F.PAGE_OWNER_OWNER page).key / 512 % 0x1000 = 0x024 := by simp only [F.PAGE_OWNER_OWNER, fld, Field.key]; omega
    rw [e] at h2; omega
  unfold State.pageOwner
  have : mapGet (s.set f v).regs (F.PAGE_OWNER_OWNER page).key = mapGet s.regs (F.PAGE_OWNER_OWNER page).key := mapGet_mapPut_ne _ _ hne
  rw [this]
  rfl

theorem role_set (s : State) (f : Field) (v : Nat) (h : F.XSH_ROLE_ROLE.key ≠ f.key) : (s.set f v).isMember = s.isMember := by
  unfold State.isMember State.role
  rw [State.get_set_ne _ _ h]

theorem pageLocked_set (s : State) (f : Field) (v page : Nat) (ho : 0x100 ≤ f.addr % 0x1000) (hl : f.lo < 512) :
    (s.set f v).pageLocked page = s.pageLocked page := by
  have hk := key_off f hl
  unfold State.pageLocked State.on
  rw [State.get_set_ne]
  intro e
  have h2 : (F.PAGE_SEC_LOCK page).key / 512 % 0x1000 = 0x020 := by simp only [F.PAGE_SEC_LOCK, fld, Field.key]; omega
  rw [e] at h2; omega

theorem ownsPage_set (s : State) (m : Master) (f : Field) (v page : Nat) (ho : 0x100 ≤ f.addr % 0x1000) (hl : f.lo < 512)
    (hr : F.XSH_ROLE_ROLE.key ≠ f.key) : ownsPage (s.set f v) m page = ownsPage s m page := by
  unfold ownsPage
  rw [pageOwner_set s f v page ho hl, role_set s f v hr]

theorem WordField.set {s : State} {m : Master} {d : Nat} {f : Field} (h : WordField s m d f) (g : Field) (v : Nat) (ho : 0x100 ≤ g.addr % 0x1000)
    (hl : g.lo < 512) (hr : F.XSH_ROLE_ROLE.key ≠ g.key) : WordField (s.set g v) m d f :=
  { h with owns := fun a => by rw [ownsPage_set s m g v _ ho hl hr]; exact h.owns a
           unlocked := fun a => by rw [pageLocked_set s g v _ ho hl]; exact h.unlocked a }

/-- The role is read-only: no word written takes it. -/
theorem role_ne {f : Field} (h : f.addr ≠ F.XSH_ROLE_ROLE.addr) (hl : f.lo < 512) : F.XSH_ROLE_ROLE.key ≠ f.key := by
  intro e
  apply h
  have h2 : F.XSH_ROLE_ROLE.key / 512 = F.XSH_ROLE_ROLE.addr := by decide
  have h3 : f.key / 512 = f.addr := by simp only [Field.key]; omega
  rw [← h3, ← e, h2]

theorem writeFields_word (m : Master) (d : Nat) (hd : d < 2 ^ 32) (fs : List Field) (w : Written)
    (h : ∀ f ∈ fs, WordField w.s m d f) (hr : ∀ f ∈ fs, f.addr ≠ F.XSH_ROLE_ROLE.addr) :
    writeFields m [(0, d)] fs w = ⟨w.s.setAll (wordSets d fs), w.took ++ wordTaken d fs, w.drop⟩ := by
  induction fs generalizing w with
  | nil => cases w; simp [writeFields, wordSets, wordTaken]
  | cons f fs ih =>
    have hf := h f (List.mem_cons_self ..)
    have hfw := fieldWritten_word w.s f d hf.low hf.wide hd
    rcases hf.acc with ha | ha
    · rw [writeFields_skip m _ _ _ _ hfw (judgeField_ro _ _ _ _ (Or.inl ha)), ih w (fun g hg => h g (List.mem_cons_of_mem _ hg)) (fun g hg => hr g (List.mem_cons_of_mem _ hg))]
      have ht : takesBits f = false := by simp [takesBits, ha]
      simp [wordSets, wordTaken, ht]
    · have hj : judgeField w.s m f (d / 2 ^ f.lo % 2 ^ f.w) = .take (d / 2 ^ f.lo % 2 ^ f.w) := by
        have ho := hf.owns ha
        have hlg := hf.legal ha
        have hp : (!f.plain && !ownsPage w.s m (f.addr / 0x1000)) = false := by
          rcases ho with x | x <;> simp [x]
        have hu := hf.unlocked
        revert hu
        simp only [takesBits, Bool.or_eq_true, decide_eq_true_eq] at ha
        intro hu
        rcases ha with (hx | hx) | hx <;> simp_all [judgeField]
      rw [writeFields_take m _ _ _ _ hfw hj (hf.rule _)]
      have hlo : f.lo < 512 := by have := hf.low; omega
      have hrn := role_ne (hr f (List.mem_cons_self ..)) hlo
      by_cases hwo : f.acc = .wo
      · have hst : storeField w.s f (d / 2 ^ f.lo % 2 ^ f.w) = w.s := by simp [storeField, hwo]
        rw [hst, ih ⟨w.s, w.took ++ [(f, d / 2 ^ f.lo % 2 ^ f.w)], w.drop⟩ (fun g hg => h g (List.mem_cons_of_mem _ hg)) (fun g hg => hr g (List.mem_cons_of_mem _ hg))]
        simp [wordSets, wordTaken, ha, hwo]
      · have hst : storeField w.s f (d / 2 ^ f.lo % 2 ^ f.w) = w.s.set f (d / 2 ^ f.lo % 2 ^ f.w) := by
          simp only [takesBits, Bool.or_eq_true, decide_eq_true_eq] at ha
          rcases ha with (hx | hx) | hx <;> simp_all [storeField]
        rw [hst, ih _ (fun g hg => (h g (List.mem_cons_of_mem _ hg)).set f _ hf.off hlo hrn) (fun g hg => hr g (List.mem_cons_of_mem _ hg))]
        simp [wordSets, wordTaken, ha, hwo, State.setAll_cons]

/-- R4 to R45: a word that a master may write, to a register past its page's header whose fields all take it. -/
theorem writeAccess_all (s : State) (m : Master) (b d : Nat) (fs : List Field) (hf : findRow b = some ⟨b, 32, 0, fs⟩) (h4 : b % 4 = 0)
    (ho : 0x100 ≤ b % 0x1000) (hw : MayWrite s m (b / 0x1000)) (hp : 0x011 ≤ b / 0x1000) (hd : d < 2 ^ 32)
    (hfs : ∀ f ∈ fs, WordField s m d f) (hr : ∀ f ∈ fs, f.addr ≠ F.XSH_ROLE_ROLE.addr)
    (hrule : registerRule s m b [(0, d)] = none) :
    writeAccess s m b 4 d = ⟨s.setAll (wordSets d fs), wordTaken d fs, none⟩ := by
  obtain ⟨hi, hm, hw, -⟩ := hw
  have hwr : writeReg s m ⟨b, 32, 0, fs⟩ [(0, d)] = ⟨s.setAll (wordSets d fs), wordTaken d fs, none⟩ := by
    rw [writeReg_narrow _ _ _ _ (Nat.le_refl _) hrule, writeFields_word m d hd fs ⟨s, [], none⟩ hfs hr]
    rfl
  have hwa := writeAccess_word s m b d h4 hi hm hw
  have hc : ¬ (b % 0x1000 = 0x01C ∧ pageHasHeader (b / 0x1000) = true) := by omega
  rw [Nat.mod_eq_of_lt hd, writeWord_row _ _ _ _ _ hf hc, hwr] at hwa
  rw [hwa]
  have hra : routerAfter s (s.setAll (wordSets d fs)) b = s.setAll (wordSets d fs) := by
    unfold routerAfter
    dsimp only
    rw [if_neg (by simp; omega), if_neg (by omega), if_neg (by omega)]
  simp only [hra, logDrop]

/-- A word that a master may write, to a register whose block refuses it. -/
theorem writeAccess_refused (s : State) (m : Master) (b d c : Nat) (fs : List Field) (hf : findRow b = some ⟨b, 32, 0, fs⟩) (h4 : b % 4 = 0)
    (ho : 0x100 ≤ b % 0x1000) (hw : MayWrite s m (b / 0x1000)) (hp : 0x011 ≤ b / 0x1000) (hd : d < 2 ^ 32)
    (hfs : ∀ f ∈ fs, WordField s m d f) (hr : ∀ f ∈ fs, f.addr ≠ F.XSH_ROLE_ROLE.addr) (ht : wordTaken d fs ≠ [])
    (hrule : registerRule s m b [(0, d)] = some c) :
    writeAccess s m b 4 d = ⟨logDrop s m b d 4 (some c), [], some c⟩ := by
  obtain ⟨hi, hm, hw, -⟩ := hw
  have hwr : writeReg s m ⟨b, 32, 0, fs⟩ [(0, d)] = ⟨s, [], some c⟩ := by
    unfold writeReg
    simp only [gatherPieces, Nat.le_refl, if_true]
    rw [writeFields_word m d hd fs ⟨s, [], none⟩ hfs hr, hrule]
    simp [ht]
  have hwa := writeAccess_word s m b d h4 hi hm hw
  have hc : ¬ (b % 0x1000 = 0x01C ∧ pageHasHeader (b / 0x1000) = true) := by omega
  rw [Nat.mod_eq_of_lt hd, writeWord_row _ _ _ _ _ hf hc, hwr] at hwa
  rw [hwa]
  have hra : routerAfter s s b = s := by
    unfold routerAfter
    dsimp only
    rw [if_neg (by simp; omega), if_neg (by omega), if_neg (by omega)]
  simp only [hra]

/-- R5: the state in which no piece of a register is held for a master. -/
def unheld (s : State) (m : Master) (b : Nat) : State := { s with mech := { s.mech with holds := mapDel s.mech.holds (pieceKey m b) } }

theorem unheld_get (s : State) (m : Master) (b : Nat) (f : Field) : (unheld s m b).get f = s.get f := rfl

theorem gatherPieces_pair (s : State) (m : Master) (b x y : Nat) (fs : List Field) :
    gatherPieces s m ⟨b, 64, 0, fs⟩ [(0, x), (1, y)] = (unheld s m b, [(0, x), (1, y)]) := by
  unfold gatherPieces
  rw [if_neg (by dsimp only; omega), if_pos (by simp [mapGet])]
  have h0 : List.range (64 / 32 - 1) = [0] := rfl
  dsimp only
  rw [h0]
  simp only [List.foldl_cons, List.foldl_nil, Nat.mul_zero, Nat.add_zero, List.filterMap_cons, List.filterMap_nil]
  cases mapGet s.mech.holds (pieceKey m b) <;> rfl

/-- R4, R5: an aligned 8-byte write of a 64-bit register of one field. -/
theorem writeAccess_pair (s : State) (m : Master) (b v : Nat) (f : Field) (hf : findRow b = some ⟨b, 64, 0, [f]⟩) (h8 : b % 8 = 0)
    (hw : MayWrite s m (b / 0x1000)) (hv : v < 2 ^ 64) (hlo : f.lo = 0) (hwd : f.w = 64) (hacc : f.acc = .rw ∨ f.acc = .wo)
    (ho : f.plain = true ∨ ownsPage s m (f.addr / 0x1000) = true) (hl : f.legal.ok v = true)
    (hfr : fieldRule (unheld s m b) f v = none) (hrule : registerRule s m b [(0, v % 2 ^ 32), (1, v / 2 ^ 32)] = none) :
    writeAccess s m b 8 v = ⟨if f.acc = .wo then unheld s m b else (unheld s m b).set f v, [(f, v)], none⟩ := by
  obtain ⟨hi, hm, hw, -⟩ := hw
  have e1 : v / 2 ^ 32 % 2 ^ 32 = v / 2 ^ 32 := by omega
  have e2 : v / 2 ^ 32 * 2 ^ 32 + v % 2 ^ 32 = v := by omega
  have hfw := fieldWritten_pair (unheld s m b) f (v % 2 ^ 32) (v / 2 ^ 32) hlo hwd (by omega) (by omega)
  rw [e2] at hfw
  have hj : judgeField (unheld s m b) m f v = .take v :=
    judgeField_owned _ _ _ _ (by rcases hacc with h | h <;> simp [h]) (by
      rcases ho with h | h
      · exact Or.inl h
      · exact Or.inr h) hl
  have hst : storeField (unheld s m b) f v = if f.acc = .wo then unheld s m b else (unheld s m b).set f v := by
    rcases hacc with h | h <;> simp [storeField, h]
  have hwr : writeReg s m ⟨b, 64, 0, [f]⟩ [(0, v % 2 ^ 32), (1, v / 2 ^ 32)] =
      ⟨if f.acc = .wo then unheld s m b else (unheld s m b).set f v, [(f, v)], none⟩ := by
    unfold writeReg
    dsimp only
    rw [gatherPieces_pair]
    dsimp only
    rw [writeFields_take m _ _ _ ⟨unheld s m b, [], none⟩ hfw hj hfr, writeFields, hst, hrule]
    rfl
  have h1 : accessAligned b 8 = true := by simp [accessAligned, h8]
  have h2 : (s.isMember && decide (m = .pcie) && ctrlPage (b / 0x1000)) = false := by
    cases hx : s.isMember
    · rfl
    · by_cases hp : m = .pcie
      · simp [hm hx hp]
      · simp [hp]
  have h3 : (decide (s.pageWorld (b / 0x1000) = 0) && !m.secure) = false := by
    by_cases hx : s.pageWorld (b / 0x1000) = 0
    · simp [hw hx]
    · simp [hx]
  simp only [writeAccess]
  rw [h1, hi, h2, h3]
  simp only [show ¬ (8 : Nat) = 4 by decide, if_false, Bool.not_true, Bool.false_eq_true, writePair, hf, e1, hwr]
  rfl

@[simp] theorem tookField_nil (s : State) (d : Option Nat) (f : Field) : Written.tookField ⟨s, [], d⟩ f = none := rfl

@[simp] theorem tookField_same (s : State) (f : Field) (v : Nat) (l : List (Field × Nat)) (d : Option Nat) :
    Written.tookField ⟨s, (f, v) :: l, d⟩ f = some v := by simp [Written.tookField]

theorem tookField_ne (s : State) {f g : Field} (v : Nat) (l : List (Field × Nat)) (d : Option Nat) (h : g.key ≠ f.key) :
    Written.tookField ⟨s, (g, v) :: l, d⟩ f = Written.tookField ⟨s, l, d⟩ f := by simp [Written.tookField, h]

/-- No field rule past the plane pages, the drum and the panel's tables. -/
theorem fieldRule_none (s : State) (f : Field) (v : Nat) (hl : f.lo < 512) (h1 : f.addr ≠ 0x20108) (h2 : f.addr ≠ 0x80100)
    (h3 : ¬ (0xB1 ≤ f.addr / 0x1000 ∧ f.addr / 0x1000 ≤ 0xB8 ∧ f.addr % 0x1000 = 0x108)) (h4 : ¬ (0xDE104 ≤ f.addr ∧ f.addr ≤ 0xDE118)) :
    fieldRule s f v = none := by
  have k1 : F.QMG_CTRL_ENABLE.key / 512 = 0x20108 := by decide
  have k2 : F.DRU_REQ_RPM.key / 512 = 0x80100 := by decide
  have hk : f.key / 512 = f.addr := by simp only [Field.key]; omega
  unfold fieldRule
  rw [if_neg (fun e => h1 (by rw [← hk, e.1, k1])), if_neg (fun e => h3 ⟨e.1, e.2.1, e.2.2.1⟩), if_neg (fun e => h2 (by rw [← hk, e.1, k2])),
    if_neg (fun e => h4 ⟨e.1, e.2.1⟩)]

/-- A field of a word of which every value is defined, that no block's field rule touches. -/
def wordOk (b : Nat) (f : Field) : Bool :=
  decide (f.addr = b) && decide (f.lo + f.w ≤ 32) && decide (0 < f.w) && (decide (f.acc = .ro) || (takesBits f && !decide (f.acc = .rwl))) &&
    decide (f.legal = .any)

/-- A register's address that no field rule and no router rule touches. -/
def freeAddr (b : Nat) : Bool :=
  decide (b % 4 = 0) && decide (0x100 ≤ b % 0x1000) && decide (0x011 ≤ b / 0x1000) && !decide (b = F.XSH_ROLE_ROLE.addr) && !decide (b = 0x20108) &&
    !decide (b = 0x80100) && !(decide (0xB1 ≤ b / 0x1000) && decide (b / 0x1000 ≤ 0xB8) && decide (b % 0x1000 = 0x108)) &&
    !(decide (0xDE104 ≤ b) && decide (b ≤ 0xDE118))

theorem wordField_ok {s : State} {m : Master} {b d : Nat} {f : Field} (h : wordOk b f = true) (hb : freeAddr b = true) (hw : MayWrite s m (b / 0x1000)) :
    WordField s m d f := by
  simp only [wordOk, Bool.and_eq_true, decide_eq_true_eq, Bool.or_eq_true, Bool.not_eq_true', decide_eq_false_iff_not] at h
  simp only [freeAddr, Bool.and_eq_true, decide_eq_true_eq, Bool.not_eq_true', decide_eq_false_iff_not, Bool.and_eq_false_iff] at hb
  obtain ⟨⟨⟨⟨h1, h2⟩, h3⟩, h4⟩, h5⟩ := h
  obtain ⟨⟨⟨⟨⟨⟨⟨b1, b2⟩, b3⟩, b4⟩, b5⟩, b6⟩, b7⟩, b8⟩ := hb
  subst h1
  exact ⟨h2, h3, b2, by rcases h4 with h | h; exact Or.inl h; exact Or.inr h.1, fun _ => Or.inr hw.2.2.2,
    fun e => by rcases h4 with h | h; (rw [e] at h; exact Acc.noConfusion h); exact absurd e h.2, fun _ => by rw [h5]; rfl,
    fun u => fieldRule_none u f _ (by omega) b5 b6 (by omega) (by omega)⟩

/-- A word written to a register of plain fields that no block's rule refuses. -/
theorem writeAccess_ok {s : State} {m : Master} {b d : Nat} {fs : List Field} (hf : findRow b = some ⟨b, 32, 0, fs⟩) (hw : MayWrite s m (b / 0x1000))
    (hb : freeAddr b = true) (hok : fs.all (wordOk b) = true) (hd : d < 2 ^ 32) (hrule : registerRule s m b [(0, d)] = none) :
    writeAccess s m b 4 d = ⟨s.setAll (wordSets d fs), wordTaken d fs, none⟩ := by
  rw [List.all_eq_true] at hok
  have hb' := hb
  simp only [freeAddr, Bool.and_eq_true, decide_eq_true_eq, Bool.not_eq_true', decide_eq_false_iff_not, Bool.and_eq_false_iff] at hb'
  obtain ⟨⟨⟨⟨⟨⟨⟨b1, b2⟩, b3⟩, b4⟩, -⟩, -⟩, -⟩, -⟩ := hb'
  refine writeAccess_all s m b d fs hf b1 b2 hw b3 hd (fun f h => wordField_ok (hok f h) hb hw) (fun f h e => ?_) hrule
  have := hok f h
  simp only [wordOk, Bool.and_eq_true, decide_eq_true_eq] at this
  exact b4 (this.1.1.1.1.symm.trans e)

/-- No block refuses the write of a register beyond those that registerRule names. -/
theorem registerRule_mid (s : State) (m : Master) (b : Nat) (ps : Map) (h1 : b ≠ 0x110) (h2 : b ≠ 0x2110) (h3 : b ≠ 0x21100)
    (h : b < 0x82000 ∨ (0x84000 ≤ b ∧ b < 0x90000) ∨ (0x98000 ≤ b ∧ b < 0xA1000) ∨ (0xA2000 ≤ b ∧ b < 0xB1000) ∨ (0xB9000 ≤ b ∧ b < 0xDE000) ∨ (0xDF000 ≤ b ∧ b < 0xF0000) ∨
      (0x100000 ≤ b ∧ b < 0x120000) ∨ (0x131000 ≤ b ∧ b < 0x140000) ∨ (0x141000 ≤ b ∧ b < 0x151000) ∨ (0x152000 ≤ b ∧ b < 0x171000) ∨ (0x172000 ≤ b ∧ b < 0x190000)) :
    registerRule s m b ps = none := by
  have hs := State.get_lt s F.DMC_SPEED_ACTIVE
  have ha := State.get_lt s F.DRU_SCHED_SELECT_ACTIVE
  simp only [F.DMC_SPEED_ACTIVE, F.DRU_SCHED_SELECT_ACTIVE, fld] at hs ha
  have hps : pagesRule s m b ps = none := by
    unfold pagesRule
    dsimp only
    rw [if_neg (by simp only [F.DRU_SCHED_SELECT_ACTIVE, fld]; omega)]
    repeat (first | rfl | (rw [if_neg (by omega)]))
  unfold registerRule
  rw [hps]
  rw [if_neg h3, if_neg (by omega), if_neg (by omega), if_neg (by omega), if_neg (by omega), if_neg (by omega), if_neg (by omega),
    if_neg (by simp only [F.DMC_SPEED_ACTIVE, fld]; omega), if_neg (by omega)]

end Sys2Proof.Machine
end

