-- ==== Sys2Proof/Laws/Scene.lean ====
section
/-! SUPPORT. Laws/Scene.lean: contexts and started descriptors after an update, and what a block's fetch leaves of the scene. -/

namespace Sys2Proof.Machine

theorem ctxOf_congr {s t : State} (h : t.scene.ctxs = s.scene.ctxs) (q : Nat) : ctxOf t q = ctxOf s q := by unfold ctxOf; rw [h]

theorem runOf_congr {s t : State} (h : t.scene.runs = s.scene.runs) (q : Nat) : runOf t q = runOf s q := by unfold runOf; rw [h]

theorem runOf_queue {s : State} {q : Nat} {r : Run} (h : runOf s q = some r) : r.queue = q := by
  have := List.find?_some h
  simpa using this

theorem runOf_setRun_same (s : State) (q : Nat) (f : Run → Run) (hf : ∀ r, (f r).queue = r.queue) : runOf (setRun s q f) q = (runOf s q).map f := by
  show (s.scene.runs.map (fun r => if r.queue = q then f r else r)).find? _ = _
  unfold runOf
  induction s.scene.runs with
  | nil => rfl
  | cons r l ih =>
    rw [List.map_cons]
    by_cases hr : r.queue = q
    · rw [if_pos hr, List.find?_cons_of_pos (by simp [hf, hr]), List.find?_cons_of_pos (by simp [hr])]; rfl
    · rw [if_neg hr, List.find?_cons_of_neg (by simp [hr]), List.find?_cons_of_neg (by simp [hr]), ih]

theorem runOf_setRun_ne (s : State) {q p : Nat} (f : Run → Run) (hf : ∀ r, (f r).queue = r.queue) (hp : p ≠ q) : runOf (setRun s q f) p = runOf s p := by
  show (s.scene.runs.map (fun r => if r.queue = q then f r else r)).find? _ = _
  unfold runOf
  induction s.scene.runs with
  | nil => rfl
  | cons r l ih =>
    rw [List.map_cons]
    by_cases hr : r.queue = q
    · rw [if_pos hr, List.find?_cons_of_neg (by simp [hf, hr, Ne.symm hp]), List.find?_cons_of_neg (by simp [hr, Ne.symm hp]), ih]
    · rw [if_neg hr]
      by_cases h2 : r.queue = p
      · rw [List.find?_cons_of_pos (by simp [h2]), List.find?_cons_of_pos (by simp [h2])]
      · rw [List.find?_cons_of_neg (by simp [h2]), List.find?_cons_of_neg (by simp [h2]), ih]

/-- What a fetch leaves as it was: the scene, the queue of commands, the power controller and the registers but reports, SEC.DENIED and the ranks' error
counts. -/
theorem foldl_keep {α β : Type} (l : List α) (g : State → α → State) (p : State → β) (h : ∀ t x, p (g t x) = p t) (s : State) : p (l.foldl g s) = p s := by
  induction l generalizing s with
  | nil => rfl
  | cons x l ih => rw [List.foldl_cons, ih, h]

theorem dramUe_scene (s : State) (a : Nat) : (dramUe s a).scene = s.scene := by
  unfold dramUe
  split
  · rfl
  · dsimp only
    unfold requestSparing
    split
    · exact (reports_raiseIrq _ _ _).scene.trans ((reports_raiseIrq _ _ _).scene.trans ((reports_raise _ _ (by simp) (by simp)).scene))
    · exact (reports_raiseIrq _ _ _).scene.trans ((reports_raiseIrq _ _ _).scene.trans ((reports_raise _ _ (by simp) (by simp)).scene))

theorem requestSparing_scene (s : State) (u : Nat) : (requestSparing s u).scene = s.scene := by
  unfold requestSparing; split <;> rfl

theorem rankCe_scene (s : State) (u a : Nat) : (rankCe s u a).scene = s.scene := by
  unfold rankCe
  dsimp only
  split
  · rw [requestSparing_scene, (reports_raise _ _ (by simp) (by simp)).scene]
    exact (reports_raise _ _ (by simp) (by simp)).scene
  · exact (reports_raise _ _ (by simp) (by simp)).scene

theorem dramCe_scene (s : State) (a : Nat) : (dramCe s a).scene = s.scene := by
  unfold dramCe
  split
  · rfl
  · exact rankCe_scene _ _ _

theorem reportBad_scene (s : State) (a n : Nat) : (reportBad s a n).scene = s.scene := by
  unfold reportBad
  dsimp only
  rw [foldl_keep _ _ State.scene dramCe_scene, foldl_keep _ _ State.scene dramUe_scene]

theorem dramDenied_scene (s : State) (m a n : Nat) : (dramDenied s m a n).scene = s.scene :=
  (reports_raiseWith _ _ _ (by simp) (by simp)).scene

theorem dramFetch_scene (s : State) (m a n : Nat) : (dramFetch s m a n).1.scene = s.scene := by
  unfold dramFetch
  split
  · rfl
  · split
    · exact dramDenied_scene _ _ _ _
    · split <;> exact reportBad_scene _ _ _

theorem hostAsk_scene (s : State) (a n tag : Nat) : (hostAsk s a n tag).scene = s.scene := by
  unfold hostAsk
  split
  · exact (sends_originate _ _).scene
  · rfl

theorem blockFetch_scene (s : State) (h : Bool) (a n : Nat) : (blockFetch s h a n).1.scene = s.scene := by
  unfold blockFetch
  split
  · dsimp only
    split <;> exact hostAsk_scene _ _ _ _
  · exact dramFetch_scene _ _ _ _

theorem blockFetch_scene_of {s u : State} {h : Bool} {a n : Nat} {o : Option (List Byte)} (e : blockFetch s h a n = (u, o)) : u.scene = s.scene := by
  have := blockFetch_scene s h a n
  rwa [e] at this

/-- A device memory write with no injection armed. -/
theorem dramWrite_quiet (s : State) (a : Nat) (bs : List Byte) (h : s.get F.ERR_INJECT_ARM = 0) :
    (dramWrite s a bs).regs = s.regs ∧ (dramWrite s a bs).mech = s.mech ∧ (dramWrite s a bs).scene = s.scene ∧
      (dramWrite s a bs).mem.dram = memWrite s.mem.dram a bs ∧ (dramWrite s a bs).mem.host = s.mem.host ∧ (dramWrite s a bs).mem.loft = s.mem.loft := by
  unfold dramWrite injectDram
  dsimp only
  rw [if_neg]
  · exact ⟨rfl, rfl, rfl, rfl, rfl, rfl⟩
  · simp only [Bool.and_eq_true]
    rintro ⟨⟨⟨h1, -⟩, -⟩, -⟩
    have : s.on F.ERR_INJECT_ARM = false := by simp [State.on, h]
    exact Bool.noConfusion (this.symm.trans h1)

/-! ### Where memory stands and what is secure -/

/-- Whether DRAM stands behind a range depends on the interleave sets only. -/
theorem dramBehind_congr {s t : State} (h : ∀ f : Field, f.key / 512 / 4096 = 0x130 → t.get f = s.get f) (a n : Nat) : dramBehind t a n = dramBehind s a n := by
  have hds : ∀ x, dramSet t x = dramSet s x := by
    intro x
    unfold dramSet
    have h8 : List.range 8 = [0, 1, 2, 3, 4, 5, 6, 7] := rfl
    rw [h8]
    have hk : ∀ i, i < 8 → t.get (F.DMC_ISET_EN i) = s.get (F.DMC_ISET_EN i) ∧ t.get (F.DMC_ISET_BASE i) = s.get (F.DMC_ISET_BASE i) ∧
        t.get (F.DMC_ISET_WAYS_LOG2 i) = s.get (F.DMC_ISET_WAYS_LOG2 i) := by
      intro i hi
      refine ⟨h _ ?_, h _ ?_, h _ ?_⟩ <;> (simp only [F.DMC_ISET_EN, F.DMC_ISET_BASE, F.DMC_ISET_WAYS_LOG2, fld, Field.key]; omega)
    have e : ∀ i, i < 8 → (t.on (F.DMC_ISET_EN i) && decide (t.get (F.DMC_ISET_BASE i) * 2 ^ 30 ≤ x) &&
        decide (x < (t.get (F.DMC_ISET_BASE i) + 2 ^ t.get (F.DMC_ISET_WAYS_LOG2 i)) * 2 ^ 30)) =
        (s.on (F.DMC_ISET_EN i) && decide (s.get (F.DMC_ISET_BASE i) * 2 ^ 30 ≤ x) &&
        decide (x < (s.get (F.DMC_ISET_BASE i) + 2 ^ s.get (F.DMC_ISET_WAYS_LOG2 i)) * 2 ^ 30)) := by
      intro i hi
      obtain ⟨h1, h2, h3⟩ := hk i hi
      simp only [State.on, h1, h2, h3]
    simp only [List.find?_cons, List.find?_nil, e 0 (by decide), e 1 (by decide), e 2 (by decide), e 3 (by decide), e 4 (by decide), e 5 (by decide), e 6 (by decide), e 7 (by decide)]
  unfold dramBehind
  simp only [hds]

/-- Whether a range is secure depends on the regions only. -/
theorem rangeSecure_congr {s t : State} (h : ∀ f : Field, f.key / 512 / 4096 = 0x171 → t.get f = s.get f) (a n : Nat) : rangeSecure t a n = rangeSecure s a n := by
  have hk : ∀ i, i < 64 → t.get (F.SEC_REGION_EN i) = s.get (F.SEC_REGION_EN i) ∧ t.get (F.SEC_REGION_BASE i) = s.get (F.SEC_REGION_BASE i) ∧
      t.get (F.SEC_REGION_LIMIT i) = s.get (F.SEC_REGION_LIMIT i) ∧ t.get (F.SEC_REGION_WORLD i) = s.get (F.SEC_REGION_WORLD i) := by
    intro i hi
    refine ⟨h _ ?_, h _ ?_, h _ ?_, h _ ?_⟩ <;> (simp only [F.SEC_REGION_EN, F.SEC_REGION_BASE, F.SEC_REGION_LIMIT, F.SEC_REGION_WORLD, fld, Field.key]; omega)
  have hreg : ∀ x, regionsAt t x = regionsAt s x := by
    intro x
    unfold regionsAt
    apply List.filter_congr
    intro i hi
    rw [List.mem_range] at hi
    obtain ⟨h1, h2, h3, -⟩ := hk i hi
    simp only [State.on, h1, h2, h3]
  have hb : ∀ x, byteSecure t x = byteSecure s x := by
    intro x
    unfold byteSecure
    dsimp only
    rw [hreg]
    congr 1
    have : ∀ i ∈ regionsAt s x, decide (t.get (F.SEC_REGION_WORLD i) = 0) = decide (s.get (F.SEC_REGION_WORLD i) = 0) := by
      intro i hi
      unfold regionsAt at hi
      rw [List.mem_filter, List.mem_range] at hi
      rw [(hk i hi.1).2.2.2]
    rw [Bool.eq_iff_iff, List.any_eq_true, List.any_eq_true]
    constructor
    · rintro ⟨i, hi, e⟩; exact ⟨i, hi, by rw [← this i hi]; exact e⟩
    · rintro ⟨i, hi, e⟩; exact ⟨i, hi, by rw [this i hi]; exact e⟩
  unfold rangeSecure
  congr 1
  funext x
  exact hb x

/-! ### Stores -/

theorem injectDram_keeps (s : State) (ws : List Nat) (f : Field) (h1 : f.key ≠ F.ERR_INJECT_ARM.key) (h2 : f.key ≠ F.ERR_INJECT_DONE.key) :
    (injectDram s ws).get f = s.get f ∧ (injectDram s ws).scene = s.scene := by
  unfold injectDram
  dsimp only
  split
  · refine ⟨?_, rfl⟩
    show (s.setAll [(F.ERR_INJECT_ARM, 0), (F.ERR_INJECT_DONE, 1)]).get f = _
    simp only [State.setAll_cons, State.setAll_nil]
    rw [State.get_set_ne _ _ h2, State.get_set_ne _ _ h1]
  · exact ⟨rfl, rfl⟩

theorem dramWrite_keeps (s : State) (a : Nat) (bs : List Byte) (f : Field) (h1 : f.key ≠ F.ERR_INJECT_ARM.key) (h2 : f.key ≠ F.ERR_INJECT_DONE.key) :
    (dramWrite s a bs).get f = s.get f ∧ (dramWrite s a bs).scene = s.scene := by
  unfold dramWrite
  exact injectDram_keeps _ _ f h1 h2

theorem hostWrite_keeps (s : State) (a : Nat) (bs : List Byte) : (hostWrite s a bs).regs = s.regs ∧ (hostWrite s a bs).mech = s.mech ∧ (hostWrite s a bs).scene = s.scene := by
  unfold hostWrite
  split <;> exact ⟨rfl, rfl, rfl⟩

theorem hostSend_keeps (s : State) (a : Nat) (bs : List Byte) (f : Field) (h : sendKey f.key = false) :
    (hostSend s a bs).get f = s.get f ∧ (hostSend s a bs).scene = s.scene := by
  unfold hostSend
  split
  · have : Sends s ((List.range ((bs.length + 1023) / 1024)).foldl (fun t i =>
        originate t (mkFrame 0x09 3 0 0 0 0 (a + 1024 * i) 0 ((bs.drop (1024 * i)).take 1024))) s) := by
      apply sends_foldl
      intro t x _
      exact sends_originate _ _
    exact ⟨this.get f h, this.scene⟩
  · obtain ⟨h1, h2, h3⟩ := hostWrite_keeps s a bs
    exact ⟨State.get_congr h1 (by rw [h2]) f, h3⟩

/-- A block's store changes no register but its reports, SEC.DENIED and an injection's. -/
theorem blockStore_keeps (s : State) (host : Bool) (a : Nat) (bs : List Byte) (f : Field)
    (hr : reportKey f.key = false) (h1 : f.key ≠ F.ERR_INJECT_ARM.key) (h2 : f.key ≠ F.ERR_INJECT_DONE.key) (h3 : f.key ≠ F.SEC_DENIED_COUNT.key) :
    (blockStore s host a bs).1.get f = s.get f ∧ (blockStore s host a bs).1.scene = s.scene := by
  unfold blockStore
  split
  · exact hostSend_keeps s a bs f (sendKey_of_reportKey _ hr)
  · unfold dramStore
    split
    · exact ⟨rfl, rfl⟩
    · split
      · have := reports_raiseWith (s.bump F.SEC_DENIED_COUNT)
          { page := 0x170, cls := 0x11, code := 1, sev := 0, unit := deniedUnit s a bs.length, info := a } (some (0x04, 7, a % 2 ^ 32)) (by simp) (by simp)
        exact ⟨(this.get f hr).trans (State.get_bump_ne _ h3), this.scene⟩
      · exact dramWrite_keeps s a bs f h1 h2

/-! ### Retirement -/

theorem showUnits_keeps (s : State) (f : Field) (h : f.key / 512 ≠ 0x40140) : (showUnits s).get f = s.get f := by
  unfold showUnits
  simp only [State.setAll_cons, State.setAll_nil]
  have k1 : F.SCD_UNITS_BUSY.key / 512 = 0x40140 := by decide
  have k2 : F.SCD_UNITS_HELD.key / 512 = 0x40140 := by decide
  rw [State.get_set_ne _ _ (fun e => h (by rw [e, k2])), State.get_set_ne _ _ (fun e => h (by rw [e, k1]))]

theorem fillHold_frame (s : State) : fillHold s = s ∨ ∃ r, fillHold s = setRun s r (fun x => { x with inUnit := false, inHold := true }) := by
  unfold fillHold
  split
  · exact Or.inl rfl
  · split
    · exact Or.inl rfl
    · exact Or.inr ⟨_, rfl⟩

theorem showCommits_set (s : State) : showCommits s = s.setAll ((List.range 4).flatMap (fun k =>
    [(F.LAY_SET_STATUS_WAITING k, b2n (s.scene.commits.any (fun c => decide (c.set = k) && !c.ready))),
     (F.LAY_SET_STATUS_READY k, b2n (s.scene.commits.any (fun c => decide (c.set = k) && c.ready)))])) := rfl

theorem showCommits_keeps (s : State) (f : Field) (h : f.key / 512 / 4096 ≠ 0x50) : (showCommits s).get f = s.get f := by
  rw [showCommits_set, State.get_setAll_ne]
  intro p hp e
  simp only [List.mem_flatMap, List.mem_range, List.mem_cons, List.not_mem_nil, or_false] at hp
  obtain ⟨k, hk, hp⟩ := hp
  apply h
  rw [e]
  rcases hp with rfl | rfl <;> (simp only [F.LAY_SET_STATUS_WAITING, F.LAY_SET_STATUS_READY, fld, Field.key]; omega)

theorem leaveWaiting_keeps (s : State) (q i : Nat) (f : Field) (h : f.key / 512 / 4096 ≠ 0x50) : (leaveWaiting s q i).get f = s.get f := by
  unfold leaveWaiting
  rw [showCommits_keeps _ _ h]; rfl

theorem advanceHead_keeps (s : State) (q i : Nat) (f : Field) (h : f.key / 512 ≠ 0x40140) : (advanceHead s q i).get f = s.get f := by
  unfold advanceHead
  rw [showUnits_keeps _ _ h]
  rcases fillHold_frame ((setCtx s q (fun c => { c with head := (c.head + 1) % 2 ^ 32 })).setScene (fun c =>
    { c with runs := c.runs.filter (fun r => !(decide (r.queue = q) && decide (r.index = i)))
             skipped := c.skipped.filter (fun e => !decide (e = (q, i)))
             aborted := c.aborted.filter (fun e => !decide (e = (q, i)))
             commits := c.commits.filter (fun m => !decide (m.queue = q)) })) with e | ⟨r, e⟩ <;> rw [e] <;> rfl

theorem headerSet_lt (b : List Byte) : (headerOf b).set < 4 := Nat.mod_lt _ (by decide)

theorem retireEffect_keeps (s : State) (r : Run) (f : Field) (h : f.key / 512 / 4096 ≠ 0x50) (h' : f.key / 512 / 4096 ≠ 0x51) :
    (retireEffect s r).get f = s.get f := by
  have hs := headerSet_lt r.block
  have hb : ∀ a, leAt a 0 1 < 256 := by
    intro a
    have : ∀ x : List Byte, leNat x < 256 ^ x.length := by
      intro x
      induction x with
      | nil => simp [leNat]
      | cons b x ih =>
        have hb := b.isLt
        simp only [leNat, List.length_cons, Nat.pow_succ]
        omega
    have h1 := this ((a.drop 0).take 1)
    have h2 : ((a.drop 0).take 1).length ≤ 1 := by rw [List.length_take]; exact Nat.min_le_left _ _
    have h3 : 256 ^ ((a.drop 0).take 1).length ≤ 256 ^ 1 := Nat.pow_le_pow_right (by decide) h2
    show leNat _ < 256
    omega
  have n1 : ∀ k v (t : State), k < 4 → (t.set (F.LAY_SET_STATUS_STREAM_TAG k) v).get f = t.get f := fun k v t hk =>
    State.get_set_ne _ _ (fun e => h (by rw [e]; simp only [F.LAY_SET_STATUS_STREAM_TAG, fld, Field.key]; omega))
  have n2 : ∀ k v (t : State), k < 4 → (t.set (F.LAY_ENABLE_BACK_MASK k) v).get f = t.get f := fun k v t hk =>
    State.get_set_ne _ _ (fun e => h (by rw [e]; simp only [F.LAY_ENABLE_BACK_MASK, fld, Field.key]; omega))
  have n3 : ∀ k v (t : State), k < 256 → (t.set (F.LAY_FENCE_VALUE k) v).get f = t.get f := fun k v t hk =>
    State.get_set_ne _ _ (fun e => h' (by rw [e]; simp only [F.LAY_FENCE_VALUE, fld, Field.key]; omega))
  unfold retireEffect
  dsimp only
  split
  · split
    · show ((s.set _ _).set _ _).get f = _
      rw [n2 _ _ _ hs, n1 _ _ _ hs]
    · exact n1 _ _ _ hs
  · split
    · exact n3 _ _ _ (hb _)
    · exact n3 _ _ _ (hb _)
  · exact n2 _ _ _ hs
  · rfl
  · rfl

end Sys2Proof.Machine
end

