-- ==== Sys2Proof/WellFormed.lean ====
section
/-! DEFINITION. WellFormed.lean: the commands whose operands lie in the ranges that the spec gives them. A command out of range names
nothing the hardware has: the machine's meanings reduce an index to its range, and no statement rests on that. -/

namespace Sys2Proof

/-- Management processors are numbered 0 to 3 (R20). -/
def Master.wf : Master → Bool
  | .mp i => decide (i < 4)
  | .pcie => true
  | .xiesh => true
  | .jtag => true
  | .hw => true

/-- R4, R31: a register access: an offset in the 16 MB of a slot and a size of a power of two up to 8 bytes. -/
def accessWf (addr size : Nat) : Bool :=
  decide (addr < 2 ^ 24) && (decide (size = 1) || decide (size = 2) || decide (size = 4) || decide (size = 8))

/-- The data of a 32-bit register write. -/
def wordWf (data : Nat) : Bool := decide (data < 2 ^ 32)

/-- R299: every field of the header in its width, the destination among 64 yard numbers, the payload at most 1,024 bytes. -/
def Frame.wf (f : Frame) : Bool :=
  decide (f.typ < 256) && decide (f.vc < 4) && decide (f.epoch < 2) && decide (f.lseq < 4096) && decide (f.dst < 64) && decide (f.src < 256) &&
  decide (f.dxy < 256) && decide (f.hops < 256) && decide (f.sseq < 65536) && decide (f.arg < 2 ^ 32) && decide (f.addr < 2 ^ 64) &&
  decide (f.tag < 65536) && decide (f.payload.length ≤ 1024)

/-- R276, R299: four ports, twelve logical and thirteen physical lanes. -/
def Rx.wf (r : Rx) : Bool :=
  decide (r.port < 4) && decide (r.badLanes < 2 ^ 12) && r.symbols.all (fun l => decide (l < 13)) && r.frame.wf

/-- R278: each symbol of a training set is a byte. -/
def Ts.wf (t : Ts) : Bool :=
  decide (t.lane < 13) && decide (t.source < 256) && decide (t.stage < 256) && decide (t.reqLane < 16) && decide (t.request < 256) &&
  decide (t.statLane < 16) && decide (t.status < 256) && decide (t.cPre < 256) && decide (t.cPost < 256) && decide (t.flags < 256)

/-- R174: a virtual channel is one of four. -/
def CsiHead.wf (h : CsiHead) : Bool := decide (h.vc < 4) && decide (h.ecc < 3)

/-- R31 to R33: what a host access asks for. -/
def HostAccess.wf : HostAccess → Bool
  | .regWrite a n d => accessWf a n && decide (d < 2 ^ (8 * n))
  | .regRead a n => accessWf a n
  | .doorbell q d => decide (q < 2 ^ 18) && decide (d < 2 ^ 64)
  | .queueWrite o n d => accessWf o n && decide (o < 2 ^ 21) && (!decide (n = 8) || !decide (o % 8 = 0)) && decide (d < 2 ^ (8 * n))
  | .queueRead o n => accessWf o n && decide (o < 2 ^ 21)
  | .memWrite a b => decide (a < 2 ^ 40) && decide (0 < b.length) && decide (b.length ≤ 4096)
  | .memRead a n => decide (a < 2 ^ 40) && decide (0 < n) && decide (n ≤ 4096)

/-- R468, R470: the PLLs. -/
def Pll.wf : Pll → Bool
  | .stall s => decide (s < 12)
  | .computeDie d => decide (d < 2)
  | .dieLink d => decide (d < 2)
  | .dram q => decide (q < 4)
  | .laneGroup d => decide (24 ≤ d) && decide (d ≤ 28)
  | .ioCore => true
  | .ioLink => true
  | .timeBase => true
  | .reference => true

/-- A command's operands lie in their ranges. -/
def Instr.wf : Instr → Bool
  | .registerWrite m a n d => m.wf && accessWf a n && decide (d < 2 ^ (8 * n))
  | .registerReadClear m a n => m.wf && accessWf a n
  | .pieceReadCapture m a => m.wf && accessWf a 4
  | .pieceWrite m a n d => m.wf && accessWf a n && decide (d < 2 ^ (8 * n))
  | .forwardedAccess slot tag a => decide (slot < 64) && decide (tag < 65536) && a.wf
  | .fwdReadTimeout tag => decide (tag < 65536)
  | .bar4Access offset write len tag => decide (offset < 2 ^ 35) && decide (((write.map List.length).getD len) ≤ 4096) && decide (tag < 65536)
  | .irqClrWrite m page bits => m.wf && decide (page < 0x1000) && wordWf bits
  | .intVecWrite m page en vector => m.wf && decide (page < 0x1B0) && decide (en < 2) && decide (vector < 2048)
  | .msixUnmask v => decide (v < 2048)
  | .secureLatchClear page bits c => decide (page < 0x1000) && wordWf bits && decide (c.getD 0 < 2 ^ 24)
  | .effectiveEvaluate page => decide (page < 0x1000)
  | .mirrorUpdate page offset => decide (page < 0x1000) && decide (offset < 0x1000)
  | .watchdogExpiry i => decide (i < 4)
  | .mpRestartDone i => decide (i < 4)
  | .doorbell m offset n d => m.wf && decide (offset < 2 ^ 21) && accessWf offset n && decide (d < 2 ^ (8 * n))
  | .ctxRead m q => m.wf && decide (q < 2 ^ 18)
  | .ctxInit m q => m.wf && decide (q < 2 ^ 18)
  | .ctxDisable m q => m.wf && decide (q < 2 ^ 18)
  | .ctxEnable m q => m.wf && decide (q < 2 ^ 18)
  | .ctxCmdComplete => true
  | .descriptorStart _ => true
  | .blockReadDone q _ => decide (q < 2 ^ 18)
  | .decodeDone q => decide (q < 2 ^ 18)
  | .descriptorRetire q _ => decide (q < 2 ^ 18)
  | .cqHeadWrite m ring head => m.wf && decide (ring < 16) && wordWf head
  | .cqAgeTimeout ring => decide (ring < 16)
  | .heldWriteRelease q => decide (q < 2 ^ 18)
  | .fenceWrite m n v => m.wf && decide (n < 256) && wordWf v
  | .fenceMaxWrite m n v => m.wf && decide (n < 256) && wordWf v
  | .commitLatch => true
  | .subframeBoundary => true
  | .kselArm m d => m.wf && wordWf d
  | .kselLoadDone => true
  | .ldeltaArm m d => m.wf && wordWf d
  | .lensletBuildDone => true
  | .pkgCmd m slot => m.wf && wordWf slot
  | .pkgInstallDone _ => true
  | .releasePoint b => decide (b < 12)
  | .lotRelease b => decide (b < 12)
  | .lotDispatch s e => decide (s < 12) && decide (e < 16)
  | .spanDeposit s e => decide (s < 12) && decide (e < 16)
  | .lineMove b => decide (b < 12)
  | .lineDue b => decide (b < 12)
  | .overlayRowRead plane row => decide (plane < 9) && decide (row < 648)
  | .engineFailure s e _ => decide (s < 12) && decide (e < 16)
  | .lotTimeout s e => decide (s < 12) && decide (e < 16)
  | .encoderEdge q => decide (q < 4)
  | .indexEdge code => decide (code < 2 ^ 16)
  | .coastTimeout => true
  | .spinupValidTimeout => true
  | .speedDeviationTimeout => true
  | .drumFaultInput _ => true
  | .stopWaitExpiry => true
  | .drumSpeedThreshold _ => true
  | .parkBrakePoint => true
  | .parkPositionCheck => true
  | .schedSwap m d => m.wf && wordWf d
  | .writeStartPoint b => decide (b < 12)
  | .lineSlotStart b => decide (b < 12)
  | .writeDeadlinePoint b => decide (b < 12)
  | .strobeOnPoint b => decide (b < 12)
  | .strobeOffPoint b => decide (b < 12)
  | .csiFrameStart p h n => decide (p < 8) && h.wf && decide (n < 65536)
  | .csiFrameEnd p h => decide (p < 8) && h.wf
  | .csiLine p h t _ px => decide (p < 8) && h.wf && decide (0x2A ≤ t) && decide (t ≤ 0x2C) && px.all (fun x => decide (x < 4096))
  | .csiEmbedded p h b => decide (p < 8) && h.wf && decide (b.length < 65536)
  | .csiGeneric p h t v => decide (p < 8) && h.wf && decide (8 ≤ t) && decide (t < 16) && decide (v < 65536)
  | .camTrigger p => decide (p < 8)
  | .frameTimeout p => decide (p < 8)
  | .lineTimeout p => decide (p < 8)
  | .testPatternLine p => decide (p < 8)
  | .camEnable m p d => m.wf && decide (p < 8) && wordWf d
  | .expSetPost m p d => m.wf && decide (p < 8) && decide (d < 2 ^ 64)
  | .i2cCmd m c d => m.wf && decide (c < 4) && wordWf d
  | .i2cTransactionDone c st b => decide (c < 4) && decide (st < 6) && decide (b.length ≤ 8)
  | .i2cStretchTimeout c => decide (c < 4)
  | .stripeStart p => decide (p < 2)
  | .stripeComplete p => decide (p < 2)
  | .ringSlotRelease m p d => m.wf && decide (p < 8) && wordWf d
  | .statsCaptureRead m p => m.wf && decide (p < 8)
  | .detectionDone p _ set _ found => decide (p < 8) && decide (set < 256) && found.all (fun d => decide (d.conf < 256))
  | .fusionUpdate _ _ _ _ period cams => decide (0 < period) && decide (cams < 256)
  | .trackLostTimeout t => match t with
    | .viewer slot => decide (slot < 32)
    | .overflow _ => true
    | .candidate _ => true
  | .coastExpiry slot => decide (slot < 32)
  | .ownerReassign slot owner => decide (slot < 32) && decide (owner < 64)
  | .zoneUnobserved z => decide (z < 24)
  | .rosterCaptureRead m => m.wf
  | .trackingFrameTimeout p => decide (p < 8)
  | .flipArm m g d => m.wf && decide (g < 4) && wordWf d
  | .flipCancel m g d => m.wf && decide (g < 4) && wordWf d
  | .yardFlipTimeout g => decide (g < 4)
  | .lutLoad m d => m.wf && wordWf d
  | .lutLoadDone => true
  | .protSwap m d => m.wf && wordWf d
  | .protRearm m d => m.wf && wordWf d
  | .blitListStart => true
  | .bltEnd => true
  | .bltFill => true
  | .bltCopy => true
  | .bltBlend => true
  | .bltWaitLine => true
  | .waitLineTimeout => true
  | .bltFence => true
  | .bltIrq => true
  | .stripeCopiesDone g member => decide (g < 4) && decide (member < 64)
  | .lineStatus p l segs _ => decide (p < 12) && decide (l < 2 ^ 16) && decide (segs < 2 ^ 12)
  | .folovAck p seq code => decide (p < 12) && decide (seq < 256) && decide (code < 256)
  | .regData p seq v => decide (p < 12) && decide (seq < 256) && decide (v < 2 ^ 32)
  | .modelData p seq b => decide (p < 12) && decide (seq < 256) && decide (b.length ≤ 1024)
  | .panelSensor p sensor t => decide (p < 12) && decide (sensor < 256) && decide (-32768 ≤ t) && decide (t < 32768)
  | .panelEvent p code => decide (p < 12) && decide (code < 256)
  | .ctrlAnswerTimeout p seq => decide (p < 12) && decide (seq < 256)
  | .drvRegRead m p a => m.wf && decide (p < 12) && decide (a < 65536)
  | .drvRegWrite m p a => m.wf && decide (p < 12) && decide (a < 65536)
  | .ovdTableLoad m d => m.wf && wordWf d
  | .ovdTableLoadDone => true
  | .ovdTableSwap m d => m.wf && wordWf d
  | .histReset m d => m.wf && wordWf d
  | .parkedTick => true
  | .lrKick m d => m.wf && wordWf d
  | .powerOffCmd m d => m.wf && wordWf d
  | .dischargeTimeout => true
  | .echo p l lane _ seg => decide (p < 12) && decide (l < 2 ^ 16) && decide (lane < 12) && decide (seg.length ≤ 1024)
  | .serEnable m g d => m.wf && decide (g < 16) && wordWf d
  | .serTrain m g d => m.wf && decide (g < 16) && wordWf d
  | .serRetrainLane m g d _ => m.wf && decide (g < 16) && wordWf d
  | .ts g t x => decide (g < 16) && t.wf && decide (x.order < 3) && decide (x.inverted < 2 ^ 13) && decide (x.dead < 2 ^ 13)
  | .trainingStageTimeout g => decide (g < 16)
  | .symbolLockLoss g lane => decide (g < 16) && decide (lane < 25)
  | .subCmd m g d => m.wf && decide (g < 16) && wordWf d
  | .lmBridge g l _ => decide (g < 16) && decide (l < 24)
  | .lmReady g l => decide (g < 16) && decide (l < 24)
  | .lmSwap g l => decide (g < 16) && decide (l < 24)
  | .lmAbort g l => decide (g < 16) && decide (l < 24)
  | .lmRequest g l => decide (g < 16) && decide (l < 24)
  | .substitutionTimeout g => decide (g < 16)
  | .backchannelRelockTimeout g => decide (g < 16)
  | .eyeScanStart m g d => m.wf && decide (g < 16) && wordWf d
  | .eyeScanDone g e => decide (g < 16) && wordWf e
  | .loopModeWrite m g d => m.wf && decide (g < 16) && wordWf d
  | .loopCommand g mode lane => decide (g < 16) && decide (mode < 16) && decide (lane < 16)
  | .symbolLockRegained g lane => decide (g < 16) && decide (lane < 25)
  | .loopElectricalIdleTimeout g => decide (g < 16)
  | .regWr r => r.wf
  | .regRd r => r.wf
  | .regRdCpl r => r.wf
  | .memWr r => r.wf
  | .memRd r => r.wf
  | .memRdCpl r => r.wf
  | .xshDoorbell r => r.wf
  | .xshIrq r => r.wf
  | .hostWr r => r.wf
  | .hostRd r => r.wf
  | .hostRdCpl r => r.wf
  | .enum r => r.wf
  | .enumReply r => r.wf
  | .assign r => r.wf
  | .route r => r.wf
  | .routeAck r => r.wf
  | .routeQuietEnd => true
  | .linkEvent r => r.wf
  | .yardParam r => r.wf
  | .yardParamPeriod => true
  | .sighting r period => r.wf && decide (0 < period)
  | .estimate r => r.wf
  | .rosterChange r => r.wf
  | .flipPrep r => r.wf
  | .flipAck r => r.wf
  | .flip r => r.wf
  | .xshLink r => r.wf
  | .xshTest r e b => r.wf && decide (e ≤ b)
  | .linkSendTimer p => decide (p < 4)
  | .replayTimeout p => decide (p < 4)
  | .headElectionTimeout => true
  | .orphanTimeout => true
  | .ptpSync r _ => r.wf
  | .ptpFollowUp r _ => r.wf
  | .ptpPdelayReq r _ => r.wf
  | .ptpPdelayResp r _ => r.wf
  | .ptpPdelayRespFollowUp r _ => r.wf
  | .syncInterval => true
  | .pdelayInterval => true
  | .syncLossTimeout => true
  | .timeStep m d => m.wf && decide (d < 2 ^ 64)
  | .timeReadCapture m => m.wf
  | .triggerEdge t => decide (t < 16)
  | .triggerUpdate m t d => m.wf && decide (t < 16) && wordWf d
  | .captureEdge src _ => decide (src < 32)
  | .capPop m c d => m.wf && decide (c < 8) && wordWf d
  | .txqFind m p d => m.wf && decide (p < 4) && wordWf d
  | .txqAgeExpiry p => decide (p < 4)
  | .refreshInterval banks => banks.all (fun b => decide (b < 768))
  | .readCentringCheck c r step => decide (c < 16) && decide (r < 3) && decide (-1 ≤ step) && decide (step ≤ 1)
  | .scrubPass w found => decide (found < 3) && (match w with
    | .plain a => decide (a < 2 ^ 40)
    | .spare r => decide (r < 64)
    | .lenslet a _ => decide (a < 2 ^ 40)
    | .package a slot => decide (a < 2 ^ 40) && decide (slot < 4)
    | .model a p => decide (a < 2 ^ 40) && decide (p < 8))
  | .speedGo m d => m.wf && wordWf d
  | .speedChangeDone => true
  | .migrationDone => true
  | .dmcLoop m c d => m.wf && decide (c < 16) && wordWf d
  | .dmcLoopDone c e _ => decide (c < 16) && wordWf e
  | .bufClaim m d => m.wf && wordWf d
  | .bufRelease m d => m.wf && wordWf d
  | .bufDataAccess m w => m.wf && decide (w.getD 0 < 2 ^ 64)
  | .bufFill m d => m.wf && decide (d < 2 ^ 64)
  | .bufFillDone => true
  | .store m n mv => m.wf && wordWf n && decide (mv < 65536)
  | .commitDone => true
  | .loftReadData m found => m.wf && decide (found < 3)
  | .loftScrub => true
  | .groomNow m d => m.wf && wordWf d
  | .groomPassStart => true
  | .groomPassEnd => true
  | .groomAnalysisDone _ => true
  | .calApplyArm m d => m.wf && wordWf d
  | .xtalBad => true
  | .refWindow _ _ => true
  | .refHoldoverTimeout => true
  | .xtalRecovered => true
  | .sensorSample l => l.all (fun r => decide (r.1 < 80))
  | .attestChallenge r => r.wf
  | .attestStatement r => r.wf
  | .attestKeys r => r.wf
  | .attestDone r => r.wf
  | .reattestTimer => true
  | .getIdentity => true
  | .mbxAttest => true
  | .claimOwner => true
  | .replaceOwner => true
  | .releaseOwner => true
  | .setPage => true
  | .setLoftProtect => true
  | .loftRead => true
  | .fwUpdate => true
  | .enrol => true
  | .unenrol => true
  | .rotateYardKey => true
  | .protectedLoad => true
  | .debugUnlock => true
  | .debugLock => true
  | .heldEntryPost => true
  | .entryService => true
  | .logCommit _ => true
  | .errInjectArm m d => m.wf && wordWf d
  | .logEntryCaptureRead m w => m.wf && decide (w < 8)
  | .muckOutGo m d => m.wf && wordWf d
  | .muckOutDone _ mhz parts _ => decide (mhz < 65536) && parts.all wordWf
  | .powerOnReset _ _ => true
  | .perstAssert => true
  | .deviceReset m d => m.wf && wordWf d
  | .linkReset => true
  | .pcieLinkUp => true
  | .startUp x => decide (x.linkw < 4) && decide (x.holdupMv < 65536) && x.channels.all (fun c => decide (c < 16)) &&
      x.ranks.all (fun r => decide (r < 64)) && x.selfTest.all wordWf
  | .panelWaitEnd => true
  | .pwrfailAssert => true
  | .pwrfailDeassert => true
  | .railOutOfRange r mv => decide (r < 9) && decide (mv < 65536)
  | .pllUnlock p => p.wf
  | .railReturnsToTolerance r mv => decide (r < 9) && decide (mv < 65536)

end Sys2Proof
end

