-- ==== Sys2Proof/Tests/Slice0.lean ====
section
/-! SUPPORT. Tests/Slice0.lean: worked examples of the spec, a term that each check of well-formedness refuses, and for every statement of
Certificates/Slice0/Obligations.lean concrete states and operands that meet its hypotheses together, one part for each clause that has hypotheses
(`witness_<statement>`; where a statement joins two groups of rules, one theorem for each). -/


namespace Sys2Proof.Tests

set_option Elab.async false
set_option maxRecDepth 10000
set_option linter.unusedVariables false

open Sys2Proof.Machine

/-- The state after reset with some fields set. -/
def resetWith (l : List (Field × Nat)) : State := State.reset.setAll l

/-- The state after reset with some fields set. -/
def upWith (l : List (Field × Nat)) : State := State.reset.setAll l

/-- A controller, alone in its yard, with one interleave set of 1 GiB of DRAM in the normal world, with some fields set. -/
def dramWith (l : List (Field × Nat)) : State :=
  upWith ([(F.HIF_SLOT_PRESENT_SLOTS, 1), (F.DMC_ISET_EN 0, 1), (F.SEC_REGION_EN 0, 1), (F.SEC_REGION_WORLD 0, 1), (F.SEC_REGION_LIMIT 0, 1023)] ++ l)

/-- A block of a kind for a queue and a set, with its header and check. -/
def blockFor (kind queue set : Nat) (payload : List Byte) : List Byte :=
  let b := leBytes 2 0x5EC7 ++ leBytes 1 0x10 ++ leBytes 1 kind ++ leBytes 4 payload.length ++ leBytes 4 (queue + set * 2 ^ 18) ++ leBytes 4 0 ++ payload
  b ++ leBytes 4 (crc32c b)

/-- A descriptor as it lies in a ring. -/
def descAt (src length kind flags seq : Nat) : List Byte :=
  leBytes 8 src ++ leBytes 4 length ++ leBytes 1 kind ++ leBytes 1 flags ++ leBytes 2 0 ++ leBytes 4 seq ++ leBytes 12 0

/-- A controller whose queue manager serves one queue: its context, what has started, and bytes of device memory. -/
def queueWith (q : Nat) (c : QCtx) (runs : List Run) (a : Nat) (bs : List Byte) (l : List (Field × Nat)) : State :=
  let s := dramWith ([(F.QMG_CTRL_ENABLE, 1), (F.QMG_CQ_SIZE_CQ_LOG2 1, 4), (F.QMG_CQ_BASE_ADDR 1, 0x1000)] ++ l)
  { s with scene := { Scene.reset with ctxs := [(q, c)], runs := runs }, mem := { s.mem with dram := memWrite [] a bs } }

/-- A context of a ring of 16 entries at address 0x2000, of completion ring 1. -/
def ctxWith (head tail : Nat) : QCtx := ⟨0x2000, 4, 1, true, false, false, head, tail, 0, 0⟩

/-- A run of a queue's front descriptor at a stage, with its block. -/
def runAt (q seq kind : Nat) (stage : Stage) (block : List Byte) : Run :=
  ⟨q, 5, ⟨0x4000, block.length, kind, 0, 0, seq, 0⟩, stage, block, true, false, 0, [], false, 0, 0, 0⟩

/-- The plan of a band's first window of subframe 0, facet 0. -/
def planAt (band : Nat) : Plan := ⟨band, 0, 0, 100000, 1500000, 2000000, 2500000, 2572, 0, 3, 0, 1000, 2000, 3000, 4000, 0, 0, [], 0, [], (0, 0, 0), 0, 0, false, false, 0⟩

/-- A lot of a band's first window, at a stall and engine 3. -/
def lotAt (band index : Nat) (phase : LotPhase) (stall : Nat) : Lot := ⟨band, 0, 0, index, ⟨[], 1, 1⟩, 0, 92000, phase, stall, stall, 3, 0, [], 0, 0⟩

/-- A controller whose drum shows light-field output on six facets, with lots and plans. -/
def lightWith (lots : List Lot) (plans : List Plan) (l : List (Field × Nat)) : State :=
  { dramWith ([(F.DRU_STATE_LF_OUT, 1), (F.DRU_STATE_FACETS, 6)] ++ l) with rsy := { Rsy.reset with lots := lots }, drum := { Drum.reset with plans := plans, bands := List.replicate 12 (0, 0), omegaE := 2 ^ 24 } }

/-- An open frame of 4 by 70 pixels, number 5, slot 0, with lines stored. -/
def frameAt (lines : List (List Nat × Bool)) : CamFrame :=
  ⟨5, 0, 5, 0, 4, 70, 0, 0, 0, ExpSet.none, 0, lines, lines.length, 0, false, [], 0, 0, [], [], [], 0, false, [(0, 0)]⟩

/-- A controller whose camera port `p` is enabled on virtual channel 1, triggered, with a ring of 4 slots, and in a state. -/
def cameraWith (p : Nat) (c : Cam) (l : List (Field × Nat)) : State :=
  { dramWith ([(F.CAM_CFG_ENABLE p, 1), (F.CAM_CFG_TRIGGERED p, 1), (F.CAM_CFG_LANES p, 1), (F.CAM_GEOM_WIDTH p, 4), (F.CAM_GEOM_HEIGHT p, 70), (F.CAM_RING_BASE_ADDR p, 0x1000), (F.CAM_RING_CFG_SLOTS p, 3), (F.CAM_RING_CFG_SLOT_SIZE p, 2), (F.CAM_OUT_PITCH p, 64), (F.CAM_CFG_VC p, 1), (F.IPP_STATUS_MODE 0, 0), (F.IPP_STATUS_MODE 1, 0)] ++ l) with
    cams := { Cams.reset with ports := Cams.reset.ports.set p c } }

/-- An eye at rest, as estimated at time 1000. -/
def eyeAt (x : Int) : EyeEst := ⟨x, 0, 5000, 0, 0, 0, 1000⟩

/-- A controller that sees from 0 to 65 m, with viewers and candidates. -/
def rosterWith (vs : List Viewer) (ps : List Person) (l : List (Field × Nat)) : State :=
  { upWith ([(F.VWB_RANGE_MIN_MM, 0), (F.VWB_RANGE_MAX_MM, 65535), (F.VWB_TRACK_CFG_CONFIRM, 3)] ++ l) with
    roster := { Roster.reset with viewers := vs, candidates := ps, edition := vs, lastId := 9 } }

/-- A controller whose lane group `g` is in a state, with some fields set. -/
def groupWith (g : Nat) (x : LaneGroup) (l : List (Field × Nat)) : State :=
  let s := dramWith l
  { s with ser := s.ser.set g x }

/-- A controller with a yard, with some fields set; ports 0 and 2 of the yard are up. -/
def yardWith (y : Yard) (l : List (Field × Nat)) : State :=
  { dramWith ([(F.XSH_PORT_STATE 0, 2), (F.XSH_PORT_STATE 2, 2), (F.SER_GROUP_STATE_STATE 12, 6), (F.SER_GROUP_STATE_STATE 14, 6)] ++ l) with yard := y }

/-- A frame with no payload from a device to another. -/
def frameOf (typ vc dst src arg addr tag : Nat) (payload : List Byte) : Frame := ⟨typ, vc, 0, false, 0, dst, src, 0, 0, 0, arg, addr, tag, payload⟩

/-- A frame that comes whole on port 0. -/
def rxOf (f : Frame) : Rx := ⟨0, true, 0, [], false, true, f⟩

/-- What the link layer and forwarding leave of a state. -/
def after (s : State) (rx : Rx) (typ : Nat) : State :=
  (acceptFrame s { rx with port := rx.port % 4, frame := { rx.frame with typ := typ } }).1

/-- Bytes of an empty memory. -/
theorem memRead_nil (a n : Nat) : memRead [] a n = List.replicate n 0 := by
  unfold memRead
  rw [show (fun i => memGet ([] : List Host.Cell) (a + i)) = Function.const Nat (0 : Byte) from rfl, List.map_const, List.length_range]

/-- Words of zeros are table words. -/
theorem lutWordsOk_zeros : ∀ k : Nat, lutWordsOk (List.replicate (2 * k) 0) = true
  | 0 => rfl
  | k + 1 => lutWordsOk_zeros k

/-- A table whose first word's upper byte is 16 or more is refused. -/
theorem lutWordsOk_first (m : List Host.Cell) (a n : Nat) (h : 16 ≤ (memGet m (a + 1)).toNat) : lutWordsOk (memRead m a (n + 2)) = false := by
  have e : memRead m a (n + 2) = memGet m (a + 0) :: memGet m (a + 1) :: (List.range n).map (fun i => memGet m (a + (i + 1 + 1))) := by
    simp [memRead, List.range_succ_eq_map, Function.comp_def]
  rw [e, lutWordsOk, decide_eq_false (Nat.not_lt.mpr h), Bool.false_and]

/-! ### Well-formedness -/

/-- A frame that comes whole on port 0, all its fields 0. -/
def rx0 : Rx := ⟨0, true, 0, [], false, true, ⟨0, 0, 0, false, 0, 0, 0, 0, 0, 0, 0, 0, 0, []⟩⟩

/-- A frame on a port that does not exist. -/
def rxBad : Rx := { rx0 with port := 4 }

/-- A training set, all its fields 0. -/
def ts0 : Ts := ⟨0, 0, 0, 0, false, 0, 0, false, 0, 0, 0, 0⟩

/-- A term of each command in its ranges is well formed. -/
theorem test_wellFormed_1 :
    List.all (α := Instr) [.registerWrite .pcie 0 4 0,
      .registerReadClear .pcie 0 4,
      .pieceReadCapture .pcie 0,
      .pieceWrite .pcie 0 4 0,
      .forwardedAccess 0 0 (.regRead 0 4),
      .fwdReadTimeout 0,
      .bar4Access 0 none 0 0,
      .irqClrWrite .pcie 0 0,
      .intVecWrite .pcie 0 0 0,
      .msixUnmask 0,
      .secureLatchClear 0 0 none,
      .effectiveEvaluate 0,
      .mirrorUpdate 0 0,
      .watchdogExpiry 0,
      .mpRestartDone 0,
      .doorbell .pcie 0 4 0,
      .ctxRead .pcie 0,
      .ctxInit .pcie 0,
      .ctxDisable .pcie 0,
      .ctxEnable .pcie 0,
      .ctxCmdComplete,
      .descriptorStart true,
      .blockReadDone 0 true,
      .decodeDone 0,
      .descriptorRetire 0 true,
      .cqHeadWrite .pcie 0 0,
      .cqAgeTimeout 0,
      .heldWriteRelease 0,
      .fenceWrite .pcie 0 0,
      .fenceMaxWrite .pcie 0 0,
      .commitLatch,
      .subframeBoundary,
      .kselArm .pcie 0,
      .kselLoadDone,
      .ldeltaArm .pcie 0,
      .lensletBuildDone,
      .pkgCmd .pcie 0,
      .pkgInstallDone .fetchError,
      .releasePoint 0,
      .lotRelease 0] Instr.wf = true := by
  decide +kernel

/-- A term of each command in its ranges is well formed. -/
theorem test_wellFormed_2 :
    List.all (α := Instr) [.lotDispatch 0 0,
      .spanDeposit 0 0,
      .lineMove 0,
      .lineDue 0,
      .overlayRowRead 0 0,
      .engineFailure 0 0 .storage,
      .lotTimeout 0 0,
      .encoderEdge 0,
      .indexEdge 0,
      .coastTimeout,
      .spinupValidTimeout,
      .speedDeviationTimeout,
      .drumFaultInput true,
      .stopWaitExpiry,
      .drumSpeedThreshold .target,
      .parkBrakePoint,
      .parkPositionCheck,
      .schedSwap .pcie 0,
      .writeStartPoint 0,
      .lineSlotStart 0,
      .writeDeadlinePoint 0,
      .strobeOnPoint 0,
      .strobeOffPoint 0,
      .csiFrameStart 0 ⟨0, 0⟩ 0,
      .csiFrameEnd 0 ⟨0, 0⟩,
      .csiLine 0 ⟨0, 0⟩ 0x2A true [],
      .csiEmbedded 0 ⟨0, 0⟩ [0],
      .csiGeneric 0 ⟨0, 0⟩ 8 0,
      .camTrigger 0,
      .frameTimeout 0,
      .lineTimeout 0,
      .testPatternLine 0,
      .camEnable .pcie 0 0,
      .expSetPost .pcie 0 0,
      .i2cCmd .pcie 0 0,
      .i2cTransactionDone 0 0 [0],
      .i2cStretchTimeout 0,
      .stripeStart 0,
      .stripeComplete 0,
      .ringSlotRelease .pcie 0 0] Instr.wf = true := by
  decide +kernel

/-- A term of each command in its ranges is well formed. -/
theorem test_wellFormed_3 :
    List.all (α := Instr) [.statsCaptureRead .pcie 0,
      .detectionDone 0 true 0 true [],
      .fusionUpdate 0 0 0 0 1 0,
      .trackLostTimeout (.viewer 0),
      .coastExpiry 0,
      .ownerReassign 0 0,
      .zoneUnobserved 0,
      .rosterCaptureRead .pcie,
      .trackingFrameTimeout 0,
      .flipArm .pcie 0 0,
      .flipCancel .pcie 0 0,
      .yardFlipTimeout 0,
      .lutLoad .pcie 0,
      .lutLoadDone,
      .protSwap .pcie 0,
      .protRearm .pcie 0,
      .blitListStart,
      .bltEnd,
      .bltFill,
      .bltCopy,
      .bltBlend,
      .bltWaitLine,
      .waitLineTimeout,
      .bltFence,
      .bltIrq,
      .stripeCopiesDone 0 0,
      .lineStatus 0 0 0 true,
      .folovAck 0 0 0,
      .regData 0 0 0,
      .modelData 0 0 [0],
      .panelSensor 0 0 0,
      .panelEvent 0 0,
      .ctrlAnswerTimeout 0 0,
      .drvRegRead .pcie 0 0,
      .drvRegWrite .pcie 0 0,
      .ovdTableLoad .pcie 0,
      .ovdTableLoadDone,
      .ovdTableSwap .pcie 0,
      .histReset .pcie 0,
      .parkedTick] Instr.wf = true := by
  decide +kernel

/-- A term of each command in its ranges is well formed. -/
theorem test_wellFormed_4 :
    List.all (α := Instr) [.lrKick .pcie 0,
      .powerOffCmd .pcie 0,
      .dischargeTimeout,
      .echo 0 0 0 true [0],
      .serEnable .pcie 0 0,
      .serTrain .pcie 0 0,
      .serRetrainLane .pcie 0 0 true,
      .ts 0 ts0 ⟨true, 0, 0, 0, none⟩,
      .trainingStageTimeout 0,
      .symbolLockLoss 0 0,
      .subCmd .pcie 0 0,
      .lmBridge 0 0 true,
      .lmReady 0 0,
      .lmSwap 0 0,
      .lmAbort 0 0,
      .lmRequest 0 0,
      .substitutionTimeout 0,
      .backchannelRelockTimeout 0,
      .eyeScanStart .pcie 0 0,
      .eyeScanDone 0 0,
      .loopModeWrite .pcie 0 0,
      .loopCommand 0 0 0,
      .symbolLockRegained 0 0,
      .loopElectricalIdleTimeout 0,
      .regWr rx0,
      .regRd rx0,
      .regRdCpl rx0,
      .memWr rx0,
      .memRd rx0,
      .memRdCpl rx0,
      .xshDoorbell rx0,
      .xshIrq rx0,
      .hostWr rx0,
      .hostRd rx0,
      .hostRdCpl rx0,
      .enum rx0,
      .enumReply rx0,
      .assign rx0,
      .route rx0,
      .routeAck rx0] Instr.wf = true := by
  decide +kernel

/-- A term of each command in its ranges is well formed. -/
theorem test_wellFormed_5 :
    List.all (α := Instr) [.routeQuietEnd,
      .linkEvent rx0,
      .yardParam rx0,
      .yardParamPeriod,
      .sighting rx0 1,
      .estimate rx0,
      .rosterChange rx0,
      .flipPrep rx0,
      .flipAck rx0,
      .flip rx0,
      .xshLink rx0,
      .xshTest rx0 0 0,
      .linkSendTimer 0,
      .replayTimeout 0,
      .headElectionTimeout,
      .orphanTimeout,
      .ptpSync rx0 0,
      .ptpFollowUp rx0 0,
      .ptpPdelayReq rx0 0,
      .ptpPdelayResp rx0 0,
      .ptpPdelayRespFollowUp rx0 0,
      .syncInterval,
      .pdelayInterval,
      .syncLossTimeout,
      .timeStep .pcie 0,
      .timeReadCapture .pcie,
      .triggerEdge 0,
      .triggerUpdate .pcie 0 0,
      .captureEdge 0 true,
      .capPop .pcie 0 0,
      .txqFind .pcie 0 0,
      .txqAgeExpiry 0,
      .refreshInterval [],
      .readCentringCheck 0 0 0,
      .scrubPass (.plain 0) 0,
      .speedGo .pcie 0,
      .speedChangeDone,
      .migrationDone,
      .dmcLoop .pcie 0 0,
      .dmcLoopDone 0 0 0] Instr.wf = true := by
  decide +kernel

/-- A term of each command in its ranges is well formed. -/
theorem test_wellFormed_6 :
    List.all (α := Instr) [.bufClaim .pcie 0,
      .bufRelease .pcie 0,
      .bufDataAccess .pcie none,
      .bufFill .pcie 0,
      .bufFillDone,
      .store .pcie 0 0,
      .commitDone,
      .loftReadData .pcie 0,
      .loftScrub,
      .groomNow .pcie 0,
      .groomPassStart,
      .groomPassEnd,
      .groomAnalysisDone ⟨[], [], none, none, [], none⟩,
      .calApplyArm .pcie 0,
      .xtalBad,
      .refWindow 0 0,
      .refHoldoverTimeout,
      .xtalRecovered,
      .sensorSample [],
      .attestChallenge rx0,
      .attestStatement rx0,
      .attestKeys rx0,
      .attestDone rx0,
      .reattestTimer,
      .getIdentity,
      .mbxAttest,
      .claimOwner,
      .replaceOwner,
      .releaseOwner,
      .setPage,
      .setLoftProtect,
      .loftRead,
      .fwUpdate,
      .enrol,
      .unenrol,
      .rotateYardKey,
      .protectedLoad,
      .debugUnlock,
      .debugLock,
      .heldEntryPost] Instr.wf = true := by
  decide +kernel

/-- A term of each command in its ranges is well formed. -/
theorem test_wellFormed_7 :
    List.all (α := Instr) [.entryService,
      .logCommit true,
      .errInjectArm .pcie 0,
      .logEntryCaptureRead .pcie 0,
      .muckOutGo .pcie 0,
      .muckOutDone true 0 [] [],
      .powerOnReset true .completed,
      .perstAssert,
      .deviceReset .pcie 0,
      .linkReset,
      .pcieLinkUp,
      .startUp ⟨0, 0, 0, [], [], []⟩,
      .panelWaitEnd,
      .pwrfailAssert,
      .pwrfailDeassert,
      .railOutOfRange 0 0,
      .pllUnlock .ioCore,
      .railReturnsToTolerance 0 0] Instr.wf = true := by
  decide +kernel

/-- A packet of 65,536 bytes of embedded data, or more, is refused. -/
theorem test_illFormed_embedded (b : List Byte) (h : 65536 ≤ b.length) : Instr.wf (.csiEmbedded 0 ⟨0, 0⟩ b) = false := by
  have e : Instr.wf (.csiEmbedded 0 ⟨0, 0⟩ b) = (decide (0 < 8) && CsiHead.wf ⟨0, 0⟩ && decide (b.length < 65536)) := rfl
  rw [e, decide_eq_false (Nat.not_lt.mpr h), Bool.and_false]

/-- A term out of range in one operand is refused. -/
theorem test_illFormed_1 :
    List.all (α := Instr) [.registerWrite (.mp 4) 0 4 0,
      .registerWrite .pcie (2 ^ 70) 4 0,
      .registerWrite .pcie 0 (2 ^ 70) 0,
      .registerWrite .pcie 0 0 0,
      .registerWrite .pcie 0 4 (2 ^ 70),
      .registerReadClear (.mp 4) 0 4,
      .registerReadClear .pcie (2 ^ 70) 4,
      .registerReadClear .pcie 0 (2 ^ 70),
      .registerReadClear .pcie 0 0,
      .pieceReadCapture (.mp 4) 0,
      .pieceReadCapture .pcie (2 ^ 70),
      .pieceWrite (.mp 4) 0 4 0,
      .pieceWrite .pcie (2 ^ 70) 4 0,
      .pieceWrite .pcie 0 (2 ^ 70) 0,
      .pieceWrite .pcie 0 0 0,
      .pieceWrite .pcie 0 4 (2 ^ 70),
      .forwardedAccess (2 ^ 70) 0 (.regRead 0 4),
      .forwardedAccess 0 (2 ^ 70) (.regRead 0 4),
      .forwardedAccess 0 0 (.regWrite 0 4 (2 ^ 32)),
      .forwardedAccess 0 0 (.regRead 0 3),
      .forwardedAccess 0 0 (.doorbell (2 ^ 18) 0),
      .forwardedAccess 0 0 (.doorbell 0 (2 ^ 64)),
      .forwardedAccess 0 0 (.queueWrite 0 8 0),
      .forwardedAccess 0 0 (.queueWrite (2 ^ 21) 4 0),
      .forwardedAccess 0 0 (.queueWrite 0 4 (2 ^ 32)),
      .forwardedAccess 0 0 (.queueRead (2 ^ 21) 8),
      .forwardedAccess 0 0 (.memWrite (2 ^ 40) [0]),
      .forwardedAccess 0 0 (.memWrite 0 []),
      .forwardedAccess 0 0 (.memRead (2 ^ 40) 1),
      .forwardedAccess 0 0 (.memRead 0 0),
      .forwardedAccess 0 0 (.memRead 0 4097),
      .fwdReadTimeout (2 ^ 70),
      .bar4Access (2 ^ 70) none 0 0,
      .bar4Access 0 (some (List.replicate 4097 0)) 0 0,
      .bar4Access 0 none (2 ^ 70) 0,
      .bar4Access 0 none 0 (2 ^ 70),
      .irqClrWrite (.mp 4) 0 0,
      .irqClrWrite .pcie (2 ^ 70) 0,
      .irqClrWrite .pcie 0 (2 ^ 70),
      .intVecWrite (.mp 4) 0 0 0] (fun i => !i.wf) = true := by
  decide +kernel

/-- A term out of range in one operand is refused. -/
theorem test_illFormed_2 :
    List.all (α := Instr) [.intVecWrite .pcie (2 ^ 70) 0 0,
      .intVecWrite .pcie 0 (2 ^ 70) 0,
      .intVecWrite .pcie 0 0 (2 ^ 70),
      .msixUnmask (2 ^ 70),
      .secureLatchClear (2 ^ 70) 0 none,
      .secureLatchClear 0 (2 ^ 70) none,
      .secureLatchClear 0 0 (some (2 ^ 64)),
      .effectiveEvaluate (2 ^ 70),
      .mirrorUpdate (2 ^ 70) 0,
      .mirrorUpdate 0 (2 ^ 70),
      .watchdogExpiry (2 ^ 70),
      .mpRestartDone (2 ^ 70),
      .doorbell (.mp 4) 0 4 0,
      .doorbell .pcie (2 ^ 70) 4 0,
      .doorbell .pcie 0 (2 ^ 70) 0,
      .doorbell .pcie 0 0 0,
      .doorbell .pcie 0 4 (2 ^ 70),
      .ctxRead (.mp 4) 0,
      .ctxRead .pcie (2 ^ 70),
      .ctxInit (.mp 4) 0,
      .ctxInit .pcie (2 ^ 70),
      .ctxDisable (.mp 4) 0,
      .ctxDisable .pcie (2 ^ 70),
      .ctxEnable (.mp 4) 0,
      .ctxEnable .pcie (2 ^ 70),
      .blockReadDone (2 ^ 70) true,
      .decodeDone (2 ^ 70),
      .descriptorRetire (2 ^ 70) true,
      .cqHeadWrite (.mp 4) 0 0,
      .cqHeadWrite .pcie (2 ^ 70) 0,
      .cqHeadWrite .pcie 0 (2 ^ 70),
      .cqAgeTimeout (2 ^ 70),
      .heldWriteRelease (2 ^ 70),
      .fenceWrite (.mp 4) 0 0,
      .fenceWrite .pcie (2 ^ 70) 0,
      .fenceWrite .pcie 0 (2 ^ 70),
      .fenceMaxWrite (.mp 4) 0 0,
      .fenceMaxWrite .pcie (2 ^ 70) 0,
      .fenceMaxWrite .pcie 0 (2 ^ 70),
      .kselArm (.mp 4) 0] (fun i => !i.wf) = true := by
  decide +kernel

/-- A term out of range in one operand is refused. -/
theorem test_illFormed_3 :
    List.all (α := Instr) [.kselArm .pcie (2 ^ 70),
      .ldeltaArm (.mp 4) 0,
      .ldeltaArm .pcie (2 ^ 70),
      .pkgCmd (.mp 4) 0,
      .pkgCmd .pcie (2 ^ 70),
      .releasePoint (2 ^ 70),
      .lotRelease (2 ^ 70),
      .lotDispatch (2 ^ 70) 0,
      .lotDispatch 0 (2 ^ 70),
      .spanDeposit (2 ^ 70) 0,
      .spanDeposit 0 (2 ^ 70),
      .lineMove (2 ^ 70),
      .lineDue (2 ^ 70),
      .overlayRowRead (2 ^ 70) 0,
      .overlayRowRead 0 (2 ^ 70),
      .engineFailure (2 ^ 70) 0 .storage,
      .engineFailure 0 (2 ^ 70) .storage,
      .lotTimeout (2 ^ 70) 0,
      .lotTimeout 0 (2 ^ 70),
      .encoderEdge (2 ^ 70),
      .indexEdge (2 ^ 70),
      .schedSwap (.mp 4) 0,
      .schedSwap .pcie (2 ^ 70),
      .writeStartPoint (2 ^ 70),
      .lineSlotStart (2 ^ 70),
      .writeDeadlinePoint (2 ^ 70),
      .strobeOnPoint (2 ^ 70),
      .strobeOffPoint (2 ^ 70),
      .csiFrameStart (2 ^ 70) ⟨0, 0⟩ 0,
      .csiFrameStart 0 ⟨4, 0⟩ 0,
      .csiFrameStart 0 ⟨0, 3⟩ 0,
      .csiFrameStart 0 ⟨0, 0⟩ (2 ^ 70),
      .csiFrameEnd (2 ^ 70) ⟨0, 0⟩,
      .csiFrameEnd 0 ⟨4, 0⟩,
      .csiFrameEnd 0 ⟨0, 3⟩,
      .csiLine (2 ^ 70) ⟨0, 0⟩ 0x2A true [],
      .csiLine 0 ⟨4, 0⟩ 0x2A true [],
      .csiLine 0 ⟨0, 3⟩ 0x2A true [],
      .csiLine 0 ⟨0, 0⟩ (2 ^ 70) true [],
      .csiLine 0 ⟨0, 0⟩ 0 true []] (fun i => !i.wf) = true := by
  decide +kernel

/-- A term out of range in one operand is refused. -/
theorem test_illFormed_4 :
    List.all (α := Instr) [.csiLine 0 ⟨0, 0⟩ 0x2A true [2 ^ 32],
      .csiEmbedded (2 ^ 70) ⟨0, 0⟩ [0],
      .csiEmbedded 0 ⟨4, 0⟩ [0],
      .csiEmbedded 0 ⟨0, 3⟩ [0],
      .csiGeneric (2 ^ 70) ⟨0, 0⟩ 8 0,
      .csiGeneric 0 ⟨4, 0⟩ 8 0,
      .csiGeneric 0 ⟨0, 3⟩ 8 0,
      .csiGeneric 0 ⟨0, 0⟩ (2 ^ 70) 0,
      .csiGeneric 0 ⟨0, 0⟩ 0 0,
      .csiGeneric 0 ⟨0, 0⟩ 8 (2 ^ 70),
      .camTrigger (2 ^ 70),
      .frameTimeout (2 ^ 70),
      .lineTimeout (2 ^ 70),
      .testPatternLine (2 ^ 70),
      .camEnable (.mp 4) 0 0,
      .camEnable .pcie (2 ^ 70) 0,
      .camEnable .pcie 0 (2 ^ 70),
      .expSetPost (.mp 4) 0 0,
      .expSetPost .pcie (2 ^ 70) 0,
      .expSetPost .pcie 0 (2 ^ 70),
      .i2cCmd (.mp 4) 0 0,
      .i2cCmd .pcie (2 ^ 70) 0,
      .i2cCmd .pcie 0 (2 ^ 70),
      .i2cTransactionDone (2 ^ 70) 0 [0],
      .i2cTransactionDone 0 (2 ^ 70) [0],
      .i2cTransactionDone 0 0 (List.replicate 9 0),
      .i2cStretchTimeout (2 ^ 70),
      .stripeStart (2 ^ 70),
      .stripeComplete (2 ^ 70),
      .ringSlotRelease (.mp 4) 0 0,
      .ringSlotRelease .pcie (2 ^ 70) 0,
      .ringSlotRelease .pcie 0 (2 ^ 70),
      .statsCaptureRead (.mp 4) 0,
      .statsCaptureRead .pcie (2 ^ 70),
      .detectionDone (2 ^ 70) true 0 true [],
      .detectionDone 0 true (2 ^ 70) true [],
      .detectionDone 0 true 0 true [⟨0, 0, 0, 256⟩],
      .fusionUpdate 0 0 0 0 0 0,
      .fusionUpdate 0 0 0 0 1 (2 ^ 70),
      .trackLostTimeout (.viewer 32)] (fun i => !i.wf) = true := by
  decide +kernel

/-- A term out of range in one operand is refused. -/
theorem test_illFormed_5 :
    List.all (α := Instr) [.coastExpiry (2 ^ 70),
      .ownerReassign (2 ^ 70) 0,
      .ownerReassign 0 (2 ^ 70),
      .zoneUnobserved (2 ^ 70),
      .rosterCaptureRead (.mp 4),
      .trackingFrameTimeout (2 ^ 70),
      .flipArm (.mp 4) 0 0,
      .flipArm .pcie (2 ^ 70) 0,
      .flipArm .pcie 0 (2 ^ 70),
      .flipCancel (.mp 4) 0 0,
      .flipCancel .pcie (2 ^ 70) 0,
      .flipCancel .pcie 0 (2 ^ 70),
      .yardFlipTimeout (2 ^ 70),
      .lutLoad (.mp 4) 0,
      .lutLoad .pcie (2 ^ 70),
      .protSwap (.mp 4) 0,
      .protSwap .pcie (2 ^ 70),
      .protRearm (.mp 4) 0,
      .protRearm .pcie (2 ^ 70),
      .stripeCopiesDone (2 ^ 70) 0,
      .stripeCopiesDone 0 (2 ^ 70),
      .lineStatus (2 ^ 70) 0 0 true,
      .lineStatus 0 (2 ^ 70) 0 true,
      .lineStatus 0 0 (2 ^ 70) true,
      .folovAck (2 ^ 70) 0 0,
      .folovAck 0 (2 ^ 70) 0,
      .folovAck 0 0 (2 ^ 70),
      .regData (2 ^ 70) 0 0,
      .regData 0 (2 ^ 70) 0,
      .regData 0 0 (2 ^ 70),
      .modelData (2 ^ 70) 0 [0],
      .modelData 0 (2 ^ 70) [0],
      .modelData 0 0 (List.replicate 1025 0),
      .panelSensor (2 ^ 70) 0 0,
      .panelSensor 0 (2 ^ 70) 0,
      .panelSensor 0 0 (2 ^ 20),
      .panelSensor 0 0 (-2 ^ 20),
      .panelEvent (2 ^ 70) 0,
      .panelEvent 0 (2 ^ 70),
      .ctrlAnswerTimeout (2 ^ 70) 0] (fun i => !i.wf) = true := by
  decide +kernel

/-- A term out of range in one operand is refused. -/
theorem test_illFormed_6 :
    List.all (α := Instr) [.ctrlAnswerTimeout 0 (2 ^ 70),
      .drvRegRead (.mp 4) 0 0,
      .drvRegRead .pcie (2 ^ 70) 0,
      .drvRegRead .pcie 0 (2 ^ 70),
      .drvRegWrite (.mp 4) 0 0,
      .drvRegWrite .pcie (2 ^ 70) 0,
      .drvRegWrite .pcie 0 (2 ^ 70),
      .ovdTableLoad (.mp 4) 0,
      .ovdTableLoad .pcie (2 ^ 70),
      .ovdTableSwap (.mp 4) 0,
      .ovdTableSwap .pcie (2 ^ 70),
      .histReset (.mp 4) 0,
      .histReset .pcie (2 ^ 70),
      .lrKick (.mp 4) 0,
      .lrKick .pcie (2 ^ 70),
      .powerOffCmd (.mp 4) 0,
      .powerOffCmd .pcie (2 ^ 70),
      .echo (2 ^ 70) 0 0 true [0],
      .echo 0 (2 ^ 70) 0 true [0],
      .echo 0 0 (2 ^ 70) true [0],
      .echo 0 0 0 true (List.replicate 1025 0),
      .serEnable (.mp 4) 0 0,
      .serEnable .pcie (2 ^ 70) 0,
      .serEnable .pcie 0 (2 ^ 70),
      .serTrain (.mp 4) 0 0,
      .serTrain .pcie (2 ^ 70) 0,
      .serTrain .pcie 0 (2 ^ 70),
      .serRetrainLane (.mp 4) 0 0 true,
      .serRetrainLane .pcie (2 ^ 70) 0 true,
      .serRetrainLane .pcie 0 (2 ^ 70) true,
      .ts (2 ^ 70) ts0 ⟨true, 0, 0, 0, none⟩,
      .ts 0 { ts0 with lane := 13 } ⟨true, 0, 0, 0, none⟩,
      .ts 0 ts0 ⟨true, 3, 0, 0, none⟩,
      .ts 0 ts0 ⟨true, 0, 2 ^ 13, 0, none⟩,
      .ts 0 ts0 ⟨true, 0, 0, 2 ^ 13, none⟩,
      .trainingStageTimeout (2 ^ 70),
      .symbolLockLoss (2 ^ 70) 0,
      .symbolLockLoss 0 (2 ^ 70),
      .subCmd (.mp 4) 0 0,
      .subCmd .pcie (2 ^ 70) 0] (fun i => !i.wf) = true := by
  decide +kernel

/-- A term out of range in one operand is refused. -/
theorem test_illFormed_7 :
    List.all (α := Instr) [.subCmd .pcie 0 (2 ^ 70),
      .lmBridge (2 ^ 70) 0 true,
      .lmBridge 0 (2 ^ 70) true,
      .lmReady (2 ^ 70) 0,
      .lmReady 0 (2 ^ 70),
      .lmSwap (2 ^ 70) 0,
      .lmSwap 0 (2 ^ 70),
      .lmAbort (2 ^ 70) 0,
      .lmAbort 0 (2 ^ 70),
      .lmRequest (2 ^ 70) 0,
      .lmRequest 0 (2 ^ 70),
      .substitutionTimeout (2 ^ 70),
      .backchannelRelockTimeout (2 ^ 70),
      .eyeScanStart (.mp 4) 0 0,
      .eyeScanStart .pcie (2 ^ 70) 0,
      .eyeScanStart .pcie 0 (2 ^ 70),
      .eyeScanDone (2 ^ 70) 0,
      .eyeScanDone 0 (2 ^ 70),
      .loopModeWrite (.mp 4) 0 0,
      .loopModeWrite .pcie (2 ^ 70) 0,
      .loopModeWrite .pcie 0 (2 ^ 70),
      .loopCommand (2 ^ 70) 0 0,
      .loopCommand 0 (2 ^ 70) 0,
      .loopCommand 0 0 (2 ^ 70),
      .symbolLockRegained (2 ^ 70) 0,
      .symbolLockRegained 0 (2 ^ 70),
      .loopElectricalIdleTimeout (2 ^ 70),
      .regWr rxBad,
      .regRd rxBad,
      .regRdCpl rxBad,
      .memWr rxBad,
      .memRd rxBad,
      .memRdCpl rxBad,
      .xshDoorbell rxBad,
      .xshIrq rxBad,
      .hostWr rxBad,
      .hostRd rxBad,
      .hostRdCpl rxBad,
      .enum rxBad,
      .enumReply rxBad] (fun i => !i.wf) = true := by
  decide +kernel

/-- A term out of range in one operand is refused. -/
theorem test_illFormed_8 :
    List.all (α := Instr) [.assign rxBad,
      .route rxBad,
      .routeAck rxBad,
      .linkEvent rxBad,
      .yardParam rxBad,
      .sighting rxBad 1,
      .sighting rx0 0,
      .estimate rxBad,
      .rosterChange rxBad,
      .flipPrep rxBad,
      .flipAck rxBad,
      .flip rxBad,
      .xshLink rxBad,
      .xshTest rxBad 0 0,
      .xshTest rx0 (2 ^ 70) 0,
      .linkSendTimer (2 ^ 70),
      .replayTimeout (2 ^ 70),
      .ptpSync rxBad 0,
      .ptpFollowUp rxBad 0,
      .ptpPdelayReq rxBad 0,
      .ptpPdelayResp rxBad 0,
      .ptpPdelayRespFollowUp rxBad 0,
      .timeStep (.mp 4) 0,
      .timeStep .pcie (2 ^ 70),
      .timeReadCapture (.mp 4),
      .triggerEdge (2 ^ 70),
      .triggerUpdate (.mp 4) 0 0,
      .triggerUpdate .pcie (2 ^ 70) 0,
      .triggerUpdate .pcie 0 (2 ^ 70),
      .captureEdge (2 ^ 70) true,
      .capPop (.mp 4) 0 0,
      .capPop .pcie (2 ^ 70) 0,
      .capPop .pcie 0 (2 ^ 70),
      .txqFind (.mp 4) 0 0,
      .txqFind .pcie (2 ^ 70) 0,
      .txqFind .pcie 0 (2 ^ 70),
      .txqAgeExpiry (2 ^ 70),
      .refreshInterval [2 ^ 32],
      .readCentringCheck (2 ^ 70) 0 0,
      .readCentringCheck 0 (2 ^ 70) 0] (fun i => !i.wf) = true := by
  decide +kernel

/-- A term out of range in one operand is refused. -/
theorem test_illFormed_9 :
    List.all (α := Instr) [.readCentringCheck 0 0 (2 ^ 20),
      .readCentringCheck 0 0 (-2 ^ 20),
      .scrubPass (.plain (2 ^ 40)) 0,
      .scrubPass (.spare 64) 0,
      .scrubPass (.lenslet (2 ^ 40) 0) 0,
      .scrubPass (.package (2 ^ 40) 0) 0,
      .scrubPass (.package 0 4) 0,
      .scrubPass (.model (2 ^ 40) 0) 0,
      .scrubPass (.model 0 8) 0,
      .scrubPass (.plain 0) (2 ^ 70),
      .speedGo (.mp 4) 0,
      .speedGo .pcie (2 ^ 70),
      .dmcLoop (.mp 4) 0 0,
      .dmcLoop .pcie (2 ^ 70) 0,
      .dmcLoop .pcie 0 (2 ^ 70),
      .dmcLoopDone (2 ^ 70) 0 0,
      .dmcLoopDone 0 (2 ^ 70) 0,
      .bufClaim (.mp 4) 0,
      .bufClaim .pcie (2 ^ 70),
      .bufRelease (.mp 4) 0,
      .bufRelease .pcie (2 ^ 70),
      .bufDataAccess (.mp 4) none,
      .bufDataAccess .pcie (some (2 ^ 64)),
      .bufFill (.mp 4) 0,
      .bufFill .pcie (2 ^ 70),
      .store (.mp 4) 0 0,
      .store .pcie (2 ^ 70) 0,
      .store .pcie 0 (2 ^ 70),
      .loftReadData (.mp 4) 0,
      .loftReadData .pcie (2 ^ 70),
      .groomNow (.mp 4) 0,
      .groomNow .pcie (2 ^ 70),
      .calApplyArm (.mp 4) 0,
      .calApplyArm .pcie (2 ^ 70),
      .sensorSample [(80, none)],
      .attestChallenge rxBad,
      .attestStatement rxBad,
      .attestKeys rxBad,
      .attestDone rxBad,
      .errInjectArm (.mp 4) 0] (fun i => !i.wf) = true := by
  decide +kernel

/-- A term out of range in one operand is refused. -/
theorem test_illFormed_10 :
    List.all (α := Instr) [.errInjectArm .pcie (2 ^ 70),
      .logEntryCaptureRead (.mp 4) 0,
      .logEntryCaptureRead .pcie (2 ^ 70),
      .muckOutGo (.mp 4) 0,
      .muckOutGo .pcie (2 ^ 70),
      .muckOutDone true (2 ^ 70) [] [],
      .muckOutDone true 0 [2 ^ 32] [],
      .deviceReset (.mp 4) 0,
      .deviceReset .pcie (2 ^ 70),
      .startUp ⟨4, 0, 0, [], [], []⟩,
      .startUp ⟨0, 65536, 0, [], [], []⟩,
      .startUp ⟨0, 0, 0, [16], [], []⟩,
      .startUp ⟨0, 0, 0, [], [64], []⟩,
      .startUp ⟨0, 0, 0, [], [], [2 ^ 32]⟩,
      .railOutOfRange (2 ^ 70) 0,
      .railOutOfRange 0 (2 ^ 70),
      .pllUnlock (.stall 12),
      .pllUnlock (.computeDie 2),
      .pllUnlock (.dieLink 2),
      .pllUnlock (.dram 4),
      .pllUnlock (.laneGroup 23),
      .pllUnlock (.laneGroup 29),
      .railReturnsToTolerance (2 ^ 70) 0,
      .railReturnsToTolerance 0 (2 ^ 70),
      .regWr { rx0 with frame := { rx0.frame with typ := 256 } },
      .regWr { rx0 with frame := { rx0.frame with vc := 4 } },
      .regWr { rx0 with frame := { rx0.frame with epoch := 2 } },
      .regWr { rx0 with frame := { rx0.frame with lseq := 4096 } },
      .regWr { rx0 with frame := { rx0.frame with dst := 64 } },
      .regWr { rx0 with frame := { rx0.frame with src := 256 } },
      .regWr { rx0 with frame := { rx0.frame with dxy := 256 } },
      .regWr { rx0 with frame := { rx0.frame with hops := 256 } },
      .regWr { rx0 with frame := { rx0.frame with sseq := 65536 } },
      .regWr { rx0 with frame := { rx0.frame with arg := 2 ^ 32 } },
      .regWr { rx0 with frame := { rx0.frame with addr := 2 ^ 64 } },
      .regWr { rx0 with frame := { rx0.frame with tag := 65536 } },
      .regWr { rx0 with frame := { rx0.frame with payload := List.replicate 1025 0 } },
      .regWr { rx0 with badLanes := 4096 },
      .regWr { rx0 with symbols := [13] },
      .ts 0 { ts0 with source := 256 } ⟨true, 0, 0, 0, none⟩] (fun i => !i.wf) = true := by
  decide +kernel

/-- A term out of range in one operand is refused. -/
theorem test_illFormed_11 :
    List.all (α := Instr) [.ts 0 { ts0 with stage := 256 } ⟨true, 0, 0, 0, none⟩,
      .ts 0 { ts0 with reqLane := 16 } ⟨true, 0, 0, 0, none⟩,
      .ts 0 { ts0 with request := 256 } ⟨true, 0, 0, 0, none⟩,
      .ts 0 { ts0 with statLane := 16 } ⟨true, 0, 0, 0, none⟩,
      .ts 0 { ts0 with status := 256 } ⟨true, 0, 0, 0, none⟩,
      .ts 0 { ts0 with cPre := 256 } ⟨true, 0, 0, 0, none⟩,
      .ts 0 { ts0 with cPost := 256 } ⟨true, 0, 0, 0, none⟩,
      .ts 0 { ts0 with flags := 256 } ⟨true, 0, 0, 0, none⟩,
      .xshTest rx0 2 1,
      .registerWrite .pcie 0 3 0,
      .registerWrite .pcie (2 ^ 24) 4 0,
      .registerWrite .pcie 0 4 (2 ^ 32),
      .panelSensor 0 0 (-32769),
      .panelSensor 0 0 32768,
      .csiLine 0 ⟨0, 0⟩ 0x2D true [],
      .csiLine 0 ⟨0, 0⟩ 0x2A true [4096],
      .csiGeneric 0 ⟨0, 0⟩ 16 0,
      .readCentringCheck 0 0 2,
      .readCentringCheck 0 0 (-2)] (fun i => !i.wf) = true := by
  decide +kernel

/-! ### The spec's worked examples -/

/-- R56: the check over the nine bytes "123456789". -/
theorem test_crc32c : crc32c [0x31, 0x32, 0x33, 0x34, 0x35, 0x36, 0x37, 0x38, 0x39] = 0xE3069283 := by decide +kernel

/-- R440's example: the check byte of the word 3. -/
theorem test_eccCheck : eccCheck 3 = 0x0C := by decide

/-- R440's example: bit 41 flipped is corrected. -/
theorem test_eccOneBit : eccDecode (3 + 2 ^ 41) 0x0C = .corrected 3 := by decide

/-- R440's example: bits 41 and 0 flipped are uncorrectable. -/
theorem test_eccTwoBits : eccDecode (2 + 2 ^ 41) 0x0C = .uncorrectable := by decide

/-- R74's example. -/
theorem test_lossyIndex : lossyChannel 0 255 5 = 85 := by decide

/-- The bits of the lossless example from offset 0x14 on; the last, which belongs to pixel (1, 0), is taken as zero. -/
def exampleBits : List Bool := bitStream [0xFF, 0xFC, 0x0F, 0xEF, 0xB2]

/-- R70, the lossless example: G is an escape, m = 192, and takes 20 bits. -/
theorem test_losslessEscape : readCode 2 exampleBits = some (192, exampleBits.drop 20) := by decide

/-- R68 to R71, the lossless example: G 96, then R′ 240, B′ 248 and A 255, 39 bits in all. -/
theorem test_losslessPixel :
    decodePixels 0 1 0 ⟨4, 1⟩ ⟨4, 1⟩ ⟨4, 1⟩ ⟨4, 1⟩ [] exampleBits = some ([⟨96, 240, 248, 255⟩], exampleBits.drop 39) := by decide

/-- R71, the lossless example: the states after the first column and their next k. -/
theorem test_losslessStates :
    [Rice.next ⟨4, 1⟩ 192, Rice.next ⟨4, 1⟩ 31, Rice.next ⟨4, 1⟩ 15, Rice.next ⟨4, 1⟩ 1] = [⟨196, 2⟩, ⟨35, 2⟩, ⟨19, 2⟩, ⟨5, 2⟩] ∧
    [Rice.k ⟨196, 2⟩, Rice.k ⟨35, 2⟩, Rice.k ⟨19, 2⟩, Rice.k ⟨5, 2⟩] = [7, 5, 4, 2] := by decide

/-- R68, the lossless example: texel (0, 0) is 0x50, 0x60, 0x58, 0xFF. -/
theorem test_losslessTexel : pxBytes 1 ⟨96, 240, 248, 255⟩ = [0x50, 0x60, 0x58, 0xFF] := by decide

/-- R55, R57 check 1, the lossless example: 1,838 bytes of payload make a block of 1,860. -/
theorem test_blockLength : 16 + (1838 + 3) / 4 * 4 + 4 = 1860 ∧ kindRow 0x10 = some (.tile, 5, 10244) := by decide

/-- R124's example: the record has CX = 256 and every other field zero; TAN_PER_PITCH, FACET_SLOPE and FACET_OFFSET[2]. -/
def exampleRay : Ray := rayOf [1398101, -1024, 0, 0, 29127] ⟨[256, 0, 0, 0, 0, 0, 0, 0, 0, 0, 0, 0], 0⟩ 32 2 5763 3242

/-- R124's example: tx, ty and the origin. -/
theorem test_ray : (exampleRay.tx, exampleRay.ty, exampleRay.ox, exampleRay.oy) = (165404, 218453, 92241, 51920) := by decide

/-- R129's example: the footprint of the layer of depth 1,600. -/
theorem test_footprint :
    footprint { Layer.reset with depth := 1600 } 1600 exampleRay.ox exampleRay.oy exampleRay.tx exampleRay.ty = (1284, 31, 725, 60) := by decide

/-- R129's example: alpha and transmittance. -/
theorem test_alpha : bilinear 44100 6076 13500 1860 65535 65535 0 0 = 50175 ∧ mul16 65535 (65535 - 50175) = 15360 := by decide

/-- R260's example: the history word. -/
theorem test_historyWord :
    histEncode [100, 101, 103, 104, 102, 100, 99, 101] [60, 61, 62, 61, 60, 60, 62, 61] [200, 203, 206, 209, 212, 215, 213, 210] =
      some 0x53643DC938053963 := by decide +kernel

/-- R260's example: what the word decodes to. -/
theorem test_historyDecoded :
    histDecode 0x53643DC938053963 =
      some ([100, 100, 103, 103, 103, 100, 100, 100], List.replicate 8 61, [201, 204, 207, 210, 213, 216, 213, 210]) := by decide

/-- R258's example: the drive word from level 103 to level 140. -/
theorem test_driveWord :
    driveWord (fun i j => if i = 12 then (if j = 17 then 2400 else 2540) else (if j = 17 then 2380 else 2520)) 103 140 = 153 := by decide

/-- The example of a doorbell in spec/00_scope.md: the tile in row 12, column 30 of layer 5. -/
theorem test_doorbellOffset : (5 * 4096 + (12 * 80 + 30)) * 8 = 0x29EF0 ∧ queueClass 21470 = .tile := by decide

/-- R163's example: from boundary n, band 0 starts to write at 34,953 sub-counts and strobes from 174,763 to 209,715. -/
theorem test_points :
    placeAfter 16077 34953 = 34953 ∧ placeAfter 122334 174763 = 174763 ∧ placeBefore 34953 16078 = 16078 ∧
    placeAfter (3 * 2 ^ 20 + 34953) 16078 = 4 * 2 ^ 20 + 16078 := by decide

/-- The drum of spec/06_drum_scheduling.md's example: six facets, edge angle 262,144, at 3,600 rpm. -/
def exampleDrum : State :=
  { (State.reset.setAll [(F.DRU_STATE_FACETS, 6), (F.DRU_EDGE_ANGLE_E, 262144)]) with drum := { State.reset.drum with omegaE := 2 ^ 24 * 60 } }

/-- R160's example: the points of facet 0's bands 0 and 11, and RELEASE of facet 1's band 0. -/
theorem test_schedule :
    (schedEntry exampleDrum 1 3600 0 0).map Prod.snd = [16078, 34953, 122334, 174763, 209715, 1, 3] ∧
    (schedEntry exampleDrum 1 3600 0 11).map Prod.snd = [176277, 195152, 282533, 334962, 369914, 1, 3] ∧
    (schedEntry exampleDrum 1 3600 1 0).map Prod.snd = [190840, 209715, 297097, 349525, 384478, 1, 3] ∧
    (schedEntry exampleDrum 1 3600 6 0).map Prod.snd = [0] := by decide +kernel

/-- The delay exchange of spec/13_time.md's example: the state after Pdelay_Req 1 has gone and its answers have come. -/
def exampleExchange : State :=
  finishExchange { State.reset with tim := { State.reset.tim with exchanges := [⟨0, 1, some 5000000, some (7, 4999795, 5002220), some 5001795, 0⟩] } }
    ⟨0, 1, some 5000000, some (7, 4999795, 5002220), some 5001795, 0⟩

/-- R333's example: a delay of 110 ns. -/
theorem test_meanDelay : exampleExchange.get (F.TIM_MEAN_DELAY_D 0) = 110 := by decide +kernel

/-! ### One step -/

/-- Log entry 2: with no command waiting a step counts 2 ns, and reset leaves the time at zero. -/
theorem test_idle : (match step State.reset with | .next t => t.now | _ => 0) = 2 ∧ State.reset.now = 0 := by decide +kernel

/-- R5: the commands' table gives no bits, so no word spells a command. -/
theorem test_noWords : decodeTableWord 32 0 = none ∧ State.withFetchWord State.reset 32 0 = State.reset := by decide +kernel

/-- R117, R7: a write of the layer manager's latch lead takes effect; the value before is the reset value 20. -/
theorem test_plainWrite :
    (match step { State.reset with pending := [.registerWrite (.mp 0) 0x50110 4 7] } with
      | .next t => (t.get F.LAY_LATCH_LEAD_MICROSECONDS, t.pending)
      | _ => (0, [])) = (7, []) ∧ State.reset.get F.LAY_LATCH_LEAD_MICROSECONDS = 20 := by decide +kernel

/-! ### Witnesses of the statements -/

namespace W01

/-- Clauses 1, 2, 3, 4 of `RegisterWriteToThePageHeader`: hypotheses met together. -/
theorem witness_RegisterWriteToThePageHeader :
    (∃ (s : State) (m : Master) (page data : Nat), Running s ∧ pageHasHeader page = true ∧ data < 2 ^ 32 ∧ ((s.isMember = true → m = .pcie → ctrlPage page = false)) ∧ ((s.pageWorld page = 0 → m.secure = true)) ∧ ((0xB1 ≤ page → page ≤ 0xB8 → s.isMember = true → m.host = false))) ∧
    (∃ (s : State) (m : Master) (page data : Nat), Running s ∧ pageHasHeader page = true ∧ data < 2 ^ 32 ∧ ((s.isMember = true → m = .pcie → ctrlPage page = false)) ∧ ((s.pageWorld page = 0 → m.secure = true)) ∧ ((0xB1 ≤ page → page ≤ 0xB8 → s.isMember = true → m.host = false))) ∧
    (∃ (s : State) (m : Master) (page data : Nat), Running s ∧ pageHasHeader page = true ∧ data < 2 ^ 32 ∧ data / 2 ^ 31 = 1 ∧ MayWrite s m page ∧ ((0xB1 ≤ page → page ≤ 0xB8 → s.isMember = true → m.host = false))) ∧
    (∃ (s : State) (m : Master) (page data : Nat), Running s ∧ pageHasHeader page = true ∧ data < 2 ^ 32 ∧ data / 2 ^ 31 = 1 ∧ ((s.isMember = true → m = .pcie → ctrlPage page = false)) ∧ ((s.pageWorld page = 0 → m.secure = true)) ∧ ownsPage s m page = false ∧ m.ozzizo = false ∧ s.get (F.ERR_FIRST_VALID page) = 1) ∧
    (∃ (s : State) (m : Master) (page off size data : Nat), Running s ∧ pageHasHeader page = true ∧ off < 0x1000 ∧ accessAligned (page * 0x1000 + off) size = false ∧ s.get (F.ERR_FIRST_VALID page) = 0) :=
  ⟨⟨upWith [], .mp 0, 0x001, 0xFFFFFFFF, by decide +kernel⟩,
    ⟨upWith [], .mp 0, 0x050, 0xFFFFFFFF, by decide +kernel⟩,
    ⟨upWith [(F.ERR_FIRST_VALID 0x050, 1)], .mp 0, 0x050, 0x80000000, by decide +kernel⟩,
    ⟨upWith [(F.ERR_FIRST_VALID 0x050, 1), (F.PAGE_SEC_WORLD 0x050, 1)], .xiesh, 0x050, 0x80000000, by decide +kernel⟩,
    ⟨upWith [], .mp 0, 0x001, 0x101, 2, 7, by decide +kernel⟩⟩

end W01

namespace W02

/-- Clauses 1, 2, 3, 4, 5 of `ReadsClearAndPiecesBelongTogether`: hypotheses met together. -/
theorem witness_ReadsClearAndPiecesBelongTogether :
    (∃ (s : State) (m : Master) (a : Nat) (h : RowHit), Running s ∧ a % 4 = 0 ∧ MayRead s m (a / 0x1000) ∧ findRow a = some h ∧ h.bits = 32 ∧ h.piece = 0 ∧ PlainRead s m a h) ∧
    (∃ (s : State) (m : Master) (a : Nat) (h : RowHit), Running s ∧ a % 4 = 0 ∧ MayRead s m (a / 0x1000) ∧ findRow a = some h ∧ h.piece = 0 ∧ PlainRead s m a h) ∧
    (∃ (s : State) (m : Master) (a v : Nat) (h : RowHit), Running s ∧ a % 4 = 0 ∧ MayRead s m (a / 0x1000) ∧ findRow a = some h ∧ h.piece ≠ 0 ∧ PlainRead s m a h ∧ mapGet s.mech.captures (pieceKey m (h.base + 4 * h.piece)) = some v) ∧
    (∃ (s : State) (m : Master) (n data : Nat), Running s ∧ n < 256 ∧ MayWrite s m 0x051) ∧
    (∃ (s : State) (m : Master) (n held data : Nat), Running s ∧ n < 256 ∧ MayWrite s m 0x051 ∧ mapGet s.mech.holds (pieceKey m (0x51100 + 8 * n)) = some held ∧ held < 2 ^ 32) :=
  ⟨⟨upWith [(F.ERR_COUNT 0x050, 5)], .mp 0, 0x5002C, ⟨0x5002C, 32, 0, [F.ERR_COUNT 0x050]⟩, by decide +kernel⟩,
    ⟨upWith [(F.LAY_FENCE_VALUE 3, 0x123456789)], .mp 0, 0x51118, ⟨0x51118, 64, 0, [F.LAY_FENCE_VALUE 3]⟩, by decide +kernel⟩,
    ⟨{ upWith [] with mech := { (upWith []).mech with captures := [(pieceKey (.mp 0) 0x5111C, 7)] } }, .mp 0, 0x5111C, 7, ⟨0x51118, 64, 1, [F.LAY_FENCE_VALUE 3]⟩, by decide +kernel⟩,
    ⟨upWith [], .mp 0, 255, 0xFFFFFFFF, by decide +kernel⟩,
    ⟨{ upWith [] with mech := { (upWith []).mech with holds := [(pieceKey (.mp 0) 0x51100, 7)] } }, .mp 0, 0, 7, 9, by decide +kernel⟩⟩

end W02

namespace W03

/-- Clauses 1, 2, 3, 4 of `InterruptRouterWrites`: hypotheses met together. -/
theorem witness_InterruptRouterWrites :
    (∃ (s : State) (m : Master) (page bits : Nat), Running s ∧ pageHasHeader page = true ∧ bits < 2 ^ 32 ∧ ((s.isMember = true → m = .pcie → ctrlPage page = false)) ∧ ((s.pageWorld page = 0 → m.secure = true))) ∧
    (∃ (s : State) (m : Master) (page en vector : Nat), Running s ∧ page < 0x1B0 ∧ en < 2 ∧ vector < 2048 ∧ ((s.pageWorld 0x010 = 0 → m.secure = true))) ∧
    (∃ (s : State) (v : Nat), Running s ∧ s.isMember = false ∧ v < 2048 ∧ s.get (F.MSIX_PBA v) = 1 ∧ s.pcie.functionMask = false ∧ s.pcie.linkUp = true) ∧
    (∃ (s : State) (page bits : Nat), Running s) :=
  ⟨⟨upWith [(F.IRQ_RAW 0x050, 0x40000003)], .mp 0, 0x050, 0x40000001, by decide +kernel⟩,
    ⟨upWith [], .mp 0, 0x1AF, 1, 2047, by decide +kernel⟩,
    ⟨{ resetWith [(F.MSIX_PBA 2047, 1)] with pcie := { Pcie.reset with linkUp := true, functionMask := false } }, 2047, by decide +kernel⟩,
    ⟨{ State.reset with mech := { State.reset.mech with second := [((F.IRQ_RAW 0x050).key, 7)] } }, 0x050, 5, by decide +kernel⟩⟩

end W03

namespace W04

/-- Clauses 1, 2, 3, 4, 5, 6 of `SlotsWindowsAndForwardedReads`: hypotheses met together. -/
theorem witness_SlotsWindowsAndForwardedReads :
    (∃ (s : State) (slot tag a len : Nat), (Running s ∧ slot < 64 ∧ tag < 65536 ∧ hasBit (s.get F.HIF_SLOT_PRESENT_SLOTS) slot = false) ∧ (s.get F.HIF_ACC_STATUS_VALID = 0)) ∧
    (∃ (s : State) (tag a len : Nat), Running s ∧ tag < 65536 ∧ hasBit (s.get F.HIF_SLOT_PRESENT_SLOTS) 0 = true ∧ 0 < len ∧ dramBehind s a len = true ∧ rangeSecure s a len = false ∧ (∀ w ∈ wordsOf a len, w ∉ s.mem.badDram ∧ w ∉ s.mem.poisonDram ∧ w ∉ s.mem.weakDram)) ∧
    (∃ (s : State) (tag a : Nat) (bs : List Byte), Running s ∧ tag < 65536 ∧ hasBit (s.get F.HIF_SLOT_PRESENT_SLOTS) 0 = true ∧ s.isMember = false ∧ bs ≠ [] ∧ SoundMemory s ∧ dramBehind s a bs.length = true ∧ rangeSecure s a bs.length = false) ∧
    (∃ (s : State) (slot tag a : Nat), Running s ∧ 0 < slot ∧ slot < 64 ∧ tag < 65536 ∧ hasBit (s.get F.HIF_SLOT_PRESENT_SLOTS) slot = true ∧ (∀ r ∈ s.yard.reads, r.tag ≠ tag)) ∧
    (∃ (s : State) (r : FwdRead), (Running s ∧ r.tag < 65536 ∧ r ∈ s.yard.reads ∧ ((∀ q ∈ s.yard.reads, q.tag = r.tag → q = r))) ∧ (s.get F.HIF_ACC_STATUS_VALID = 0)) ∧
    (∃ (s : State) (offset len tag : Nat), Running s ∧ offset < 2 ^ 35 ∧ tag < 65536 ∧ s.get F.HIF_BAR4_SLOT_SLOT = 0 ∧ hasBit (s.get F.HIF_SLOT_PRESENT_SLOTS) 0 = true ∧ 0 < len ∧ dramBehind s (offset + s.get F.HIF_BAR4_SLOT_UPPER * 2 ^ 35) len = true ∧ rangeSecure s (offset + s.get F.HIF_BAR4_SLOT_UPPER * 2 ^ 35) len = false ∧ (∀ w ∈ wordsOf (offset + s.get F.HIF_BAR4_SLOT_UPPER * 2 ^ 35) len, w ∉ s.mem.badDram ∧ w ∉ s.mem.poisonDram ∧ w ∉ s.mem.weakDram)) :=
  ⟨⟨dramWith [], 63, 65535, 0, 4, by decide +kernel, by decide +kernel⟩,
    ⟨dramWith [], 1, 0x1000, 4, by decide +kernel⟩,
    ⟨dramWith [], 1, 0x1001, [1, 2, 3], by decide +kernel⟩,
    ⟨dramWith [(F.HIF_SLOT_PRESENT_SLOTS, 3)], 1, 9, 0x1000, by decide +kernel⟩,
    ⟨{ dramWith [] with yard := { Yard.reset with reads := [⟨9, 1, 0x1000, 4, []⟩] } }, ⟨9, 1, 0x1000, 4, []⟩, by decide +kernel, by decide +kernel⟩,
    ⟨dramWith [], 0x1000, 4, 9, by decide +kernel⟩⟩

end W04

namespace W05

/-- Clauses 1, 2, 3, 4 of `CapturingReads`: hypotheses met together. -/
theorem witness_CapturingReads :
    (∃ (s : State) (m : Master) (p : Nat), Running s ∧ p < 8 ∧ MayRead s m (0x090 + p)) ∧
    (∃ (s : State) (m : Master), Running s ∧ MayRead s m 0x0A3) ∧
    (∃ (s : State) (m : Master), Running s ∧ MayRead s m 0x110) ∧
    (∃ (s : State) (m : Master) (e : ErrEntry), Running s ∧ MayRead s m 0x181 ∧ s.err.hostLog.reverse[s.get F.ERR_LOG_INDEX_INDEX]? = some e) :=
  ⟨⟨upWith [(F.CAM_STATS_FRAME_FRAME 7, 5)], .mp 0, 7, by decide +kernel⟩,
    ⟨upWith [], .mp 0, by decide +kernel⟩,
    ⟨upWith [], .mp 0, by decide +kernel⟩,
    ⟨{ upWith [] with err := { ErrMgr.reset with hostLog := [⟨1, 2, 3, 4, 5, 6, 7, 0, false, false, false, false, false, 8⟩] } }, .mp 0, ⟨1, 2, 3, 4, 5, 6, 7, 0, false, false, false, false, false, 8⟩, by decide +kernel⟩⟩

end W05

namespace W06

/-- Clauses 1, 2, 3, 4 of `EffectiveMirrorsFollowRequests`: hypotheses met together. -/
theorem witness_EffectiveMirrorsFollowRequests :
    (∃ (s : State), Running s ∧ s.get F.RSY_ALPHA_STOP_EFF_LEVEL ≠ s.get F.RSY_ALPHA_STOP_LEVEL) ∧
    (∃ (s : State), Running s ∧ s.get F.PNL_BRIGHTNESS_EFF_LEVEL ≠ s.get F.PNL_BRIGHTNESS_LEVEL ∧ (∀ x ∈ panelSensors s, x ≤ 16 * (leAt s.pnl.model 0x4D 1 : Int))) ∧
    (∃ (s : State) (page : Nat), Running s ∧ hasMirror page = false) ∧
    (∃ (s : State) (w r : Nat), Running s ∧ s.mech.evaluated.find? (fun e => decide (e.1 = 0x70900)) = some (0x70900, w, r)) :=
  ⟨⟨upWith [(F.RSY_ALPHA_STOP_LEVEL, 77)], by decide +kernel⟩,
    ⟨{ upWith [(F.PNL_BRIGHTNESS_LEVEL, 77)] with pnl := { Pnl.reset with model := List.replicate 256 50 } }, by decide +kernel⟩,
    ⟨upWith [], 0x050, by decide +kernel⟩,
    ⟨{ upWith [] with mech := { RegMech.reset with evaluated := [(0x70900, 5, 3)], loaded := some [] } }, 5, 3, by decide +kernel⟩⟩

/-- Clauses 1, 2, 3 of `ManagementWatchdogs`: hypotheses met together. -/
theorem witness_ManagementWatchdogs :
    (∃ (s : State) (i : Nat), Running s ∧ i < 4 ∧ s.mgmt.outOfService.contains i = false ∧ ((∀ t, assoc s.mgmt.lastExpiry i = some t → 10000000000 + t ≤ s.now))) ∧
    (∃ (s : State) (i e : Nat), Running s ∧ i < 4 ∧ s.mgmt.outOfService = [] ∧ assoc s.mgmt.lastExpiry i = some e ∧ s.now < 10000000000 + e) ∧
    (∃ (s : State) (i : Nat), Running s ∧ i < 4) :=
  ⟨⟨upWith [], 3, by decide +kernel⟩,
    ⟨{ upWith [] with mgmt := ⟨[2], [], [(3, 0)]⟩ }, 3, 0, by decide +kernel⟩,
    ⟨{ upWith [] with mgmt := ⟨[2, 3], [], []⟩ }, 3, by decide +kernel⟩⟩

end W06

namespace W07

/-- Clauses 1, 2, 3 of `DoorbellsMoveTails`: hypotheses met together. -/
theorem witness_DoorbellsMoveTails :
    (∃ (s : State) (m : Master) (q v : Nat), Running s ∧ ((s.isMember = true → m ≠ .pcie)) ∧ q < 2 ^ 18 ∧ v < 2 ^ 32 ∧ (ctxOf s q).enable = true ∧ s.get F.QMG_CTRL_ENABLE = 1 ∧ v ≠ (ctxOf s q).tail ∧ seqLater (ctxOf s q).tail v = false ∧ (2 ^ 32 + v - (ctxOf s q).head) % 2 ^ 32 ≤ 2 ^ (ctxOf s q).ringLog2) ∧
    (∃ (s : State) (m : Master) (q v : Nat), (Running s ∧ ((s.isMember = true → m ≠ .pcie)) ∧ q < 2 ^ 18 ∧ v < 2 ^ 32 ∧ (ctxOf s q).enable = true ∧ s.get F.QMG_CTRL_ENABLE = 1 ∧ v ≠ (ctxOf s q).tail ∧ seqLater (ctxOf s q).tail v = false ∧ (2 ^ 32 + v - (ctxOf s q).head) % 2 ^ 32 ≤ 2 ^ (ctxOf s q).ringLog2) ∧ (queueClass q ≠ .control ∧ v = ((ctxOf s q).tail + 1) % 2 ^ 32 ∧ (ctxOf s q).tail < 2 ^ 32 ∧ (ctxOf s q).head < 2 ^ 32 ∧ (ctxOf s q).count < 2 ^ 31 ∧ (peekDesc s q (ctxOf s q).tail).supersede = true)) ∧
    (∃ (s : State) (m : Master) (q v : Nat), (Running s ∧ ((s.isMember = true → m ≠ .pcie)) ∧ q < 2 ^ 18 ∧ v < 2 ^ 32 ∧ (ctxOf s q).enable = true ∧ s.get F.QMG_CTRL_ENABLE = 1 ∧ v ≠ (ctxOf s q).tail ∧ seqLater (ctxOf s q).tail v = false ∧ (2 ^ 32 + v - (ctxOf s q).head) % 2 ^ 32 ≤ 2 ^ (ctxOf s q).ringLog2) ∧ (queueClass q = .control)) ∧
    (∃ (s : State) (m : Master) (q v code : Nat), (Running s ∧ ((s.isMember = true → m ≠ .pcie)) ∧ q < 2 ^ 18 ∧ v < 2 ^ 64 ∧ (((code = 0x02 ∧ 2 ^ 32 ≤ v) ∨ (code = 0x22 ∧ v < 2 ^ 32 ∧ ((ctxOf s q).enable = false ∨ s.get F.QMG_CTRL_ENABLE = 0)) ∨
      (v < 2 ^ 32 ∧ (ctxOf s q).enable = true ∧ s.get F.QMG_CTRL_ENABLE = 1 ∧ v ≠ (ctxOf s q).tail ∧
        ((code = 0x21 ∧ seqLater (ctxOf s q).tail v = true) ∨
         (code = 0x20 ∧ seqLater (ctxOf s q).tail v = false ∧ 2 ^ (ctxOf s q).ringLog2 < (2 ^ 32 + v - (ctxOf s q).head) % 2 ^ 32)))))) ∧ (s.get (F.ERR_FIRST_VALID 0x020) = 0)) ∧
    (∃ (s : State) (m : Master) (q v code : Nat), Running s ∧ ((s.isMember = true → m ≠ .pcie)) ∧ q < 2 ^ 18 ∧ v < 2 ^ 64 ∧ (((code = 0x02 ∧ 2 ^ 32 ≤ v) ∨ (code = 0x22 ∧ v < 2 ^ 32 ∧ ((ctxOf s q).enable = false ∨ s.get F.QMG_CTRL_ENABLE = 0)) ∨
      (v < 2 ^ 32 ∧ (ctxOf s q).enable = true ∧ s.get F.QMG_CTRL_ENABLE = 1 ∧ v ≠ (ctxOf s q).tail ∧
        ((code = 0x21 ∧ seqLater (ctxOf s q).tail v = true) ∨
         (code = 0x20 ∧ seqLater (ctxOf s q).tail v = false ∧ 2 ^ (ctxOf s q).ringLog2 < (2 ^ 32 + v - (ctxOf s q).head) % 2 ^ 32)))))) ∧
    (∃ (s : State) (m : Master) (q v code : Nat), Running s ∧ ((s.isMember = true → m ≠ .pcie)) ∧ q < 2 ^ 18 ∧ v < 2 ^ 64 ∧ (((code = 0x02 ∧ 2 ^ 32 ≤ v) ∨ (code = 0x22 ∧ v < 2 ^ 32 ∧ ((ctxOf s q).enable = false ∨ s.get F.QMG_CTRL_ENABLE = 0)) ∨
      (v < 2 ^ 32 ∧ (ctxOf s q).enable = true ∧ s.get F.QMG_CTRL_ENABLE = 1 ∧ v ≠ (ctxOf s q).tail ∧
        ((code = 0x21 ∧ seqLater (ctxOf s q).tail v = true) ∨
         (code = 0x20 ∧ seqLater (ctxOf s q).tail v = false ∧ 2 ^ (ctxOf s q).ringLog2 < (2 ^ 32 + v - (ctxOf s q).head) % 2 ^ 32)))))) ∧
    (∃ (s : State) (m : Master) (q v code : Nat), Running s ∧ ((s.isMember = true → m ≠ .pcie)) ∧ q < 2 ^ 18 ∧ v < 2 ^ 64 ∧ (((code = 0x02 ∧ 2 ^ 32 ≤ v) ∨ (code = 0x22 ∧ v < 2 ^ 32 ∧ ((ctxOf s q).enable = false ∨ s.get F.QMG_CTRL_ENABLE = 0)) ∨
      (v < 2 ^ 32 ∧ (ctxOf s q).enable = true ∧ s.get F.QMG_CTRL_ENABLE = 1 ∧ v ≠ (ctxOf s q).tail ∧
        ((code = 0x21 ∧ seqLater (ctxOf s q).tail v = true) ∨
         (code = 0x20 ∧ seqLater (ctxOf s q).tail v = false ∧ 2 ^ (ctxOf s q).ringLog2 < (2 ^ 32 + v - (ctxOf s q).head) % 2 ^ 32)))))) ∧
    (∃ (s : State) (m : Master) (offset size data : Nat), (Running s ∧ (size ≠ 8 ∨ offset % 8 ≠ 0)) ∧ (s.get (F.ERR_FIRST_VALID 0x020) = 0)) :=
  ⟨⟨queueWith 9 (ctxWith 5 5) [] 0 [] [], .mp 0, 9, 21, by decide +kernel⟩,
    ⟨queueWith 9 (ctxWith 0xFFFFFFFE 1) [runAt 9 1 0 .reading []] 0x2020 (descAt 0x4000 20 0x12 1 7) [], .mp 0, 9, 2, by decide +kernel, by decide +kernel⟩,
    ⟨queueWith 3600 (ctxWith 5 5) [] 0 [] [], .mp 0, 3600, 21, by decide +kernel, by decide +kernel⟩,
    ⟨queueWith 9 (ctxWith 5 6) [] 0 [] [], .mp 0, 9, 2 ^ 32, 2, by decide +kernel, by decide +kernel⟩,
    ⟨queueWith 9 (ctxWith 5 6) [] 0 [] [], .mp 0, 8, 7, 0x22, by decide +kernel⟩,
    ⟨queueWith 9 (ctxWith 5 6) [] 0 [] [], .mp 0, 9, 5, 0x21, by decide +kernel⟩,
    ⟨queueWith 9 (ctxWith 5 6) [] 0 [] [], .mp 0, 9, 22, 0x20, by decide +kernel⟩,
    ⟨queueWith 9 (ctxWith 5 6) [] 0 [] [], .mp 0, 72, 4, 7, by decide +kernel, by decide +kernel⟩⟩

/-- Clauses 1, 2, 3, 4, 5, 6 of `ContextCommands`: hypotheses met together. -/
theorem witness_ContextCommands :
    (∃ (s : State) (m : Master) (q : Nat), Running s ∧ q < 2 ^ 18 ∧ MayWrite s m 0x021 ∧ s.get F.QMG_CTX_CMD_BUSY = 0) ∧
    (∃ (s : State) (m : Master) (q : Nat), Running s ∧ q < 2 ^ 18 ∧ MayWrite s m 0x021 ∧ s.get F.QMG_CTX_CMD_BUSY = 0) ∧
    (∃ (s : State) (m : Master) (q : Nat), (Running s ∧ q < 2 ^ 18 ∧ MayWrite s m 0x021 ∧ s.get F.QMG_CTX_CMD_BUSY = 0) ∧ (queueState s q = 0 ∧ (ctxOf s q).count = 0 ∧ initCtx q ((List.range 8).map (fun i => s.get (F.QMG_CTX_DATA_DATA i))) = none)) ∧
    (∃ (s : State) (m : Master) (q : Nat), (Running s ∧ q < 2 ^ 18 ∧ MayWrite s m 0x021 ∧ s.get F.QMG_CTX_CMD_BUSY = 0) ∧ ((queueState s q ≠ 0 ∨ (ctxOf s q).count ≠ 0))) ∧
    (∃ (s : State) (m : Master) (q : Nat), Running s ∧ q < 2 ^ 18 ∧ MayWrite s m 0x021 ∧ s.get F.QMG_CTX_CMD_BUSY = 0 ∧ (∀ c ∈ s.scene.commits, c.queue ≠ q)) ∧
    (∃ (s : State) (m : Master) (q : Nat), (Running s ∧ q < 2 ^ 18 ∧ MayWrite s m 0x021 ∧ s.get F.QMG_CTX_CMD_BUSY = 0) ∧ (queueState s q ≠ 4)) ∧
    (∃ (s : State) (m : Master) (q : Nat), (Running s ∧ q < 2 ^ 18 ∧ MayWrite s m 0x021 ∧ s.get F.QMG_CTX_CMD_BUSY = 0) ∧ (queueState s q = 4)) ∧
    (∃ (s : State) (m : Master) (q : Nat) (c : Instr), (Running s ∧ q < 2 ^ 18 ∧ MayWrite s m 0x021 ∧ s.get F.QMG_CTX_CMD_BUSY = 1 ∧ (c = .ctxRead m q ∨ c = .ctxInit m q ∨ c = .ctxDisable m q ∨ c = .ctxEnable m q)) ∧ (s.get (F.ERR_FIRST_VALID 0x021) = 0)) ∧
    (∃ (s : State) (m : Master) (q : Nat) (c : Instr), Running s ∧ q < 2 ^ 18 ∧ MayWrite s m 0x021 ∧ s.get F.QMG_CTX_CMD_BUSY = 1 ∧ (c = .ctxRead m q ∨ c = .ctxInit m q ∨ c = .ctxDisable m q ∨ c = .ctxEnable m q)) ∧
    (∃ (s : State), Running s ∧ s.get F.QMG_CTX_CMD_BUSY = 1) :=
  ⟨⟨queueWith 9 (ctxWith 5 6) [] 0 [] [], .mp 0, 9, by decide +kernel⟩,
    ⟨queueWith 9 (ctxWith 5 5) [] 0 [] [(F.QMG_CTX_DATA_DATA 0, 0x40), (F.QMG_CTX_DATA_DATA 2, 0x010104)], .mp 0, 9, by decide +kernel⟩,
    ⟨queueWith 9 (ctxWith 5 5) [] 0 [] [(F.QMG_CTX_DATA_DATA 0, 0x41), (F.QMG_CTX_DATA_DATA 2, 0x010104)], .mp 0, 9, by decide +kernel, by decide +kernel⟩,
    ⟨queueWith 9 (ctxWith 5 6) [] 0 [] [], .mp 0, 9, by decide +kernel, by decide +kernel⟩,
    ⟨queueWith 9 (ctxWith 5 8) [runAt 9 1 0 .reading []] 0 [] [], .mp 0, 9, by decide +kernel⟩,
    ⟨queueWith 9 (ctxWith 5 5) [] 0 [] [], .mp 0, 9, by decide +kernel, by decide +kernel⟩,
    ⟨queueWith 9 { ctxWith 5 6 with enable := false } [] 0 [] [], .mp 0, 9, by decide +kernel, by decide +kernel⟩,
    ⟨queueWith 9 (ctxWith 5 5) [] 0 [] [(F.QMG_CTX_CMD_BUSY, 1)], .mp 0, 9, .ctxInit (.mp 0) 9, by decide +kernel, by decide +kernel⟩,
    ⟨queueWith 9 (ctxWith 5 5) [] 0 [] [(F.QMG_CTX_CMD_BUSY, 1)], .mp 0, 9, .ctxDisable (.mp 0) 9, by decide +kernel⟩,
    ⟨queueWith 9 (ctxWith 5 5) [] 0 [] [(F.QMG_CTX_CMD_BUSY, 1)], by decide +kernel⟩⟩

end W07

namespace W08

/-- Clauses 1, 2, 3, 4 of `DescriptorsStart`: hypotheses met together. -/
theorem witness_DescriptorsStart :
    (∃ (s u : State) (q : Nat) (b : List Byte), Running s ∧ s.get F.QMG_CTRL_ENABLE = 1 ∧ (s.scene.runs.filter (fun r => r.inUnit)).length < 32 ∧ nextQueue s = some q ∧ blockFetch s (ctxOf s q).ringHost (ringAddr (ctxOf s q) (ctxOf s q).head) 32 = (u, some b) ∧ descFormatOk b = true ∧ (((descOf b).supersede = true → queueClass q ≠ .control)) ∧ seqLater (descOf b).seq (ctxOf s q).lastSeq = true) ∧
    (∃ (s u : State) (q : Nat) (b : List Byte), Running s ∧ s.get F.QMG_CTRL_ENABLE = 1 ∧ (s.scene.runs.filter (fun r => r.inUnit)).length < 32 ∧ nextQueue s = some q ∧ blockFetch s (ctxOf s q).ringHost (ringAddr (ctxOf s q) (ctxOf s q).head) 32 = (u, some b) ∧ descFormatOk b = true ∧ (((descOf b).supersede = true → queueClass q ≠ .control)) ∧ seqLater (descOf b).seq (ctxOf s q).lastSeq = true) ∧
    (∃ (s u : State) (q code : Nat) (b : List Byte), Running s ∧ s.get F.QMG_CTRL_ENABLE = 1 ∧ (s.scene.runs.filter (fun r => r.inUnit)).length < 32 ∧ nextQueue s = some q ∧ blockFetch s (ctxOf s q).ringHost (ringAddr (ctxOf s q) (ctxOf s q).head) 32 = (u, some b) ∧ (((code = 0x02 ∧ descFormatOk b = false) ∨
      (descFormatOk b = true ∧ ((code = 0x04 ∧ (descOf b).supersede = true ∧ queueClass q = .control) ∨
        (code = 0x08 ∧ ((descOf b).supersede = true → queueClass q ≠ .control) ∧ seqLater (descOf b).seq (ctxOf s q).lastSeq = false)))))) ∧
    (∃ (s u : State) (q code : Nat) (b : List Byte), Running s ∧ s.get F.QMG_CTRL_ENABLE = 1 ∧ (s.scene.runs.filter (fun r => r.inUnit)).length < 32 ∧ nextQueue s = some q ∧ blockFetch s (ctxOf s q).ringHost (ringAddr (ctxOf s q) (ctxOf s q).head) 32 = (u, some b) ∧ (((code = 0x02 ∧ descFormatOk b = false) ∨
      (descFormatOk b = true ∧ ((code = 0x04 ∧ (descOf b).supersede = true ∧ queueClass q = .control) ∨
        (code = 0x08 ∧ ((descOf b).supersede = true → queueClass q ≠ .control) ∧ seqLater (descOf b).seq (ctxOf s q).lastSeq = false)))))) ∧
    (∃ (s u : State) (q code : Nat) (b : List Byte), Running s ∧ s.get F.QMG_CTRL_ENABLE = 1 ∧ (s.scene.runs.filter (fun r => r.inUnit)).length < 32 ∧ nextQueue s = some q ∧ blockFetch s (ctxOf s q).ringHost (ringAddr (ctxOf s q) (ctxOf s q).head) 32 = (u, some b) ∧ (((code = 0x02 ∧ descFormatOk b = false) ∨
      (descFormatOk b = true ∧ ((code = 0x04 ∧ (descOf b).supersede = true ∧ queueClass q = .control) ∨
        (code = 0x08 ∧ ((descOf b).supersede = true → queueClass q ≠ .control) ∧ seqLater (descOf b).seq (ctxOf s q).lastSeq = false)))))) ∧
    (∃ (s : State) (q : Nat), Running s ∧ s.get F.QMG_CTRL_ENABLE = 1 ∧ (s.scene.runs.filter (fun r => r.inUnit)).length < 32 ∧ nextQueue s = some q) ∧
    (∃ (s : State) (readable : Bool), Running s ∧ (s.get F.QMG_CTRL_ENABLE = 0 ∨ 32 ≤ (s.scene.runs.filter (fun r => r.inUnit)).length ∨ nextQueue s = none)) :=
  ⟨⟨queueWith 9 (ctxWith 5 6) [] 0x20A0 (descAt 0x4000 20 0x12 0 7) [], (blockFetch (queueWith 9 (ctxWith 5 6) [] 0x20A0 (descAt 0x4000 20 0x12 0 7) []) false 0x20A0 32).1, 9, descAt 0x4000 20 0x12 0 7, by decide +kernel⟩,
    ⟨queueWith 3600 (ctxWith 5 6) [] 0x20A0 (descAt 0x4000 20 0x20 0 7) [], (blockFetch (queueWith 3600 (ctxWith 5 6) [] 0x20A0 (descAt 0x4000 20 0x20 0 7) []) false 0x20A0 32).1, 3600, descAt 0x4000 20 0x20 0 7, by decide +kernel⟩,
    ⟨queueWith 9 (ctxWith 5 6) [] 0x20A0 (descAt 0x4000 16 0x12 0 7) [], (blockFetch (queueWith 9 (ctxWith 5 6) [] 0x20A0 (descAt 0x4000 16 0x12 0 7) []) false 0x20A0 32).1, 9, 2, descAt 0x4000 16 0x12 0 7, by decide +kernel⟩,
    ⟨queueWith 3600 (ctxWith 5 6) [] 0x20A0 (descAt 0x4000 20 0x20 1 7) [], (blockFetch (queueWith 3600 (ctxWith 5 6) [] 0x20A0 (descAt 0x4000 20 0x20 1 7) []) false 0x20A0 32).1, 3600, 4, descAt 0x4000 20 0x20 1 7, by decide +kernel⟩,
    ⟨queueWith 9 (ctxWith 5 6) [] 0x20A0 (descAt 0x4000 20 0x12 1 0) [], (blockFetch (queueWith 9 (ctxWith 5 6) [] 0x20A0 (descAt 0x4000 20 0x12 1 0) []) false 0x20A0 32).1, 9, 8, descAt 0x4000 20 0x12 1 0, by decide +kernel⟩,
    ⟨queueWith 9 (ctxWith 5 6) [] 0x20A0 (descAt 0x4000 20 0x12 0 7) [], 9, by decide +kernel⟩,
    ⟨queueWith 9 (ctxWith 5 5) [] 0 [] [], true, by decide +kernel⟩⟩

/-- Clauses 1, 2, 3, 4 of `BlocksAreCheckedInOrder`: hypotheses met together. -/
theorem witness_BlocksAreCheckedInOrder :
    (∃ (s u : State) (r : Run) (b : List Byte), Running s ∧ runOf s r.queue = some r ∧ r.stage = .reading ∧ blockFetch s r.desc.hostMemory r.desc.src r.desc.length = (u, some b) ∧ check1 b r.desc.length = true ∧ check2 b r.desc.length = true ∧ check3 b r.desc.kind r.queue = true ∧ check4 b = true ∧ check5 b (u.get (F.LAY_SET_STATUS_STREAM_TAG (headerOf b).set)) = true) ∧
    (∃ (s u : State) (r : Run) (b : List Byte) (code : Nat), Running s ∧ runOf s r.queue = some r ∧ r.stage = .reading ∧ blockFetch s r.desc.hostMemory r.desc.src r.desc.length = (u, some b) ∧ (((code = 0x02 ∧ check1 b r.desc.length = false) ∨
     (check1 b r.desc.length = true ∧ ((code = 0x03 ∧ check2 b r.desc.length = false) ∨
      (check2 b r.desc.length = true ∧ ((code = 0x04 ∧ check3 b r.desc.kind r.queue = false) ∨
       (check3 b r.desc.kind r.queue = true ∧ ((code = 0x02 ∧ check4 b = false) ∨
        (check4 b = true ∧ code = 0x05 ∧ check5 b (u.get (F.LAY_SET_STATUS_STREAM_TAG (headerOf b).set)) = false)))))))))) ∧
    (∃ (s u : State) (r : Run) (b : List Byte) (code : Nat), Running s ∧ runOf s r.queue = some r ∧ r.stage = .reading ∧ blockFetch s r.desc.hostMemory r.desc.src r.desc.length = (u, some b) ∧ (((code = 0x02 ∧ check1 b r.desc.length = false) ∨
     (check1 b r.desc.length = true ∧ ((code = 0x03 ∧ check2 b r.desc.length = false) ∨
      (check2 b r.desc.length = true ∧ ((code = 0x04 ∧ check3 b r.desc.kind r.queue = false) ∨
       (check3 b r.desc.kind r.queue = true ∧ ((code = 0x02 ∧ check4 b = false) ∨
        (check4 b = true ∧ code = 0x05 ∧ check5 b (u.get (F.LAY_SET_STATUS_STREAM_TAG (headerOf b).set)) = false)))))))))) ∧
    (∃ (s u : State) (r : Run) (o : Option (List Byte)) (completed : Bool), Running s ∧ runOf s r.queue = some r ∧ r.stage = .reading ∧ blockFetch s r.desc.hostMemory r.desc.src r.desc.length = (u, o) ∧ (o = none ∨ completed = false)) ∧
    (∃ (s : State) (a n : Nat), CleanDram s a n) :=
  ⟨⟨queueWith 9 (ctxWith 5 6) [{ runAt 9 7 0x12 .reading [] with desc := ⟨0x4000, 24, 0x12, 0, 0, 7, 0⟩ }] 0x4000 (blockFor 0x12 9 0 [1, 2, 3, 4]) [], (blockFetch (queueWith 9 (ctxWith 5 6) [{ runAt 9 7 0x12 .reading [] with desc := ⟨0x4000, 24, 0x12, 0, 0, 7, 0⟩ }] 0x4000 (blockFor 0x12 9 0 [1, 2, 3, 4]) []) false 0x4000 24).1, { runAt 9 7 0x12 .reading [] with desc := ⟨0x4000, 24, 0x12, 0, 0, 7, 0⟩ }, blockFor 0x12 9 0 [1, 2, 3, 4], by decide +kernel⟩,
    ⟨queueWith 9 (ctxWith 5 6) [{ runAt 9 7 0x12 .reading [] with desc := ⟨0x4000, 20, 0x12, 0, 0, 7, 0⟩ }] 0x4000 (blockFor 0x12 9 0 []) [], (blockFetch (queueWith 9 (ctxWith 5 6) [{ runAt 9 7 0x12 .reading [] with desc := ⟨0x4000, 20, 0x12, 0, 0, 7, 0⟩ }] 0x4000 (blockFor 0x12 9 0 []) []) false 0x4000 20).1, { runAt 9 7 0x12 .reading [] with desc := ⟨0x4000, 20, 0x12, 0, 0, 7, 0⟩ }, blockFor 0x12 9 0 [], 2, by decide +kernel⟩,
    ⟨queueWith 9 (ctxWith 5 6) [{ runAt 9 7 0x11 .reading [] with desc := ⟨0x4000, 24, 0x11, 0, 0, 7, 0⟩ }] 0x4000 (blockFor 0x12 9 0 [1, 2, 3, 4]) [], (blockFetch (queueWith 9 (ctxWith 5 6) [{ runAt 9 7 0x11 .reading [] with desc := ⟨0x4000, 24, 0x11, 0, 0, 7, 0⟩ }] 0x4000 (blockFor 0x12 9 0 [1, 2, 3, 4]) []) false 0x4000 24).1, { runAt 9 7 0x11 .reading [] with desc := ⟨0x4000, 24, 0x11, 0, 0, 7, 0⟩ }, blockFor 0x12 9 0 [1, 2, 3, 4], 4, by decide +kernel⟩,
    ⟨queueWith 9 (ctxWith 5 6) [runAt 9 7 0x12 .reading (List.replicate 24 0)] 0 [] [], (blockFetch (queueWith 9 (ctxWith 5 6) [runAt 9 7 0x12 .reading (List.replicate 24 0)] 0 [] []) false 0x4000 24).1, runAt 9 7 0x12 .reading (List.replicate 24 0), (blockFetch (queueWith 9 (ctxWith 5 6) [runAt 9 7 0x12 .reading (List.replicate 24 0)] 0 [] []) false 0x4000 24).2, false, by decide +kernel⟩,
    ⟨dramWith [], 0x4000, 24, by decide +kernel⟩⟩

/-- Clauses 1, 2, 3, 4, 5, 6 of `DecodedBlocksAreWritten`: hypotheses met together. -/
theorem witness_DecodedBlocksAreWritten :
    (∃ (s : State) (r : Run) (bytes : List Byte), (Running s ∧ SoundMemory s ∧ runOf s r.queue = some r ∧ r.stage = .decoding ∧ queueClass r.queue = .tile ∧ decodeTile r.desc.kind (payloadOf r.block) = some bytes ∧ bytes ≠ [] ∧ tileHeld s r.desc.seq (headerOf r.block).set (r.queue / 4096) (r.queue % 4096) = false ∧ s.get F.LAY_RETAIN_BASE_EN = 0 ∧ s.get F.ERR_INJECT_ARM = 0) ∧ (∃ n a, n = tileNo (headerOf r.block).set (r.queue / 4096) (r.queue % 4096) ∧ a = slotAddr s n (1 - (tileOf s n).front) ∧ dramBehind s a bytes.length = true ∧ rangeSecure s a bytes.length = false)) ∧
    (∃ (s : State) (r : Run) (bytes : List Byte), Running s ∧ runOf s r.queue = some r ∧ r.stage = .decoding ∧ queueClass r.queue = .tile ∧ decodeTile r.desc.kind (payloadOf r.block) = some bytes ∧ tileHeld s r.desc.seq (headerOf r.block).set (r.queue / 4096) (r.queue % 4096) = true) ∧
    (∃ (s : State) (r : Run), Running s ∧ runOf s r.queue = some r ∧ r.stage = .decoding ∧ ((queueClass r.queue = .tile ∧ decodeTile r.desc.kind (payloadOf r.block) = none) ∨ (queueClass r.queue = .control ∧ controlOk r.block = false))) ∧
    (∃ (s : State) (r : Run), Running s ∧ runOf s r.queue = some r ∧ r.stage = .decoding ∧ ((queueClass r.queue = .tile ∧ decodeTile r.desc.kind (payloadOf r.block) = none) ∨ (queueClass r.queue = .control ∧ controlOk r.block = false))) ∧
    (∃ (s : State) (r : Run), Running s ∧ runOf s r.queue = some r ∧ r.stage = .decoding ∧ queueClass r.queue = .control ∧ controlOk r.block = true ∧ (headerOf r.block).kind = 0x22) ∧
    (∃ (s : State) (r : Run) (d : Layer), Running s ∧ runOf s r.queue = some r ∧ r.stage = .held ∧ queueClass r.queue = .control ∧ layerHeld s r.desc.seq (headerOf r.block).set (r.queue / 4096) = false ∧ layerOf (payloadOf r.block) = some d) ∧
    (∃ (s : State) (r : Run), Running s ∧ runOf s r.queue = some r ∧ r.stage = .held ∧ queueClass r.queue = .tile ∧ tileHeld s r.desc.seq (headerOf r.block).set (r.queue / 4096) (r.queue % 4096) = true) :=
  ⟨⟨queueWith 9 (ctxWith 5 6) [runAt 9 7 0x12 .decoding (blockFor 0x12 9 0 [1, 2, 3, 4])] 0 [] [], runAt 9 7 0x12 .decoding (blockFor 0x12 9 0 [1, 2, 3, 4]), decodeFill [1, 2, 3, 4], by decide +kernel, ⟨_, _, rfl, rfl, by decide +kernel⟩⟩,
    ⟨(fun s => { s with scene := { s.scene with tiles := [(9, { Tile.reset with releasing := some 3 })] } }) (queueWith 9 (ctxWith 5 6) [runAt 9 7 0x12 .decoding (blockFor 0x12 9 0 [1, 2, 3, 4])] 0 [] []), runAt 9 7 0x12 .decoding (blockFor 0x12 9 0 [1, 2, 3, 4]), decodeFill [1, 2, 3, 4], by decide +kernel⟩,
    ⟨queueWith 9 (ctxWith 5 6) [runAt 9 7 0x10 .decoding (blockFor 0x10 9 0 [255, 1, 1, 1, 1])] 0 [] [], runAt 9 7 0x10 .decoding (blockFor 0x10 9 0 [255, 1, 1, 1, 1]), by decide +kernel⟩,
    ⟨queueWith 3600 (ctxWith 5 6) [runAt 3600 7 0x02 .decoding (blockFor 0x02 3600 0 (List.replicate 32 255))] 0 [] [], runAt 3600 7 0x02 .decoding (blockFor 0x02 3600 0 (List.replicate 32 255)), by decide +kernel⟩,
    ⟨queueWith 3600 (ctxWith 5 6) [runAt 3600 7 0x22 .decoding (blockFor 0x22 3600 0 (List.replicate 16 0))] 0 [] [], runAt 3600 7 0x22 .decoding (blockFor 0x22 3600 0 (List.replicate 16 0)), by decide +kernel⟩,
    ⟨queueWith 3600 (ctxWith 5 6) [runAt 3600 7 0x02 .held (blockFor 0x02 3600 0 (List.replicate 32 0))] 0 [] [], runAt 3600 7 0x02 .held (blockFor 0x02 3600 0 (List.replicate 32 0)), ⟨0, 0, 0, 0, 0, 0, 0, 0, 0, 0, 0⟩, by decide +kernel⟩,
    ⟨(fun s => { s with scene := { s.scene with tiles := [(9, { Tile.reset with releasing := some 3 })] } }) (queueWith 9 (ctxWith 5 6) [runAt 9 7 0x12 .held (blockFor 0x12 9 0 [1, 2, 3, 4])] 0 [] []), runAt 9 7 0x12 .held (blockFor 0x12 9 0 [1, 2, 3, 4]), by decide +kernel⟩⟩

end W08

namespace W09

/-- Clauses 1, 2, 3, 4, 5 of `DescriptorsRetire`: hypotheses met together. -/
theorem witness_DescriptorsRetire :
    (∃ (s : State) (r : Run) (readable : Bool), Running s ∧ runOf s r.queue = some r ∧ r.stage = .finished ∧ (ctxOf s r.queue).count ≠ 0 ∧ r.index = (ctxOf s r.queue).head ∧ (ctxOf s r.queue).cq < 16 ∧ r.status < 11 ∧ ringRoom s (ctxOf s r.queue).cq = true ∧ (∀ x ∈ s.scene.delayed, (ctxOf s x).cq ≠ (ctxOf s r.queue).cq)) ∧
    (∃ (s : State) (r : Run) (readable : Bool), Running s ∧ runOf s r.queue = some r ∧ r.stage = .finished ∧ (ctxOf s r.queue).count ≠ 0 ∧ r.index = (ctxOf s r.queue).head ∧ (ctxOf s r.queue).cq < 16 ∧ r.status < 11 ∧ ringRoom s (ctxOf s r.queue).cq = true ∧ (∀ x ∈ s.scene.delayed, (ctxOf s x).cq ≠ (ctxOf s r.queue).cq)) ∧
    (∃ (s : State) (r : Run) (readable : Bool), Running s ∧ runOf s r.queue = some r ∧ r.stage = .finished ∧ (ctxOf s r.queue).count ≠ 0 ∧ r.index = (ctxOf s r.queue).head ∧ r.status = 0 ∧ (ctxOf s r.queue).quiet = true ∧ ringRoom s (ctxOf s r.queue).cq = true ∧ (∀ x ∈ s.scene.delayed, (ctxOf s x).cq ≠ (ctxOf s r.queue).cq) ∧ r.desc.signalFence = true ∧ r.desc.fenceIndex < 256 ∧ r.desc.fenceValue < 2 ^ 64 ∧ (headerOf r.block).kind = 0x10) ∧
    (∃ (s : State) (r : Run) (readable : Bool) (k a : Nat), Running s ∧ SoundMemory s ∧ runOf s r.queue = some r ∧ r.stage = .finished ∧ (ctxOf s r.queue).count ≠ 0 ∧ r.index = (ctxOf s r.queue).head ∧ (ctxOf s r.queue).cq < 16 ∧ 0 < r.status ∧ r.status < 11 ∧ ringRoom s (ctxOf s r.queue).cq = true ∧ (∀ x ∈ s.scene.delayed, (ctxOf s x).cq ≠ (ctxOf s r.queue).cq) ∧ s.get (F.QMG_CQ_BASE_HOST (ctxOf s r.queue).cq) = 0 ∧ k = s.get (F.QMG_CQ_SIZE_CQ_LOG2 (ctxOf s r.queue).cq) ∧ a = s.get (F.QMG_CQ_BASE_ADDR (ctxOf s r.queue).cq) * 64 + s.get (F.QMG_CQ_TAIL_TAIL (ctxOf s r.queue).cq) % 2 ^ k * 16 ∧ dramBehind s a 16 = true ∧ rangeSecure s a 16 = false) ∧
    (∃ (s : State) (r : Run) (readable : Bool), Running s ∧ runOf s r.queue = some r ∧ r.stage = .finished ∧ (ctxOf s r.queue).count ≠ 0 ∧ ringRoom s (ctxOf s r.queue).cq = false ∧ r.queue ∉ s.scene.delayed) ∧
    (∃ (s : State) (q : Nat) (readable : Bool), Running s ∧ frontOf s q = .nothing) :=
  ⟨⟨queueWith 9 (ctxWith 5 6) [runAt 9 7 0x12 .finished (blockFor 0x12 9 0 [1, 2, 3, 4])] 0 [] [], runAt 9 7 0x12 .finished (blockFor 0x12 9 0 [1, 2, 3, 4]), true, by decide +kernel⟩,
    ⟨queueWith 9 { ctxWith 5 6 with quiet := true } [runAt 9 7 0x12 .finished (blockFor 0x12 9 0 [1, 2, 3, 4])] 0 [] [], runAt 9 7 0x12 .finished (blockFor 0x12 9 0 [1, 2, 3, 4]), true, by decide +kernel⟩,
    ⟨(fun r => queueWith 9 { ctxWith 5 6 with quiet := true } [r] 0 [] []) { runAt 9 7 0x10 .finished (blockFor 0x10 9 0 [1, 2, 3, 4]) with desc := ⟨0x4000, 24, 0x10, 2, 255, 7, 77⟩ }, { runAt 9 7 0x10 .finished (blockFor 0x10 9 0 [1, 2, 3, 4]) with desc := ⟨0x4000, 24, 0x10, 2, 255, 7, 77⟩ }, true, by decide +kernel⟩,
    ⟨queueWith 9 (ctxWith 5 6) [{ runAt 9 7 0x12 .finished (blockFor 0x12 9 0 [1, 2, 3, 4]) with status := 10, object := 0x1234, info := 0x12345678 }] 0 [] [(F.QMG_CQ_TAIL_TAIL 1, 18), (F.QMG_CQ_HEAD_HEAD 1, 18)], { runAt 9 7 0x12 .finished (blockFor 0x12 9 0 [1, 2, 3, 4]) with status := 10, object := 0x1234, info := 0x12345678 }, true, 4, 0x40020, by decide +kernel⟩,
    ⟨queueWith 9 (ctxWith 5 6) [runAt 9 7 0x12 .finished (blockFor 0x12 9 0 [1, 2, 3, 4])] 0 [] [(F.QMG_CQ_TAIL_TAIL 1, 16)], runAt 9 7 0x12 .finished (blockFor 0x12 9 0 [1, 2, 3, 4]), true, by decide +kernel⟩,
    ⟨queueWith 9 (ctxWith 5 5) [] 0 [] [], 9, true, by decide +kernel⟩⟩

/-- Clauses 1, 2, 3, 4, 5, 6 of `RingsFencesAndTheLatch`: hypotheses met together. -/
theorem witness_RingsFencesAndTheLatch :
    (∃ (s : State) (m : Master) (ring head : Nat), Running s ∧ ring < 16 ∧ head < 2 ^ 32 ∧ MayWrite s m (0x030 + ring) ∧ (∀ x ∈ s.scene.delayed, (ctxOf s x).cq ≠ ring)) ∧
    (∃ (s : State) (ring : Nat), Running s ∧ ring < 16 ∧ s.get (F.QMG_CQ_MOD_MICROSECONDS ring) ≠ 0 ∧ s.get (F.QMG_CQ_TAIL_TAIL ring) ≠ s.get (F.QMG_CQ_HEAD_HEAD ring)) ∧
    (∃ (s : State) (ring : Nat), Running s ∧ ring < 16 ∧ (s.get (F.QMG_CQ_MOD_MICROSECONDS ring) = 0 ∨ s.get (F.QMG_CQ_TAIL_TAIL ring) = s.get (F.QMG_CQ_HEAD_HEAD ring))) ∧
    (∃ (s : State) (m : Master) (n v : Nat), Running s ∧ n < 256 ∧ v < 2 ^ 64 ∧ MayWrite s m 0x051) ∧
    (∃ (s : State) (m : Master) (n v : Nat), Running s ∧ n < 256 ∧ v < 2 ^ 64 ∧ MayWrite s m 0x052) ∧
    (∃ (s : State), Running s) :=
  ⟨⟨upWith [], .mp 0, 15, 0xFFFFFFFF, by decide +kernel⟩,
    ⟨upWith [(F.QMG_CQ_MOD_MICROSECONDS 15, 1), (F.QMG_CQ_TAIL_TAIL 15, 1)], 15, by decide +kernel⟩,
    ⟨upWith [], 15, by decide +kernel⟩,
    ⟨upWith [], .mp 0, 255, 2 ^ 64 - 1, by decide +kernel⟩,
    ⟨upWith [(F.LAY_FENCE_VALUE 255, 8)], .mp 0, 255, 7, by decide +kernel⟩,
    ⟨{ upWith [] with scene := { Scene.reset with commits := [⟨3600, 5, 0, 1, false, 0, 0, false, 7, [], some 1, false⟩, ⟨3601, 5, 1, 1, true, 3, 9, false, 8, [], some 1, false⟩] } }, by decide +kernel⟩⟩

end W09

namespace W10

/-- A kernel selection of the base package, its parameter block at address 0x4000 of device memory. -/
def kernelWith (block : List Byte) (l : List (Field × Nat)) : State :=
  let s := dramWith ([(F.RSY_PKG_INFO_VALID 0, 1), (F.RSY_KSEL_KERNEL, 0x0301), (F.RSY_KPARAM_ADDR_ADDR, 0x100)] ++ l)
  { s with mem := { s.mem with dram := memWrite [] 0x4000 block } }

/-- A lenslet object of one row and one entry at address 0x4000 of device memory. -/
def lensWith (b : Option LensBuild) (l : List (Field × Nat)) : State :=
  let s := dramWith ([(F.RSY_LDELTA_ADDR_ADDR, 0x100)] ++ l)
  { s with mem := { s.mem with dram := memWrite [] 0x4000 (leBytes 4 1 ++ leBytes 12 1) }, rsy := { Rsy.reset with lens := { Lens.reset with build := b } } }

/-- Clauses 1, 2, 3, 4, 5 of `KernelSelection`: hypotheses met together. -/
theorem witness_KernelSelection :
    (∃ (s : State) (m : Master) (data : Nat), Running s ∧ MayWrite s m 0x070 ∧ data < 2 ^ 32 ∧ data % 2 = 0) ∧
    (∃ (s : State) (m : Master) (data : Nat) (host : Bool), Running s ∧ MayWrite s m 0x070 ∧ data < 2 ^ 32 ∧ data % 2 = 1 ∧ s.get F.RSY_KSEL_STATUS_BUSY = 0 ∧ kernelIn s (s.get F.RSY_KSEL_SLOT) (s.get F.RSY_KSEL_KERNEL) = some host ∧ (host = true ∨ m.ozzizo = true) ∧ s.get F.RSY_KPARAM_ADDR_ADDR = 0) ∧
    (∃ (s u : State) (m : Master) (data : Nat) (host : Bool) (b : List Byte), Running s ∧ MayWrite s m 0x070 ∧ data < 2 ^ 32 ∧ data % 2 = 1 ∧ s.get F.RSY_KSEL_STATUS_BUSY = 0 ∧ kernelIn s (s.get F.RSY_KSEL_SLOT) (s.get F.RSY_KSEL_KERNEL) = some host ∧ (host = true ∨ m.ozzizo = true) ∧ s.get F.RSY_KPARAM_ADDR_ADDR ≠ 0 ∧ fetchBlock s (s.get F.RSY_KSEL_SLOT) (s.get F.RSY_KSEL_KERNEL) (s.get F.RSY_KPARAM_ADDR_ADDR * 64) = (u, some b) ∧ blockOk (s.get F.RSY_KSEL_SLOT) (s.get F.RSY_KSEL_KERNEL) b = true) ∧
    (∃ (s u : State) (m : Master) (data code : Nat), Running s ∧ MayWrite s m 0x070 ∧ data < 2 ^ 32 ∧ data % 2 = 1 ∧ (((code = 5 ∧ s.get F.RSY_KSEL_STATUS_BUSY = 1 ∧ u = s) ∨
     (s.get F.RSY_KSEL_STATUS_BUSY = 0 ∧
      ((code = 1 ∧ kernelIn s (s.get F.RSY_KSEL_SLOT) (s.get F.RSY_KSEL_KERNEL) = none ∧ u = s) ∨
       (code = 2 ∧ kernelIn s (s.get F.RSY_KSEL_SLOT) (s.get F.RSY_KSEL_KERNEL) = some false ∧ m.ozzizo = false ∧ u = s) ∨
       (∃ host, kernelIn s (s.get F.RSY_KSEL_SLOT) (s.get F.RSY_KSEL_KERNEL) = some host ∧ (host = true ∨ m.ozzizo = true) ∧
         s.get F.RSY_KPARAM_ADDR_ADDR ≠ 0 ∧
         ((code = 4 ∧ fetchBlock s (s.get F.RSY_KSEL_SLOT) (s.get F.RSY_KSEL_KERNEL) (s.get F.RSY_KPARAM_ADDR_ADDR * 64) = (u, none)) ∨
          (code = 3 ∧ ∃ b, fetchBlock s (s.get F.RSY_KSEL_SLOT) (s.get F.RSY_KSEL_KERNEL) (s.get F.RSY_KPARAM_ADDR_ADDR * 64) = (u, some b) ∧
            blockOk (s.get F.RSY_KSEL_SLOT) (s.get F.RSY_KSEL_KERNEL) b = false)))))))) ∧
    (∃ (s u : State) (m : Master) (data code : Nat), Running s ∧ MayWrite s m 0x070 ∧ data < 2 ^ 32 ∧ data % 2 = 1 ∧ (((code = 5 ∧ s.get F.RSY_KSEL_STATUS_BUSY = 1 ∧ u = s) ∨
     (s.get F.RSY_KSEL_STATUS_BUSY = 0 ∧
      ((code = 1 ∧ kernelIn s (s.get F.RSY_KSEL_SLOT) (s.get F.RSY_KSEL_KERNEL) = none ∧ u = s) ∨
       (code = 2 ∧ kernelIn s (s.get F.RSY_KSEL_SLOT) (s.get F.RSY_KSEL_KERNEL) = some false ∧ m.ozzizo = false ∧ u = s) ∨
       (∃ host, kernelIn s (s.get F.RSY_KSEL_SLOT) (s.get F.RSY_KSEL_KERNEL) = some host ∧ (host = true ∨ m.ozzizo = true) ∧
         s.get F.RSY_KPARAM_ADDR_ADDR ≠ 0 ∧
         ((code = 4 ∧ fetchBlock s (s.get F.RSY_KSEL_SLOT) (s.get F.RSY_KSEL_KERNEL) (s.get F.RSY_KPARAM_ADDR_ADDR * 64) = (u, none)) ∨
          (code = 3 ∧ ∃ b, fetchBlock s (s.get F.RSY_KSEL_SLOT) (s.get F.RSY_KSEL_KERNEL) (s.get F.RSY_KPARAM_ADDR_ADDR * 64) = (u, some b) ∧
            blockOk (s.get F.RSY_KSEL_SLOT) (s.get F.RSY_KSEL_KERNEL) b = false)))))))) ∧
    (∃ (s u : State) (m : Master) (data code : Nat), Running s ∧ MayWrite s m 0x070 ∧ data < 2 ^ 32 ∧ data % 2 = 1 ∧ (((code = 5 ∧ s.get F.RSY_KSEL_STATUS_BUSY = 1 ∧ u = s) ∨
     (s.get F.RSY_KSEL_STATUS_BUSY = 0 ∧
      ((code = 1 ∧ kernelIn s (s.get F.RSY_KSEL_SLOT) (s.get F.RSY_KSEL_KERNEL) = none ∧ u = s) ∨
       (code = 2 ∧ kernelIn s (s.get F.RSY_KSEL_SLOT) (s.get F.RSY_KSEL_KERNEL) = some false ∧ m.ozzizo = false ∧ u = s) ∨
       (∃ host, kernelIn s (s.get F.RSY_KSEL_SLOT) (s.get F.RSY_KSEL_KERNEL) = some host ∧ (host = true ∨ m.ozzizo = true) ∧
         s.get F.RSY_KPARAM_ADDR_ADDR ≠ 0 ∧
         ((code = 4 ∧ fetchBlock s (s.get F.RSY_KSEL_SLOT) (s.get F.RSY_KSEL_KERNEL) (s.get F.RSY_KPARAM_ADDR_ADDR * 64) = (u, none)) ∨
          (code = 3 ∧ ∃ b, fetchBlock s (s.get F.RSY_KSEL_SLOT) (s.get F.RSY_KSEL_KERNEL) (s.get F.RSY_KPARAM_ADDR_ADDR * 64) = (u, some b) ∧
            blockOk (s.get F.RSY_KSEL_SLOT) (s.get F.RSY_KSEL_KERNEL) b = false)))))))) ∧
    (∃ (s : State) (k : Kernel), Running s ∧ s.rsy.loading = some k) :=
  ⟨⟨upWith [], .mp 0, 0xFFFFFFFE, by decide +kernel⟩,
    ⟨kernelWith [] [(F.RSY_KPARAM_ADDR_ADDR, 0)], .mp 0, 1, ((kernelIn (kernelWith [] [(F.RSY_KPARAM_ADDR_ADDR, 0)]) 0 0x0301).getD true), by decide +kernel⟩,
    ⟨kernelWith (leBytes 2 0x0301 ++ leBytes 2 12) [], (fetchBlock (kernelWith (leBytes 2 0x0301 ++ leBytes 2 12) []) 0 0x0301 0x4000).1, .mp 0, 1, ((kernelIn (kernelWith (leBytes 2 0x0301 ++ leBytes 2 12) []) 0 0x0301).getD true), ((fetchBlock (kernelWith (leBytes 2 0x0301 ++ leBytes 2 12) []) 0 0x0301 0x4000).2.getD []), by decide +kernel⟩,
    ⟨kernelWith [] [(F.RSY_KSEL_STATUS_BUSY, 1)], (kernelWith [] [(F.RSY_KSEL_STATUS_BUSY, 1)]), .mp 0, 1, 5, by exact ⟨by decide +kernel, by decide +kernel, by decide +kernel, by decide +kernel, Or.inl (by decide +kernel)⟩⟩,
    ⟨kernelWith [] [(F.RSY_KSEL_KERNEL, 0x7777)], (kernelWith [] [(F.RSY_KSEL_KERNEL, 0x7777)]), .mp 0, 1, 1, by exact ⟨by decide +kernel, by decide +kernel, by decide +kernel, by decide +kernel, Or.inr ⟨by decide +kernel, Or.inl (by decide +kernel)⟩⟩⟩,
    ⟨kernelWith [] [], (fetchBlock (kernelWith [] []) 0 0x0301 0x4000).1, .mp 0, 1, 3, by exact ⟨by decide +kernel, by decide +kernel, by decide +kernel, by decide +kernel, Or.inr ⟨by decide +kernel, Or.inr (Or.inr ⟨true, by decide +kernel, by decide +kernel, by decide +kernel, Or.inr ⟨rfl, (fetchBlock (kernelWith [] []) 0 0x0301 0x4000).2.getD [], by decide +kernel, by decide +kernel⟩⟩)⟩⟩⟩,
    ⟨{ upWith [(F.RSY_KSEL_STATUS_BUSY, 1)] with rsy := { Rsy.reset with loading := some ⟨0, 0x0301, 0, []⟩ } }, ⟨0, 0x0301, 0, []⟩, by decide +kernel⟩⟩

/-- Clauses 1, 2, 3, 4, 5, 6, 7 of `LensletBuildsAndPackages`: hypotheses met together. -/
theorem witness_LensletBuildsAndPackages :
    (∃ (s u : State) (m : Master) (data first : Nat) (b : List Byte), (Running s ∧ MayWrite s m 0x070 ∧ data < 2 ^ 32 ∧ data % 2 = 1 ∧ first = data / 2 ^ 16 % 2 ^ 10 ∧ s.rsy.lens.heldHost = none ∧ ((∀ x, s.rsy.lens.build = some x → x.fromHost = false)) ∧ first ≤ 647 ∧ ldeltaObject s = (u, some b) ∧ u.rsy = s.rsy ∧ lensObjectOk b first = true) ∧ (s.rsy.lens.build = none)) ∧
    (∃ (s u : State) (m : Master) (data first : Nat) (b : List Byte), (Running s ∧ MayWrite s m 0x070 ∧ data < 2 ^ 32 ∧ data % 2 = 1 ∧ first = data / 2 ^ 16 % 2 ^ 10 ∧ s.rsy.lens.heldHost = none ∧ ((∀ x, s.rsy.lens.build = some x → x.fromHost = false)) ∧ first ≤ 647 ∧ ldeltaObject s = (u, some b) ∧ u.rsy = s.rsy ∧ lensObjectOk b first = true) ∧ (s.rsy.lens.build ≠ none)) ∧
    (∃ (s u : State) (m : Master) (data first code : Nat), Running s ∧ MayWrite s m 0x070 ∧ data < 2 ^ 32 ∧ data % 2 = 1 ∧ first = data / 2 ^ 16 % 2 ^ 10 ∧ (((code = 5 ∧ u = s ∧ (s.rsy.lens.heldHost ≠ none ∨ ∃ x, s.rsy.lens.build = some x ∧ x.fromHost = true)) ∨
     (s.rsy.lens.heldHost = none ∧ (∀ x, s.rsy.lens.build = some x → x.fromHost = false) ∧
       ((code = 3 ∧ u = s ∧ 647 < first) ∨ (first ≤ 647 ∧ ((code = 4 ∧ ldeltaObject s = (u, none)) ∨
         (code = 3 ∧ ∃ b, ldeltaObject s = (u, some b) ∧ lensObjectOk b first = false)))))))) ∧
    (∃ (s u : State) (m : Master) (data first code : Nat), Running s ∧ MayWrite s m 0x070 ∧ data < 2 ^ 32 ∧ data % 2 = 1 ∧ first = data / 2 ^ 16 % 2 ^ 10 ∧ (((code = 5 ∧ u = s ∧ (s.rsy.lens.heldHost ≠ none ∨ ∃ x, s.rsy.lens.build = some x ∧ x.fromHost = true)) ∨
     (s.rsy.lens.heldHost = none ∧ (∀ x, s.rsy.lens.build = some x → x.fromHost = false) ∧
       ((code = 3 ∧ u = s ∧ 647 < first) ∨ (first ≤ 647 ∧ ((code = 4 ∧ ldeltaObject s = (u, none)) ∨
         (code = 3 ∧ ∃ b, ldeltaObject s = (u, some b) ∧ lensObjectOk b first = false)))))))) ∧
    (∃ (s u : State) (m : Master) (data first code : Nat), Running s ∧ MayWrite s m 0x070 ∧ data < 2 ^ 32 ∧ data % 2 = 1 ∧ first = data / 2 ^ 16 % 2 ^ 10 ∧ (((code = 5 ∧ u = s ∧ (s.rsy.lens.heldHost ≠ none ∨ ∃ x, s.rsy.lens.build = some x ∧ x.fromHost = true)) ∨
     (s.rsy.lens.heldHost = none ∧ (∀ x, s.rsy.lens.build = some x → x.fromHost = false) ∧
       ((code = 3 ∧ u = s ∧ 647 < first) ∨ (first ≤ 647 ∧ ((code = 4 ∧ ldeltaObject s = (u, none)) ∨
         (code = 3 ∧ ∃ b, ldeltaObject s = (u, some b) ∧ lensObjectOk b first = false)))))))) ∧
    (∃ (s u : State) (m : Master) (data first code : Nat), Running s ∧ MayWrite s m 0x070 ∧ data < 2 ^ 32 ∧ data % 2 = 1 ∧ first = data / 2 ^ 16 % 2 ^ 10 ∧ (((code = 5 ∧ u = s ∧ (s.rsy.lens.heldHost ≠ none ∨ ∃ x, s.rsy.lens.build = some x ∧ x.fromHost = true)) ∨
     (s.rsy.lens.heldHost = none ∧ (∀ x, s.rsy.lens.build = some x → x.fromHost = false) ∧
       ((code = 3 ∧ u = s ∧ 647 < first) ∨ (first ≤ 647 ∧ ((code = 4 ∧ ldeltaObject s = (u, none)) ∨
         (code = 3 ∧ ∃ b, ldeltaObject s = (u, some b) ∧ lensObjectOk b first = false)))))))) ∧
    (∃ (s : State) (x : LensBuild), Running s ∧ s.rsy.lens.build = some x) ∧
    (∃ (s : State) (m : Master) (slot : Nat), Running s ∧ MayWrite s m 0x070 ∧ 0 < slot ∧ slot < 4 ∧ s.get F.RSY_PKG_CMD_BUSY = 0 ∧ s.rsy.kernel.slot ≠ slot ∧ ((∀ k, s.rsy.loading = some k → k.slot ≠ slot)) ∧ ((∀ k, s.rsy.loaded = some k → k.slot ≠ slot))) ∧
    (∃ (s : State) (m : Master) (slot code : Nat), Running s ∧ MayWrite s m 0x070 ∧ slot < 4 ∧ (((code = 5 ∧ s.get F.RSY_PKG_CMD_BUSY = 1) ∨ (s.get F.RSY_PKG_CMD_BUSY = 0 ∧ ((code = 8 ∧ slot = 0) ∨
      (code = 7 ∧ slot ≠ 0 ∧ (s.rsy.kernel.slot = slot ∨ (∃ k, s.rsy.loading = some k ∧ k.slot = slot) ∨ (∃ k, s.rsy.loaded = some k ∧ k.slot = slot)))))))) ∧
    (∃ (s : State) (m : Master) (slot code : Nat), Running s ∧ MayWrite s m 0x070 ∧ slot < 4 ∧ (((code = 5 ∧ s.get F.RSY_PKG_CMD_BUSY = 1) ∨ (s.get F.RSY_PKG_CMD_BUSY = 0 ∧ ((code = 8 ∧ slot = 0) ∨
      (code = 7 ∧ slot ≠ 0 ∧ (s.rsy.kernel.slot = slot ∨ (∃ k, s.rsy.loading = some k ∧ k.slot = slot) ∨ (∃ k, s.rsy.loaded = some k ∧ k.slot = slot)))))))) ∧
    (∃ (s : State) (m : Master) (slot code : Nat), Running s ∧ MayWrite s m 0x070 ∧ slot < 4 ∧ (((code = 5 ∧ s.get F.RSY_PKG_CMD_BUSY = 1) ∨ (s.get F.RSY_PKG_CMD_BUSY = 0 ∧ ((code = 8 ∧ slot = 0) ∨
      (code = 7 ∧ slot ≠ 0 ∧ (s.rsy.kernel.slot = slot ∨ (∃ k, s.rsy.loading = some k ∧ k.slot = slot) ∨ (∃ k, s.rsy.loaded = some k ∧ k.slot = slot)))))))) ∧
    (∃ (s : State) (slot version : Nat) (kernels : List (Nat × Bool)), Running s ∧ s.rsy.installing = some slot ∧ slot < 4 ∧ version < 2 ^ 32 ∧ kernels.length < 2 ^ 16) ∧
    (∃ (s : State) (slot code : Nat) (o : PkgOutcome), Running s ∧ s.rsy.installing = some slot ∧ ((code = 4 ∧ o = .fetchError) ∨ (code = 6 ∧ o = .badSignature))) ∧
    (∃ (s : State) (slot code : Nat) (o : PkgOutcome), Running s ∧ s.rsy.installing = some slot ∧ ((code = 4 ∧ o = .fetchError) ∨ (code = 6 ∧ o = .badSignature))) :=
  ⟨⟨lensWith none [], (ldeltaObject (lensWith none [])).1, .mp 0, 1, 0, ((ldeltaObject (lensWith none [])).2.getD []), by decide +kernel, by decide +kernel⟩,
    ⟨lensWith (some ⟨false, [], [], none, false⟩) [], (ldeltaObject (lensWith (some ⟨false, [], [], none, false⟩) [])).1, .mp 0, 647 * 2 ^ 16 + 1, 647, ((ldeltaObject (lensWith (some ⟨false, [], [], none, false⟩) [])).2.getD []), by decide +kernel, by decide +kernel⟩,
    ⟨lensWith (some ⟨true, [], [], none, false⟩) [], (lensWith (some ⟨true, [], [], none, false⟩) []), .mp 0, 1, 0, 5, by exact ⟨by decide +kernel, by decide +kernel, by decide +kernel, by decide +kernel, by decide +kernel, Or.inl ⟨rfl, rfl, Or.inr ⟨_, rfl, rfl⟩⟩⟩⟩,
    ⟨lensWith none [], (lensWith none []), .mp 0, 648 * 2 ^ 16 + 1, 648, 3, by exact ⟨by decide +kernel, by decide +kernel, by decide +kernel, by decide +kernel, by decide +kernel, Or.inr ⟨by decide +kernel, nofun, Or.inl (by decide +kernel)⟩⟩⟩,
    ⟨lensWith none [(F.RSY_LDELTA_ADDR_ADDR, 0x200)], (ldeltaObject (lensWith none [(F.RSY_LDELTA_ADDR_ADDR, 0x200)])).1, .mp 0, 1, 0, 3, by exact ⟨by decide +kernel, by decide +kernel, by decide +kernel, by decide +kernel, by decide +kernel, Or.inr ⟨by decide +kernel, nofun, Or.inr ⟨by decide +kernel, Or.inr ⟨rfl, (ldeltaObject (lensWith none [(F.RSY_LDELTA_ADDR_ADDR, 0x200)])).2.getD [], by decide +kernel, by decide +kernel⟩⟩⟩⟩⟩,
    ⟨lensWith none [(F.DMC_ISET_EN 0, 0)], (ldeltaObject (lensWith none [(F.DMC_ISET_EN 0, 0)])).1, .mp 0, 1, 0, 4, by exact ⟨by decide +kernel, by decide +kernel, by decide +kernel, by decide +kernel, by decide +kernel, Or.inr ⟨by decide +kernel, nofun, Or.inr ⟨by decide +kernel, Or.inl (by decide +kernel)⟩⟩⟩⟩,
    ⟨lensWith (some ⟨true, [], [], none, false⟩) [], ⟨true, [], [], none, false⟩, by decide +kernel⟩,
    ⟨upWith [], .mp 0, 3, by decide +kernel⟩,
    ⟨upWith [(F.RSY_PKG_CMD_BUSY, 1)], .mp 0, 3, 5, by decide +kernel⟩,
    ⟨upWith [], .mp 0, 0, 8, by decide +kernel⟩,
    ⟨{ upWith [] with rsy := { Rsy.reset with loaded := some ⟨2, 0x0301, 0, []⟩ } }, .mp 0, 2, 7, by decide +kernel⟩,
    ⟨{ upWith [] with rsy := { Rsy.reset with installing := some 3 } }, 3, 0xFFFFFFFF, [(5, true), (6, false)], by decide +kernel⟩,
    ⟨{ upWith [] with rsy := { Rsy.reset with installing := some 3 } }, 3, 4, .fetchError, by decide +kernel⟩,
    ⟨{ upWith [] with rsy := { Rsy.reset with installing := some 3 } }, 3, 6, .badSignature, by decide +kernel⟩⟩

end W10

namespace W11

/-- Clauses 1, 2, 3, 4, 5, 6, 7, 8, 9, 10 of `LotsGoFromReleaseToTheLineBuffer`: hypotheses met together. -/
theorem witness_LotsGoFromReleaseToTheLineBuffer :
    (∃ (s : State) (b f : Nat) (after : Int), (Running s ∧ s.get F.DRU_STATE_LF_OUT ≠ 0 ∧ s.pnl.step < 20 ∧ s.drum.bands[b]? = some (f, after)) ∧ (schedValid s b f = true ∧ portServes s b = true)) ∧
    (∃ (s : State) (b : Nat), Running s ∧ (s.get F.DRU_STATE_LF_OUT = 0 ∨ 20 ≤ s.pnl.step ∨ s.drum.bands[b]? = none)) ∧
    (∃ (s : State) (b st : Nat) (p : Plan) (borrowed : Bool), Running s ∧ planFor s b (fun p => decide (p.released < 68) && !p.closed && !decide (p.mode = 2)) = some p ∧ lotStall (applyBudget s) p.band p.released = (some st, borrowed)) ∧
    (∃ (s : State) (k e : Nat) (l : Lot), (Running s ∧ firstLot s k = some l ∧ canRun s k = true ∧ e ∈ freeEngines s k) ∧ (l.home = k)) ∧
    (∃ (s : State) (k e : Nat) (l : Lot), (Running s ∧ firstLot s k = some l ∧ canRun s k = true ∧ e ∈ freeEngines s k) ∧ (l.home ≠ k)) ∧
    (∃ (s : State) (k e j : Nat) (l : Lot), Running s ∧ firstLot s k = some l ∧ canRun s k = false ∧ l.phase = .released ∧ lendTarget s k = some j) ∧
    (∃ (s : State) (k e : Nat), Running s ∧ (firstLot s k = none ∨ (canRun s k = true ∧ e ∉ freeEngines s k))) ∧
    (∃ (s : State) (k e : Nat) (l : Lot), (Running s ∧ runningLot s k e = some l ∧ s.get F.ERR_INJECT_ARM = 0 ∧ (∀ p ∈ spanPixels s l, p.bad = []) ∧ l.next + 1 < 16 * lotLines l.index) ∧ (lineLate s l (l.index * 8 + l.next / 16) = false)) ∧
    (∃ (s : State) (k e : Nat) (l : Lot), (Running s ∧ runningLot s k e = some l ∧ s.get F.ERR_INJECT_ARM = 0 ∧ (∀ p ∈ spanPixels s l, p.bad = []) ∧ l.next + 1 < 16 * lotLines l.index) ∧ (lineLate s l (l.index * 8 + l.next / 16) = true)) ∧
    (∃ (s : State) (k e : Nat) (l : Lot), Running s ∧ runningLot s k e = some l ∧ s.get F.ERR_INJECT_ARM = 0 ∧ (∀ p ∈ spanPixels s l, p.bad = []) ∧ l.next + 1 = 16 * lotLines l.index) ∧
    (∃ (s : State) (b : Nat) (p : Plan) (l : Lot), Running s ∧ planFor s b (fun p => decide (p.moved < 540) && !p.closed && !decide (p.mode = 2)) = some p ∧ lotOfLine s p p.moved = some l ∧ (lineSpans l p.moved).length = 16 ∧ p.moved < p.due + 32 ∧ s.get F.ERR_INJECT_ARM = 0) ∧
    (∃ (s : State) (b : Nat) (p : Plan) (l : Lot), Running s ∧ planFor s b (fun p => decide (p.moved < 540) && !p.closed && !decide (p.mode = 2)) = some p ∧ lotOfLine s p p.moved = some l ∧ ((lineSpans l p.moved).length ≠ 16 ∨ p.due + 32 ≤ p.moved)) :=
  ⟨⟨lightWith [] [] [(F.PNL_PORT_STATE_STATE 0, 4), (F.SCHED_CTRL_VALID 0 0, 1)], 0, 0, 0, by decide +kernel, by decide +kernel⟩,
    ⟨upWith [], 11, by decide +kernel⟩,
    ⟨lightWith [] [planAt 0] [], 0, ((lotStall (applyBudget (lightWith [] [planAt 0] [])) 0 0).1.getD 99), planAt 0, (lotStall (applyBudget (lightWith [] [planAt 0] [])) 0 0).2, by decide +kernel⟩,
    ⟨lightWith [lotAt 0 0 .released 0] [planAt 0] [], 0, 3, lotAt 0 0 .released 0, by decide +kernel, by decide +kernel⟩,
    ⟨lightWith [{ lotAt 0 0 .lent 1 with home := 0 }] [planAt 0] [], 1, 3, { lotAt 0 0 .lent 1 with home := 0 }, by decide +kernel, by decide +kernel⟩,
    ⟨lightWith [lotAt 0 0 .released 0] [planAt 0] [(F.STL_STATE_STATE 0, 3)], 0, 3, 1, lotAt 0 0 .released 0, by decide +kernel⟩,
    ⟨lightWith [] [planAt 0] [], 0, 3, by decide +kernel⟩,
    ⟨lightWith [lotAt 0 0 .running 0] [planAt 0] [], 0, 3, lotAt 0 0 .running 0, by decide +kernel, by decide +kernel⟩,
    ⟨lightWith [lotAt 0 0 .running 0] [{ planAt 0 with due := 1 }] [], 0, 3, lotAt 0 0 .running 0, by decide +kernel, by decide +kernel⟩,
    ⟨lightWith [{ lotAt 0 67 .running 0 with next := 63 }] [planAt 0] [], 0, 3, { lotAt 0 67 .running 0 with next := 63 }, by decide +kernel⟩,
    ⟨lightWith [{ lotAt 0 0 .running 0 with spans := (List.range 16).map (fun i => (i, [(1, 2, 3)])) }] [planAt 0] [], 0, planAt 0, { lotAt 0 0 .running 0 with spans := (List.range 16).map (fun i => (i, [(1, 2, 3)])) }, by decide +kernel⟩,
    ⟨lightWith [lotAt 0 0 .running 0] [planAt 0] [], 0, planAt 0, lotAt 0 0 .running 0, by decide +kernel⟩⟩

end W11

namespace W12

/-- The plan of band 0 with its first line in the band line buffer. -/
def planLine : Plan := { planAt 0 with moved := 1, started := true, buffer := (List.range 16).map (fun i => (i, List.replicate 720 (100, 200, 300))) }

/-- A plane that covers the first lenslet rows. -/
def planeOf (format : Nat) : Plane := ⟨true, 0, 255, format, 0x100000, 0x200000, 0x10000, 0, 0, 64, 20, 0, 0⟩

/-- A controller with a plane of a format in force at subframe 0. -/
def overlayWith (plans : List Plan) (p : Plane) (prot : Option (Plane × List Nat)) (l : List (Field × Nat)) : State :=
  { lightWith [] plans l with cmp := { Cmp.reset with versions := [⟨0, [p], 0, prot, 0⟩] } }

/-- Clauses 1, 2, 3, 4, 5, 6 of `LinesFallDue`: hypotheses met together. -/
theorem witness_LinesFallDue :
    (∃ (s : State) (b : Nat) (p : Plan) (px : List (Nat × Nat × Nat)), (Running s ∧ b < 12 ∧ planFor s b (fun p => decide (p.due < 540) && !p.closed && !decide (p.mode = 2)) = some p ∧ planNow s p = p ∧ p.due < p.moved ∧ fillLine p p.due = (px, 0)) ∧ (p.due ≠ lotLastLine p.due) ∧ (s.get F.ERR_INJECT_ARM = 0 ∧ s.mem.badDram = [] ∧ s.mem.weakDram = [])) ∧
    (∃ (s : State) (b m : Nat) (p : Plan) (px : List (Nat × Nat × Nat)), Running s ∧ b < 12 ∧ planFor s b (fun p => decide (p.due < 540) && !p.closed && !decide (p.mode = 2)) = some p ∧ planNow s p = p ∧ p.due < p.moved ∧ fillLine p p.due = (px, m) ∧ 0 < m) ∧
    (∃ (s u : State) (plane row : Nat) (pl : Plan) (p : Plane) (luma : List Byte), Running s ∧ plane < 8 ∧ row < 648 ∧ planFor s (row / 54) (fun p => !p.closed && decide (p.due ≤ 10 * (row % 54))) = some pl ∧ (cmpVersionOf s pl.subframe).planes[plane]? = some p ∧ (cmpVersionOf s pl.subframe).subframe = pl.subframe ∧ planeCovers p row = true ∧ p.format < 0x10 ∧ dramFetch s 7 (lumaRange p row).1 (lumaRange p row).2 = (u, some luma)) ∧
    (∃ (s u v : State) (plane row : Nat) (pl : Plan) (p : Plane) (luma chroma : List Byte), Running s ∧ plane < 8 ∧ row < 648 ∧ planFor s (row / 54) (fun p => !p.closed && decide (p.due ≤ 10 * (row % 54))) = some pl ∧ (cmpVersionOf s pl.subframe).planes[plane]? = some p ∧ (cmpVersionOf s pl.subframe).subframe = pl.subframe ∧ planeCovers p row = true ∧ 0x10 ≤ p.format ∧ dramFetch s 7 (lumaRange p row).1 (lumaRange p row).2 = (u, some luma) ∧ dramFetch u 7 (chromaRange p row).1 (chromaRange p row).2 = (v, some chroma)) ∧
    (∃ (s u : State) (plane row : Nat) (pl : Plan) (p : Plane), Running s ∧ plane < 8 ∧ row < 648 ∧ planFor s (row / 54) (fun p => !p.closed && decide (p.due ≤ 10 * (row % 54))) = some pl ∧ (cmpVersionOf s pl.subframe).planes[plane]? = some p ∧ planeCovers p row = true ∧ dramFetch s 7 (lumaRange p row).1 (lumaRange p row).2 = (u, none)) ∧
    (∃ (s : State) (row : Nat) (pl : Plan) (p : Plane) (refs : List Nat), Running s ∧ row < 648 ∧ planFor s (row / 54) (fun p => !p.closed && decide (p.due ≤ 10 * (row % 54))) = some pl ∧ (cmpVersionOf s pl.subframe).prot = some (p, refs) ∧ planeCovers p row = true ∧ dramBehind s (lumaRange p row).1 (lumaRange p row).2 = true ∧ dramBad s (lumaRange p row).1 (lumaRange p row).2 = true) :=
  ⟨⟨lightWith [] [planLine] [], 0, planLine, (fillLine planLine 0).1, by exact ⟨by decide +kernel, by decide +kernel, rfl, rfl, by decide +kernel, Prod.ext rfl (by decide +kernel)⟩, by decide +kernel, by decide +kernel⟩,
    ⟨lightWith [] [{ planLine with buffer := planLine.buffer.drop 3 }] [], 0, 3, { planLine with buffer := planLine.buffer.drop 3 }, (fillLine { planLine with buffer := planLine.buffer.drop 3 } 0).1, by exact ⟨by decide +kernel, by decide +kernel, rfl, rfl, by decide +kernel, Prod.ext rfl (by decide +kernel), by decide +kernel⟩⟩,
    ⟨overlayWith [planAt 0] (planeOf 1) none [], (dramFetch (overlayWith [planAt 0] (planeOf 1) none []) 7 (lumaRange (planeOf 1) 1).1 (lumaRange (planeOf 1) 1).2).1, 0, 1, planAt 0, planeOf 1, ((dramFetch (overlayWith [planAt 0] (planeOf 1) none []) 7 (lumaRange (planeOf 1) 1).1 (lumaRange (planeOf 1) 1).2).2.getD []), by decide +kernel⟩,
    ⟨overlayWith [planAt 0] (planeOf 0x10) none [], (dramFetch (overlayWith [planAt 0] (planeOf 0x10) none []) 7 (lumaRange (planeOf 0x10) 1).1 (lumaRange (planeOf 0x10) 1).2).1, (dramFetch (dramFetch (overlayWith [planAt 0] (planeOf 0x10) none []) 7 (lumaRange (planeOf 0x10) 1).1 (lumaRange (planeOf 0x10) 1).2).1 7 (chromaRange (planeOf 0x10) 1).1 (chromaRange (planeOf 0x10) 1).2).1, 0, 1, planAt 0, planeOf 0x10, ((dramFetch (overlayWith [planAt 0] (planeOf 0x10) none []) 7 (lumaRange (planeOf 0x10) 1).1 (lumaRange (planeOf 0x10) 1).2).2.getD []), ((dramFetch (overlayWith [planAt 0] (planeOf 0x10) none []) 7 (chromaRange (planeOf 0x10) 1).1 (chromaRange (planeOf 0x10) 1).2).2.getD []), by decide +kernel⟩,
    ⟨overlayWith [planAt 0] (planeOf 1) none [(F.DMC_ISET_EN 0, 0)], (dramFetch (overlayWith [planAt 0] (planeOf 1) none [(F.DMC_ISET_EN 0, 0)]) 7 (lumaRange (planeOf 1) 1).1 (lumaRange (planeOf 1) 1).2).1, 0, 1, planAt 0, planeOf 1, by decide +kernel⟩,
    ⟨(fun s => { s with mem := { s.mem with badDram := (List.range 100).map (fun i => (lumaRange (planeOf 1) 1).1 / 8 * 8 + 8 * i) } }) (overlayWith [planAt 0] (planeOf 0) (some (planeOf 1, [])) []), 1, planAt 0, planeOf 1, [], by decide +kernel⟩⟩

/-- Clauses 1, 2, 3, 4, 5, 6, 7 of `WindowsAndStrobes`: hypotheses met together. -/
theorem witness_WindowsAndStrobes :
    (∃ (s : State) (b : Nat) (p : Plan), (Running s ∧ b < 12 ∧ planFor s b (fun p => !p.started && !p.closed) = some p ∧ (∀ q ∈ s.drum.plans, ¬ (q.band = b ∧ q.mode = 1 ∧ q.closed = true))) ∧ (p.mode ≠ 2)) ∧
    (∃ (s : State) (b : Nat) (p : Plan), (Running s ∧ b < 12 ∧ planFor s b (fun p => !p.started && !p.closed) = some p ∧ (∀ q ∈ s.drum.plans, ¬ (q.band = b ∧ q.mode = 1 ∧ q.closed = true))) ∧ (p.mode = 2)) ∧
    (∃ (s : State) (b : Nat) (p : Plan), (Running s ∧ b < 12 ∧ planFor s b (fun p => p.started && !p.closed && decide (p.sent < 540)) = some p ∧ planNow s p = p ∧ ((∀ l, s.cmp.list = some l → l.waiting = none)) ∧ (p.mode = 2 ∨ p.sent < p.due)) ∧ (p.mode ≠ 2) ∧ (s.get (F.BLT_WATERMARK_EN b) ≠ 0 ∧ s.get (F.BLT_WATERMARK_LINE b) = p.sent)) ∧
    (∃ (s : State) (b : Nat) (p : Plan), (Running s ∧ b < 12 ∧ planFor s b (fun p => p.started && !p.closed && decide (p.sent < 540)) = some p ∧ planNow s p = p ∧ ((∀ l, s.cmp.list = some l → l.waiting = none)) ∧ (p.mode = 2 ∨ p.sent < p.due)) ∧ (p.mode = 2)) ∧
    (∃ (s : State) (b : Nat) (p : Plan), Running s ∧ planFor s b (fun p => p.started && !p.closed) = some p ∧ p.mode ≠ 2 ∧ s.pnl.step ≠ 21) ∧
    (∃ (s : State) (b n : Nat) (p : Plan), Running s ∧ planFor s b (fun p => p.started && !p.closed) = some p ∧ p.mode = 2 ∧ s.pnl.step ≠ 21 ∧ mapVal s.pnl.windows b = n + 2) ∧
    (∃ (s : State) (b : Nat) (p : Plan), Running s ∧ planFor s b (fun p => p.closed && decide (p.strobe = 0)) = some p ∧ p.mode = 0 ∧ ((s.get F.DRU_PLAN_TOL_COUNTS * 128 : Nat) : Int) < planDeparture s p) ∧
    (∃ (s : State) (b : Nat) (p : Plan), Running s ∧ b < 12 ∧ planFor s b (fun p => p.closed && decide (p.strobe = 0)) = some p ∧ (p.mode ≠ 0 ∨ planDeparture s p ≤ ((s.get F.DRU_PLAN_TOL_COUNTS * 128 : Nat) : Int)) ∧ s.get F.GLB_START_STAGE ≠ 4) ∧
    (∃ (s : State) (b : Nat) (p : Plan), Running s ∧ planFor s b (fun p => decide (p.strobe = 1)) = some p) :=
  ⟨⟨lightWith [] [planAt 11] [], 11, planAt 11, by decide +kernel, by decide +kernel⟩,
    ⟨lightWith [] [{ planAt 11 with mode := 2 }] [], 11, { planAt 11 with mode := 2 }, by decide +kernel, by decide +kernel⟩,
    ⟨lightWith [] [{ planAt 0 with started := true, due := 1, ready := [(0, [(5, 6)])] }] [(F.BLT_WATERMARK_EN 0, 1)], 0, { planAt 0 with started := true, due := 1, ready := [(0, [(5, 6)])] }, by decide +kernel, by decide +kernel, by decide +kernel⟩,
    ⟨lightWith [] [{ planAt 0 with started := true, mode := 2 }] [], 0, { planAt 0 with started := true, mode := 2 }, by decide +kernel, by decide +kernel⟩,
    ⟨lightWith [lotAt 0 0 .running 0] [{ planAt 0 with started := true }] [], 0, { planAt 0 with started := true }, by decide +kernel⟩,
    ⟨(fun s => { s with pnl := { Pnl.reset with windows := [(0, 3)] } }) (lightWith [] [{ planAt 0 with started := true, mode := 2 }] []), 0, 1, { planAt 0 with started := true, mode := 2 }, by decide +kernel⟩,
    ⟨lightWith [] [{ planAt 0 with closed := true, xOn := 1000000 }] [], 0, { planAt 0 with closed := true, xOn := 1000000 }, by decide +kernel⟩,
    ⟨lightWith [] [{ planAt 0 with closed := true, mode := 1 }] [], 0, { planAt 0 with closed := true, mode := 1 }, by decide +kernel⟩,
    ⟨lightWith [] [{ planAt 0 with closed := true, strobe := 1 }] [], 0, { planAt 0 with closed := true, strobe := 1 }, by decide +kernel⟩⟩

end W12

namespace W13

/-- A controller whose stalls are active, with lots and the engines of its stalls. -/
def stallsWith (f : StallEng → StallEng) (lots : List Lot) (l : List (Field × Nat)) : State :=
  { upWith l with rsy := { Rsy.reset with lots := lots, stalls := Rsy.reset.stalls.map f } }

/-- Clauses 1, 2, 3, 4, 5 of `EnginesFail`: hypotheses met together. -/
theorem witness_EnginesFail :
    (∃ (s : State) (k e x code : Nat) (xs : List Nat) (why : EngineFault) (lot : Option Lot) (c : Instr), Running s ∧ stallActive s k = true ∧ k < s.rsy.stalls.length ∧ runningLot s k e = lot ∧ inBarnRepair s k lot = false ∧ inStallRepair s k lot = false ∧ inEngineRepair s k e lot = false ∧ e ∈ (stallEng s k).render ∧ (stallEng s k).spares = x :: xs ∧ e ∉ x :: xs ∧ xs.length < 4 ∧ ((c = .engineFailure k e why ∧ code = engineCode why) ∨ (c = .lotTimeout k e ∧ code = 3 ∧ lot ≠ none))) ∧
    (∃ (s : State) (k e x code : Nat) (xs : List Nat) (why : EngineFault) (lot : Option Lot) (c : Instr), (Running s ∧ stallActive s k = true ∧ k < s.rsy.stalls.length ∧ runningLot s k e = lot ∧ inBarnRepair s k lot = false ∧ inStallRepair s k lot = false ∧ inEngineRepair s k e lot = false ∧ e ∈ (stallEng s k).render ∧ (stallEng s k).spares = x :: xs ∧ e ∉ x :: xs ∧ xs.length < 4 ∧ ((c = .engineFailure k e why ∧ code = engineCode why) ∨ (c = .lotTimeout k e ∧ code = 3 ∧ lot ≠ none))) ∧ (xs = [])) ∧
    (∃ (s : State) (k e x code : Nat) (xs : List Nat) (why : EngineFault) (lot : Option Lot) (c : Instr), (Running s ∧ stallActive s k = true ∧ k < s.rsy.stalls.length ∧ runningLot s k e = lot ∧ inBarnRepair s k lot = false ∧ inStallRepair s k lot = false ∧ inEngineRepair s k e lot = false ∧ e ∈ (stallEng s k).render ∧ (stallEng s k).spares = x :: xs ∧ e ∉ x :: xs ∧ xs.length < 4 ∧ ((c = .engineFailure k e why ∧ code = engineCode why) ∨ (c = .lotTimeout k e ∧ code = 3 ∧ lot ≠ none))) ∧ (lot = none)) ∧
    (∃ (s : State) (k e : Nat) (why : EngineFault) (lot : Option Lot), Running s ∧ stallActive s k = true ∧ k < s.rsy.stalls.length ∧ runningLot s k e = lot ∧ inBarnRepair s k lot = false ∧ inStallRepair s k lot = false ∧ inEngineRepair s k e lot = false ∧ e ∈ (stallEng s k).render ∧ (stallEng s k).spares = []) ∧
    (∃ (s : State) (k e : Nat) (why : EngineFault) (lot : Option Lot), Running s ∧ stallActive s k = true ∧ k < s.rsy.stalls.length ∧ runningLot s k e = lot ∧ inBarnRepair s k lot = false ∧ inStallRepair s k lot = false ∧ inEngineRepair s k e lot = false ∧ e ∈ (stallEng s k).render ∧ (stallEng s k).spares = []) ∧
    (∃ (s : State) (k e : Nat) (why : EngineFault), Running s ∧ stallActive s k = true ∧ k < s.rsy.stalls.length ∧ runningLot s k e = none ∧ e ∉ (stallEng s k).render ∧ (stallEng s k).dutyEngine ≠ some e ∧ e ∈ (stallEng s k).spares ∧ (stallEng s k).spares.length ≤ 4) ∧
    (∃ (s : State) (k e x : Nat) (xs : List Nat) (why : EngineFault) (lot : Option Lot), Running s ∧ stallActive s k = true ∧ k < s.rsy.stalls.length ∧ runningLot s k e = lot ∧ inBarnRepair s k lot = false ∧ inStallRepair s k lot = false ∧ inEngineRepair s k e lot = false ∧ e ∉ (stallEng s k).render ∧ (stallEng s k).dutyEngine = some e ∧ (stallEng s k).dutyMoved = false ∧ (stallEng s k).spares = x :: xs ∧ e ∉ x :: xs) ∧
    (∃ (s : State) (k e : Nat) (why : EngineFault) (c : Instr), Running s ∧ ((c = .engineFailure k e why ∧ stallActive s k = false) ∨ (c = .lotTimeout k e ∧ (runningLot s k e = none ∨ stallActive s k = false)))) ∧
    (∃ (s : State) (k e : Nat) (why : EngineFault) (c : Instr), Running s ∧ ((c = .engineFailure k e why ∧ stallActive s k = false) ∨ (c = .lotTimeout k e ∧ (runningLot s k e = none ∨ stallActive s k = false)))) :=
  ⟨⟨stallsWith (fun e => e) [lotAt 8 0 .running 8] [(F.STL_STATE_ENGINES 8, 0x3FFF), (F.STL_STATE_SPARES 8, 2)], 8, 3, 14, engineCode .residue, [15], .residue, some (lotAt 8 0 .running 8), .engineFailure 8 3 .residue, by decide +kernel⟩,
    ⟨stallsWith (fun e => e) [lotAt 0 0 .running 0] [], 0, 3, 14, 3, [], .storage, some (lotAt 0 0 .running 0), .lotTimeout 0 3, by decide +kernel, by decide +kernel⟩,
    ⟨stallsWith (fun e => e) [] [], 0, 13, 14, engineCode .storage, [], .storage, none, .engineFailure 0 13 .storage, by decide +kernel, by decide +kernel⟩,
    ⟨stallsWith (fun e => { e with spares := [] }) [lotAt 0 0 .running 0] [], 0, 3, .storage, some (lotAt 0 0 .running 0), by decide +kernel⟩,
    ⟨stallsWith (fun e => { e with spares := [] }) [] [], 11, 3, .storage, none, by decide +kernel⟩,
    ⟨stallsWith (fun e => e) [] [], 11, 15, .sequencer, by decide +kernel⟩,
    ⟨stallsWith (fun e => e) [] [], 7, 15, 14, [], .storage, none, by decide +kernel⟩,
    ⟨stallsWith (fun e => e) [] [], 7, 3, .storage, .lotTimeout 7 3, by decide +kernel⟩,
    ⟨stallsWith (fun e => e) [] [(F.STL_STATE_STATE 7, 1)], 7, 3, .storage, .engineFailure 7 3 .storage, by decide +kernel⟩⟩

end W13

namespace W14

/-- A controller with its drum in a state. -/
def drumWith (d : Drum) (l : List (Field × Nat)) : State := { upWith l with drum := d }

/-- Clauses 1, 2, 3, 4, 5, 6 of `TheEncoderMovesThePredictor`: hypotheses met together. -/
theorem witness_TheEncoderMovesThePredictor :
    (∃ (s : State) (quad delta : Nat) (cnt : Int) (d : Drum), Running s ∧ quad < 4 ∧ delta = (quad + 4 - s.drum.quad % 4) % 4 ∧ delta ≠ 0 ∧ edgeValid s delta = true ∧ cnt = (if s.drum.coasting then resumeCount { s.drum with quad := quad } quad (s.now : Nat) else if delta = 1 then s.drum.cnt + 1 else s.drum.cnt - 1) ∧ d = pushEdge { s.drum with quad := quad, hist := if s.drum.coasting then [] else s.drum.hist } (windowEdges s) cnt (s.now : Nat) ∧ d.cnt < d.lastIndex + 10240 * ((d.missed : Int) + 1)) ∧
    (∃ (s : State) (quad delta : Nat), Running s ∧ quad < 4 ∧ delta = (quad + 4 - s.drum.quad % 4) % 4 ∧ delta ≠ 0 ∧ edgeValid s delta = false ∧ s.drum.glitches + 1 ≤ s.get F.DRU_LIMITS_GLITCH_LIMIT) ∧
    (∃ (s : State) (quad : Nat), Running s ∧ quad < 4 ∧ quad = s.drum.quad % 4) ∧
    (∃ (s : State) (code : Nat) (e : Int), Running s ∧ code < 2 ^ 16 ∧ s.role = 0 ∧ e = indexError s.drum ∧ iabs e ≤ (s.get F.DRU_LIMITS_INDEX_TOL : Int)) ∧
    (∃ (s : State) (code : Nat), Running s ∧ s.role = 0 ∧ (s.get F.DRU_LIMITS_INDEX_TOL : Int) < iabs (indexError s.drum) ∧ 1 ≤ s.get F.DRU_LIMITS_GLITCH_LIMIT) ∧
    (∃ (s a : State) (code : Nat), Running s ∧ a = showDrum (takeIndex s) ∧ a.role ≠ 0 ∧ a.get F.DRU_LOCK_PERIOD_T_REV ≠ 0 ∧ lockEnabled a = true ∧ a.get F.DRU_STATE_STATE = 2 ∧ a.get F.TIM_SERVO_STATE ≠ 3 ∧ a.get F.DRU_STATE_LOCK = 1) ∧
    (∃ (s a : State) (code : Nat), (Running s ∧ a = showDrum (takeIndex s) ∧ a.role ≠ 0 ∧ a.get F.DRU_LOCK_PERIOD_T_REV ≠ 0 ∧ lockEnabled a = true ∧ a.get F.DRU_STATE_STATE = 2 ∧ a.get F.TIM_SERVO_STATE ≠ 3 ∧ a.get F.DRU_STATE_LOCK = 1) ∧ (iabs (phaseError a) ≤ ((a.get F.DRU_LOCK_CTRL_WINDOW * 128 : Nat) : Int) ∧ 59 ≤ a.drum.lockRevs)) ∧
    (∃ (s a : State) (code : Nat), (Running s ∧ a = showDrum (takeIndex s) ∧ a.role ≠ 0 ∧ a.get F.DRU_LOCK_PERIOD_T_REV ≠ 0 ∧ lockEnabled a = true ∧ a.get F.DRU_STATE_STATE = 2 ∧ a.get F.TIM_SERVO_STATE ≠ 3 ∧ a.get F.DRU_STATE_LOCK = 1) ∧ (¬ iabs (phaseError a) ≤ ((a.get F.DRU_LOCK_CTRL_WINDOW * 128 : Nat) : Int))) :=
  ⟨⟨drumWith { Drum.reset with indexSeen := true } [], 1, 1, 1, pushEdge { (drumWith { Drum.reset with indexSeen := true } []).drum with quad := 1, hist := if (drumWith { Drum.reset with indexSeen := true } []).drum.coasting then [] else (drumWith { Drum.reset with indexSeen := true } []).drum.hist } (windowEdges (drumWith { Drum.reset with indexSeen := true } [])) 1 ((drumWith { Drum.reset with indexSeen := true } []).now : Nat), by decide +kernel⟩,
    ⟨drumWith { Drum.reset with indexSeen := true } [(F.DRU_LIMITS_GLITCH_LIMIT, 8)], 2, 2, by decide +kernel⟩,
    ⟨drumWith { Drum.reset with indexSeen := true } [], 0, by decide +kernel⟩,
    ⟨drumWith { Drum.reset with cnt := 8193 } [(F.DRU_LIMITS_INDEX_TOL, 2), (F.DRU_STATE_STATE, 2)], 65535, 1, by decide +kernel⟩,
    ⟨drumWith { Drum.reset with cnt := 8000, indexSeen := true } [(F.DRU_LIMITS_INDEX_TOL, 2), (F.DRU_LIMITS_GLITCH_LIMIT, 8)], 7, by decide +kernel⟩,
    ⟨drumWith Drum.reset [(F.XSH_ROLE_ROLE, 1), (F.DRU_LOCK_PERIOD_T_REV, 1000), (F.DRU_LOCK_CTRL_EN, 1), (F.DRU_STATE_STATE, 2), (F.DRU_STATE_LOCK, 1)], showDrum (takeIndex (drumWith Drum.reset [(F.XSH_ROLE_ROLE, 1), (F.DRU_LOCK_PERIOD_T_REV, 1000), (F.DRU_LOCK_CTRL_EN, 1), (F.DRU_STATE_STATE, 2), (F.DRU_STATE_LOCK, 1)])), 7, by decide +kernel⟩,
    ⟨drumWith { Drum.reset with lockRevs := 59 } [(F.XSH_ROLE_ROLE, 1), (F.DRU_LOCK_PERIOD_T_REV, 1000), (F.DRU_LOCK_CTRL_EN, 1), (F.DRU_LOCK_CTRL_WINDOW, 4095), (F.DRU_STATE_STATE, 2), (F.DRU_STATE_LOCK, 1)], showDrum (takeIndex (drumWith { Drum.reset with lockRevs := 59 } [(F.XSH_ROLE_ROLE, 1), (F.DRU_LOCK_PERIOD_T_REV, 1000), (F.DRU_LOCK_CTRL_EN, 1), (F.DRU_LOCK_CTRL_WINDOW, 4095), (F.DRU_STATE_STATE, 2), (F.DRU_STATE_LOCK, 1)])), 7, by decide +kernel, by decide +kernel⟩,
    ⟨drumWith Drum.reset [(F.XSH_ROLE_ROLE, 1), (F.DRU_LOCK_PERIOD_T_REV, 1000), (F.DRU_LOCK_CTRL_EN, 1), (F.DRU_STATE_STATE, 2), (F.DRU_STATE_LOCK, 1), (F.DRU_EDGE_ANGLE_E, 5000)], showDrum (takeIndex (drumWith Drum.reset [(F.XSH_ROLE_ROLE, 1), (F.DRU_LOCK_PERIOD_T_REV, 1000), (F.DRU_LOCK_CTRL_EN, 1), (F.DRU_STATE_STATE, 2), (F.DRU_STATE_LOCK, 1), (F.DRU_EDGE_ANGLE_E, 5000)])), 7, by decide +kernel, by decide +kernel⟩⟩

/-- Clauses 1, 2, 3, 4, 5 of `TheDrumIsLost`: hypotheses met together. -/
theorem witness_TheDrumIsLost :
    (∃ (s : State) (v : Nat) (c : Instr), Running s ∧ 1 ≤ s.get F.DRU_STATE_STATE ∧ s.get F.DRU_STATE_STATE ≤ 4 ∧ ((c = .coastTimeout ∧ v = 5 ∧ s.drum.coasting = true) ∨ (c = .spinupValidTimeout ∧ v = 5 ∧ s.get F.DRU_STATE_STATE = 1 ∧ predValid s = false) ∨
      (c = .speedDeviationTimeout ∧ v = 6 ∧ s.get F.DRU_STATE_STATE = 2) ∨ (c = .drumFaultInput true ∧ v = 6))) ∧
    (∃ (s : State) (v : Nat) (c : Instr), Running s ∧ 1 ≤ s.get F.DRU_STATE_STATE ∧ s.get F.DRU_STATE_STATE ≤ 4 ∧ ((c = .coastTimeout ∧ v = 5 ∧ s.drum.coasting = true) ∨ (c = .spinupValidTimeout ∧ v = 5 ∧ s.get F.DRU_STATE_STATE = 1 ∧ predValid s = false) ∨
      (c = .speedDeviationTimeout ∧ v = 6 ∧ s.get F.DRU_STATE_STATE = 2) ∨ (c = .drumFaultInput true ∧ v = 6))) ∧
    (∃ (s : State) (v : Nat) (c : Instr), Running s ∧ 1 ≤ s.get F.DRU_STATE_STATE ∧ s.get F.DRU_STATE_STATE ≤ 4 ∧ ((c = .coastTimeout ∧ v = 5 ∧ s.drum.coasting = true) ∨ (c = .spinupValidTimeout ∧ v = 5 ∧ s.get F.DRU_STATE_STATE = 1 ∧ predValid s = false) ∨
      (c = .speedDeviationTimeout ∧ v = 6 ∧ s.get F.DRU_STATE_STATE = 2) ∨ (c = .drumFaultInput true ∧ v = 6))) ∧
    (∃ (s : State) (v : Nat) (c : Instr), Running s ∧ 1 ≤ s.get F.DRU_STATE_STATE ∧ s.get F.DRU_STATE_STATE ≤ 4 ∧ ((c = .coastTimeout ∧ v = 5 ∧ s.drum.coasting = true) ∨ (c = .spinupValidTimeout ∧ v = 5 ∧ s.get F.DRU_STATE_STATE = 1 ∧ predValid s = false) ∨
      (c = .speedDeviationTimeout ∧ v = 6 ∧ s.get F.DRU_STATE_STATE = 2) ∨ (c = .drumFaultInput true ∧ v = 6))) ∧
    (∃ (s : State), Running s ∧ s.get F.DRU_STATE_STATE = 0) ∧
    (∃ (s : State) (c : Instr), Running s ∧ ((c = .coastTimeout ∧ s.drum.coasting = false) ∨ (c = .spinupValidTimeout ∧ (s.get F.DRU_STATE_STATE ≠ 1 ∨ predValid s = true)) ∨
      (c = .speedDeviationTimeout ∧ s.get F.DRU_STATE_STATE ≠ 2) ∨
      (c = .stopWaitExpiry ∧ (s.get F.DRU_STATE_STATE < 5 ∨ s.get F.DRU_STATE_PARKED_OUT = 1 ∨ s.pnl.step ≠ 0)))) ∧
    (∃ (s : State) (c : Instr), Running s ∧ ((c = .coastTimeout ∧ s.drum.coasting = false) ∨ (c = .spinupValidTimeout ∧ (s.get F.DRU_STATE_STATE ≠ 1 ∨ predValid s = true)) ∨
      (c = .speedDeviationTimeout ∧ s.get F.DRU_STATE_STATE ≠ 2) ∨
      (c = .stopWaitExpiry ∧ (s.get F.DRU_STATE_STATE < 5 ∨ s.get F.DRU_STATE_PARKED_OUT = 1 ∨ s.pnl.step ≠ 0)))) ∧
    (∃ (s : State), Running s) ∧
    (∃ (s : State), Running s ∧ 5 ≤ s.get F.DRU_STATE_STATE ∧ s.get F.DRU_STATE_PARKED_OUT = 0 ∧ s.pnl.step = 0) :=
  ⟨⟨drumWith { Drum.reset with coasting := true, plans := [planAt 0], bands := [(0, 0)] } [(F.DRU_STATE_STATE, 2)], 5, .coastTimeout, by decide +kernel⟩,
    ⟨drumWith { Drum.reset with plans := [planAt 0], bands := [(0, 0)] } [(F.DRU_STATE_STATE, 1)], 5, .spinupValidTimeout, by decide +kernel⟩,
    ⟨drumWith { Drum.reset with plans := [planAt 0], bands := [(0, 0)] } [(F.DRU_STATE_STATE, 2), (F.DRU_STATE_LF_OUT, 1)], 6, .speedDeviationTimeout, by decide +kernel⟩,
    ⟨drumWith { Drum.reset with plans := [planAt 0], bands := [(0, 0)] } [(F.DRU_STATE_STATE, 4)], 6, .drumFaultInput true, by decide +kernel⟩,
    ⟨drumWith Drum.reset [], by decide +kernel⟩,
    ⟨drumWith Drum.reset [], .coastTimeout, by decide +kernel⟩,
    ⟨drumWith Drum.reset [], .stopWaitExpiry, by decide +kernel⟩,
    ⟨drumWith { Drum.reset with faultPin := true } [], by decide +kernel⟩,
    ⟨drumWith Drum.reset [(F.DRU_STATE_STATE, 6), (F.DRU_STATE_LF_OUT, 1)], by decide +kernel⟩⟩

/-- Clauses 1, 2, 3, 4, 5, 6, 7, 8, 9 of `SpeedsParkingAndSchedules`: hypotheses met together. -/
theorem witness_SpeedsParkingAndSchedules :
    (∃ (s : State), Running s) ∧
    (∃ (s : State), (Running s ∧ s.get F.DRU_STATE_STATE = 1) ∧ (lockEnabled s = false)) ∧
    (∃ (s : State), (Running s ∧ s.get F.DRU_STATE_STATE = 1) ∧ (lockEnabled s = true)) ∧
    (∃ (s : State), Running s ∧ s.get F.DRU_STATE_STATE = 3) ∧
    (∃ (s : State) (c : Instr), Running s ∧ ((c = .drumSpeedThreshold .target ∧ s.get F.DRU_STATE_STATE ≠ 1) ∨ (c = .drumSpeedThreshold .creep ∧ s.get F.DRU_STATE_STATE ≠ 3) ∨
      ((c = .parkBrakePoint ∨ c = .parkPositionCheck) ∧ s.get F.DRU_STATE_STATE ≠ 4))) ∧
    (∃ (s : State), Running s ∧ s.get F.DRU_STATE_STATE = 4) ∧
    (∃ (s : State), Running s ∧ s.get F.DRU_STATE_STATE = 4 ∧ s.get F.DRU_BRAKE_BRAKE = 1 ∧ (iabs (parkError s) ≤ 256 ∨ 3 ≤ s.drum.parkTries)) ∧
    (∃ (s : State), Running s ∧ s.get F.DRU_STATE_STATE = 4 ∧ s.get F.DRU_BRAKE_BRAKE = 1 ∧ (iabs (parkError s) ≤ 256 ∨ 3 ≤ s.drum.parkTries)) ∧
    (∃ (s : State), Running s ∧ s.get F.DRU_STATE_STATE = 4 ∧ s.get F.DRU_BRAKE_BRAKE = 1 ∧ ¬ iabs (parkError s) ≤ 256 ∧ s.drum.parkTries < 3) ∧
    (∃ (s : State) (m : Master) (data : Nat), Running s ∧ MayWrite s m 0x081 ∧ data < 2 ^ 32) ∧
    (∃ (s : State) (n e bank L lead : Nat), Running s ∧ s.isMember = false ∧ s.get F.GLB_START_STAGE = 5 ∧ s.get F.DRU_STATE_STATE = 2 ∧ s.get F.DRU_REQ_MODE = 1 ∧ s.get F.DRU_REQ_EFF_MODE = 1 ∧ s.get F.DRU_REQ_EFF_RPM ≠ s.get F.DRU_REQ_RPM ∧ n = s.get F.DRU_STATE_FACETS ∧ 2 ≤ n ∧ n ≤ 8 ∧ e = s.get F.DRU_EDGE_ANGLE_E ∧ bank = 1 - s.get F.DRU_SCHED_SELECT_ACTIVE ∧ s.pageOwner (0x082 + bank) = 0 ∧ lead = s.get F.DRU_TIMING_RELEASE_LEAD ∧ L = Nat.max ((lead * s.get F.DRU_REQ_RPM * 2 ^ 20 + 59999999) / 60000000) ((lead * s.drum.omegaE.toNat + (2 ^ 24 - 1)) / 2 ^ 24)) :=
  ⟨⟨drumWith Drum.reset [(F.DRU_STATE_STATE, 1)], by decide +kernel⟩,
    ⟨drumWith Drum.reset [(F.DRU_STATE_STATE, 1)], by decide +kernel, by decide +kernel⟩,
    ⟨drumWith Drum.reset [(F.DRU_STATE_STATE, 1), (F.XSH_ROLE_ROLE, 1), (F.DRU_LOCK_CTRL_EN, 1)], by decide +kernel, by decide +kernel⟩,
    ⟨drumWith Drum.reset [(F.DRU_STATE_STATE, 3)], by decide +kernel⟩,
    ⟨drumWith Drum.reset [(F.DRU_STATE_STATE, 3)], .parkBrakePoint, by decide +kernel⟩,
    ⟨drumWith Drum.reset [(F.DRU_STATE_STATE, 4), (F.DRU_SPEED_CODE_CODE, 9)], by decide +kernel⟩,
    ⟨drumWith { Drum.reset with parkTries := 3, cnt := 1000 } [(F.DRU_STATE_STATE, 4), (F.DRU_BRAKE_BRAKE, 1)], by decide +kernel⟩,
    ⟨drumWith Drum.reset [(F.DRU_STATE_STATE, 4), (F.DRU_BRAKE_BRAKE, 1)], by decide +kernel⟩,
    ⟨drumWith { Drum.reset with cnt := 1000 } [(F.DRU_STATE_STATE, 4), (F.DRU_BRAKE_BRAKE, 1)], by decide +kernel⟩,
    ⟨upWith [], .mp 0, 1, by decide +kernel⟩,
    ⟨drumWith { Drum.reset with omegaE := 2 ^ 24 * 60 } [(F.GLB_START_STAGE, 5), (F.DRU_STATE_STATE, 2), (F.DRU_REQ_MODE, 1), (F.DRU_REQ_EFF_MODE, 1), (F.DRU_REQ_RPM, 3600), (F.DRU_REQ_EFF_RPM, 3000), (F.DRU_STATE_FACETS, 6), (F.DRU_EDGE_ANGLE_E, 262144)], 6, 262144, 1, 18875, 300, by decide +kernel⟩⟩

end W14

namespace W15

/-- Clauses 1, 2, 3, 4, 5 of `BoundariesAndTicks`: hypotheses met together. -/
theorem witness_BoundariesAndTicks :
    (∃ (s : State), (Running s ∧ s.get F.DRU_STATE_PARKED_OUT = 0) ∧ (s.get F.DRU_SCHED_SELECT_PENDING = 1) ∧ (s.drum.lightNext = some false) ∧ (s.get F.CAL_APPLY_PENDING = 0)) ∧
    (∃ (s : State), (Running s ∧ s.get F.DRU_STATE_PARKED_OUT = 0) ∧ (s.rsy.loaded = none) ∧ (s.get F.DRU_SCHED_SELECT_PENDING = 0) ∧ (s.drum.lightNext = some true ∧ predValid s = true)) ∧
    (∃ (s : State), (Running s ∧ s.get F.DRU_STATE_PARKED_OUT = 0) ∧ (s.drum.lightNext = none)) ∧
    (∃ (s : State), Running s ∧ s.get F.DRU_STATE_PARKED_OUT = 0 ∧ (∀ m ∈ s.scene.commits, m.taken = false) ∧ (∀ x ∈ s.scene.selections, x.taken = false) ∧ s.cmp.taken = [] ∧ s.cmp.told = [] ∧ s.cal.pass = none ∧ s.get F.CAL_STATE_STATE ≠ 1 ∧ s.cal.target.1 = s.get F.DRU_REQ_EFF_RPM ∧ s.get F.CAL_APPLY_PENDING = 0 ∧ s.rsy.lens.build = none) ∧
    (∃ (s : State), (Running s ∧ s.get F.DRU_STATE_PARKED_OUT = 1 ∧ s.pnl.step = 0 ∧ tickStatic s = false) ∧ (s.get F.DRU_SCHED_SELECT_PENDING = 1)) ∧
    (∃ (s : State), Running s ∧ s.get F.DRU_STATE_PARKED_OUT = 1 ∧ s.pnl.step = 0 ∧ tickStatic s = true ∧ s.get F.PNL_LR_CTRL_EN = 1 ∧ s.pnl.staticSince = some s.now ∧ 1 ≤ s.get F.PNL_LR_CTRL_DWELL_MS ∧ s.pnl.skipped + 1 < s.get F.PNL_LR_STATE_DIVISOR ∧ s.get F.PNL_LR_STATE_HZ = 60 / s.get F.PNL_LR_STATE_DIVISOR) ∧
    (∃ (s : State), Running s ∧ (s.get F.DRU_STATE_PARKED_OUT = 0 ∨ s.pnl.step ≠ 0)) :=
  ⟨⟨{ upWith [(F.DRU_SCHED_SELECT_PENDING, 1), (F.DRU_STATE_LF_OUT, 1)] with drum := { Drum.reset with lightNext := some false, bands := [(0, 0)] }, rsy := { Rsy.reset with loaded := some ⟨0, 0x0301, 0, []⟩ } }, by decide +kernel, by decide +kernel, by decide +kernel, by decide +kernel⟩,
    ⟨{ upWith [] with drum := { Drum.reset with lightNext := some true, warm := 1000, indexSeen := true }, cmp := { Cmp.reset with protTaken := some none } }, by decide +kernel, by decide +kernel, by decide +kernel, by decide +kernel⟩,
    ⟨upWith [], by decide +kernel, by decide +kernel⟩,
    ⟨upWith [(F.DRU_STATE_LF_OUT, 1), (F.CAL_STATE_STATE, 0), (F.DRU_REQ_EFF_RPM, 0)], by decide +kernel⟩,
    ⟨{ upWith [(F.DRU_STATE_PARKED_OUT, 1), (F.DRU_SCHED_SELECT_PENDING, 1), (F.PNL_PORT_STATE_STATE 3, 4)] with pnl := { Pnl.reset with changed := true } }, by decide +kernel, by decide +kernel⟩,
    ⟨{ upWith [(F.DRU_STATE_PARKED_OUT, 1), (F.PNL_LR_CTRL_EN, 1), (F.PNL_LR_CTRL_DWELL_MS, 1), (F.PNL_LR_STATE_DIVISOR, 4), (F.PNL_LR_STATE_HZ, 15), (F.DRU_STATE_STATE, 0)] with pnl := { Pnl.reset with staticSince := some 0 } }, by decide +kernel⟩,
    ⟨upWith [], by decide +kernel⟩⟩

end W15

namespace W16

/-- Clauses 1, 2, 3, 4, 5, 6, 7, 8 of `CameraPacketsBuildFrames`: hypotheses met together. -/
theorem witness_CameraPacketsBuildFrames_a :
    (∃ (s : State) (p k number : Nat) (h : CsiHead) (w : Nat × Nat × ExpSet) (rest : List (Nat × Nat × ExpSet)), Running s ∧ p < 8 ∧ s.cams.ports.length = 8 ∧ listens s p = true ∧ h.ecc = 0 ∧ h.vc = s.get (F.CAM_CFG_VC p) ∧ s.get (F.CAM_CFG_TRIGGERED p) = 1 ∧ openFrame (s.cam p) = none ∧ (s.cam p).waiting = w :: rest ∧ dedicatedAway s p = false ∧ claimSlot s p = some k ∧ s.get (F.CAM_TAP_MODE p) = 0 ∧ s.get F.ERR_INJECT_ARM = 0) ∧
    (∃ (s : State) (p k number : Nat) (h : CsiHead), Running s ∧ p < 8 ∧ s.cams.ports.length = 8 ∧ listens s p = true ∧ h.ecc = 0 ∧ h.vc = s.get (F.CAM_CFG_VC p) ∧ s.get (F.CAM_CFG_TRIGGERED p) = 0 ∧ openFrame (s.cam p) = none ∧ (s.cam p).posted = none ∧ (s.cam p).latched = [] ∧ dedicatedAway s p = false ∧ claimSlot s p = some k ∧ s.get (F.CAM_TAP_MODE p) = 0 ∧ s.get F.ERR_INJECT_ARM = 0) ∧
    (∃ (s : State) (p n number : Nat) (h : CsiHead), Running s ∧ p < 8 ∧ s.cams.ports.length = 8 ∧ listens s p = true ∧ h.ecc = 0 ∧ h.vc = s.get (F.CAM_CFG_VC p) ∧ s.get (F.CAM_CFG_TRIGGERED p) = 1 ∧ openFrame (s.cam p) = none ∧ (((n = 6 ∧ (s.cam p).waiting = []) ∨ (n = 11 ∧ (s.cam p).waiting ≠ [] ∧ dedicatedAway s p = true) ∨
      (n = 10 ∧ (s.cam p).waiting ≠ [] ∧ dedicatedAway s p = false ∧ claimSlot s p = none)))) ∧
    (∃ (s : State) (p n number : Nat) (h : CsiHead), (Running s ∧ p < 8 ∧ s.cams.ports.length = 8 ∧ listens s p = true ∧ h.ecc = 0 ∧ h.vc = s.get (F.CAM_CFG_VC p) ∧ s.get (F.CAM_CFG_TRIGGERED p) = 1 ∧ openFrame (s.cam p) = none ∧ (((n = 6 ∧ (s.cam p).waiting = []) ∨ (n = 11 ∧ (s.cam p).waiting ≠ [] ∧ dedicatedAway s p = true) ∨
      (n = 10 ∧ (s.cam p).waiting ≠ [] ∧ dedicatedAway s p = false ∧ claimSlot s p = none)))) ∧ (n = 10)) ∧
    (∃ (s : State) (p n number : Nat) (h : CsiHead), Running s ∧ p < 8 ∧ s.cams.ports.length = 8 ∧ listens s p = true ∧ h.ecc = 0 ∧ h.vc = s.get (F.CAM_CFG_VC p) ∧ s.get (F.CAM_CFG_TRIGGERED p) = 1 ∧ openFrame (s.cam p) = none ∧ (((n = 6 ∧ (s.cam p).waiting = []) ∨ (n = 11 ∧ (s.cam p).waiting ≠ [] ∧ dedicatedAway s p = true) ∨
      (n = 10 ∧ (s.cam p).waiting ≠ [] ∧ dedicatedAway s p = false ∧ claimSlot s p = none)))) ∧
    (∃ (s : State) (p : Nat) (h : CsiHead) (f : CamFrame), (Running s ∧ p < 8 ∧ s.cams.ports.length = 8 ∧ listens s p = true ∧ h.ecc = 0 ∧ h.vc = s.get (F.CAM_CFG_VC p) ∧ (s.cam p).skip = false ∧ openFrame (s.cam p) = some f ∧ f.done < f.lines.length ∧ hasBit f.flags 0 = false ∧ hasBit f.flags 2 = false ∧ (s.cam p).frames.find? (fun g => decide (g.number = f.number)) = some f) ∧ (f.arrived < f.height)) ∧
    (∃ (s : State) (p : Nat) (h : CsiHead) (f : CamFrame), (Running s ∧ p < 8 ∧ s.cams.ports.length = 8 ∧ listens s p = true ∧ h.ecc = 0 ∧ h.vc = s.get (F.CAM_CFG_VC p) ∧ (s.cam p).skip = false ∧ openFrame (s.cam p) = some f ∧ f.done < f.lines.length ∧ hasBit f.flags 0 = false ∧ hasBit f.flags 2 = false ∧ (s.cam p).frames.find? (fun g => decide (g.number = f.number)) = some f) ∧ (f.height ≤ f.arrived)) ∧
    (∃ (s : State) (p dt : Nat) (h : CsiHead) (crcOk good : Bool) (samples : List Nat) (f : CamFrame), (Running s ∧ p < 8 ∧ s.cams.ports.length = 8 ∧ listens s p = true ∧ h.ecc = 0 ∧ h.vc = s.get (F.CAM_CFG_VC p) ∧ (s.cam p).skip = false ∧ openFrame (s.cam p) = some f ∧ dt = 0x2A + s.get (F.CAM_CFG_FORMAT p) ∧ hasBit f.flags 0 = false ∧ hasBit f.flags 1 = false ∧ f.lines.length < f.height ∧ linesHeld (s.cam p) < 256 ∧ good = (crcOk && decide (samples.length = f.width))) ∧ (good = true)) ∧
    (∃ (s : State) (p dt : Nat) (h : CsiHead) (crcOk good : Bool) (samples : List Nat) (f : CamFrame), (Running s ∧ p < 8 ∧ s.cams.ports.length = 8 ∧ listens s p = true ∧ h.ecc = 0 ∧ h.vc = s.get (F.CAM_CFG_VC p) ∧ (s.cam p).skip = false ∧ openFrame (s.cam p) = some f ∧ dt = 0x2A + s.get (F.CAM_CFG_FORMAT p) ∧ hasBit f.flags 0 = false ∧ hasBit f.flags 1 = false ∧ f.lines.length < f.height ∧ linesHeld (s.cam p) < 256 ∧ good = (crcOk && decide (samples.length = f.width))) ∧ (good = false)) ∧
    (∃ (s : State) (p dt : Nat) (h : CsiHead) (crcOk good : Bool) (samples : List Nat) (f : CamFrame), Running s ∧ p < 8 ∧ s.cams.ports.length = 8 ∧ listens s p = true ∧ h.ecc = 0 ∧ h.vc = s.get (F.CAM_CFG_VC p) ∧ (s.cam p).skip = false ∧ openFrame (s.cam p) = some f ∧ dt = 0x2A + s.get (F.CAM_CFG_FORMAT p) ∧ hasBit f.flags 0 = false ∧ hasBit f.flags 1 = false ∧ f.lines.length < f.height ∧ linesHeld (s.cam p) < 256 ∧ good = (crcOk && decide (samples.length = f.width))) ∧
    (∃ (s : State) (p : Nat) (h : CsiHead) (bytes : List Byte) (f : CamFrame), Running s ∧ p < 8 ∧ s.cams.ports.length = 8 ∧ listens s p = true ∧ h.ecc = 0 ∧ h.vc = s.get (F.CAM_CFG_VC p) ∧ (s.cam p).skip = false ∧ openFrame (s.cam p) = some f ∧ s.get F.ERR_INJECT_ARM = 0) ∧
    (∃ (s : State) (p dt value : Nat) (h : CsiHead), (Running s ∧ p < 8 ∧ listens s p = true ∧ h.ecc < 2 ∧ h.vc = s.get (F.CAM_CFG_VC p)) ∧ (h.ecc = 0)) ∧
    (∃ (s : State) (p dt value : Nat) (h : CsiHead), (Running s ∧ p < 8 ∧ listens s p = true ∧ h.ecc < 2 ∧ h.vc = s.get (F.CAM_CFG_VC p)) ∧ (h.ecc = 1)) ∧
    (∃ (s : State) (p dt value : Nat) (h : CsiHead), Running s ∧ p < 8 ∧ listens s p = true ∧ (2 ≤ h.ecc ∨ (h.ecc = 0 ∧ h.vc ≠ s.get (F.CAM_CFG_VC p)))) :=
  ⟨⟨cameraWith 7 { Cam.reset with waiting := [(5, 77, ExpSet.none)] } [], 7, 0, 99, ⟨1, 0⟩, (5, 77, ExpSet.none), [], by decide +kernel⟩,
    ⟨cameraWith 7 { Cam.reset with lastSlot := some 3 } [(F.CAM_CFG_TRIGGERED 7, 0)], 7, 0, 99, ⟨1, 0⟩, by decide +kernel⟩,
    ⟨cameraWith 0 Cam.reset [], 0, 6, 99, ⟨1, 0⟩, by decide +kernel⟩,
    ⟨cameraWith 0 { Cam.reset with waiting := [(5, 77, ExpSet.none)] } [(F.CAM_RING_FULL_SLOT 0, 1)], 0, 10, 99, ⟨1, 0⟩, by decide +kernel, by decide +kernel⟩,
    ⟨cameraWith 7 { Cam.reset with waiting := [(5, 77, ExpSet.none)] } [(F.IPP_STATUS_MODE 1, 2), (F.CAM_CFG_PIPE 7, 1)], 7, 11, 99, ⟨1, 0⟩, by decide +kernel⟩,
    ⟨cameraWith 0 { Cam.reset with frames := [frameAt [([1, 2, 3, 4], false)]] } [], 0, ⟨1, 0⟩, frameAt [([1, 2, 3, 4], false)], by decide +kernel, by decide +kernel⟩,
    ⟨cameraWith 0 { Cam.reset with frames := [frameAt (List.replicate 70 ([1, 2, 3, 4], false))] } [], 0, ⟨1, 0⟩, frameAt (List.replicate 70 ([1, 2, 3, 4], false)), by decide +kernel, by decide +kernel⟩,
    ⟨cameraWith 0 { Cam.reset with frames := [frameAt [([1, 2, 3, 4], false)]] } [(F.CAM_CFG_FORMAT 0, 1)], 0, 0x2B, ⟨1, 0⟩, true, true, [5, 6, 7, 8], frameAt [([1, 2, 3, 4], false)], by decide +kernel, by decide +kernel⟩,
    ⟨cameraWith 0 { Cam.reset with frames := [frameAt [([1, 2, 3, 4], false)]] } [(F.CAM_CFG_FORMAT 0, 1)], 0, 0x2B, ⟨1, 0⟩, false, false, [5, 6, 7, 8], frameAt [([1, 2, 3, 4], false)], by decide +kernel, by decide +kernel⟩,
    ⟨cameraWith 0 { Cam.reset with frames := [frameAt []] } [(F.CAM_CFG_FORMAT 0, 1)], 0, 0x2B, ⟨1, 0⟩, true, false, [5, 6, 7], frameAt [], by decide +kernel⟩,
    ⟨cameraWith 0 { Cam.reset with frames := [{ frameAt [] with embed := List.replicate 766 1 }] } [], 0, ⟨1, 0⟩, [1, 2, 3, 4], { frameAt [] with embed := List.replicate 766 1 }, by decide +kernel⟩,
    ⟨cameraWith 7 Cam.reset [], 7, 0x0F, 65535, ⟨1, 0⟩, by decide +kernel, by decide +kernel⟩,
    ⟨cameraWith 7 Cam.reset [], 7, 0x0F, 65535, ⟨1, 1⟩, by decide +kernel, by decide +kernel⟩,
    ⟨cameraWith 7 Cam.reset [], 7, 0x0F, 65535, ⟨1, 2⟩, by decide +kernel⟩⟩

/-- Clauses 8, 9, 10 of `CameraPacketsBuildFrames`: hypotheses met together. -/
theorem witness_CameraPacketsBuildFrames_b :
    (∃ (s : State) (p dt value : Nat) (h : CsiHead), Running s ∧ p < 8 ∧ listens s p = true ∧ (2 ≤ h.ecc ∨ (h.ecc = 0 ∧ h.vc ≠ s.get (F.CAM_CFG_VC p)))) ∧
    (∃ (s : State) (p a b : Nat) (h : CsiHead) (crcOk : Bool) (samples : List Nat) (bytes : List Byte) (c : Instr), Running s ∧ p < 8 ∧ listens s p = false ∧ (c = .csiFrameStart p h a ∨ c = .csiFrameEnd p h ∨ c = .csiLine p h a crcOk samples ∨ c = .csiEmbedded p h bytes ∨ c = .csiGeneric p h a b)) ∧
    (∃ (s : State) (p : Nat), Running s ∧ p < 8 ∧ s.cams.ports.length = 8 ∧ camRuns s p = true ∧ s.get (F.CAM_CFG_TRIGGERED p) = 1) :=
  ⟨⟨cameraWith 7 Cam.reset [], 7, 0x0F, 65535, ⟨0, 0⟩, by decide +kernel⟩,
    ⟨cameraWith 7 Cam.reset [(F.CAM_TEST_PATTERN 7, 1)], 7, 0x2A, 65535, ⟨1, 2⟩, true, [1], [], .csiLine 7 ⟨1, 2⟩ 0x2A true [1], by decide +kernel⟩,
    ⟨cameraWith 7 { Cam.reset with posted := some ⟨3, 4, 5, 0, 0, false⟩ } [(F.CAM_CFG_EXP_LATENCY 7, 1)], 7, by decide +kernel⟩⟩

/-- Clauses 1, 2, 3, 4, 5, 6, 7, 8, 9 of `CameraPortsAndPipelines`: hypotheses met together. -/
theorem witness_CameraPortsAndPipelines :
    (∃ (s : State) (p : Nat) (w : Nat × Nat × ExpSet) (rest : List (Nat × Nat × ExpSet)), Running s ∧ p < 6 ∧ s.cams.ports.length = 8 ∧ (s.cam p).waiting = w :: rest) ∧
    (∃ (s : State) (p : Nat) (f : CamFrame), Running s ∧ p < 8 ∧ s.cams.ports.length = 8 ∧ openFrame (s.cam p) = some f ∧ hasBit f.flags 2 = false ∧ f.done < f.lines.length ∧ (s.cam p).frames.find? (fun g => decide (g.number = f.number)) = some f) ∧
    (∃ (s : State) (p : Nat) (c : Instr), Running s ∧ p < 8 ∧ ((c = .frameTimeout p ∧ (s.cam p).waiting = []) ∨ (c = .lineTimeout p ∧ openFrame (s.cam p) = none) ∨
      (c = .testPatternLine p ∧ (camRuns s p = false ∨ s.get (F.CAM_TEST_PATTERN p) = 0)) ∨
      (c = .camTrigger p ∧ (camRuns s p = false ∨ s.get (F.CAM_CFG_TRIGGERED p) = 0)))) ∧
    (∃ (s : State) (p : Nat) (c : Instr), Running s ∧ p < 8 ∧ ((c = .frameTimeout p ∧ (s.cam p).waiting = []) ∨ (c = .lineTimeout p ∧ openFrame (s.cam p) = none) ∨
      (c = .testPatternLine p ∧ (camRuns s p = false ∨ s.get (F.CAM_TEST_PATTERN p) = 0)) ∨
      (c = .camTrigger p ∧ (camRuns s p = false ∨ s.get (F.CAM_CFG_TRIGGERED p) = 0)))) ∧
    (∃ (s : State) (p n y v : Nat) (f : CamFrame), Running s ∧ p < 8 ∧ s.cams.ports.length = 8 ∧ camRuns s p = true ∧ s.get (F.CAM_TEST_PATTERN p) ≠ 0 ∧ (s.cam p).gen = some (n, y, v) ∧ y < s.get (F.CAM_GEOM_HEIGHT p) ∧ s.get (F.CAM_TEST_ECC_1BIT p) = 0 ∧ s.get (F.CAM_TEST_CRC_ERR p) = 0 ∧ (s.cam p).skip = false ∧ openFrame (s.cam p) = some f ∧ hasBit f.flags 0 = false ∧ f.lines.length < f.height ∧ linesHeld (s.cam p) < 256 ∧ f.width = s.get (F.CAM_GEOM_WIDTH p)) ∧
    (∃ (s : State) (p n y v : Nat) (f : CamFrame), Running s ∧ p < 8 ∧ s.cams.ports.length = 8 ∧ camRuns s p = true ∧ s.get (F.CAM_TEST_PATTERN p) ≠ 0 ∧ (s.cam p).gen = some (n, y, v) ∧ y < s.get (F.CAM_GEOM_HEIGHT p) ∧ s.get (F.CAM_TEST_ECC_1BIT p) = 0 ∧ s.get (F.CAM_TEST_CRC_ERR p) = 0 ∧ (s.cam p).skip = false ∧ openFrame (s.cam p) = some f ∧ hasBit f.flags 0 = false ∧ f.lines.length < f.height ∧ linesHeld (s.cam p) < 256 ∧ f.width = s.get (F.CAM_GEOM_WIDTH p)) ∧
    (∃ (s : State) (m : Master) (p data : Nat), (Running s ∧ p < 8 ∧ s.cams.ports.length = 8 ∧ MayWrite s m (0x090 + p) ∧ data < 2 ^ 32 ∧ s.get (F.CAM_CFG_ENABLE p) = 0 ∧ data / 2 ^ 29 % 4 ≤ 2 ∧ data / 2 ^ 25 % 4 ≤ 2 ∧ 1 ≤ data / 2 ^ 18 % 4) ∧ (s.get (F.CAM_CFG_SENSOR_RST p) ≠ data / 2 ^ 12 % 2)) ∧
    (∃ (s : State) (m : Master) (p data : Nat), Running s ∧ p < 8 ∧ MayWrite s m (0x090 + p) ∧ data < 2 ^ 16) ∧
    (∃ (s : State) (i p : Nat) (f : CamFrame), (Running s ∧ i < 2 ∧ s.cams.pipes.length = 2 ∧ (s.pipe i).running = none ∧ (pipeOrder s i).findSome? (fun p => (readyFrame s i p).map (fun f => (p, f))) = some (p, f) ∧ p < 8) ∧ (((s.pipe i).last = none ∨ (s.pipe i).last = some p)) ∧ (s.get (F.CAM_CFG_CLASS p) = 0)) ∧
    (∃ (s : State) (i p : Nat) (f : CamFrame), Running s ∧ i < 2 ∧ s.cams.pipes.length = 2 ∧ (s.pipe i).running = none ∧ (pipeOrder s i).findSome? (fun p => (readyFrame s i p).map (fun f => (p, f))) = some (p, f) ∧ p < 8) ∧
    (∃ (s : State) (i : Nat), Running s ∧ i < 2 ∧ ((s.pipe i).running.isSome = true ∨ (∀ p ∈ pipeOrder s i, readyFrame s i p = none))) ∧
    (∃ (s : State) (i p n k began : Nat) (f : CamFrame), Running s ∧ i < 2 ∧ p < 8 ∧ s.cams.pipes.length = 2 ∧ s.cams.ports.length = 8 ∧ (s.pipe i).running = some (p, n, k, began) ∧ (s.cam p).frames.find? (fun f => decide (f.number = n)) = some f ∧ f.done ≤ f.lines.length ∧ (f.closed = false ∨ f.done + 64 < f.lines.length) ∧ s.get (F.CAM_DEFECT_ADDR_COUNT p) = 0 ∧ s.get (F.CAM_SHADING_ADDR_ADDR p) = 0 ∧ s.get F.ERR_INJECT_ARM = 0 ∧ s.get (F.IPP_STATUS_MODE i) = s.get (F.IPP_MODE_MODE i) ∧ (s.get (F.IPP_MODE_MODE i) ≠ 2 ∨ (s.pipe i).port = s.get (F.IPP_MODE_PORT i))) :=
  ⟨⟨cameraWith 5 { Cam.reset with waiting := [(5, 77, ExpSet.none)] } [], 5, (5, 77, ExpSet.none), [], by decide +kernel⟩,
    ⟨cameraWith 0 { Cam.reset with frames := [frameAt [([1, 2, 3, 4], false)]] } [], 0, frameAt [([1, 2, 3, 4], false)], by decide +kernel⟩,
    ⟨cameraWith 0 Cam.reset [], 0, .frameTimeout 0, by decide +kernel⟩,
    ⟨cameraWith 0 Cam.reset [], 0, .testPatternLine 0, by decide +kernel⟩,
    ⟨cameraWith 0 { Cam.reset with frames := [frameAt [([1, 2, 3, 4], false)]], gen := some (5, 1, 0) } [(F.CAM_TEST_PATTERN 0, 1)], 0, 5, 1, 0, frameAt [([1, 2, 3, 4], false)], by decide +kernel⟩,
    ⟨cameraWith 0 { Cam.reset with frames := [frameAt [([1, 2, 3, 4], false)]], gen := some (5, 1, 7) } [(F.CAM_TEST_PATTERN 0, 3)], 0, 5, 1, 7, frameAt [([1, 2, 3, 4], false)], by decide +kernel⟩,
    ⟨cameraWith 0 Cam.reset [(F.CAM_CFG_ENABLE 0, 0)], .mp 0, 0, 2 ^ 31 + 2 ^ 30 + 2 ^ 26 + 2 ^ 18 + 2 ^ 17, by decide +kernel, by decide +kernel⟩,
    ⟨cameraWith 0 { Cam.reset with frames := [frameAt []] } [(F.CAM_RING_FULL_SLOT 0, 0x8003)], .mp 0, 0, 0xFFFF, by decide +kernel⟩,
    ⟨cameraWith 0 { Cam.reset with frames := [frameAt (List.replicate 70 ([1, 2, 3, 4], false))] } [], 0, 0, frameAt (List.replicate 70 ([1, 2, 3, 4], false)), by decide +kernel, by decide +kernel, by decide +kernel⟩,
    ⟨(fun s => { s with cams := { s.cams with pipes := s.cams.pipes.map (fun p => { p with last := some 3 }) } }) (cameraWith 0 { Cam.reset with frames := [{ frameAt (List.replicate 70 ([1, 2, 3, 4], false)) with pipe := 1 }] } []), 1, 0, { frameAt (List.replicate 70 ([1, 2, 3, 4], false)) with pipe := 1 }, by decide +kernel⟩,
    ⟨cameraWith 0 Cam.reset [], 1, by decide +kernel⟩,
    ⟨(fun s => { s with cams := { s.cams with pipes := s.cams.pipes.map (fun p => { p with running := some (0, 5, 0, 0) }) } }) (cameraWith 0 { Cam.reset with frames := [frameAt (List.replicate 70 ([1, 2, 3, 4], false))] } [(F.IPP_MODE_MODE 0, 0)]), 0, 0, 5, 0, 0, frameAt (List.replicate 70 ([1, 2, 3, 4], false)), by decide +kernel⟩⟩

/-- Clauses 1, 2, 3, 4, 5 of `ExposureSetsAndI2c`: hypotheses met together. -/
theorem witness_ExposureSetsAndI2c :
    (∃ (s : State) (m : Master) (p id exposure gain : Nat), (Running s ∧ p < 8 ∧ s.cams.ports.length = 8 ∧ MayWrite s m (0x090 + p) ∧ id ≤ 254 ∧ exposure < 2 ^ 24 ∧ 0x1000 ≤ gain ∧ gain < 2 ^ 16) ∧ ((s.cam p).posted = none)) ∧
    (∃ (s : State) (m : Master) (p id exposure gain : Nat), (Running s ∧ p < 8 ∧ s.cams.ports.length = 8 ∧ MayWrite s m (0x090 + p) ∧ id ≤ 254 ∧ exposure < 2 ^ 24 ∧ 0x1000 ≤ gain ∧ gain < 2 ^ 16) ∧ ((s.cam p).posted ≠ none)) ∧
    (∃ (s : State) (m : Master) (k data : Nat) (j : I2cJob), Running s ∧ k < 4 ∧ s.cams.i2c.length = 4 ∧ MayWrite s m (0x090 + 2 * k) ∧ data < 2 ^ 32 ∧ data / 2 ^ 12 % 16 ≤ 8 ∧ data / 2 ^ 8 % 16 ≤ 8 ∧ j = ⟨data / 2 ^ 24 % 2, none, data / 2 ^ 17 % 128, (leBytes (data / 2 ^ 12 % 16) (s.get (F.CAM_I2C_DATA_DATA (2 * k)))).map (fun b => b.toNat), data / 2 ^ 8 % 16⟩) ∧
    (∃ (s : State) (m : Master) (k data : Nat) (j : I2cJob), Running s ∧ k < 4 ∧ s.cams.i2c.length = 4 ∧ MayWrite s m (0x090 + 2 * k) ∧ data < 2 ^ 32 ∧ data / 2 ^ 12 % 16 ≤ 8 ∧ data / 2 ^ 8 % 16 ≤ 8 ∧ j = ⟨data / 2 ^ 24 % 2, none, data / 2 ^ 17 % 128, (leBytes (data / 2 ^ 12 % 16) (s.get (F.CAM_I2C_DATA_DATA (2 * k)))).map (fun b => b.toNat), data / 2 ^ 8 % 16⟩) ∧
    (∃ (s : State) (k status : Nat) (bytes : List Byte) (j : I2cJob) (x : I2c) (c : Instr), (Running s ∧ k < 4 ∧ s.cams.i2c[k]? = some x ∧ x.running = some j ∧ j.set = none ∧ x.exposure = [] ∧ x.command = none ∧ j.rlen ≤ 8 ∧ ((c = .i2cTransactionDone k status bytes ∧ status < 6) ∨ (c = .i2cStretchTimeout k ∧ status = 4))) ∧ (status = 0)) ∧
    (∃ (s : State) (k status : Nat) (bytes : List Byte) (j : I2cJob) (x : I2c) (c : Instr), (Running s ∧ k < 4 ∧ s.cams.i2c[k]? = some x ∧ x.running = some j ∧ j.set = none ∧ x.exposure = [] ∧ x.command = none ∧ j.rlen ≤ 8 ∧ ((c = .i2cTransactionDone k status bytes ∧ status < 6) ∨ (c = .i2cStretchTimeout k ∧ status = 4))) ∧ (status ≠ 0)) ∧
    (∃ (s : State) (k p n status : Nat) (bytes : List Byte) (j : I2cJob) (x : I2c), (Running s ∧ k < 4 ∧ s.cams.i2c[k]? = some x ∧ x.running = some j ∧ j.set = some (p, n) ∧ p < 8 ∧ s.cams.ports.length = 8 ∧ status < 6) ∧ (status = 0)) ∧
    (∃ (s : State) (k p n status : Nat) (bytes : List Byte) (j : I2cJob) (x : I2c), (Running s ∧ k < 4 ∧ s.cams.i2c[k]? = some x ∧ x.running = some j ∧ j.set = some (p, n) ∧ p < 8 ∧ s.cams.ports.length = 8 ∧ status < 6) ∧ (status ≠ 0)) ∧
    (∃ (s : State) (k status : Nat) (bytes : List Byte) (x : I2c) (c : Instr), Running s ∧ k < 4 ∧ s.cams.i2c[k]? = some x ∧ x.running = none ∧ (c = .i2cTransactionDone k status bytes ∨ c = .i2cStretchTimeout k)) :=
  ⟨⟨upWith [], .mp 0, 7, 254, 0xFFFFFF, 0x1000, by decide +kernel, by decide +kernel⟩,
    ⟨cameraWith 7 { Cam.reset with posted := some ⟨3, 4, 5, 0, 0, false⟩ } [], .mp 0, 7, 0, 0, 0xFFFF, by decide +kernel, by decide +kernel⟩,
    ⟨upWith [], .mp 0, 3, 0x81238800, ⟨1, none, 17, List.replicate 8 0, 8⟩, by decide +kernel⟩,
    ⟨{ upWith [] with cams := { Cams.reset with i2c := List.replicate 4 ⟨some ⟨0, none, 1, [], 1⟩, [], none⟩ } }, .mp 0, 3, 0x81238800, ⟨1, none, 17, List.replicate 8 0, 8⟩, by decide +kernel⟩,
    ⟨{ upWith [] with cams := { Cams.reset with i2c := List.replicate 4 ⟨some ⟨0, none, 1, [], 2⟩, [], none⟩ } }, 3, 0, [1, 2, 3], ⟨0, none, 1, [], 2⟩, ⟨some ⟨0, none, 1, [], 2⟩, [], none⟩, .i2cTransactionDone 3 0 [1, 2, 3], by decide +kernel, by decide +kernel⟩,
    ⟨{ upWith [] with cams := { Cams.reset with i2c := List.replicate 4 ⟨some ⟨0, none, 1, [], 2⟩, [], none⟩ } }, 3, 4, [1, 2, 3], ⟨0, none, 1, [], 2⟩, ⟨some ⟨0, none, 1, [], 2⟩, [], none⟩, .i2cStretchTimeout 3, by decide +kernel, by decide +kernel⟩,
    ⟨{ upWith [] with cams := { Cams.reset with i2c := List.replicate 4 ⟨some ⟨0, some (7, 5), 1, [], 2⟩, [], none⟩, ports := List.replicate 8 { Cam.reset with latched := [⟨3, 4, 5, 5, 2, false⟩] } } }, 3, 7, 5, 0, [], ⟨0, some (7, 5), 1, [], 2⟩, ⟨some ⟨0, some (7, 5), 1, [], 2⟩, [], none⟩, by decide +kernel, by decide +kernel⟩,
    ⟨{ upWith [] with cams := { Cams.reset with i2c := List.replicate 4 ⟨some ⟨0, some (7, 5), 1, [], 2⟩, [], none⟩, ports := List.replicate 8 { Cam.reset with latched := [⟨3, 4, 5, 5, 2, false⟩] } } }, 3, 7, 5, 3, [], ⟨0, some (7, 5), 1, [], 2⟩, ⟨some ⟨0, some (7, 5), 1, [], 2⟩, [], none⟩, by decide +kernel, by decide +kernel⟩,
    ⟨upWith [], 3, 0, [], ⟨none, [], none⟩, .i2cTransactionDone 3 0 [], by decide +kernel⟩⟩

end W16

namespace W17

/-- Clauses 1, 2, 3, 4, 5, 6, 7, 8 of `ViewersAreTracked`: hypotheses met together. -/
theorem witness_ViewersAreTracked :
    (∃ (s : State) (port setId : Nat) (uncertain : Bool) (found : List Detection) (at' : Nat × Nat), Running s ∧ port < 6 ∧ setId ≠ 0xFF ∧ assoc s.rsy.duties port = some (some at') ∧ port ∉ s.dmc.lostModels) ∧
    (∃ (s : State) (port setId : Nat) (unusable uncertain : Bool) (found : List Detection), Running s ∧ (unusable = true ∨ setId = 0xFF ∨ 6 ≤ port ∨ port ∈ s.dmc.lostModels ∨ assoc s.rsy.duties port = some none ∨ assoc s.rsy.duties port = none)) ∧
    (∃ (s : State) (port : Nat), Running s) ∧
    (∃ (s : State) (x y z : Int) (trigger period cameras slot : Nat) (r : EyeRef) (v : Viewer) (e : EyeEst), Running s ∧ assoc s.rsy.duties 6 ≠ some none ∧ s.role = 0 ∧ matchEye s x y z trigger = some r ∧ r.eye.te - (period : Int) ≤ (trigger : Int) ∧ r.who = .viewer slot ∧ s.roster.viewers.find? (fun v => decide (v.slot = slot)) = some v ∧ 2 ≤ cameras ∧ (∀ p ∈ s.roster.candidates, p.frames < s.get F.VWB_TRACK_CFG_CONFIRM) ∧ (∀ w ∈ s.roster.viewers, w.coasting = false) ∧ e = fuse r.eye x y z trigger cameras) ∧
    (∃ (s : State) (x y z : Int) (trigger period cameras : Nat) (r : EyeRef), Running s ∧ assoc s.rsy.duties 6 ≠ some none ∧ matchEye s x y z trigger = some r ∧ (trigger : Int) < r.eye.te - (period : Int)) ∧
    (∃ (s : State) (x y z : Int) (trigger period cameras : Nat) (e : EyeEst), Running s ∧ assoc s.rsy.duties 6 ≠ some none ∧ s.role = 0 ∧ matchEye s x y z trigger = none ∧ 2 ≤ cameras ∧ e = ⟨x, y, z, 0, 0, 0, trigger⟩ ∧ (∀ v ∈ s.roster.viewers, pairWith v.left v.right e = none ∧ v.coasting = false) ∧ (∀ p ∈ s.roster.candidates, pairWith p.left p.right e = none ∧ p.frames < s.get F.VWB_TRACK_CFG_CONFIRM) ∧ 1 < s.get F.VWB_TRACK_CFG_CONFIRM) ∧
    (∃ (s : State) (x y z : Int) (trigger period cameras i k : Nat) (r : EyeRef) (p q : Person), Running s ∧ assoc s.rsy.duties 6 ≠ some none ∧ s.role = 0 ∧ matchEye s x y z trigger = some r ∧ r.eye.te - (period : Int) ≤ (trigger : Int) ∧ r.who = .candidate i ∧ s.roster.candidates[i]? = some p ∧ 2 ≤ cameras ∧ q = (p.setEye r.right (fuse r.eye x y z trigger cameras)).seenIn trigger period cameras ∧ s.get F.VWB_TRACK_CFG_CONFIRM ≤ q.frames ∧ ((∀ j p', s.roster.candidates[j]? = some p' → j ≠ i → p'.frames < s.get F.VWB_TRACK_CFG_CONFIRM)) ∧ freeSlot s = some k ∧ (∀ w ∈ s.roster.viewers, w.coasting = false)) ∧
    (∃ (s : State) (x y z : Int) (trigger period cameras : Nat), Running s ∧ assoc s.rsy.duties 6 = some none) :=
  ⟨⟨rosterWith [] [] [], 5, 3, false, [⟨1, 2, 3, 4⟩], (5, 15), by decide +kernel⟩,
    ⟨rosterWith [] [] [], 5, 0xFF, false, false, [⟨1, 2, 3, 4⟩], by decide +kernel⟩,
    ⟨{ rosterWith [] [] [] with roster := { Roster.reset with used := [2, 5] } }, 5, by decide +kernel⟩,
    ⟨rosterWith [⟨31, 9, 0, false, some (eyeAt 0), none, 1000⟩] [] [], 3, 0, 5000, 2000, 500, 2, 31, ⟨.viewer 31, false, eyeAt 0⟩, ⟨31, 9, 0, false, some (eyeAt 0), none, 1000⟩, fuse (eyeAt 0) 3 0 5000 2000 2, by exact ⟨by decide +kernel, by decide +kernel, by decide +kernel, by decide +kernel, by decide +kernel, by decide +kernel, by decide +kernel, by decide +kernel, by decide +kernel, by decide +kernel, rfl⟩⟩,
    ⟨rosterWith [⟨31, 9, 0, false, some (eyeAt 0), none, 1000⟩] [] [], 3, 0, 5000, 200, 500, 2, ⟨.viewer 31, false, eyeAt 0⟩, by decide +kernel⟩,
    ⟨rosterWith [] [⟨some (eyeAt 90000), none, 1, 1000⟩] [], 3, 0, 5000, 2000, 500, 2, ⟨3, 0, 5000, 0, 0, 0, 2000⟩, by decide +kernel⟩,
    ⟨rosterWith [⟨0, 9, 0, false, some (eyeAt 90000), none, 1000⟩] [⟨some (eyeAt 0), none, 2, 1500⟩] [], 3, 0, 5000, 2000, 500, 2, 0, 1, ⟨.candidate 0, false, eyeAt 0⟩, ⟨some (eyeAt 0), none, 2, 1500⟩, (Person.setEye ⟨some (eyeAt 0), none, 2, 1500⟩ false (fuse (eyeAt 0) 3 0 5000 2000 2)).seenIn 2000 500 2, by exact ⟨by decide +kernel, by decide +kernel, by decide +kernel, by decide +kernel, by decide +kernel, by decide +kernel, by decide +kernel, by decide +kernel, rfl, by decide +kernel, fun j p hj hne => match j, hj, hne with | 0, _, hne => absurd rfl hne, by decide +kernel, by decide +kernel⟩⟩,
    ⟨{ rosterWith [] [] [] with rsy := { Rsy.reset with duties := [(6, none)] } }, 3, 0, 5000, 2000, 500, 2, by decide +kernel⟩⟩

/-- Clauses 1, 2, 3, 4, 5, 6, 7, 8 of `ViewersCoastAndLeave`: hypotheses met together. -/
theorem witness_ViewersCoastAndLeave :
    (∃ (s : State) (slot : Nat), Running s ∧ (∀ v ∈ s.roster.viewers, outOfRange s v = false)) ∧
    (∃ (s : State) (i : Nat), Running s) ∧
    (∃ (s : State) (v : Viewer), Running s ∧ s.role ≠ 2 ∧ v ∈ s.roster.viewers ∧ v.coasting = true ∧ ((∀ w ∈ s.roster.viewers, w.slot ≠ v.slot → w.id ≠ v.id)) ∧ s.roster.overflow = []) ∧
    (∃ (s : State) (slot : Nat), Running s ∧ (s.role = 2 ∨ (∀ v ∈ s.roster.viewers, v.slot = slot → v.coasting = false))) ∧
    (∃ (s : State) (v : Viewer) (owner : Nat), Running s ∧ s.role = 1 ∧ owner < 64 ∧ v ∈ s.roster.viewers ∧ v.owner ≠ owner) ∧
    (∃ (s : State) (slot owner : Nat), Running s ∧ s.role ≠ 1) ∧
    (∃ (s : State) (zone : Nat), Running s ∧ zone < 24 ∧ zoneSeen s zone = false) ∧
    (∃ (s : State) (zone : Nat), Running s ∧ (24 ≤ zone ∨ zoneSeen s zone = true)) :=
  ⟨⟨rosterWith [⟨31, 9, 0, false, some (eyeAt 0), none, 1000⟩] [] [], 31, by decide +kernel⟩,
    ⟨{ rosterWith [] [] [] with roster := { Roster.reset with candidates := [⟨some (eyeAt 0), none, 2, 1500⟩], overflow := [⟨some (eyeAt 0), none, 2, 1500⟩] } }, 0, by decide +kernel⟩,
    ⟨rosterWith [⟨31, 9, 0, true, some (eyeAt 0), none, 1000⟩, ⟨30, 8, 0, true, some (eyeAt 0), none, 1000⟩] [] [], ⟨31, 9, 0, true, some (eyeAt 0), none, 1000⟩, by decide +kernel⟩,
    ⟨rosterWith [⟨31, 9, 0, false, some (eyeAt 0), none, 1000⟩] [] [], 31, by decide +kernel⟩,
    ⟨rosterWith [⟨31, 9, 0, false, some (eyeAt 0), none, 1000⟩] [] [(F.XSH_ROLE_ROLE, 1)], ⟨31, 9, 0, false, some (eyeAt 0), none, 1000⟩, 63, by decide +kernel⟩,
    ⟨rosterWith [⟨31, 9, 0, false, some (eyeAt 0), none, 1000⟩] [] [], 31, 63, by decide +kernel⟩,
    ⟨rosterWith [] [] [(F.VWB_ZONE_OBSERVED 23, 1)], 23, by decide +kernel⟩,
    ⟨rosterWith [] [] [], 24, by decide +kernel⟩⟩

end W17

namespace W18

/-- Clauses 1, 2, 3, 4, 5, 6, 7, 8 of `FlipGroups`: hypotheses met together. -/
theorem witness_FlipGroups :
    (∃ (s : State) (m : Master) (g data : Nat), Running s ∧ MayWrite s m 0x0B0 ∧ g < 4 ∧ data < 2 ^ 32 ∧ data / 2 ^ 8 % 4 ≠ 1 ∧ s.role = 0 ∧ s.get (F.CMP_FLIP_CTRL_ARMED g) = 0 ∧ ((∀ p, p < 8 → hasBit data p = true → (planeBack s p).en = true → planeOk s (planeBack s p) = true)) ∧ ((data / 2 ^ 8 % 4 < 2 ∨ s.cmp.lutReady.contains (data / 2 ^ 8 % 4 - 2) = true))) ∧
    (∃ (s : State) (m : Master) (g data : Nat), Running s ∧ MayWrite s m 0x0B0 ∧ g < 4 ∧ data < 2 ^ 32 ∧ data / 2 ^ 8 % 4 ≠ 1 ∧ s.get (F.CMP_FLIP_CTRL_ARMED g) = 0 ∧ (((∃ p, p < 8 ∧ hasBit data p = true ∧ (planeBack s p).en = true ∧ planeOk s (planeBack s p) = false) ∨
      (2 ≤ data / 2 ^ 8 % 4 ∧ s.cmp.lutReady.contains (data / 2 ^ 8 % 4 - 2) = false)))) ∧
    (∃ (s : State) (m : Master) (g data : Nat), Running s ∧ MayWrite s m 0x0B0 ∧ g < 4 ∧ data < 2 ^ 32 ∧ data / 2 ^ 8 % 4 ≠ 1 ∧ s.get (F.CMP_FLIP_CTRL_ARMED g) = 0 ∧ (((∃ p, p < 8 ∧ hasBit data p = true ∧ (planeBack s p).en = true ∧ planeOk s (planeBack s p) = false) ∨
      (2 ≤ data / 2 ^ 8 % 4 ∧ s.cmp.lutReady.contains (data / 2 ^ 8 % 4 - 2) = false)))) ∧
    (∃ (s : State) (m : Master) (g data : Nat), Running s ∧ MayWrite s m 0x0B0 ∧ g < 4 ∧ data < 2 ^ 32 ∧ data / 2 ^ 8 % 4 ≠ 1 ∧ s.get (F.CMP_FLIP_CTRL_ARMED g) = 1 ∧ hasBit data 29 = false) ∧
    (∃ (s : State) (m : Master) (g data : Nat), Running s ∧ MayWrite s m 0x0B0 ∧ g < 4 ∧ data < 2 ^ 32 ∧ data / 2 ^ 8 % 4 ≠ 1 ∧ s.get (F.CMP_FLIP_CTRL_ARMED g) = 1 ∧ hasBit data 28 = false) ∧
    (∃ (s : State) (g : Nat) (m : YardMember) (k : Nat), Running s ∧ s.role = 1 ∧ g < 4 ∧ (g, m.number) ∈ s.cmp.copies ∧ s.yard.members.find? (fun x => decide (x.number = m.number)) = some m ∧ m.number ∈ s.yard.heldDests ∧ k = 2920 * (stripePlanes s g m).length + 1) ∧
    (∃ (s : State) (g : Nat) (m : YardMember) (k : Nat), Running s ∧ s.role = 1 ∧ g < 4 ∧ (g, m.number) ∈ s.cmp.copies ∧ s.yard.members.find? (fun x => decide (x.number = m.number)) = some m ∧ m.number ∈ s.yard.heldDests ∧ k = 2920 * (stripePlanes s g m).length + 1) ∧
    (∃ (s : State) (g member : Nat), Running s ∧ g < 4 ∧ (s.role ≠ 1 ∨ (g, member) ∉ s.cmp.copies)) ∧
    (∃ (s : State) (g n : Nat), Running s ∧ s.role = 1 ∧ g < 4 ∧ s.get (F.CMP_FLIP_CTRL_ARMED g) = 1 ∧ n = (s.cmp.copies.filter (fun e => decide (e.1 = g))).length + (s.cmp.acks.filter (fun e => decide (e.1 = g))).length ∧ 0 < n) ∧
    (∃ (s : State) (g : Nat), Running s ∧ g < 4 ∧ (s.role ≠ 1 ∨ (∀ e ∈ s.cmp.copies ++ s.cmp.acks, e.1 ≠ g))) :=
  ⟨⟨upWith [], .mp 0, 3, 0x91FF00FF, by decide +kernel⟩,
    ⟨upWith [(F.CMP_PL_FMT_EN 7, 1)], .mp 0, 3, 0x80000080, by decide +kernel⟩,
    ⟨upWith [], .mp 0, 3, 0x80000380, by decide +kernel⟩,
    ⟨upWith [(F.CMP_FLIP_CTRL_ARMED 3, 1)], .mp 0, 3, 0x80000000, by decide +kernel⟩,
    ⟨{ upWith [(F.CMP_FLIP_CTRL_ARMED 3, 1), (F.CMP_STATUS_ARMED, 15)] with cmp := { Cmp.reset with copies := [(3, 1), (2, 1)], acks := [(3, 2)], acked := [(3, 4)] } }, .mp 0, 3, 0xA0000005, by decide +kernel⟩,
    ⟨{ upWith [(F.XSH_ROLE_ROLE, 1)] with cmp := { Cmp.reset with copies := [(3, 63)] }, yard := { Yard.reset with members := [⟨63, 0x10, [], 6, true⟩], heldDests := [63] } }, 3, ⟨63, 0x10, [], 6, true⟩, 1, by decide +kernel⟩,
    ⟨{ dramWith [(F.XSH_ROLE_ROLE, 1), (F.CMP_FLIP_CTRL_PLANES 3, 1), (F.CMP_PL_FMT_EN 0, 1), (F.CMP_PL_FMT_FORMAT 0, 2), (F.CMP_PL_SIZE_W 0, 2000), (F.CMP_PL_SIZE_H 0, 2000)] with cmp := { Cmp.reset with copies := [(3, 63)] }, yard := { Yard.reset with members := [⟨63, 0x01, [], 6, true⟩], heldDests := [63] } }, 3, ⟨63, 0x01, [], 6, true⟩, 2920 * (stripePlanes ({ dramWith [(F.XSH_ROLE_ROLE, 1), (F.CMP_FLIP_CTRL_PLANES 3, 1), (F.CMP_PL_FMT_EN 0, 1), (F.CMP_PL_FMT_FORMAT 0, 2), (F.CMP_PL_SIZE_W 0, 2000), (F.CMP_PL_SIZE_H 0, 2000)] with cmp := { Cmp.reset with copies := [(3, 63)] }, yard := { Yard.reset with members := [⟨63, 0x01, [], 6, true⟩], heldDests := [63] } }) 3 ⟨63, 0x01, [], 6, true⟩).length + 1, by decide +kernel⟩,
    ⟨upWith [], 3, 63, by decide +kernel⟩,
    ⟨{ upWith [(F.XSH_ROLE_ROLE, 1), (F.CMP_FLIP_CTRL_ARMED 3, 1)] with cmp := { Cmp.reset with copies := [(3, 63)], acks := [(3, 62), (2, 5)] } }, 3, 2, by decide +kernel⟩,
    ⟨upWith [(F.XSH_ROLE_ROLE, 1)], 3, by decide +kernel⟩⟩

/-- Clauses 1, 2, 3, 4, 5, 6, 7, 8, 9 of `BanksAndTheProtectedLayer`: hypotheses met together. -/
theorem witness_BanksAndTheProtectedLayer :
    (∃ (s : State) (m : Master) (data : Nat), Running s ∧ MayWrite s m 0x0B0 ∧ s.get F.CMP_LUT_LOAD_BUSY = 0 ∧ lutInUse s (data % 2) = false) ∧
    (∃ (s : State) (m : Master) (data : Nat), Running s ∧ MayWrite s m 0x0B0 ∧ s.get F.CMP_LUT_LOAD_BUSY = 0 ∧ lutInUse s (data % 2) = true) ∧
    (∃ (s : State) (m : Master) (data : Nat), Running s ∧ MayWrite s m 0x0B0 ∧ s.get F.CMP_LUT_LOAD_BUSY = 1) ∧
    (∃ (s : State) (bank addr : Nat), (Running s ∧ s.cmp.lutLoad = some (bank, addr) ∧ CleanDram s addr 215622) ∧ (lutWordsOk (dramRead s addr 215622) = true)) ∧
    (∃ (s : State) (bank addr : Nat), (Running s ∧ s.cmp.lutLoad = some (bank, addr) ∧ CleanDram s addr 215622) ∧ (lutWordsOk (dramRead s addr 215622) = false)) ∧
    (∃ (s : State) (bank addr : Nat), Running s ∧ s.cmp.lutLoad = some (bank, addr) ∧ dramBehind s addr 215622 = false) ∧
    (∃ (s : State), Running s ∧ s.cmp.lutLoad = none) ∧
    (∃ (s : State) (m : Master) (data : Nat), Running s ∧ MayWrite s m 0x0BF ∧ m.secure = true ∧ data < 2 ^ 32 ∧ hasBit data 2 = false) ∧
    (∃ (s : State) (m : Master) (data : Nat), Running s ∧ MayWrite s m 0x0BF ∧ m.secure = true ∧ data < 2 ^ 32 ∧ s.cmp.rearmsUsed = false ∧ (s.cmp.rearms.filter (fun x => decide (s.now < 10000000000 + x))).length < 3) ∧
    (∃ (s : State) (m : Master) (data : Nat), Running s ∧ MayWrite s m 0x0BF ∧ m.secure = true ∧ data < 2 ^ 32 ∧ (s.cmp.rearmsUsed = true ∨ 3 ≤ (s.cmp.rearms.filter (fun x => decide (s.now < 10000000000 + x))).length)) :=
  ⟨⟨upWith [], .mp 0, 1, by decide +kernel⟩,
    ⟨upWith [], .mp 0, 0, by decide +kernel⟩,
    ⟨upWith [(F.CMP_LUT_LOAD_BUSY, 1)], .mp 0, 0, by decide +kernel⟩,
    ⟨{ dramWith [(F.CMP_LUT_LOAD_BUSY, 1)] with cmp := { Cmp.reset with lutLoad := some (1, 0x4000) } }, 1, 0x4000, by exact ⟨by decide +kernel, by decide +kernel, by decide +kernel, by decide +kernel, fun w _ => ⟨List.not_mem_nil, List.not_mem_nil, List.not_mem_nil⟩⟩, (congrArg lutWordsOk (memRead_nil 0x4000 215622)).trans (lutWordsOk_zeros 107811)⟩,
    ⟨{ dramWith [(F.CMP_LUT_LOAD_BUSY, 1)] with cmp := { Cmp.reset with lutLoad := some (1, 0x4000) }, mem := { State.reset.mem with dram := memWrite [] 0x4000 [255, 255, 255, 255] } }, 1, 0x4000, by exact ⟨by decide +kernel, by decide +kernel, by decide +kernel, by decide +kernel, fun w _ => ⟨List.not_mem_nil, List.not_mem_nil, List.not_mem_nil⟩⟩, lutWordsOk_first _ 0x4000 215620 (by decide +kernel)⟩,
    ⟨{ upWith [(F.CMP_LUT_LOAD_BUSY, 1)] with cmp := { Cmp.reset with lutLoad := some (1, 0x4000) } }, 1, 0x4000, by decide +kernel⟩,
    ⟨upWith [], by decide +kernel⟩,
    ⟨upWith [], .mp 0, 0x80000001, by decide +kernel⟩,
    ⟨{ upWith [] with cmp := { Cmp.reset with black := [(3, 5, none), (4, 5, some 6)] } }, .mp 0, 4, by decide +kernel⟩,
    ⟨{ upWith [] with cmp := { Cmp.reset with rearms := [0, 0, 0] } }, .mp 0, 4, by decide +kernel⟩⟩

end W18

namespace W19

/-- The list that runs: 1,024 bytes of a chain of one buffer, of queue 3601. -/
def listOf (n : Nat) (wait : Option (Nat × Nat × Nat)) : BltList := ⟨3601, 7, 0x8000, 0, n, 0, wait⟩

/-- A controller that runs a list: its chain entry at 0x8000 and its commands at 0x9000. -/
def listWith (list : Option BltList) (cmd : List Byte) (l : List (Field × Nat)) : State :=
  let s := dramWith ([(F.BLT_LIST_STATUS_BUSY, 1)] ++ l)
  { s with mem := { s.mem with dram := memWrite (memWrite [] 0x8000 (leBytes 8 0x9000 ++ leBytes 4 1024 ++ leBytes 4 2 ++ leBytes 16 0)) 0x9000 cmd }
           cmp := { Cmp.reset with list := list }
           scene := { Scene.reset with ctxs := [(3601, { ctxWith 5 6 with chain := 0x8000 })], runs := [runAt 3601 7 0x33 .listing []] } }

/-- A surface of 4 by 4 pixels in RGBA8. -/
def surfaceAt (a : Nat) : List Byte := leBytes 8 a ++ leBytes 4 64 ++ leBytes 1 2 ++ leBytes 3 0 ++ leBytes 2 4 ++ leBytes 2 4 ++ leBytes 4 0

/-- Clauses 1, 2, 3, 4, 5, 6 of `ListsDraw`: hypotheses met together. -/
theorem witness_ListsDraw :
    (∃ (s : State) (r : Run), Running s ∧ s.cmp.list = none ∧ s.scene.runs.find? (fun r => decide (r.stage = .listing)) = some r) ∧
    (∃ (s : State), Running s ∧ (s.cmp.list ≠ none ∨ (∀ r ∈ s.scene.runs, r.stage ≠ .listing))) ∧
    (∃ (s u : State) (l : BltList), Running s ∧ s.cmp.list = some l ∧ l.waiting = none ∧ s.cmp.copies = [] ∧ nextCmd s l = (u, .ended)) ∧
    (∃ (s u : State) (l : BltList) (b : List Byte) (clips : List Rect) (n : Nat), Running s ∧ s.cmp.list = some l ∧ l.waiting = none ∧ s.cmp.copies = [] ∧ nextCmd s l = (u, .cmd 0 b clips n)) ∧
    (∃ (s u : State) (l : BltList) (b c : List Byte) (clips : List Rect) (n : Nat) (d : Surface) (r : Rect), Running s ∧ SoundMemory u ∧ u.get F.ERR_INJECT_ARM = 0 ∧ s.cmp.list = some l ∧ l.waiting = none ∧ s.cmp.copies = [] ∧ nextCmd s l = (u, .cmd 1 b clips n) ∧ surfaceOf b 0 = some d ∧ r = rectOf b 24 ∧ leAt b 36 4 = 0 ∧ extentSecure u (d.extent r) = false ∧ c = (b.drop 32).take 4 ∧ c.length = 4 ∧ (∀ p ∈ destPixels d r clips, dramBehind u (d.px p.1 p.2) (pixelBytes d.format) = true)) ∧
    (∃ (s u : State) (l : BltList) (blend : Bool) (b : List Byte) (clips : List Rect) (n : Nat) (f d : Surface) (r : Rect) (from' : Nat × Nat → Nat × Nat) (px : List (Nat × Nat)), Running s ∧ SoundMemory u ∧ u.get F.ERR_INJECT_ARM = 0 ∧ s.cmp.list = some l ∧ l.waiting = none ∧ s.cmp.copies = [] ∧ nextCmd s l = (u, .cmd (if blend then 3 else 2) b clips n) ∧ surfaceOf b 0 = some f ∧ surfaceOf b 32 = some d ∧ r = rectOf b 56 ∧ leAt b 28 4 = 0 ∧ ((blend = true → f.format = 2)) ∧ extentSecure u (f.extent ⟨leAt b 24 2, leAt b 26 2, r.w, r.h⟩) = false ∧ extentSecure u (d.extent r) = false ∧ overlapBad f d (f.extent ⟨leAt b 24 2, leAt b 26 2, r.w, r.h⟩) (d.extent r) = false ∧ from' = (fun p => (p.1 - r.x + leAt b 24 2, p.2 - r.y + leAt b 26 2)) ∧ px = (destPixels d r clips).filter (fun p => f.has (from' p).1 (from' p).2) ∧ pixelsBad u f (px.map from') = false ∧ ((blend = true → pixelsBad u d px = false)) ∧ (∀ p ∈ px, dramBehind u (d.px p.1 p.2) (pixelBytes d.format) = true)) ∧
    (∃ (s u : State) (l : BltList) (blend : Bool) (b : List Byte) (clips : List Rect) (n : Nat) (f d : Surface) (r : Rect) (from' : Nat × Nat → Nat × Nat) (px : List (Nat × Nat)), Running s ∧ SoundMemory u ∧ u.get F.ERR_INJECT_ARM = 0 ∧ s.cmp.list = some l ∧ l.waiting = none ∧ s.cmp.copies = [] ∧ nextCmd s l = (u, .cmd (if blend then 3 else 2) b clips n) ∧ surfaceOf b 0 = some f ∧ surfaceOf b 32 = some d ∧ r = rectOf b 56 ∧ leAt b 28 4 = 0 ∧ ((blend = true → f.format = 2)) ∧ extentSecure u (f.extent ⟨leAt b 24 2, leAt b 26 2, r.w, r.h⟩) = false ∧ extentSecure u (d.extent r) = false ∧ overlapBad f d (f.extent ⟨leAt b 24 2, leAt b 26 2, r.w, r.h⟩) (d.extent r) = false ∧ from' = (fun p => (p.1 - r.x + leAt b 24 2, p.2 - r.y + leAt b 26 2)) ∧ px = (destPixels d r clips).filter (fun p => f.has (from' p).1 (from' p).2) ∧ pixelsBad u f (px.map from') = false ∧ ((blend = true → pixelsBad u d px = false)) ∧ (∀ p ∈ px, dramBehind u (d.px p.1 p.2) (pixelBytes d.format) = true)) ∧
    (∃ (s u : State) (l : BltList) (blend : Bool) (b : List Byte) (clips : List Rect) (n : Nat) (f d : Surface) (r : Rect) (from' : Nat × Nat → Nat × Nat) (px : List (Nat × Nat)), Running s ∧ SoundMemory u ∧ u.get F.ERR_INJECT_ARM = 0 ∧ s.cmp.list = some l ∧ l.waiting = none ∧ s.cmp.copies = [] ∧ nextCmd s l = (u, .cmd (if blend then 3 else 2) b clips n) ∧ surfaceOf b 0 = some f ∧ surfaceOf b 32 = some d ∧ r = rectOf b 56 ∧ leAt b 28 4 = 0 ∧ ((blend = true → f.format = 2)) ∧ extentSecure u (f.extent ⟨leAt b 24 2, leAt b 26 2, r.w, r.h⟩) = false ∧ extentSecure u (d.extent r) = false ∧ overlapBad f d (f.extent ⟨leAt b 24 2, leAt b 26 2, r.w, r.h⟩) (d.extent r) = false ∧ from' = (fun p => (p.1 - r.x + leAt b 24 2, p.2 - r.y + leAt b 26 2)) ∧ px = (destPixels d r clips).filter (fun p => f.has (from' p).1 (from' p).2) ∧ pixelsBad u f (px.map from') = false ∧ ((blend = true → pixelsBad u d px = false)) ∧ (∀ p ∈ px, dramBehind u (d.px p.1 p.2) (pixelBytes d.format) = true)) :=
  ⟨⟨(fun s => { s with cmp := Cmp.reset }) (listWith none [] []), runAt 3601 7 0x33 .listing [], by decide +kernel⟩,
    ⟨listWith (some (listOf 8 none)) [] [], by decide +kernel⟩,
    ⟨listWith (some { listOf 8 none with offset := 8 }) [] [], (nextCmd (listWith (some { listOf 8 none with offset := 8 }) [] []) { listOf 8 none with offset := 8 }).1, { listOf 8 none with offset := 8 }, by decide +kernel⟩,
    ⟨listWith (some (listOf 8 none)) (leBytes 4 0 ++ leBytes 4 8) [], (nextCmd (listWith (some (listOf 8 none)) (leBytes 4 0 ++ leBytes 4 8) []) (listOf 8 none)).1, listOf 8 none, [], [], 8, by decide +kernel⟩,
    ⟨listWith (some (listOf 56 none)) (leBytes 2 0x0101 ++ leBytes 2 0 ++ leBytes 4 56 ++ surfaceAt 0x10000 ++ leBytes 2 1 ++ leBytes 2 1 ++ leBytes 2 9 ++ leBytes 2 2 ++ [1, 2, 3, 4] ++ leBytes 4 0 ++ leBytes 4 0 ++ leBytes 2 3 ++ leBytes 2 9) [], (nextCmd (listWith (some (listOf 56 none)) (leBytes 2 0x0101 ++ leBytes 2 0 ++ leBytes 4 56 ++ surfaceAt 0x10000 ++ leBytes 2 1 ++ leBytes 2 1 ++ leBytes 2 9 ++ leBytes 2 2 ++ [1, 2, 3, 4] ++ leBytes 4 0 ++ leBytes 4 0 ++ leBytes 2 3 ++ leBytes 2 9) []) (listOf 56 none)).1, listOf 56 none, surfaceAt 0x10000 ++ leBytes 2 1 ++ leBytes 2 1 ++ leBytes 2 9 ++ leBytes 2 2 ++ [1, 2, 3, 4] ++ leBytes 4 0, [1, 2, 3, 4], [⟨0, 0, 3, 9⟩], 56, ⟨0x10000, 64, 2, 4, 4⟩, ⟨1, 1, 9, 2⟩, by decide +kernel⟩,
    ⟨listWith (some (listOf 72 none)) (leBytes 4 2 ++ leBytes 4 72 ++ surfaceAt 0x9000 ++ leBytes 2 0 ++ leBytes 2 0 ++ leBytes 4 0 ++ surfaceAt 0x10000 ++ leBytes 2 1 ++ leBytes 2 1 ++ leBytes 2 2 ++ leBytes 2 2) [], (nextCmd (listWith (some (listOf 72 none)) (leBytes 4 2 ++ leBytes 4 72 ++ surfaceAt 0x9000 ++ leBytes 2 0 ++ leBytes 2 0 ++ leBytes 4 0 ++ surfaceAt 0x10000 ++ leBytes 2 1 ++ leBytes 2 1 ++ leBytes 2 2 ++ leBytes 2 2) []) (listOf 72 none)).1, listOf 72 none, false, surfaceAt 0x9000 ++ leBytes 2 0 ++ leBytes 2 0 ++ leBytes 4 0 ++ surfaceAt 0x10000 ++ leBytes 2 1 ++ leBytes 2 1 ++ leBytes 2 2 ++ leBytes 2 2, [], 72, ⟨0x9000, 64, 2, 4, 4⟩, ⟨0x10000, 64, 2, 4, 4⟩, ⟨1, 1, 2, 2⟩, (fun p => (p.1 - 1 + 0, p.2 - 1 + 0)), [(1, 1), (2, 1), (1, 2), (2, 2)], by exact ⟨by decide +kernel, by decide +kernel, by decide +kernel, by decide +kernel, by decide +kernel, by decide +kernel, by decide +kernel, by decide +kernel, by decide +kernel, by decide +kernel, by decide +kernel, by decide +kernel, by decide +kernel, by decide +kernel, by decide +kernel, rfl, by decide +kernel, by decide +kernel, by decide +kernel, by decide +kernel⟩⟩,
    ⟨listWith (some (listOf 72 none)) (leBytes 4 3 ++ leBytes 4 72 ++ surfaceAt 0x9000 ++ leBytes 2 0 ++ leBytes 2 0 ++ leBytes 4 0 ++ surfaceAt 0x9000 ++ leBytes 2 1 ++ leBytes 2 1 ++ leBytes 2 2 ++ leBytes 2 2) [], (nextCmd (listWith (some (listOf 72 none)) (leBytes 4 3 ++ leBytes 4 72 ++ surfaceAt 0x9000 ++ leBytes 2 0 ++ leBytes 2 0 ++ leBytes 4 0 ++ surfaceAt 0x9000 ++ leBytes 2 1 ++ leBytes 2 1 ++ leBytes 2 2 ++ leBytes 2 2) []) (listOf 72 none)).1, listOf 72 none, true, surfaceAt 0x9000 ++ leBytes 2 0 ++ leBytes 2 0 ++ leBytes 4 0 ++ surfaceAt 0x9000 ++ leBytes 2 1 ++ leBytes 2 1 ++ leBytes 2 2 ++ leBytes 2 2, [], 72, ⟨0x9000, 64, 2, 4, 4⟩, ⟨0x9000, 64, 2, 4, 4⟩, ⟨1, 1, 2, 2⟩, (fun p => (p.1 - 1 + 0, p.2 - 1 + 0)), [(1, 1), (2, 1), (1, 2), (2, 2)], by exact ⟨by decide +kernel, by decide +kernel, by decide +kernel, by decide +kernel, by decide +kernel, by decide +kernel, by decide +kernel, by decide +kernel, by decide +kernel, by decide +kernel, by decide +kernel, by decide +kernel, by decide +kernel, by decide +kernel, by decide +kernel, rfl, by decide +kernel, by decide +kernel, by decide +kernel, by decide +kernel⟩⟩,
    ⟨listWith (some (listOf 72 none)) (leBytes 4 3 ++ leBytes 4 72 ++ surfaceAt 0x9000 ++ leBytes 2 0 ++ leBytes 2 0 ++ leBytes 4 0 ++ surfaceAt 0x10000 ++ leBytes 2 1 ++ leBytes 2 1 ++ leBytes 2 2 ++ leBytes 2 2) [], (nextCmd (listWith (some (listOf 72 none)) (leBytes 4 3 ++ leBytes 4 72 ++ surfaceAt 0x9000 ++ leBytes 2 0 ++ leBytes 2 0 ++ leBytes 4 0 ++ surfaceAt 0x10000 ++ leBytes 2 1 ++ leBytes 2 1 ++ leBytes 2 2 ++ leBytes 2 2) []) (listOf 72 none)).1, listOf 72 none, true, surfaceAt 0x9000 ++ leBytes 2 0 ++ leBytes 2 0 ++ leBytes 4 0 ++ surfaceAt 0x10000 ++ leBytes 2 1 ++ leBytes 2 1 ++ leBytes 2 2 ++ leBytes 2 2, [], 72, ⟨0x9000, 64, 2, 4, 4⟩, ⟨0x10000, 64, 2, 4, 4⟩, ⟨1, 1, 2, 2⟩, (fun p => (p.1 - 1 + 0, p.2 - 1 + 0)), [(1, 1), (2, 1), (1, 2), (2, 2)], by exact ⟨by decide +kernel, by decide +kernel, by decide +kernel, by decide +kernel, by decide +kernel, by decide +kernel, by decide +kernel, by decide +kernel, by decide +kernel, by decide +kernel, by decide +kernel, by decide +kernel, by decide +kernel, by decide +kernel, by decide +kernel, rfl, by decide +kernel, by decide +kernel, by decide +kernel, by decide +kernel⟩⟩⟩

/-- Clauses 1, 2, 3, 4, 5, 6, 7 of `ListsWaitSignalAndStop`: hypotheses met together. -/
theorem witness_ListsWaitSignalAndStop :
    (∃ (s u : State) (l : BltList) (b : List Byte) (clips : List Rect) (n : Nat), Running s ∧ s.cmp.list = some l ∧ l.waiting = none ∧ s.cmp.copies = [] ∧ nextCmd s l = (u, .cmd 0x10 b clips n) ∧ leAt b 0 1 ≤ 11 ∧ leAt b 1 1 = 0 ∧ leAt b 2 2 ≤ 539 ∧ leAt b 4 4 = 0) ∧
    (∃ (s u : State) (l : BltList) (b : List Byte) (clips : List Rect) (n : Nat), Running s ∧ s.cmp.list = some l ∧ l.waiting = none ∧ s.cmp.copies = [] ∧ nextCmd s l = (u, .cmd 0x11 b clips n) ∧ leAt b 1 7 = 0) ∧
    (∃ (s u : State) (l : BltList) (b : List Byte) (clips : List Rect) (n : Nat), Running s ∧ s.cmp.list = some l ∧ l.waiting = none ∧ s.cmp.copies = [] ∧ nextCmd s l = (u, .cmd 0x12 b clips n) ∧ leAt b 2 6 = 0) ∧
    (∃ (s u : State) (l : BltList) (c : Instr) (code : Nat), Running s ∧ s.cmp.list = some l ∧ l.waiting = none ∧ s.cmp.copies = [] ∧ nextCmd s l = (u, .bad code) ∧ code < 8 ∧ c ∈ [Instr.bltEnd, .bltFill, .bltCopy, .bltBlend, .bltWaitLine, .bltFence, .bltIrq]) ∧
    (∃ (s : State) (l : BltList) (w : Nat × Nat × Nat), Running s ∧ s.cmp.list = some l ∧ l.waiting = some w) ∧
    (∃ (s : State), Running s ∧ ((∀ l, s.cmp.list = some l → l.waiting = none))) ∧
    (∃ (s : State) (c : Instr), Running s ∧ c ∈ [Instr.bltEnd, .bltFill, .bltCopy, .bltBlend, .bltWaitLine, .bltFence, .bltIrq] ∧ ((s.cmp.list = none ∨ s.cmp.copies ≠ [] ∨ ∃ l w, s.cmp.list = some l ∧ l.waiting = some w))) ∧
    (∃ (s : State) (c : Instr), Running s ∧ c ∈ [Instr.bltEnd, .bltFill, .bltCopy, .bltBlend, .bltWaitLine, .bltFence, .bltIrq] ∧ ((s.cmp.list = none ∨ s.cmp.copies ≠ [] ∨ ∃ l w, s.cmp.list = some l ∧ l.waiting = some w))) :=
  ⟨⟨listWith (some (listOf 16 none)) (leBytes 4 0x10 ++ leBytes 4 16 ++ [11, 0, 0x1B, 2, 0, 0, 0, 0]) [], (nextCmd (listWith (some (listOf 16 none)) (leBytes 4 0x10 ++ leBytes 4 16 ++ [11, 0, 0x1B, 2, 0, 0, 0, 0]) []) (listOf 16 none)).1, listOf 16 none, [11, 0, 0x1B, 2, 0, 0, 0, 0], [], 16, by decide +kernel⟩,
    ⟨listWith (some (listOf 24 none)) (leBytes 4 0x11 ++ leBytes 4 24 ++ [255, 0, 0, 0, 0, 0, 0, 0] ++ leBytes 8 99) [(F.LAY_FENCE_VALUE 255, 98)], (nextCmd (listWith (some (listOf 24 none)) (leBytes 4 0x11 ++ leBytes 4 24 ++ [255, 0, 0, 0, 0, 0, 0, 0] ++ leBytes 8 99) [(F.LAY_FENCE_VALUE 255, 98)]) (listOf 24 none)).1, listOf 24 none, [255, 0, 0, 0, 0, 0, 0, 0] ++ leBytes 8 99, [], 24, by decide +kernel⟩,
    ⟨listWith (some (listOf 16 none)) (leBytes 4 0x12 ++ leBytes 4 16 ++ [11, 3, 0, 0, 0, 0, 0, 0]) [], (nextCmd (listWith (some (listOf 16 none)) (leBytes 4 0x12 ++ leBytes 4 16 ++ [11, 3, 0, 0, 0, 0, 0, 0]) []) (listOf 16 none)).1, listOf 16 none, [11, 3, 0, 0, 0, 0, 0, 0], [], 16, by decide +kernel⟩,
    ⟨listWith (some (listOf 16 none)) (leBytes 4 0x55 ++ leBytes 4 16) [], (nextCmd (listWith (some (listOf 16 none)) (leBytes 4 0x55 ++ leBytes 4 16) []) (listOf 16 none)).1, listOf 16 none, .bltFill, 1, by decide +kernel⟩,
    ⟨listWith (some (listOf 16 (some (3, 5, 16)))) [] [], listOf 16 (some (3, 5, 16)), (3, 5, 16), by decide +kernel⟩,
    ⟨upWith [], by decide +kernel⟩,
    ⟨upWith [], .bltIrq, by exact ⟨by decide +kernel, by decide +kernel, Or.inl (by decide +kernel)⟩⟩,
    ⟨listWith (some (listOf 16 (some (3, 5, 16)))) [] [], .bltEnd, by exact ⟨by decide +kernel, by decide +kernel, Or.inr (Or.inr ⟨_, _, rfl, rfl⟩)⟩⟩⟩

end W19

namespace W20

/-- A panel in a state, its ports ready. -/
def panelWith (p : Pnl) (l : List (Field × Nat)) : State := { upWith ((List.range 12).map (fun b => (F.PNL_PORT_STATE_STATE b, 4)) ++ l) with pnl := p }

/-- A chunk of zeros, with its check. -/
def chunk : List Byte := List.replicate 4096 0 ++ leBytes 4 (crc32c (List.replicate 4096 0))

/-- Clauses 1, 2, 3, 4, 5, 6, 7, 8, 9, 10, 11 of `PanelDriversAnswer`: hypotheses met together. -/
theorem witness_PanelDriversAnswer_a :
    (∃ (s : State) (b line segments : Nat) (mismatch : Bool), (Running s ∧ b < 12 ∧ s.get (F.SER_SUB_CFG_AUTO b) = 0) ∧ ((∃ l, l < 12 ∧ hasBit segments l = true))) ∧
    (∃ (s : State) (b seq code : Nat) (c : Ctrl), Running s ∧ b < 12 ∧ ctrlOf s b seq = some c ∧ c.typ = 0x10 ∧ code ≠ 2 ∧ s.pnl.step = 0) ∧
    (∃ (s : State) (b seq code : Nat) (c : Ctrl), Running s ∧ b < 12 ∧ ctrlOf s b seq = some c ∧ c.typ = 0x10 ∧ code ≠ 2 ∧ s.pnl.step = 0) ∧
    (∃ (s : State) (b seq : Nat) (c d : Ctrl) (i : Instr), Running s ∧ b < 12 ∧ ctrlOf s b seq = some c ∧ c.tries < 3 ∧ s.pnl.step = 0 ∧ (i = .ctrlAnswerTimeout b seq ∨ (i = .folovAck b seq 2 ∧ (c.typ = 0x10 ∨ c.typ = 0x13))) ∧ d = { c with tries := c.tries + 1 }) ∧
    (∃ (s : State) (b seq : Nat) (c d : Ctrl) (i : Instr), Running s ∧ b < 12 ∧ ctrlOf s b seq = some c ∧ c.tries < 3 ∧ s.pnl.step = 0 ∧ (i = .ctrlAnswerTimeout b seq ∨ (i = .folovAck b seq 2 ∧ (c.typ = 0x10 ∨ c.typ = 0x13))) ∧ d = { c with tries := c.tries + 1 }) ∧
    (∃ (s : State) (b seq : Nat) (c : Ctrl), (Running s ∧ b < 12 ∧ ctrlOf s b seq = some c ∧ 3 ≤ c.tries ∧ s.pnl.step = 0 ∧ s.get (F.PNL_PORT_STATE_STATE b) ≠ 5 ∧ s.rsy.lots = []) ∧ (s.get (F.PNL_DRV_CMD_BUSY b) = 1)) ∧
    (∃ (s : State) (b seq : Nat) (i : Instr), Running s ∧ b < 12 ∧ ctrlOf s b seq = none ∧ (∃ code value bytes, i ∈ [Instr.folovAck b seq code, .regData b seq value, .modelData b seq bytes, .ctrlAnswerTimeout b seq])) ∧
    (∃ (s : State) (b seq value : Nat) (c : Ctrl), Running s ∧ b < 12 ∧ ctrlOf s b seq = some c ∧ c.typ = 0x11 ∧ value < 2 ^ 32) ∧
    (∃ (s : State) (b seq : Nat) (c : Ctrl) (bytes : List Byte), Running s ∧ b < 12 ∧ ctrlOf s b seq = some c ∧ c.typ = 0x12 ∧ c.arg / 2 ^ 32 = 256 ∧ s.pnl.step = 12 ∧ (∃ x ∈ s.pnl.ctrl.erase c, x.typ = 0x12)) ∧
    (∃ (s : State) (b seq off : Nat) (c : Ctrl) (bytes : List Byte), Running s ∧ b < 12 ∧ ctrlOf s b seq = some c ∧ c.typ = 0x12 ∧ c.arg = off + 4096 * 2 ^ 32 ∧ off < 2 ^ 32 ∧ s.pnl.step = 13 ∧ (∃ x ∈ s.pnl.ctrl.erase c, x.typ = 0x12) ∧ (∀ e ∈ s.pnl.toRead, e.1 ≠ b) ∧ bytes.length = 4100 ∧ leAt bytes 4096 4 = crc32c (bytes.take 4096) ∧ leAt s.pnl.model 0x60 4 ≤ off ∧ off < leAt s.pnl.model 0x60 4 + 1990656) ∧
    (∃ (s : State) (b seq off q : Nat) (c : Ctrl) (bytes : List Byte), Running s ∧ b < 12 ∧ ctrlOf s b seq = some c ∧ c.typ = 0x12 ∧ c.arg = off + 4096 * 2 ^ 32 ∧ off < 2 ^ 32 ∧ s.pnl.step = 13 ∧ (∀ e ∈ s.pnl.toRead, e.1 ≠ b) ∧ bytes.length = 4100 ∧ leAt bytes 4096 4 ≠ crc32c (bytes.take 4096) ∧ ((s.pnl.ctrl.erase c).filter (fun x => decide (x.port = b) && decide (x.typ = 0x12))).length < 4 ∧ mapVal s.pnl.failed (b * 2 ^ 32 + off) < 3 ∧ q = nextSeqNo (mapVal s.pnl.seqs b)) ∧
    (∃ (s : State) (b code : Nat), Running s ∧ b < 12 ∧ code < 2 ^ 8 ∧ code ≠ 3) ∧
    (∃ (s : State) (b code : Nat), (Running s ∧ b < 12 ∧ code < 2 ^ 8 ∧ code ≠ 3) ∧ ((code = 1 ∨ code = 2 ∨ code = 4))) ∧
    (∃ (s : State) (b : Nat), Running s ∧ b < 12 ∧ (s.pnl.step ≠ 24 ∨ s.pnl.discharging.erase b ≠ [])) :=
  ⟨⟨panelWith Pnl.reset [(F.SER_SUB_CFG_AUTO 11, 0)], 11, 539, 0x805, true, by decide +kernel, by decide +kernel⟩,
    ⟨panelWith { Pnl.reset with ctrl := [⟨11, 5, 0x10, 9, 0⟩] } [(F.PNL_DRV_CMD_BUSY 11, 1)], 11, 5, 0, ⟨11, 5, 0x10, 9, 0⟩, by decide +kernel⟩,
    ⟨panelWith { Pnl.reset with ctrl := [⟨11, 5, 0x10, 9, 0⟩] } [(F.PNL_DRV_CMD_BUSY 11, 1)], 11, 5, 1, ⟨11, 5, 0x10, 9, 0⟩, by decide +kernel⟩,
    ⟨panelWith { Pnl.reset with ctrl := [⟨11, 5, 0x11, 9, 2⟩] } [], 11, 5, ⟨11, 5, 0x11, 9, 2⟩, ⟨11, 5, 0x11, 9, 3⟩, .ctrlAnswerTimeout 11 5, by decide +kernel⟩,
    ⟨panelWith { Pnl.reset with ctrl := [⟨11, 5, 0x10, 9, 2⟩] } [], 11, 5, ⟨11, 5, 0x10, 9, 2⟩, ⟨11, 5, 0x10, 9, 3⟩, .folovAck 11 5 2, by decide +kernel⟩,
    ⟨panelWith { Pnl.reset with ctrl := [⟨11, 5, 0x11, 9, 3⟩] } [(F.PNL_DRV_CMD_BUSY 11, 1)], 11, 5, ⟨11, 5, 0x11, 9, 3⟩, by decide +kernel, by decide +kernel⟩,
    ⟨panelWith Pnl.reset [], 11, 5, .modelData 11 5 [1], by exact ⟨by decide +kernel, by decide +kernel, by decide +kernel, ⟨0, 0, [1], by decide +kernel⟩⟩⟩,
    ⟨panelWith { Pnl.reset with ctrl := [⟨11, 5, 0x11, 9, 3⟩] } [(F.PNL_DRV_CMD_BUSY 11, 1)], 11, 5, 0xFFFFFFFF, ⟨11, 5, 0x11, 9, 3⟩, by decide +kernel⟩,
    ⟨panelWith { Pnl.reset with step := 12, ctrl := [⟨11, 5, 0x12, 256 * 2 ^ 32, 0⟩, ⟨10, 5, 0x12, 256 * 2 ^ 32, 0⟩] } [], 11, 5, ⟨11, 5, 0x12, 256 * 2 ^ 32, 0⟩, List.replicate 256 1, by decide +kernel⟩,
    ⟨panelWith { Pnl.reset with step := 13, ctrl := [⟨11, 5, 0x12, 4096 * 2 ^ 32, 0⟩, ⟨10, 5, 0x12, 256 * 2 ^ 32, 0⟩] } [], 11, 5, 0, ⟨11, 5, 0x12, 4096 * 2 ^ 32, 0⟩, chunk, by decide +kernel⟩,
    ⟨panelWith { Pnl.reset with step := 13, ctrl := [⟨11, 5, 0x12, 4096 * 2 ^ 32, 0⟩, ⟨10, 5, 0x12, 256 * 2 ^ 32, 0⟩], failed := [(11 * 2 ^ 32, 2)] } [], 11, 5, 0, 1, ⟨11, 5, 0x12, 4096 * 2 ^ 32, 0⟩, List.replicate 4100 1, by decide +kernel⟩,
    ⟨panelWith Pnl.reset [], 11, 255, by decide +kernel⟩,
    ⟨panelWith Pnl.reset [], 11, 4, by decide +kernel, by decide +kernel⟩,
    ⟨panelWith { Pnl.reset with step := 24, discharging := [11, 10] } [], 11, by decide +kernel⟩⟩

/-- Clauses 12, 13 of `PanelDriversAnswer`: hypotheses met together. -/
theorem witness_PanelDriversAnswer_b :
    (∃ (s : State) (m : Master) (b addr q op arg : Nat) (i : Instr), Running s ∧ b < 12 ∧ MayWrite s m (0x0D0 + b) ∧ addr < 2 ^ 16 ∧ ((addr < 0x8000 ∨ m.ozzizo = true)) ∧ s.get (F.PNL_DRV_CMD_BUSY b) = 0 ∧ portReady s b = true ∧ q = nextSeqNo (mapVal s.pnl.seqs b) ∧ (((i = .drvRegRead m b addr ∧ op = 0x11 ∧ arg = addr) ∨ (i = .drvRegWrite m b addr ∧ op = 0x10 ∧ arg = addr + s.get (F.PNL_DRV_DATA_DATA b) * 65536)))) ∧
    (∃ (s : State) (m : Master) (b addr q op arg : Nat) (i : Instr), Running s ∧ b < 12 ∧ MayWrite s m (0x0D0 + b) ∧ addr < 2 ^ 16 ∧ ((addr < 0x8000 ∨ m.ozzizo = true)) ∧ s.get (F.PNL_DRV_CMD_BUSY b) = 0 ∧ portReady s b = true ∧ q = nextSeqNo (mapVal s.pnl.seqs b) ∧ (((i = .drvRegRead m b addr ∧ op = 0x11 ∧ arg = addr) ∨ (i = .drvRegWrite m b addr ∧ op = 0x10 ∧ arg = addr + s.get (F.PNL_DRV_DATA_DATA b) * 65536)))) ∧
    (∃ (s : State) (m : Master) (b addr : Nat) (i : Instr), Running s ∧ b < 12 ∧ MayWrite s m (0x0D0 + b) ∧ addr < 2 ^ 16 ∧ (i = .drvRegRead m b addr ∨ i = .drvRegWrite m b addr) ∧ s.get (F.PNL_DRV_CMD_BUSY b) = 0 ∧ ((0x8000 ≤ addr ∧ m.ozzizo = false) ∨ portReady s b = false)) ∧
    (∃ (s : State) (m : Master) (b addr : Nat) (i : Instr), Running s ∧ b < 12 ∧ MayWrite s m (0x0D0 + b) ∧ addr < 2 ^ 16 ∧ (i = .drvRegRead m b addr ∨ i = .drvRegWrite m b addr) ∧ s.get (F.PNL_DRV_CMD_BUSY b) = 0 ∧ ((0x8000 ≤ addr ∧ m.ozzizo = false) ∨ portReady s b = false)) :=
  ⟨⟨panelWith Pnl.reset [(F.PNL_DRV_DATA_DATA 11, 77), (F.PAGE_OWNER_OWNER 0x0DB, 0)], .mp 0, 11, 0xFFFF, nextSeqNo 0, 0x10, 0xFFFF + 77 * 65536, .drvRegWrite (.mp 0) 11 0xFFFF, by decide +kernel⟩,
    ⟨panelWith Pnl.reset [(F.PNL_DRV_DATA_DATA 11, 77)], .mp 0, 11, 0, nextSeqNo 0, 0x11, 0, .drvRegRead (.mp 0) 11 0, by decide +kernel⟩,
    ⟨panelWith Pnl.reset [(F.PNL_PORT_STATE_STATE 11, 5)], .mp 0, 11, 0, .drvRegRead (.mp 0) 11 0, by decide +kernel⟩,
    ⟨panelWith Pnl.reset [(F.PAGE_OWNER_OWNER 0x0DB, 1), (F.PAGE_SEC_WORLD 0x0DB, 1)], .pcie, 11, 0x8000, .drvRegRead .pcie 11 0x8000, by decide +kernel⟩⟩

/-- Clauses 1, 2, 3, 4, 5, 6, 7, 8, 9, 10, 11 of `OverdriveTablesAndPanelReadings`: hypotheses met together. -/
theorem witness_OverdriveTablesAndPanelReadings :
    (∃ (s : State) (m : Master) (data : Nat), Running s ∧ MayWrite s m 0x0DE ∧ s.get F.OVD_TABLE_LOAD_BUSY = 0 ∧ s.get F.OVD_TABLE_SWAP_PENDING = 0 ∧ s.get F.OVD_TABLE_SWAP_ACTIVE ≠ data % 2) ∧
    (∃ (s : State) (m : Master) (data : Nat), Running s ∧ MayWrite s m 0x0DE ∧ s.get F.OVD_TABLE_LOAD_BUSY = 0 ∧ ((s.get F.OVD_TABLE_SWAP_PENDING = 1 ∨ s.get F.OVD_TABLE_SWAP_ACTIVE = data % 2))) ∧
    (∃ (s : State) (m : Master) (data : Nat), Running s ∧ MayWrite s m 0x0DE ∧ s.get F.OVD_TABLE_LOAD_BUSY = 1) ∧
    (∃ (s : State) (bank addr : Nat), (Running s ∧ s.pnl.load = some (bank, addr) ∧ dramBehind s addr 52272 = true ∧ (∀ w ∈ wordsOf addr 52272, w ∉ s.mem.badDram ∧ w ∉ s.mem.poisonDram ∧ w ∉ s.mem.weakDram)) ∧ (lutWordsOk (dramRead s addr 52272) = true)) ∧
    (∃ (s : State) (bank addr : Nat), (Running s ∧ s.pnl.load = some (bank, addr) ∧ dramBehind s addr 52272 = true ∧ (∀ w ∈ wordsOf addr 52272, w ∉ s.mem.badDram ∧ w ∉ s.mem.poisonDram ∧ w ∉ s.mem.weakDram)) ∧ (lutWordsOk (dramRead s addr 52272) = false)) ∧
    (∃ (s : State), Running s ∧ s.pnl.load = none) ∧
    (∃ (s : State) (m : Master) (data : Nat), Running s ∧ MayWrite s m 0x0DE ∧ data < 2 ^ 32 ∧ ((m.host = true → s.get F.CAL_APPLY_PENDING = 0)) ∧ s.get F.OVD_TABLE_SWAP_PENDING = 0) ∧
    (∃ (s : State) (m : Master) (data : Nat), Running s ∧ MayWrite s m 0x0DE ∧ data < 2 ^ 32 ∧ ((m.host = true → s.get F.CAL_APPLY_PENDING = 0)) ∧ s.get F.OVD_TABLE_SWAP_PENDING = 1) ∧
    (∃ (s : State) (m : Master) (data : Nat), Running s ∧ MayWrite s m 0x0DD ∧ data < 2 ^ 32) ∧
    (∃ (s : State) (m : Master) (data : Nat), Running s ∧ MayWrite s m 0x0DC) ∧
    (∃ (s : State) (b sensor : Nat) (temp : Int), Running s ∧ b < 12 ∧ sensor < s.get (F.PNL_PORT_STATE_SENSORS b) ∧ sensor < 2 ∧ -880 ≤ temp ∧ temp ≤ 2400 ∧ s.get (F.THM_SENSOR_STATE (48 + 2 * b + sensor)) = 0 ∧ (usable s s [] (48 + 2 * b + sensor)).length < 2) ∧
    (∃ (s : State) (b sensor : Nat) (temp : Int), Running s ∧ b < 12 ∧ sensor < s.get (F.PNL_PORT_STATE_SENSORS b) ∧ sensor < 2 ∧ -880 ≤ temp ∧ temp ≤ 2400 ∧ s.get (F.THM_SENSOR_STATE (48 + 2 * b + sensor)) = 0 ∧ (usable s s [] (48 + 2 * b + sensor)).length < 2) ∧
    (∃ (s : State) (b sensor : Nat) (temp : Int), Running s ∧ b < 12 ∧ (s.get (F.PNL_PORT_STATE_SENSORS b) ≤ sensor ∨ 2 ≤ sensor)) :=
  ⟨⟨upWith [], .mp 0, 1, by decide +kernel⟩,
    ⟨upWith [], .mp 0, 0, by decide +kernel⟩,
    ⟨upWith [(F.OVD_TABLE_LOAD_BUSY, 1)], .mp 0, 0, by decide +kernel⟩,
    ⟨{ dramWith [] with pnl := { Pnl.reset with load := some (1, 0x4000) } }, 1, 0x4000, by exact ⟨by decide +kernel, by decide +kernel, by decide +kernel, fun w _ => ⟨List.not_mem_nil, List.not_mem_nil, List.not_mem_nil⟩⟩, (congrArg lutWordsOk (memRead_nil 0x4000 52272)).trans (lutWordsOk_zeros 26136)⟩,
    ⟨{ dramWith [] with pnl := { Pnl.reset with load := some (1, 0x4000) }, mem := { State.reset.mem with dram := memWrite [] 0x4000 [255, 255, 255, 255] } }, 1, 0x4000, by exact ⟨by decide +kernel, by decide +kernel, by decide +kernel, fun w _ => ⟨List.not_mem_nil, List.not_mem_nil, List.not_mem_nil⟩⟩, lutWordsOk_first _ 0x4000 52270 (by decide +kernel)⟩,
    ⟨upWith [], by decide +kernel⟩,
    ⟨upWith [], .mp 0, 1, by decide +kernel⟩,
    ⟨upWith [(F.OVD_TABLE_SWAP_PENDING, 1)], .mp 0, 1, by decide +kernel⟩,
    ⟨upWith [], .mp 0, 3, by decide +kernel⟩,
    ⟨upWith [], .mp 0, 3, by decide +kernel⟩,
    ⟨panelWith Pnl.reset [(F.PNL_PORT_STATE_SENSORS 11, 2), (F.THM_SENSOR_STATE 71, 0)], 11, 1, -880, by decide +kernel⟩,
    ⟨panelWith Pnl.reset [(F.PNL_PORT_STATE_SENSORS 0, 1), (F.THM_SENSOR_STATE 48, 0)], 0, 0, 2400, by decide +kernel⟩,
    ⟨panelWith Pnl.reset [(F.PNL_PORT_STATE_SENSORS 0, 1)], 0, 1, 2400, by decide +kernel⟩⟩

/-- Clauses 1, 2, 3, 4 of `ThePanelIsPutToRest`: hypotheses met together. -/
theorem witness_ThePanelIsPutToRest :
    (∃ (s : State) (m : Master) (data : Nat), Running s ∧ MayWrite s m 0x0DC ∧ data < 2 ^ 32 ∧ s.isMember = false ∧ s.pnl.step < 20 ∧ s.cal.pass = none ∧ s.rsy.lots = [] ∧ ((∀ g, g < 12 → s.get (F.SER_GROUP_STATE_STATE g) ≠ 7)) ∧ (∃ p ∈ s.drum.plans, p.started = true ∧ p.closed = false)) ∧
    (∃ (s : State) (m : Master) (data : Nat), Running s ∧ MayWrite s m 0x0DC ∧ data < 2 ^ 32 ∧ 20 ≤ s.pnl.step) ∧
    (∃ (s : State), Running s ∧ s.pnl.step = 24 ∧ s.power.off = .warning ∧ s.power.waiting = none) ∧
    (∃ (s : State), Running s ∧ s.pnl.step ≠ 24) :=
  ⟨⟨{ upWith [] with drum := { Drum.reset with plans := [{ planAt 0 with started := true }, planAt 1, { planAt 2 with closed := true, strobe := 1 }] } }, .mp 0, 1, by decide +kernel⟩,
    ⟨panelWith { Pnl.reset with step := 20 } [], .mp 0, 1, by decide +kernel⟩,
    ⟨{ panelWith { Pnl.reset with step := 24, discharging := [3, 4] } [] with power := { Power.reset with off := .warning } }, by decide +kernel⟩,
    ⟨upWith [], by decide +kernel⟩⟩

end W20

namespace W21

/-- Clauses 1, 2, 3, 4, 5, 6, 7, 8, 9, 10 of `GroupsTrain`: hypotheses met together. -/
theorem witness_GroupsTrain_a :
    (∃ (s : State) (m : Master) (g data : Nat), Running s ∧ g < 12 ∧ MayWrite s m (0x0F0 + g) ∧ data < 2 ^ 32 ∧ hasBit data 1 = false ∧ hasBit data 2 = false ∧ s.get (F.SER_LOOP_MODE g) = 0 ∧ s.get (F.SER_GROUP_STATE_STATE g) = 0 ∧ s.get (F.PNL_PORT_STATE_STATE g) = 0 ∧ s.get (F.SER_EYE_CTRL_BUSY g) = 0) ∧
    (∃ (s : State) (m : Master) (g data : Nat), Running s ∧ g < 12 ∧ MayWrite s m (0x0F0 + g) ∧ data < 2 ^ 32 ∧ hasBit data 0 = true ∧ hasBit data 2 = false ∧ s.get (F.SER_LOOP_MODE g) = 0 ∧ s.get (F.SER_CTRL_ENABLE g) = 1 ∧ s.get (F.SER_GROUP_STATE_STATE g) ≠ 0 ∧ s.rsy.lots = []) ∧
    (∃ (s : State) (m : Master) (g data : Nat), Running s ∧ g < 12 ∧ MayWrite s m (0x0F0 + g) ∧ data < 2 ^ 32 ∧ hasBit data 0 = true ∧ hasBit data 2 = false ∧ s.get (F.SER_LOOP_MODE g) = 0 ∧ s.get (F.SER_CTRL_ENABLE g) = 1 ∧ s.get (F.SER_GROUP_STATE_STATE g) ≠ 0 ∧ s.rsy.lots = []) ∧
    (∃ (s : State) (m : Master) (g data : Nat), Running s ∧ g < 16 ∧ MayWrite s m (0x0F0 + g) ∧ data < 2 ^ 32 ∧ hasBit data 0 = false ∧ hasBit data 2 = false ∧ s.get (F.SER_CTRL_ENABLE g) = 0) ∧
    (∃ (s : State) (m : Master) (g data lane : Nat), Running s ∧ g < 16 ∧ MayWrite s m (0x0F0 + g) ∧ data < 2 ^ 32 ∧ hasBit data 0 = true ∧ hasBit data 1 = false ∧ s.get (F.SER_LOOP_MODE g) = 0 ∧ s.get (F.SER_CTRL_ENABLE g) = 1 ∧ s.get (F.SER_GROUP_STATE_STATE g) ≠ 0 ∧ lane = data / 2 ^ 8 % 32 ∧ lane < txLanes g ∧ s.get (F.SER_LANE_FAILED g lane) = 1 ∧ s.get (F.SER_GROUP_STATE_SPARE g) = 2) ∧
    (∃ (s : State) (m : Master) (g data : Nat), Running s ∧ g < 16 ∧ MayWrite s m (0x0F0 + g) ∧ data < 2 ^ 32 ∧ hasBit data 0 = true ∧ hasBit data 1 = false ∧ s.get (F.SER_LOOP_MODE g) = 0 ∧ s.get (F.SER_CTRL_ENABLE g) = 1 ∧ s.get (F.SER_GROUP_STATE_STATE g) ≠ 0) ∧
    (∃ (s : State) (g st : Nat) (set : Ts) (seen : TsSeen), Running s ∧ g < 16 ∧ s.get (F.SER_GROUP_STATE_STATE g) = st ∧ st = 1 ∧ (s.laneGroup g).peerLoop = 0 ∧ seen.complete = true ∧ st ≤ set.stage) ∧
    (∃ (s : State) (g : Nat) (set : Ts) (seen : TsSeen), (Running s ∧ g < 16 ∧ s.get (F.SER_GROUP_STATE_STATE g) = 3 ∧ (s.laneGroup g).peerLoop = 0 ∧ seen.complete = false ∧ (s.laneGroup g).ownDone = false ∧ set.toggle ≠ (s.laneGroup g).toggleSeen ∧ set.reqLane < txLanes g) ∧ (hasBit set.request 4 = false ∧ set.request % 4 = 1 ∧ s.get (F.SER_LANE_C_PRE g set.reqLane) < 15 ∧ s.get (F.SER_LANE_C_PRE g set.reqLane) + s.get (F.SER_LANE_C_POST g set.reqLane) < 31) ∧ (hasBit set.request 4 = false ∧ set.request / 4 % 4 = 2)) ∧
    (∃ (s : State) (g : Nat) (set : Ts) (seen : TsSeen), (Running s ∧ g < 16 ∧ s.get (F.SER_GROUP_STATE_STATE g) = 3 ∧ (s.laneGroup g).peerLoop = 0 ∧ seen.complete = false ∧ (s.laneGroup g).ownDone = false ∧ set.toggle ≠ (s.laneGroup g).toggleSeen ∧ set.reqLane < txLanes g) ∧ (hasBit set.request 4 = true)) ∧
    (∃ (s : State) (g : Nat) (set : Ts) (seen : TsSeen), Running s ∧ g < 12 ∧ s.get (F.SER_GROUP_STATE_STATE g) = 5 ∧ (s.laneGroup g).peerLoop = 0 ∧ seen.complete = true ∧ 5 ≤ set.stage ∧ s.get (F.SER_LOOP_MODE g) = 0 ∧ ((20 ≤ s.pnl.step ∨ (s.pnl.step < 11 ∧ s.get F.PNL_SEQ_STATE_STATE ≠ 2)))) ∧
    (∃ (s : State) (g : Nat) (set : Ts) (seen : TsSeen), Running s ∧ g < 12 ∧ s.get (F.SER_GROUP_STATE_STATE g) = 5 ∧ (s.laneGroup g).peerLoop = 0 ∧ seen.complete = true ∧ 5 ≤ set.stage ∧ s.get (F.SER_LOOP_MODE g) = 0 ∧ ((20 ≤ s.pnl.step ∨ (s.pnl.step < 11 ∧ s.get F.PNL_SEQ_STATE_STATE ≠ 2)))) ∧
    (∃ (s : State) (g : Nat) (set : Ts) (seen : TsSeen), Running s ∧ g < 16 ∧ (s.laneGroup g).peerLoop = 0 ∧ (s.get (F.SER_GROUP_STATE_STATE g) = 0 ∨ 7 ≤ s.get (F.SER_GROUP_STATE_STATE g))) ∧
    (∃ (s : State) (g : Nat) (set : Ts) (seen : TsSeen), Running s ∧ g < 16 ∧ (s.laneGroup g).peerLoop = 0 ∧ (s.get (F.SER_GROUP_STATE_STATE g) = 0 ∨ 7 ≤ s.get (F.SER_GROUP_STATE_STATE g))) ∧
    (∃ (s : State) (g n : Nat), Running s ∧ g < 16 ∧ 1 ≤ s.get (F.SER_GROUP_STATE_STATE g) ∧ s.get (F.SER_GROUP_STATE_STATE g) ≤ 5 ∧ s.get (F.SER_GROUP_STATE_ATTEMPT g) = n ∧ n < 3) :=
  ⟨⟨upWith [], .mp 0, 3, 1, by decide +kernel⟩,
    ⟨upWith [(F.SER_CTRL_ENABLE 3, 1), (F.SER_GROUP_STATE_STATE 3, 6), (F.PNL_PORT_STATE_STATE 3, 4)], .mp 0, 3, 3, by decide +kernel⟩,
    ⟨upWith [(F.SER_CTRL_ENABLE 3, 1), (F.SER_GROUP_STATE_STATE 3, 8), (F.PNL_PORT_STATE_STATE 3, 6)], .mp 0, 3, 3, by decide +kernel⟩,
    ⟨upWith [], .mp 0, 13, 2, by decide +kernel⟩,
    ⟨upWith [(F.SER_CTRL_ENABLE 3, 1), (F.SER_GROUP_STATE_STATE 3, 6), (F.SER_LANE_FAILED 3 4, 1), (F.SER_GROUP_STATE_SPARE 3, 2), (F.SER_GROUP_STATE_SPARE_FOR 3, 4), (F.SER_TX_MAP_MAP 3, 0x4000000000000 + 0xBA98765C3210 )], .mp 0, 3, 0x405, 4, by decide +kernel⟩,
    ⟨upWith [(F.SER_CTRL_ENABLE 3, 1), (F.SER_GROUP_STATE_STATE 3, 6)], .mp 0, 3, 0x405, by decide +kernel⟩,
    ⟨upWith [(F.SER_GROUP_STATE_STATE 3, 1)], 3, 1, ⟨0, 0, 2, 0, false, 0, 0, false, 0, 0, 0, 0⟩, ⟨true, 0, 0, 0, none⟩, by decide +kernel⟩,
    ⟨upWith [(F.SER_GROUP_STATE_STATE 3, 3)], 3, ⟨0, 0, 3, 2, true, 9, 0, false, 0, 0, 0, 0⟩, ⟨false, 0, 0, 0, none⟩, by decide +kernel, by decide +kernel, by decide +kernel⟩,
    ⟨upWith [(F.SER_GROUP_STATE_STATE 3, 3), (F.SER_TX_PRESET_C_PRE 3 2, 7)], 3, ⟨0, 0, 3, 2, true, 16, 0, false, 0, 0, 0, 0⟩, ⟨false, 0, 0, 0, none⟩, by decide +kernel, by decide +kernel⟩,
    ⟨upWith [(F.SER_GROUP_STATE_STATE 3, 5), (F.SER_CTRL_TRAIN 3, 1)], 3, ⟨0, 0, 5, 0, false, 0, 0, false, 0, 0, 0, 0⟩, ⟨true, 0, 0, 0, none⟩, by decide +kernel⟩,
    ⟨{ upWith [(F.SER_GROUP_STATE_STATE 3, 5), (F.SER_CTRL_TRAIN 3, 1)] with pnl := { Pnl.reset with step := 20 } }, 3, ⟨0, 0, 5, 0, false, 0, 0, false, 0, 0, 0, 0⟩, ⟨true, 0, 0, 0, none⟩, by decide +kernel⟩,
    ⟨upWith [], 3, ⟨0, 0, 5, 0, false, 0, 0, false, 0, 0, 0, 0⟩, ⟨true, 0, 0, 0, none⟩, by decide +kernel⟩,
    ⟨upWith [(F.SER_GROUP_STATE_STATE 15, 7)], 15, ⟨0, 0, 5, 0, false, 0, 0, false, 0, 0, 0, 0⟩, ⟨true, 0, 0, 0, none⟩, by decide +kernel⟩,
    ⟨upWith [(F.SER_GROUP_STATE_STATE 3, 5), (F.SER_GROUP_STATE_ATTEMPT 3, 2)], 3, 2, by decide +kernel⟩⟩

/-- Clauses 10, 11, 12, 13, 14, 15, 16, 17 of `GroupsTrain`: hypotheses met together. -/
theorem witness_GroupsTrain_b :
    (∃ (s : State) (g n : Nat), Running s ∧ g < 16 ∧ 1 ≤ s.get (F.SER_GROUP_STATE_STATE g) ∧ s.get (F.SER_GROUP_STATE_STATE g) ≤ 5 ∧ s.get (F.SER_GROUP_STATE_ATTEMPT g) = n ∧ n < 3) ∧
    (∃ (s : State) (g st : Nat), Running s ∧ g < 12 ∧ s.get (F.SER_GROUP_STATE_STATE g) = st ∧ 1 ≤ st ∧ st ≤ 5 ∧ s.get (F.SER_GROUP_STATE_ATTEMPT g) = 3 ∧ ((s.get (F.PNL_PORT_STATE_STATE g) = 0 ∨ s.get (F.PNL_PORT_STATE_STATE g) = 6)) ∧ s.pnl.step = 0) ∧
    (∃ (s : State) (g st : Nat), Running s ∧ g < 12 ∧ s.get (F.SER_GROUP_STATE_STATE g) = st ∧ 1 ≤ st ∧ st ≤ 5 ∧ s.get (F.SER_GROUP_STATE_ATTEMPT g) = 3 ∧ ((s.get (F.PNL_PORT_STATE_STATE g) = 0 ∨ s.get (F.PNL_PORT_STATE_STATE g) = 6)) ∧ s.pnl.step = 0) ∧
    (∃ (s : State) (g : Nat), Running s ∧ g < 12 ∧ g < s.ser.length ∧ s.get (F.SER_GROUP_STATE_STATE g) = 6) ∧
    (∃ (s : State) (g l : Nat), Running s ∧ 12 ≤ g ∧ g < 16 ∧ s.get (F.SER_GROUP_STATE_STATE g) = 6 ∧ l < 8 ∧ ((∀ k, k < l → rxLaneOf s g k ≠ rxLaneOf s g l)) ∧ (s.laneGroup g).sub = none ∧ (s.laneGroup g).rxSpareState = 0) ∧
    (∃ (s : State) (g lane : Nat), Running s ∧ g < 16 ∧ s.get (F.SER_GROUP_STATE_STATE g) ≠ 6) ∧
    (∃ (s : State) (g : Nat), Running s ∧ g < 16 ∧ (s.laneGroup g).relocking = true) ∧
    (∃ (s : State) (g : Nat), Running s ∧ g < 12 ∧ (s.laneGroup g).relocking = true ∧ ((s.get (F.PNL_PORT_STATE_STATE g) = 0 ∨ s.get (F.PNL_PORT_STATE_STATE g) = 6)) ∧ s.pnl.step = 0) ∧
    (∃ (s : State) (g : Nat), Running s ∧ g < 16 ∧ (s.laneGroup g).relocking = false) :=
  ⟨⟨upWith [(F.SER_GROUP_STATE_STATE 15, 1), (F.SER_GROUP_STATE_ATTEMPT 15, 1)], 15, 1, by decide +kernel⟩,
    ⟨upWith [(F.SER_GROUP_STATE_STATE 3, 5), (F.SER_GROUP_STATE_ATTEMPT 3, 3), (F.SER_CTRL_TRAIN 3, 1)], 3, 5, by decide +kernel⟩,
    ⟨upWith [(F.SER_GROUP_STATE_STATE 3, 2), (F.SER_GROUP_STATE_ATTEMPT 3, 3), (F.SER_CTRL_TRAIN 3, 1), (F.PNL_PORT_STATE_STATE 3, 6)], 3, 2, by decide +kernel⟩,
    ⟨upWith [(F.SER_GROUP_STATE_STATE 3, 6)], 3, by decide +kernel⟩,
    ⟨upWith [(F.SER_GROUP_STATE_STATE 13, 6), (F.SER_RX_MAP_MAP 13, 0x876543210)], 13, 7, by decide +kernel⟩,
    ⟨upWith [(F.SER_GROUP_STATE_STATE 13, 5)], 13, 16, by decide +kernel⟩,
    ⟨groupWith 13 { LaneGroup.reset with relocking := true } [], 13, by decide +kernel⟩,
    ⟨groupWith 3 { LaneGroup.reset with relocking := true } [], 3, by decide +kernel⟩,
    ⟨upWith [], 15, by decide +kernel⟩⟩

/-- Clauses 1, 2, 3, 4, 5, 6, 7, 8, 9, 10 of `SparesTakeOver`: hypotheses met together. -/
theorem witness_SparesTakeOver :
    (∃ (s : State) (m : Master) (g data l : Nat) (i : Instr), Running s ∧ g < 16 ∧ g < s.ser.length ∧ l < logicalLanes g ∧ (s.laneGroup g).sub = none ∧ s.get (F.SER_GROUP_STATE_STATE g) = 6 ∧ s.get (F.SER_GROUP_STATE_SPARE g) = 0 ∧ ((i = .lmRequest g l ∨ (i = .subCmd m g data ∧ MayWrite s m (0x0F0 + g) ∧ hasBit data 8 = false ∧ data % 16 = l)))) ∧
    (∃ (s : State) (m : Master) (g data l : Nat) (i : Instr), Running s ∧ g < 16 ∧ g < s.ser.length ∧ l < logicalLanes g ∧ (s.laneGroup g).sub = none ∧ s.get (F.SER_GROUP_STATE_STATE g) = 6 ∧ s.get (F.SER_GROUP_STATE_SPARE g) = 0 ∧ ((i = .lmRequest g l ∨ (i = .subCmd m g data ∧ MayWrite s m (0x0F0 + g) ∧ hasBit data 8 = false ∧ data % 16 = l)))) ∧
    (∃ (s : State) (m : Master) (g data : Nat), Running s ∧ g < 16 ∧ MayWrite s m (0x0F0 + g) ∧ hasBit data 8 = false ∧ (((s.laneGroup g).sub ≠ none ∨ s.get (F.SER_GROUP_STATE_STATE g) ≠ 6 ∨ s.get (F.SER_GROUP_STATE_SPARE g) ≠ 0 ∨ logicalLanes g ≤ data % 16))) ∧
    (∃ (s : State) (m : Master) (g data : Nat), Running s ∧ g < 16 ∧ MayWrite s m (0x0F0 + g) ∧ hasBit data 8 = false ∧ (((s.laneGroup g).sub ≠ none ∨ s.get (F.SER_GROUP_STATE_STATE g) ≠ 6 ∨ s.get (F.SER_GROUP_STATE_SPARE g) ≠ 0 ∨ logicalLanes g ≤ data % 16))) ∧
    (∃ (s : State) (g l : Nat), Running s ∧ 12 ≤ g ∧ g < 16 ∧ g < s.ser.length ∧ s.get (F.SER_GROUP_STATE_STATE g) = 6 ∧ (s.laneGroup g).sub = none ∧ (s.laneGroup g).rxSpareState = 0 ∧ l < 8) ∧
    (∃ (s : State) (g l : Nat), Running s ∧ 12 ≤ g ∧ g < 16 ∧ g < s.ser.length ∧ s.get (F.SER_GROUP_STATE_STATE g) = 6 ∧ (s.laneGroup g).sub = none ∧ (s.laneGroup g).rxSpareState = 0 ∧ (s.laneGroup g).rxSpare < 9 ∧ l < 8) ∧
    (∃ (s : State) (g l old sp : Nat), (Running s ∧ g < 16 ∧ g < s.ser.length ∧ (s.laneGroup g).sub = some ⟨true, l⟩ ∧ l < logicalLanes g ∧ old = txLaneOf s g l ∧ sp = txSpare s g ∧ old ≠ sp) ∧ (g < 12)) ∧
    (∃ (s : State) (g l old sp : Nat), Running s ∧ g < 16 ∧ g < s.ser.length ∧ (s.laneGroup g).sub = some ⟨true, l⟩ ∧ l < logicalLanes g ∧ old = txLaneOf s g l ∧ sp = txSpare s g ∧ old ≠ sp) ∧
    (∃ (s : State) (g l old sp : Nat), Running s ∧ g < 16 ∧ g < s.ser.length ∧ (s.laneGroup g).sub = some ⟨false, l⟩ ∧ l < 8 ∧ old = rxLaneOf s g l ∧ sp = (s.laneGroup g).rxSpare ∧ sp < 9 ∧ old < 9 ∧ old ≠ sp) ∧
    (∃ (s : State) (g l : Nat), Running s ∧ g < 16 ∧ g < s.ser.length ∧ (s.laneGroup g).sub = some ⟨true, l⟩) ∧
    (∃ (s : State) (g l : Nat), Running s ∧ g < 16 ∧ g < s.ser.length ∧ (s.laneGroup g).sub = some ⟨false, l⟩) ∧
    (∃ (s : State) (g l : Nat), Running s ∧ g < 16 ∧ g < s.ser.length ∧ (s.laneGroup g).sub = some ⟨true, l⟩) ∧
    (∃ (s : State) (g l : Nat) (i : Instr), Running s ∧ g < 16 ∧ (s.laneGroup g).sub = none ∧ i ∈ [Instr.lmReady g l, .lmSwap g l, .lmAbort g l, .substitutionTimeout g]) :=
  ⟨⟨groupWith 3 LaneGroup.reset [(F.SER_GROUP_STATE_STATE 3, 6), (F.SER_TX_MAP_MAP 3, 0xCBA9876543210)], .mp 0, 3, 11, 11, .lmRequest 3 11, by decide +kernel⟩,
    ⟨groupWith 3 LaneGroup.reset [(F.SER_GROUP_STATE_STATE 3, 6), (F.SER_TX_MAP_MAP 3, 0xCBA9876543210)], .mp 0, 3, 11, 11, .subCmd (.mp 0) 3 11, by decide +kernel⟩,
    ⟨groupWith 3 { LaneGroup.reset with sub := some ⟨true, 4⟩ } [(F.SER_GROUP_STATE_STATE 3, 6)], .mp 0, 3, 11, by decide +kernel⟩,
    ⟨groupWith 15 LaneGroup.reset [(F.SER_GROUP_STATE_STATE 15, 6)], .mp 0, 15, 8, by decide +kernel⟩,
    ⟨groupWith 15 LaneGroup.reset [(F.SER_GROUP_STATE_STATE 15, 6)], 15, 7, by decide +kernel⟩,
    ⟨groupWith 15 { LaneGroup.reset with rxSpare := 8 } [(F.SER_GROUP_STATE_STATE 15, 6)], 15, 7, by decide +kernel⟩,
    ⟨groupWith 3 { LaneGroup.reset with sub := some ⟨true, 4⟩ } [(F.SER_TX_MAP_MAP 3, 0xCBA9876543210)], 3, 4, 4, 12, by decide +kernel, by decide +kernel⟩,
    ⟨groupWith 14 { LaneGroup.reset with sub := some ⟨true, 4⟩ } [(F.SER_TX_MAP_MAP 14, 0x876543210)], 14, 4, 4, 8, by decide +kernel⟩,
    ⟨groupWith 14 { LaneGroup.reset with sub := some ⟨false, 4⟩, rxSpare := 8 } [(F.SER_RX_MAP_MAP 14, 0x876543210)], 14, 4, 4, 8, by decide +kernel⟩,
    ⟨groupWith 14 { LaneGroup.reset with sub := some ⟨true, 4⟩ } [(F.SER_TX_MAP_MAP 14, 0x876543210)], 14, 4, by decide +kernel⟩,
    ⟨groupWith 14 { LaneGroup.reset with sub := some ⟨false, 4⟩, rxSpareState := 1 } [], 14, 4, by decide +kernel⟩,
    ⟨groupWith 3 { LaneGroup.reset with sub := some ⟨true, 4⟩ } [(F.SER_TX_MAP_MAP 3, 0xCBA9876543210)], 3, 4, by decide +kernel⟩,
    ⟨groupWith 3 LaneGroup.reset [], 3, 4, .lmReady 3 4, by decide +kernel⟩⟩

/-- Clauses 1, 2, 3, 4, 5, 6, 7, 8, 9, 10, 11 of `EyesAndLoops`: hypotheses met together. -/
theorem witness_EyesAndLoops :
    (∃ (s : State) (m : Master) (g data : Nat), Running s ∧ g < 16 ∧ MayWrite s m (0x0F0 + g) ∧ data < 2 ^ 32 ∧ s.get (F.SER_EYE_CTRL_BUSY g) = 0 ∧ data / 2 ^ 16 % 2 ^ 8 ≠ 0x80 ∧ 16 ≤ data % 32 ∧ data % 32 ≤ 24) ∧
    (∃ (s : State) (g errors : Nat), Running s ∧ g < 16 ∧ s.get (F.SER_EYE_CTRL_BUSY g) = 1) ∧
    (∃ (s : State) (g errors : Nat), Running s ∧ g < 16 ∧ s.get (F.SER_EYE_CTRL_BUSY g) = 0) ∧
    (∃ (s : State) (m : Master) (g data : Nat), Running s ∧ g < 16 ∧ MayWrite s m (0x0F0 + g) ∧ data < 2 ^ 32 ∧ s.get (F.SER_CTRL_ENABLE g) = 0 ∧ s.get (F.SER_LOOP_MODE g) = 0 ∧ ((data % 8 = 1 ∨ data % 8 = 2))) ∧
    (∃ (s : State) (m : Master) (g data : Nat), Running s ∧ g < 16 ∧ MayWrite s m (0x0F0 + g) ∧ data < 2 ^ 32 ∧ s.get (F.SER_CTRL_ENABLE g) = 0 ∧ s.get (F.SER_LOOP_MODE g) = 0 ∧ ((data % 8 = 1 ∨ data % 8 = 2))) ∧
    (∃ (s : State) (m : Master) (g data : Nat), Running s ∧ g < 16 ∧ MayWrite s m (0x0F0 + g) ∧ data < 2 ^ 32 ∧ s.get (F.SER_CTRL_ENABLE g) = 0 ∧ s.get (F.SER_LOOP_MODE g) = 0 ∧ ((data % 8 = 3 ∨ data % 8 = 4))) ∧
    (∃ (s : State) (m : Master) (g data : Nat), Running s ∧ g < 12 ∧ MayWrite s m (0x0F0 + g) ∧ data < 2 ^ 32 ∧ ((s.get (F.SER_LOOP_MODE g) = 3 ∨ s.get (F.SER_LOOP_MODE g) = 4)) ∧ data % 8 = 0 ∧ s.get (F.SER_GROUP_STATE_STATE g) = 7 ∧ ((s.get (F.PNL_PORT_STATE_STATE g) = 0 ∨ s.get (F.PNL_PORT_STATE_STATE g) = 6)) ∧ s.pnl.step = 0) ∧
    (∃ (s : State) (g mode lane : Nat), Running s ∧ 12 ≤ g ∧ g < 16 ∧ g < s.ser.length ∧ ((mode = 3 ∨ mode = 4)) ∧ ((s.get (F.SER_GROUP_STATE_STATE g) = 5 ∨ s.get (F.SER_GROUP_STATE_STATE g) = 6)) ∧ s.get (F.XSH_PORT_STATE (g - 12)) ≠ 2) ∧
    (∃ (s : State) (g lane : Nat) (i : Instr), Running s ∧ 12 ≤ g ∧ g < 16 ∧ g < s.ser.length ∧ (s.laneGroup g).peerLoop ≠ 0 ∧ s.get (F.SER_CTRL_ENABLE g) = 0 ∧ (i = .loopCommand g 0 lane ∨ i = .loopElectricalIdleTimeout g)) ∧
    (∃ (s : State) (g lane : Nat) (i : Instr), Running s ∧ g < 16 ∧ (s.laneGroup g).peerLoop = 0 ∧ (i = .loopCommand g 0 lane ∨ i = .loopElectricalIdleTimeout g)) ∧
    (∃ (s : State) (b line lane n bits : Nat) (failed : Bool) (segment : List Byte), Running s ∧ b < 12 ∧ b < s.ser.length ∧ s.get (F.SER_GROUP_STATE_STATE b) = 7 ∧ s.get (F.SER_LOOP_MODE b) = 4 ∧ s.get (F.SER_PAT_CTRL_GEN b) = 4 ∧ s.get (F.SER_PAT_CTRL_CHK_EN b) = 1 ∧ n = ((List.range 2880).filter (fun j => !decide (segment[j]? = (counterSegment lane)[j]?))).length ∧ bits = (s.laneGroup b).bits + 23040) ∧
    (∃ (s : State) (b line lane : Nat) (failed : Bool) (segment : List Byte), Running s ∧ (s.get (F.SER_GROUP_STATE_STATE b) ≠ 7 ∨ s.get (F.SER_PAT_CTRL_CHK_EN b) = 0)) :=
  ⟨⟨upWith [], .mp 0, 14, 0x0FFF3F18, by decide +kernel⟩,
    ⟨upWith [(F.SER_EYE_CTRL_BUSY 14, 1)], 14, 2 ^ 32, by decide +kernel⟩,
    ⟨upWith [], 14, 7, by decide +kernel⟩,
    ⟨upWith [], .mp 0, 14, 0x301, by decide +kernel⟩,
    ⟨upWith [], .mp 0, 2, 0x302, by decide +kernel⟩,
    ⟨upWith [], .mp 0, 14, 0x303, by decide +kernel⟩,
    ⟨upWith [(F.SER_LOOP_MODE 2, 4), (F.SER_GROUP_STATE_STATE 2, 7)], .mp 0, 2, 0x300, by decide +kernel⟩,
    ⟨groupWith 14 LaneGroup.reset [(F.SER_GROUP_STATE_STATE 14, 6), (F.XSH_PORT_STATE 2, 1)], 14, 4, 3, by decide +kernel⟩,
    ⟨groupWith 14 { LaneGroup.reset with peerLoop := 4 } [(F.SER_GROUP_STATE_STATE 14, 7)], 14, 3, .loopCommand 14 0 3, by decide +kernel⟩,
    ⟨groupWith 14 LaneGroup.reset [], 14, 3, .loopElectricalIdleTimeout 14, by decide +kernel⟩,
    ⟨groupWith 2 { LaneGroup.reset with bits := 50000 } [(F.SER_GROUP_STATE_STATE 2, 7), (F.SER_LOOP_MODE 2, 4), (F.SER_PAT_CTRL_GEN 2, 4), (F.SER_PAT_CTRL_CHK_EN 2, 1)], 2, 0, 3, ((List.range 2880).filter (fun j => !decide ((counterSegment 3)[j]? = (counterSegment 3)[j]?))).length, 73040, false, counterSegment 3, by exact ⟨by decide +kernel, by decide +kernel, by decide +kernel, by decide +kernel, by decide +kernel, by decide +kernel, by decide +kernel, rfl, by decide +kernel⟩⟩,
    ⟨upWith [], 2, 0, 3, false, [], by decide +kernel⟩⟩

end W21

namespace W22

/-- A part of the witnesses below. -/
def up0 (q : XPort) (l : List (Field × Nat)) : State := yardWith { Yard.reset with ports := q :: Yard.reset.ports.drop 1 } l
/-- A part of the witnesses below. -/
def fA : Frame := frameOf 0x04 1 5 0 1 0x100 7 [1, 2, 3]

/-- Clauses 1, 2, 3, 4, 5, 6, 7, 8, 9, 10, 11 of `FramesCrossLinks`: hypotheses met together. -/
theorem witness_FramesCrossLinks :
    (∃ (s : State) (rx : Rx) (typ k : Nat), rx.port % 4 = k ∧ k < s.yard.ports.length ∧ s.get (F.XSH_PORT_STATE k) = 2 ∧ rx.aborted = false ∧ rx.frame.lseq = (s.xport k).rxExpect ∧ rx.headerOk = true ∧ rx.badLanes = 0 ∧ rx.symbols = [] ∧ rx.reservedZero = true ∧ rx.frame.bcast = false ∧ rx.frame.dst = s.get F.XSH_ROLE_NUMBER ∧ typ ∈ frameTypes ∧ ownWay typ = false ∧ ((rx.frame.vc ≠ 1 ∨ s.isMember = false))) ∧
    (∃ (s : State) (rx : Rx) (c : Instr) (k : Nat), Running s ∧ rx.port % 4 = k ∧ rx.symbols = [] ∧ s.get (F.XSH_PORT_STATE k) ≠ 2 ∧ s.get (F.XSH_PORT_STATE k) ≠ 4 ∧ c ∈ [Instr.regWr rx, .regRd rx, .regRdCpl rx, .memWr rx, .memRd rx, .memRdCpl rx, .xshDoorbell rx, .xshIrq rx, .hostWr rx, .hostRd rx, .hostRdCpl rx,
      .enum rx, .enumReply rx, .assign rx, .route rx, .routeAck rx, .linkEvent rx, .yardParam rx, .estimate rx, .rosterChange rx, .flipPrep rx, .flipAck rx, .flip rx]) ∧
    (∃ (s : State) (rx : Rx) (c : Instr) (k : Nat), (Running s ∧ rx.port % 4 = k ∧ k < s.yard.ports.length ∧ rx.symbols = [] ∧ s.get (F.XSH_PORT_STATE k) = 2 ∧ c ∈ [Instr.regWr rx, .regRd rx, .regRdCpl rx, .memWr rx, .memRd rx, .memRdCpl rx, .xshDoorbell rx, .xshIrq rx, .hostWr rx, .hostRd rx, .hostRdCpl rx,
      .enum rx, .enumReply rx, .assign rx, .route rx, .routeAck rx, .linkEvent rx, .yardParam rx, .estimate rx, .rosterChange rx, .flipPrep rx, .flipAck rx, .flip rx]) ∧ (rx.aborted = true)) ∧
    (∃ (s : State) (rx : Rx) (c : Instr) (k : Nat), (Running s ∧ rx.port % 4 = k ∧ k < s.yard.ports.length ∧ rx.symbols = [] ∧ s.get (F.XSH_PORT_STATE k) = 2 ∧ c ∈ [Instr.regWr rx, .regRd rx, .regRdCpl rx, .memWr rx, .memRd rx, .memRdCpl rx, .xshDoorbell rx, .xshIrq rx, .hostWr rx, .hostRd rx, .hostRdCpl rx,
      .enum rx, .enumReply rx, .assign rx, .route rx, .routeAck rx, .linkEvent rx, .yardParam rx, .estimate rx, .rosterChange rx, .flipPrep rx, .flipAck rx, .flip rx]) ∧ (rx.aborted = false ∧ rx.headerOk = true ∧ rx.frame.lseq ≠ (s.xport k).rxExpect)) ∧
    (∃ (s : State) (rx : Rx) (c : Instr) (k : Nat), (Running s ∧ rx.port % 4 = k ∧ k < s.yard.ports.length ∧ rx.symbols = [] ∧ s.get (F.XSH_PORT_STATE k) = 2 ∧ c ∈ [Instr.regWr rx, .regRd rx, .regRdCpl rx, .memWr rx, .memRd rx, .memRdCpl rx, .xshDoorbell rx, .xshIrq rx, .hostWr rx, .hostRd rx, .hostRdCpl rx,
      .enum rx, .enumReply rx, .assign rx, .route rx, .routeAck rx, .linkEvent rx, .yardParam rx, .estimate rx, .rosterChange rx, .flipPrep rx, .flipAck rx, .flip rx]) ∧ (rx.aborted = false ∧ rx.headerOk = true ∧ rx.frame.lseq = (s.xport k).rxExpect ∧ rx.badLanes ≠ 0 ∧ s.get (F.SER_SUB_CFG_AUTO (12 + k)) = 0)) ∧
    (∃ (s : State) (rx : Rx) (k i : Nat), Running s ∧ rx.port % 4 = k ∧ k < s.yard.ports.length ∧ rx.symbols = [] ∧ 2 ≤ s.get (F.XSH_PORT_STATE k) ∧ rx.headerOk = true ∧ rx.badLanes = 0 ∧ rx.aborted = false ∧ hasBit rx.frame.addr 12 = false ∧ (s.xport k).waiting = [] ∧ s.tim.sent = [] ∧ (s.xport k).unacked.findIdx? (fun f => decide (f.lseq = rx.frame.addr % 4096)) = some i) ∧
    (∃ (s : State) (rx : Rx) (k : Nat), Running s ∧ rx.port % 4 = k ∧ k < s.yard.ports.length ∧ rx.symbols = [] ∧ 2 ≤ s.get (F.XSH_PORT_STATE k) ∧ rx.headerOk = true ∧ rx.badLanes = 0 ∧ rx.aborted = false ∧ hasBit rx.frame.addr 12 = true ∧ (s.xport k).waiting = [] ∧ (∀ f ∈ (s.xport k).unacked, f.lseq ≠ rx.frame.addr % 4096) ∧ (s.xport k).unacked ≠ [] ∧ (s.xport k).replays < 4) ∧
    (∃ (s : State) (k : Nat), Running s ∧ k < 4 ∧ k < s.yard.ports.length ∧ s.get (F.XSH_PORT_STATE k) = 2 ∧ (s.xport k).unacked ≠ [] ∧ (s.xport k).replays < 4) ∧
    (∃ (s : State) (k : Nat), Running s ∧ k < 4 ∧ (s.get (F.XSH_PORT_STATE k) ≠ 2 ∨ (s.xport k).unacked = [])) ∧
    (∃ (s : State) (k : Nat), Running s ∧ k < 4 ∧ k < s.yard.ports.length ∧ 2 ≤ s.get (F.XSH_PORT_STATE k)) ∧
    (∃ (s : State) (k : Nat), Running s ∧ k < 4 ∧ s.get (F.XSH_PORT_STATE k) < 2) ∧
    (∃ (s : State) (rx : Rx) (k errors bits : Nat), Running s ∧ rx.port % 4 = k ∧ rx.symbols = [] ∧ 12 + k < s.ser.length ∧ s.get (F.SER_GROUP_STATE_STATE (12 + k)) = 7 ∧ s.get (F.SER_LOOP_MODE (12 + k)) = 4 ∧ s.get (F.SER_PAT_CTRL_GEN (12 + k)) = 4 ∧ s.get (F.SER_PAT_CTRL_CHK_EN (12 + k)) = 1) ∧
    (∃ (s : State) (rx : Rx) (errors bits : Nat), Running s ∧ rx.symbols = [] ∧ s.get (F.SER_GROUP_STATE_STATE (12 + rx.port % 4)) ≠ 7) :=
  ⟨⟨up0 { XPort.reset with rxExpect := 4095 } [], rxOf { frameOf 0x01 2 0 0 4 0x1000 0 [1, 2, 3, 4] with lseq := 4095 }, 0x01, 0, by decide +kernel⟩,
    ⟨up0 XPort.reset [], { rxOf (frameOf 0x01 2 0 0 4 0x1000 0 []) with port := 1 }, .regWr { rxOf (frameOf 0x01 2 0 0 4 0x1000 0 []) with port := 1 }, 1, by decide +kernel⟩,
    ⟨up0 XPort.reset [], { rxOf (frameOf 0x01 2 0 0 4 0x1000 0 []) with aborted := true }, .memWr { rxOf (frameOf 0x01 2 0 0 4 0x1000 0 []) with aborted := true }, 0, by decide +kernel, by decide +kernel⟩,
    ⟨up0 { XPort.reset with rxExpect := 4 } [], { rxOf (frameOf 0x01 2 0 0 4 0x1000 0 []) with aborted := false }, .memWr { rxOf (frameOf 0x01 2 0 0 4 0x1000 0 []) with aborted := false }, 0, by decide +kernel, by decide +kernel⟩,
    ⟨up0 { XPort.reset with rxExpect := 0 } [(F.SER_SUB_CFG_AUTO 12, 0)], { rxOf (frameOf 0x01 2 0 0 4 0x1000 0 []) with badLanes := 2 }, .flip { rxOf (frameOf 0x01 2 0 0 4 0x1000 0 []) with badLanes := 2 }, 0, by decide +kernel, by decide +kernel⟩,
    ⟨up0 { XPort.reset with unacked := [{ fA with lseq := 4 }, { fA with lseq := 5 }, { fA with lseq := 6 }] } [], rxOf (frameOf 0x7E 0 0 0 0 (5 + 2 ^ 13 * 8 * 4) 0 []), 0, 1, by decide +kernel⟩,
    ⟨up0 { XPort.reset with unacked := [{ fA with lseq := 4 }, { fA with lseq := 5 }, { fA with lseq := 6 }], replays := 3 } [], rxOf (frameOf 0x7E 0 0 0 0 (3 + 4096) 0 []), 0, by decide +kernel⟩,
    ⟨up0 { XPort.reset with unacked := [{ fA with lseq := 4 }, { fA with lseq := 5 }, { fA with lseq := 6 }], replays := 3 } [], 0, by decide +kernel⟩,
    ⟨up0 XPort.reset [], 3, by decide +kernel⟩,
    ⟨up0 { XPort.reset with nakDue := true } [], 0, by decide +kernel⟩,
    ⟨up0 XPort.reset [], 3, by decide +kernel⟩,
    ⟨groupWith 15 { LaneGroup.reset with bits := 60000 } [(F.SER_GROUP_STATE_STATE 15, 7), (F.SER_LOOP_MODE 15, 4), (F.SER_PAT_CTRL_GEN 15, 4), (F.SER_PAT_CTRL_CHK_EN 15, 1)], { rxOf (frameOf 0x7F 0 0 0 0 0 0 []) with port := 3 }, 3, 7, 32768, by decide +kernel⟩,
    ⟨up0 XPort.reset [], { rxOf (frameOf 0x7F 0 0 0 0 0 0 []) with port := 3 }, 7, 32768, by decide +kernel⟩⟩

end W22

namespace W23

/-- A part of the witnesses below. -/
def tbl : RouteTable := ⟨6, 0, 0, 0, 0, [(7, 7, 7), (0, 0, 0), (2, 2, 2)]⟩
/-- A part of the witnesses below. -/
def yard5 : Yard := { Yard.reset with cur := tbl, prev := tbl }
/-- Member 5 of a yard. -/
def member (y : Yard) (l : List (Field × Nat)) : State := yardWith y ([(F.XSH_ROLE_ROLE, 2), (F.XSH_ROLE_NUMBER, 5)] ++ l)
/-- The head of a yard. -/
def head (y : Yard) (l : List (Field × Nat)) : State := yardWith y ([(F.XSH_ROLE_ROLE, 1), (F.XSH_ROLE_NUMBER, 0)] ++ l)
/-- A part of the witnesses below. -/
def linkedHead (y : Yard) (l : List (Field × Nat)) : State := { head y l with pcie := { Pcie.reset with linkUp := true } }
/-- A part of the witnesses below. -/
def rW : Rx := rxOf (frameOf 0x01 2 5 0 4 0x80110 0 [2, 0, 0, 0])
/-- A part of the witnesses below. -/
def rP : Rx := rxOf (frameOf 0x01 2 5 0 4 0xB810C 1 [0, 1, 2, 0])
/-- A part of the witnesses below. -/
def rQ : Rx := rxOf (frameOf 0x01 2 5 3 4 0x80110 0 [2, 0, 0, 0])
/-- A part of the witnesses below. -/
def rR : Rx := rxOf (frameOf 0x02 2 5 0 4 0x80110 9 [])
/-- A part of the witnesses below. -/
def rR2 : Rx := rxOf (frameOf 0x02 2 5 0 8 0x80114 9 [])
/-- A part of the witnesses below. -/
def rC : Rx := rxOf (frameOf 0x03 2 0 5 0 0 9 [1, 2, 3, 4])
/-- A part of the witnesses below. -/
def rM : Rx := rxOf (frameOf 0x04 1 5 0 3 0x1001 9 [1, 0, 3])
/-- A part of the witnesses below. -/
def rN : Rx := rxOf (frameOf 0x05 1 5 0 8 0x1000 9 [])
/-- A part of the witnesses below. -/
def rO : Rx := rxOf (frameOf 0x06 2 0 5 0 0x1004 9 [1, 2, 3, 4])
/-- A part of the witnesses below. -/
def rD : Rx := rxOf (frameOf 0x07 2 5 0 0 3 9 [1, 2, 3, 4, 0, 0, 0, 0])
/-- A part of the witnesses below. -/
def rI : Rx := rxOf (frameOf 0x08 2 0 5 3 0 9 [])
/-- A part of the witnesses below. -/
def rHW : Rx := rxOf (frameOf 0x09 1 0 5 3 0x5000 9 [1, 0, 3])
/-- A part of the witnesses below. -/
def rHR : Rx := rxOf (frameOf 0x0A 1 0 1 8 0x5000 9 [])
/-- A part of the witnesses below. -/
def rHC : Rx := rxOf (frameOf 0x0B 1 5 0 8 0x5000 9 [1, 0, 3])

/-- Clauses 1, 2, 3, 4, 5, 6, 7, 8, 9, 10, 11 of `HostAccessesCrossTheYard`: hypotheses met together. -/
theorem witness_HostAccessesCrossTheYard_a :
    (∃ (s u : State) (rx : Rx), Running s ∧ Running u ∧ Arrives s rx 0x01 u ∧ u.isMember = true ∧ rx.frame.src = 0 ∧ (rx.frame.tag ≠ 1 ∨ rx.frame.addr / 0x1000 < 0xB1 ∨ 0xB8 < rx.frame.addr / 0x1000)) ∧
    (∃ (s u : State) (rx : Rx) (p : Nat), Running s ∧ Arrives s rx 0x01 u ∧ u.isMember = true ∧ rx.frame.src = 0 ∧ rx.frame.tag = 1 ∧ p < 8 ∧ rx.frame.addr = (0xB1 + p) * 0x1000 + 0x10C ∧ rx.frame.arg = 4) ∧
    (∃ (s u : State) (rx : Rx) (page : Nat), (Running s ∧ Arrives s rx 0x01 u ∧ (u.isMember = false ∨ rx.frame.src ≠ 0) ∧ page = rx.frame.addr / 0x1000 ∧ pageHasHeader page = true) ∧ (u.get (F.ERR_FIRST_VALID page) = 0)) ∧
    (∃ (s u v : State) (rx : Rx) (val k : Nat) (r : Frame), Running s ∧ Arrives s rx 0x02 u ∧ u.isMember = true ∧ rx.frame.src = 0 ∧ readAccess u .xiesh rx.frame.addr rx.frame.arg 0 = (v, val) ∧ r = mkFrame 0x03 2 0 0 0 (if accessAligned rx.frame.addr rx.frame.arg then 0 else 1) 0 rx.frame.tag (leBytes rx.frame.arg val) ∧ SendsAtOnce v r k) ∧
    (∃ (s u v : State) (rx : Rx) (val k : Nat) (r : Frame), Running s ∧ Arrives s rx 0x02 u ∧ u.isMember = true ∧ rx.frame.src = 0 ∧ readAccess u .xiesh rx.frame.addr rx.frame.arg 0 = (v, val) ∧ r = mkFrame 0x03 2 0 0 0 (if accessAligned rx.frame.addr rx.frame.arg then 0 else 1) 0 rx.frame.tag (leBytes rx.frame.arg val) ∧ SendsAtOnce v r k) ∧
    (∃ (s u : State) (rx : Rx) (r : FwdRead), Running s ∧ Arrives s rx 0x03 u ∧ u.yard.reads.find? (fun x => decide (x.tag = rx.frame.tag) && decide (x.slot = rx.frame.src)) = some r) ∧
    (∃ (s u : State) (rx : Rx) (c : Instr), Running s ∧ ((∀ x ∈ u.yard.reads, x.tag ≠ rx.frame.tag ∨ x.slot ≠ rx.frame.src)) ∧ ((c = .regRdCpl rx ∧ Arrives s rx 0x03 u) ∨ (c = .memRdCpl rx ∧ Arrives s rx 0x06 u))) ∧
    (∃ (s u : State) (rx : Rx) (c : Instr), Running s ∧ ((∀ x ∈ u.yard.reads, x.tag ≠ rx.frame.tag ∨ x.slot ≠ rx.frame.src)) ∧ ((c = .regRdCpl rx ∧ Arrives s rx 0x03 u) ∨ (c = .memRdCpl rx ∧ Arrives s rx 0x06 u))) ∧
    (∃ (s u : State) (rx : Rx), Running s ∧ Arrives s rx 0x04 u ∧ rx.frame.payload ≠ [] ∧ SoundMemory u ∧ dramBehind u rx.frame.addr rx.frame.payload.length = true ∧ rangeSecure u rx.frame.addr rx.frame.payload.length = false) ∧
    (∃ (s u : State) (rx : Rx) (k : Nat) (r : Frame), Running s ∧ Arrives s rx 0x05 u ∧ 0 < rx.frame.arg ∧ CleanDram u rx.frame.addr rx.frame.arg ∧ r = mkFrame 0x06 2 rx.frame.src 0 0 0 rx.frame.addr rx.frame.tag (dramRead u rx.frame.addr rx.frame.arg) ∧ SendsAtOnce u r k) ∧
    (∃ (s u : State) (rx : Rx) (r : FwdRead), (Running s ∧ Arrives s rx 0x06 u ∧ u.yard.reads.find? (fun x => decide (x.tag = rx.frame.tag) && decide (x.slot = rx.frame.src)) = some r) ∧ (r.len ≤ ((insertPart (rx.frame.addr, rx.frame.payload) r.parts).flatMap Prod.snd).length)) ∧
    (∃ (s u : State) (rx : Rx) (r : FwdRead), (Running s ∧ Arrives s rx 0x06 u ∧ u.yard.reads.find? (fun x => decide (x.tag = rx.frame.tag) && decide (x.slot = rx.frame.src)) = some r) ∧ (((insertPart (rx.frame.addr, rx.frame.payload) r.parts).flatMap Prod.snd).length < r.len)) ∧
    (∃ (s u : State) (rx : Rx), Running s ∧ Running u ∧ Arrives s rx 0x07 u ∧ rx.frame.payload.length = 8) ∧
    (∃ (s u : State) (rx : Rx) (v : Nat), (Running s ∧ Arrives s rx 0x08 u ∧ v = rx.frame.src % 64 * 32 + rx.frame.arg % 32 ∧ u.pcie.functionMask = false) ∧ (u.get (F.MSIX_MASK v) = 0 ∧ u.pcie.linkUp = true)) :=
  ⟨⟨member yard5 [], after (member yard5 []) rW 1, rW, by decide +kernel⟩,
    ⟨member yard5 [], after (member yard5 []) rP 1, rP, 7, by decide +kernel⟩,
    ⟨member yard5 [], after (member yard5 []) rQ 1, rQ, 0x80, by decide +kernel, by decide +kernel⟩,
    ⟨member yard5 [], after (member yard5 []) rR 2, (readAccess (after (member yard5 []) rR 2) .xiesh 0x80110 4 0).1, rR, (readAccess (after (member yard5 []) rR 2) .xiesh 0x80110 4 0).2, 0, mkFrame 0x03 2 0 0 0 0 0 9 (leBytes 4 (readAccess (after (member yard5 []) rR 2) .xiesh 0x80110 4 0).2), by decide +kernel⟩,
    ⟨member yard5 [], after (member yard5 []) rR2 2, (readAccess (after (member yard5 []) rR2 2) .xiesh 0x80114 8 0).1, rR2, (readAccess (after (member yard5 []) rR2 2) .xiesh 0x80114 8 0).2, 0, mkFrame 0x03 2 0 0 0 1 0 9 (leBytes 8 (readAccess (after (member yard5 []) rR2 2) .xiesh 0x80114 8 0).2), by decide +kernel⟩,
    ⟨head { yard5 with reads := [⟨9, 5, 0, 4, []⟩, ⟨8, 5, 0, 4, []⟩] } [], after (head { yard5 with reads := [⟨9, 5, 0, 4, []⟩, ⟨8, 5, 0, 4, []⟩] } []) rC 3, rC, ⟨9, 5, 0, 4, []⟩, by decide +kernel⟩,
    ⟨head yard5 [], after (head yard5 []) rC 3, rC, .regRdCpl rC, by decide +kernel⟩,
    ⟨head yard5 [], after (head yard5 []) rO 6, rO, .memRdCpl rO, by decide +kernel⟩,
    ⟨member yard5 [], after (member yard5 []) rM 4, rM, by decide +kernel⟩,
    ⟨member yard5 [], after (member yard5 []) rN 5, rN, 0, mkFrame 0x06 2 0 0 0 0 0x1000 9 (dramRead (after (member yard5 []) rN 5) 0x1000 8), by decide +kernel⟩,
    ⟨head { yard5 with reads := [⟨9, 5, 0x1000, 8, [(0x1000, [1,2,3,4])]⟩, ⟨8, 5, 0, 4, []⟩] } [], after (head { yard5 with reads := [⟨9, 5, 0x1000, 8, [(0x1000, [1,2,3,4])]⟩, ⟨8, 5, 0, 4, []⟩] } []) rO 6, rO, ⟨9, 5, 0x1000, 8, [(0x1000, [1,2,3,4])]⟩, by decide +kernel, by decide +kernel⟩,
    ⟨head { yard5 with reads := [⟨9, 5, 0x1000, 8, []⟩, ⟨8, 5, 0, 4, []⟩] } [], after (head { yard5 with reads := [⟨9, 5, 0x1000, 8, []⟩, ⟨8, 5, 0, 4, []⟩] } []) rO 6, rO, ⟨9, 5, 0x1000, 8, []⟩, by decide +kernel, by decide +kernel⟩,
    ⟨member yard5 [], after (member yard5 []) rD 7, rD, by decide +kernel⟩,
    ⟨linkedHead yard5 [(F.MSIX_ADDR_LO 163, 0x1000), (F.MSIX_MASK 163, 0)], after (linkedHead yard5 [(F.MSIX_ADDR_LO 163, 0x1000), (F.MSIX_MASK 163, 0)]) rI 8, rI, 163, by decide +kernel, by decide +kernel⟩⟩

/-- Clauses 11, 12, 13, 14, 15, 16 of `HostAccessesCrossTheYard`: hypotheses met together. -/
theorem witness_HostAccessesCrossTheYard_b :
    (∃ (s u : State) (rx : Rx) (v : Nat), (Running s ∧ Arrives s rx 0x08 u ∧ v = rx.frame.src % 64 * 32 + rx.frame.arg % 32 ∧ u.pcie.functionMask = false) ∧ (u.get (F.MSIX_MASK v) = 1)) ∧
    (∃ (s u : State) (rx : Rx), Running s ∧ Arrives s rx 0x09 u ∧ SoundMemory u ∧ u.pcie.linkUp = true) ∧
    (∃ (s u : State) (rx : Rx), Running s ∧ Arrives s rx 0x09 u ∧ u.pcie.linkUp = false) ∧
    (∃ (s u : State) (rx : Rx) (k : Nat) (r : Frame), Running s ∧ Arrives s rx 0x0A u ∧ u.pcie.linkUp = true ∧ r = mkFrame 0x0B 2 rx.frame.src 0 0 0 rx.frame.addr rx.frame.tag (hostRead u rx.frame.addr rx.frame.arg) ∧ SendsAtOnce u r k) ∧
    (∃ (s u : State) (rx : Rx), Running s ∧ Arrives s rx 0x0B u ∧ SoundMemory u ∧ (∃ n, (rx.frame.tag, rx.frame.addr, n) ∈ u.yard.hostReads)) ∧
    (∃ (s u : State) (rx : Rx), Running s ∧ Arrives s rx 0x0B u ∧ ((∀ e ∈ u.yard.hostReads, e.1 ≠ rx.frame.tag ∨ e.2.1 ≠ rx.frame.addr))) :=
  ⟨⟨linkedHead yard5 [(F.MSIX_MASK 163, 1)], after (linkedHead yard5 [(F.MSIX_MASK 163, 1)]) rI 8, rI, 163, by decide +kernel, by decide +kernel⟩,
    ⟨linkedHead yard5 [], after (linkedHead yard5 []) rHW 9, rHW, by decide +kernel⟩,
    ⟨head yard5 [], after (head yard5 []) rHW 9, rHW, by decide +kernel⟩,
    ⟨linkedHead yard5 [], after (linkedHead yard5 []) rHR 10, rHR, 0, mkFrame 0x0B 2 1 0 0 0 0x5000 9 (hostRead (after (linkedHead yard5 []) rHR 10) 0x5000 8), by decide +kernel⟩,
    ⟨member { yard5 with hostReads := [(9, 0x5000, 3), (9, 0x5000, 3), (8, 0x5000, 3)] } [], after (member { yard5 with hostReads := [(9, 0x5000, 3), (9, 0x5000, 3), (8, 0x5000, 3)] } []) rHC 11, rHC, by exact ⟨by decide +kernel, by decide +kernel, by decide +kernel, ⟨3, by decide +kernel⟩⟩⟩,
    ⟨member { yard5 with hostReads := [(8, 0x5000, 3)] } [], after (member { yard5 with hostReads := [(8, 0x5000, 3)] } []) rHC 11, rHC, by decide +kernel⟩⟩

end W23

namespace W24

/-- A part of the witnesses below. -/
def tbl : RouteTable := ⟨6, 0, 0, 0, 0, [(7, 7, 7), (0, 0, 0), (2, 2, 2)]⟩
/-- A part of the witnesses below. -/
def yard5 : Yard := { Yard.reset with cur := tbl, prev := tbl }
/-- Member 5 of a yard. -/
def member (y : Yard) (l : List (Field × Nat)) : State := yardWith y ([(F.XSH_ROLE_ROLE, 2), (F.XSH_ROLE_NUMBER, 5)] ++ l)
/-- The head of a yard. -/
def head (y : Yard) (l : List (Field × Nat)) : State := yardWith y ([(F.XSH_ROLE_ROLE, 1), (F.XSH_ROLE_NUMBER, 0)] ++ l)
/-- A part of the witnesses below. -/
def linkedHead (y : Yard) (l : List (Field × Nat)) : State := { head y l with pcie := { Pcie.reset with linkUp := true } }
/-- A part of the witnesses below. -/
def alone (y : Yard) (l : List (Field × Nat)) : State := yardWith y ([(F.XSH_PORT_STATE 2, 0), (F.XSH_CTRL_EN, 1)] ++ l)
/-- A part of the witnesses below. -/
def rE (port gen : Nat) : Rx := rxOf (frameOf 0x20 0 0 0 0 0 0 (enumBytes 7 gen 1 0x21 port 3 77))
/-- A part of the witnesses below. -/
def heard : EnumHeard := ⟨7, 9, 1, 77, 2, 3⟩
/-- A part of the witnesses below. -/
def digestA : List Byte := List.replicate 48 1
/-- A part of the witnesses below. -/
def rA (xy : Nat) : Rx := rxOf (frameOf 0x21 0 0 0 0 0 0 (digestA ++ leBytes 1 xy ++ leBytes 1 2 ++ leBytes 1 6 ++ List.replicate 13 0))
/-- A part of the witnesses below. -/
def own : Nat := leNat (identityDigest.take 8)
/-- A part of the witnesses below. -/
def rG (dxy arg addr : Nat) : Rx := rxOf { frameOf 0x22 0 0 0 arg addr 0 [] with dxy := dxy }
/-- A part of the witnesses below. -/
def rT : Rx := rxOf (frameOf 0x23 0 5 0 0 7 0 ([1, 0, 4, 0, 0, 0, 0, 0] ++ List.replicate 192 7))
/-- A part of the witnesses below. -/
def rK (addr : Nat) : Rx := rxOf (frameOf 0x24 0 0 5 0 addr 0 [])
/-- A part of the witnesses below. -/
def rL (arg : Nat) : Rx := rxOf (frameOf 0x25 0 0 5 arg 2 0 [])
/-- A part of the witnesses below. -/
def rY : Rx := rxOf { frameOf 0x26 0 0 0 0 0 0 (leBytes 2 1800 ++ leBytes 1 6 ++ leBytes 1 1 ++ leBytes 4 3 ++ leBytes 8 1000 ++ leBytes 4 5 ++ leBytes 4 0) with bcast := true }
/-- A part of the witnesses below. -/
def rY0 : Rx := rxOf { frameOf 0x26 0 0 0 0 0 0 (leBytes 2 0 ++ leBytes 1 6 ++ leBytes 1 1 ++ leBytes 4 3 ++ leBytes 8 1000 ++ leBytes 4 5 ++ leBytes 4 0) with bcast := true }
/-- A part of the witnesses below. -/
def heldF : Frame := frameOf 0x08 2 0 5 0 0 0 []
/-- A part of the witnesses below. -/
def mem5 : YardMember := ⟨5, 0x21, digestA, 6, false⟩

/-- Clauses 1, 2, 3, 4, 5, 6, 7, 8, 9, 10 of `YardsAreEnumerated`: hypotheses met together. -/
theorem witness_YardsAreEnumerated_a :
    (∃ (s u : State) (rx : Rx), Running s ∧ Arrives s rx 0x20 u ∧ u.get F.XSH_CTRL_EN = 0) ∧
    (∃ (s u : State) (rx : Rx) (k : Nat), Running s ∧ Arrives s rx 0x20 u ∧ rx.port % 4 = k ∧ u.get F.XSH_CTRL_EN = 1 ∧ leAt rx.frame.payload 7 1 % 4 ≠ (k + 2) % 4 ∧ u.get (F.XSH_PORT_STATE k) ≠ 3) ∧
    (∃ (s u : State) (rx : Rx) (k xy j : Nat), Running s ∧ Arrives s rx 0x20 u ∧ rx.port % 4 = k ∧ k < u.yard.ports.length ∧ u.get F.XSH_CTRL_EN = 1 ∧ j = (k + 2) % 4 ∧ leAt rx.frame.payload 7 1 % 4 = j ∧ u.role = 0 ∧ u.get F.XSH_ROLE_HEAD_PRIO = 0 ∧ u.yard.enum = none ∧ xy = stepXY (leAt rx.frame.payload 6 1) j ∧ upPorts u = [k] ∧ (u.xport k).waiting = [] ∧ 2 ≤ creditsHeld (u.xport k) 0 ∧ replayBytes (u.xport k) + 96 ≤ 131072) ∧
    (∃ (s u : State) (rx : Rx) (k : Nat), Running s ∧ Arrives s rx 0x20 u ∧ rx.port % 4 = k ∧ u.get F.XSH_CTRL_EN = 1 ∧ leAt rx.frame.payload 7 1 % 4 = (k + 2) % 4 ∧ u.role = 0 ∧ u.yard.enum = none ∧ candidate u = true ∧ betterEnum u ⟨leAt rx.frame.payload 0 4, leAt rx.frame.payload 4 1, leAt rx.frame.payload 5 1, leAt rx.frame.payload 0x10 8, k, leAt rx.frame.payload 8 1⟩ = false) ∧
    (∃ (s u : State) (rx : Rx) (e : EnumHeard) (f : Frame), Running s ∧ Arrives s rx 0x21 u ∧ u.role ≠ 1 ∧ u.yard.enum = some e ∧ e.port < u.yard.ports.length ∧ (u.xport e.port).waiting = [] ∧ f = { rx.frame with typ := 0x21, hops := rx.frame.hops + 1 } ∧ f.vc < 4 ∧ mayStart (u.xport e.port) f = true) ∧
    (∃ (s u : State) (rx : Rx) (k xy n facets : Nat) (digest : List Byte) (known : Bool), Running s ∧ Arrives s rx 0x21 u ∧ u.role = 1 ∧ rx.port % 4 = k ∧ k < u.yard.ports.length ∧ (u.xport k).waiting = [] ∧ 1 ≤ creditsHeld (u.xport k) 0 ∧ replayBytes (u.xport k) + 32 ≤ 131072 ∧ digest = rx.frame.payload.take 48 ∧ xy = leAt rx.frame.payload 0x30 1 ∧ facets = leAt rx.frame.payload 0x32 1 ∧ known = u.yard.idRoster.any (fun e => decide (e.digest = digest) && e.enrolled) ∧ extentOk u xy = true ∧ xy ≠ 0 ∧ ((∀ m ∈ u.yard.members, m.xy = xy → m.digest = digest)) ∧ (xy, 3) ∉ u.yard.refused ∧ (known = true ∨ u.get F.XSH_CTRL_STRANGER_ADMIT = 1) ∧ numberFor u digest xy = some n ∧ n < 64 ∧ u.yard.epochRunning = true) ∧
    (∃ (s u : State) (rx : Rx) (k xy n facets : Nat) (digest : List Byte) (known : Bool), Running s ∧ Arrives s rx 0x21 u ∧ u.role = 1 ∧ rx.port % 4 = k ∧ k < u.yard.ports.length ∧ (u.xport k).waiting = [] ∧ 1 ≤ creditsHeld (u.xport k) 0 ∧ replayBytes (u.xport k) + 32 ≤ 131072 ∧ digest = rx.frame.payload.take 48 ∧ xy = leAt rx.frame.payload 0x30 1 ∧ facets = leAt rx.frame.payload 0x32 1 ∧ known = u.yard.idRoster.any (fun e => decide (e.digest = digest) && e.enrolled) ∧ extentOk u xy = true ∧ xy ≠ 0 ∧ ((∀ m ∈ u.yard.members, m.xy = xy → m.digest = digest)) ∧ (xy, 3) ∉ u.yard.refused ∧ (known = true ∨ u.get F.XSH_CTRL_STRANGER_ADMIT = 1) ∧ numberFor u digest xy = some n ∧ n < 64 ∧ u.yard.epochRunning = true) ∧
    (∃ (s u : State) (rx : Rx) (k xy code : Nat) (digest : List Byte) (known : Bool), Running s ∧ Arrives s rx 0x21 u ∧ u.role = 1 ∧ rx.port % 4 = k ∧ k < u.yard.ports.length ∧ (u.xport k).waiting = [] ∧ 1 ≤ creditsHeld (u.xport k) 0 ∧ replayBytes (u.xport k) + 32 ≤ 131072 ∧ digest = rx.frame.payload.take 48 ∧ xy = leAt rx.frame.payload 0x30 1 ∧ known = u.yard.idRoster.any (fun e => decide (e.digest = digest) && e.enrolled) ∧ (∀ e ∈ u.yard.idRoster, e.digest ≠ digest) ∧ ((∀ m ∈ u.yard.members, m.xy = xy → m.digest = digest)) ∧ ((extentOk u xy = false ∧ code = 1) ∨ (extentOk u xy = true ∧ (xy = 0 ∨ (xy, 3) ∈ u.yard.refused) ∧ code = 3) ∨
      (extentOk u xy = true ∧ xy ≠ 0 ∧ (xy, 3) ∉ u.yard.refused ∧ known = false ∧ u.get F.XSH_CTRL_STRANGER_ADMIT = 0 ∧ code = 5) ∨
      (extentOk u xy = true ∧ xy ≠ 0 ∧ (xy, 3) ∉ u.yard.refused ∧ u.get F.XSH_CTRL_STRANGER_ADMIT = 1 ∧ numberFor u digest xy = none ∧ code = 2))) ∧
    (∃ (s u : State) (rx : Rx) (k xy code : Nat) (digest : List Byte) (known : Bool), Running s ∧ Arrives s rx 0x21 u ∧ u.role = 1 ∧ rx.port % 4 = k ∧ k < u.yard.ports.length ∧ (u.xport k).waiting = [] ∧ 1 ≤ creditsHeld (u.xport k) 0 ∧ replayBytes (u.xport k) + 32 ≤ 131072 ∧ digest = rx.frame.payload.take 48 ∧ xy = leAt rx.frame.payload 0x30 1 ∧ known = u.yard.idRoster.any (fun e => decide (e.digest = digest) && e.enrolled) ∧ (∀ e ∈ u.yard.idRoster, e.digest ≠ digest) ∧ ((∀ m ∈ u.yard.members, m.xy = xy → m.digest = digest)) ∧ ((extentOk u xy = false ∧ code = 1) ∨ (extentOk u xy = true ∧ (xy = 0 ∨ (xy, 3) ∈ u.yard.refused) ∧ code = 3) ∨
      (extentOk u xy = true ∧ xy ≠ 0 ∧ (xy, 3) ∉ u.yard.refused ∧ known = false ∧ u.get F.XSH_CTRL_STRANGER_ADMIT = 0 ∧ code = 5) ∨
      (extentOk u xy = true ∧ xy ≠ 0 ∧ (xy, 3) ∉ u.yard.refused ∧ u.get F.XSH_CTRL_STRANGER_ADMIT = 1 ∧ numberFor u digest xy = none ∧ code = 2))) ∧
    (∃ (s u : State) (rx : Rx) (k xy code : Nat) (digest : List Byte) (known : Bool), Running s ∧ Arrives s rx 0x21 u ∧ u.role = 1 ∧ rx.port % 4 = k ∧ k < u.yard.ports.length ∧ (u.xport k).waiting = [] ∧ 1 ≤ creditsHeld (u.xport k) 0 ∧ replayBytes (u.xport k) + 32 ≤ 131072 ∧ digest = rx.frame.payload.take 48 ∧ xy = leAt rx.frame.payload 0x30 1 ∧ known = u.yard.idRoster.any (fun e => decide (e.digest = digest) && e.enrolled) ∧ (∀ e ∈ u.yard.idRoster, e.digest ≠ digest) ∧ ((∀ m ∈ u.yard.members, m.xy = xy → m.digest = digest)) ∧ ((extentOk u xy = false ∧ code = 1) ∨ (extentOk u xy = true ∧ (xy = 0 ∨ (xy, 3) ∈ u.yard.refused) ∧ code = 3) ∨
      (extentOk u xy = true ∧ xy ≠ 0 ∧ (xy, 3) ∉ u.yard.refused ∧ known = false ∧ u.get F.XSH_CTRL_STRANGER_ADMIT = 0 ∧ code = 5) ∨
      (extentOk u xy = true ∧ xy ≠ 0 ∧ (xy, 3) ∉ u.yard.refused ∧ u.get F.XSH_CTRL_STRANGER_ADMIT = 1 ∧ numberFor u digest xy = none ∧ code = 2))) ∧
    (∃ (s u : State) (rx : Rx) (k xy code : Nat) (digest : List Byte) (known : Bool), Running s ∧ Arrives s rx 0x21 u ∧ u.role = 1 ∧ rx.port % 4 = k ∧ k < u.yard.ports.length ∧ (u.xport k).waiting = [] ∧ 1 ≤ creditsHeld (u.xport k) 0 ∧ replayBytes (u.xport k) + 32 ≤ 131072 ∧ digest = rx.frame.payload.take 48 ∧ xy = leAt rx.frame.payload 0x30 1 ∧ known = u.yard.idRoster.any (fun e => decide (e.digest = digest) && e.enrolled) ∧ (∀ e ∈ u.yard.idRoster, e.digest ≠ digest) ∧ ((∀ m ∈ u.yard.members, m.xy = xy → m.digest = digest)) ∧ ((extentOk u xy = false ∧ code = 1) ∨ (extentOk u xy = true ∧ (xy = 0 ∨ (xy, 3) ∈ u.yard.refused) ∧ code = 3) ∨
      (extentOk u xy = true ∧ xy ≠ 0 ∧ (xy, 3) ∉ u.yard.refused ∧ known = false ∧ u.get F.XSH_CTRL_STRANGER_ADMIT = 0 ∧ code = 5) ∨
      (extentOk u xy = true ∧ xy ≠ 0 ∧ (xy, 3) ∉ u.yard.refused ∧ u.get F.XSH_CTRL_STRANGER_ADMIT = 1 ∧ numberFor u digest xy = none ∧ code = 2))) ∧
    (∃ (s u : State) (rx : Rx), Running s ∧ Arrives s rx 0x22 u ∧ u.role = 0 ∧ rx.frame.dxy = myXY u ∧ rx.frame.addr = leNat (identityDigest.take 8) ∧ bitsOf rx.frame.arg 8 3 = 0 ∧ u.get F.TIM_SERVO_STATE = 0) ∧
    (∃ (s u : State) (rx : Rx), Running s ∧ Arrives s rx 0x22 u ∧ u.role ≠ 1 ∧ rx.frame.dxy = myXY u ∧ rx.frame.addr = leNat (identityDigest.take 8) ∧ bitsOf rx.frame.arg 8 3 ≠ 0) ∧
    (∃ (s u : State) (rx : Rx) (k : Nat) (f : Frame), Running s ∧ Arrives s rx 0x22 u ∧ u.role ≠ 1 ∧ rx.frame.dxy ≠ myXY u ∧ mapGet u.yard.replyPorts rx.frame.dxy = some k ∧ bitsOf rx.frame.arg 8 3 = 0 ∧ k < u.yard.ports.length ∧ (u.xport k).waiting = [] ∧ f = { rx.frame with typ := 0x22, hops := rx.frame.hops + 1 } ∧ f.vc < 4 ∧ mayStart (u.xport k) f = true) :=
  ⟨⟨yardWith Yard.reset [(F.XSH_CTRL_EN, 0)], after (yardWith Yard.reset [(F.XSH_CTRL_EN, 0)]) (rE 2 9) 0x20, rE 2 9, by decide +kernel⟩,
    ⟨yardWith Yard.reset [(F.XSH_CTRL_EN, 1)], after (yardWith Yard.reset [(F.XSH_CTRL_EN, 1)]) (rE 3 9) 0x20, rE 3 9, 0, by decide +kernel⟩,
    ⟨alone Yard.reset [], after (alone Yard.reset []) (rE 2 9) 0x20, rE 2 9, 0, stepXY 0x21 2, 2, by decide +kernel⟩,
    ⟨{ alone Yard.reset [(F.XSH_ROLE_HEAD_PRIO, 4), (F.XSH_GEN_YARD_GEN, 9)] with pcie := { Pcie.reset with linkUp := true } }, after ({ alone Yard.reset [(F.XSH_ROLE_HEAD_PRIO, 4), (F.XSH_GEN_YARD_GEN, 9)] with pcie := { Pcie.reset with linkUp := true } }) (rE 2 9) 0x20, rE 2 9, 0, by decide +kernel⟩,
    ⟨yardWith { Yard.reset with enum := some heard } [], after (yardWith { Yard.reset with enum := some heard } []) (rA 0x21) 0x21, rA 0x21, heard, { (rA 0x21).frame with hops := 1 }, by decide +kernel⟩,
    ⟨head { Yard.reset with epochRunning := true } [(F.XSH_CTRL_STRANGER_ADMIT, 1)], after (head { Yard.reset with epochRunning := true } [(F.XSH_CTRL_STRANGER_ADMIT, 1)]) (rA 0x21) 0x21, rA 0x21, 0, 0x21, 1, 6, digestA, false, by decide +kernel⟩,
    ⟨head { Yard.reset with epochRunning := true, idRoster := [⟨digestA, 9, true, 0x33⟩] } [], after (head { Yard.reset with epochRunning := true, idRoster := [⟨digestA, 9, true, 0x33⟩] } []) (rA 0x21) 0x21, rA 0x21, 0, 0x21, 9, 6, digestA, true, by decide +kernel⟩,
    ⟨head { Yard.reset with epochRunning := true } [(F.XSH_CTRL_STRANGER_ADMIT, 0)], after (head { Yard.reset with epochRunning := true } [(F.XSH_CTRL_STRANGER_ADMIT, 0)]) (rA 0x21) 0x21, rA 0x21, 0, 0x21, 5, digestA, false, by decide +kernel⟩,
    ⟨head { Yard.reset with epochRunning := true } [(F.XSH_CTRL_STRANGER_ADMIT, 0)], after (head { Yard.reset with epochRunning := true } [(F.XSH_CTRL_STRANGER_ADMIT, 0)]) (rA 0) 0x21, rA 0, 0, 0, 3, digestA, false, by decide +kernel⟩,
    ⟨head { Yard.reset with members := [⟨4, 0xEE, List.replicate 48 2, 6, true⟩] } [(F.XSH_CTRL_STRANGER_ADMIT, 0)], after (head { Yard.reset with members := [⟨4, 0xEE, List.replicate 48 2, 6, true⟩] } [(F.XSH_CTRL_STRANGER_ADMIT, 0)]) (rA 0x66) 0x21, rA 0x66, 0, 0x66, 1, digestA, false, by decide +kernel⟩,
    ⟨head { Yard.reset with idRoster := (List.range 63).map (fun n => ⟨[2], n + 1, true, 0x33⟩), members := [⟨4, 0x33, [2], 6, true⟩] } [(F.XSH_CTRL_STRANGER_ADMIT, 1)], after (head { Yard.reset with idRoster := (List.range 63).map (fun n => ⟨[2], n + 1, true, 0x33⟩), members := [⟨4, 0x33, [2], 6, true⟩] } [(F.XSH_CTRL_STRANGER_ADMIT, 1)]) (rA 0x21) 0x21, rA 0x21, 0, 0x21, 2, digestA, false, by decide +kernel⟩,
    ⟨yardWith Yard.reset [(F.XSH_ROLE_X, 2), (F.XSH_ROLE_Y, 3)], after (yardWith Yard.reset [(F.XSH_ROLE_X, 2), (F.XSH_ROLE_Y, 3)]) (rG 0x32 5 own) 0x22, rG 0x32 5 own, by exact ⟨by decide +kernel, rfl, by decide +kernel, by decide +kernel, rfl, by decide +kernel, by decide +kernel⟩⟩,
    ⟨yardWith Yard.reset [(F.XSH_ROLE_X, 2), (F.XSH_ROLE_Y, 3)], after (yardWith Yard.reset [(F.XSH_ROLE_X, 2), (F.XSH_ROLE_Y, 3)]) (rG 0x32 0x300 own) 0x22, rG 0x32 0x300 own, by exact ⟨by decide +kernel, rfl, by decide +kernel, by decide +kernel, rfl, by decide +kernel⟩⟩,
    ⟨yardWith { Yard.reset with replyPorts := [(0x32, 2)] } [], after (yardWith { Yard.reset with replyPorts := [(0x32, 2)] } []) (rG 0x32 5 1) 0x22, rG 0x32 5 1, 2, { (rG 0x32 5 1).frame with hops := 1 }, by decide +kernel⟩⟩

/-- Clauses 11, 12, 13, 14, 15 of `YardsAreEnumerated`: hypotheses met together. -/
theorem witness_YardsAreEnumerated_b :
    (∃ (s u : State) (rx : Rx), Running s ∧ Arrives s rx 0x22 u ∧ (u.role = 1 ∨ (rx.frame.dxy = myXY u ∧ rx.frame.addr ≠ leNat (identityDigest.take 8)) ∨ (rx.frame.dxy ≠ myXY u ∧ mapGet u.yard.replyPorts rx.frame.dxy = none))) ∧
    (∃ (s u : State) (rx : Rx), Running s ∧ Arrives s rx 0x22 u ∧ (u.role = 1 ∨ (rx.frame.dxy = myXY u ∧ rx.frame.addr ≠ leNat (identityDigest.take 8)) ∨ (rx.frame.dxy ≠ myXY u ∧ mapGet u.yard.replyPorts rx.frame.dxy = none))) ∧
    (∃ (s : State), Running s ∧ candidate s = true ∧ s.yard.enumSent = true ∧ upPorts s ≠ []) ∧
    (∃ (s : State), Running s ∧ (candidate s = false ∨ s.yard.enumSent = false ∨ upPorts s = [])) ∧
    (∃ (s : State), Running s ∧ s.role = 2 ∧ s.get F.TIM_SERVO_STATE ≠ 3 ∧ s.get F.DRU_STATE_LOCK = 1) ∧
    (∃ (s : State), Running s ∧ s.role ≠ 2) :=
  ⟨⟨yardWith Yard.reset [], after (yardWith Yard.reset []) (rG 0 5 (own + 1)) 0x22, rG 0 5 (own + 1), by exact ⟨by decide +kernel, rfl, Or.inr (Or.inl ⟨by decide +kernel, Nat.succ_ne_self _⟩)⟩⟩,
    ⟨yardWith Yard.reset [], after (yardWith Yard.reset []) (rG 0x32 5 (own + 1)) 0x22, rG 0x32 5 (own + 1), by exact ⟨by decide +kernel, rfl, by decide +kernel⟩⟩,
    ⟨{ alone { Yard.reset with enumSent := true } [(F.XSH_ROLE_HEAD_PRIO, 4), (F.XSH_GEN_YARD_GEN, 255)] with pcie := { Pcie.reset with linkUp := true } }, by decide +kernel⟩,
    ⟨alone { Yard.reset with enumSent := true } [], by decide +kernel⟩,
    ⟨member yard5 [(F.TIM_SERVO_STATE, 1), (F.DRU_STATE_LOCK, 1)], by decide +kernel⟩,
    ⟨head yard5 [], by decide +kernel⟩⟩

/-- Clauses 1, 2, 3, 4, 5, 6, 7, 8, 9, 10, 11 of `RoutesAndSettings`: hypotheses met together. -/
theorem witness_RoutesAndSettings_a :
    (∃ (s u : State) (rx : Rx), (Running s ∧ u.role ≠ 2) ∧ (Arrives s rx 0x23 u) ∧ (Arrives s rx 0x26 u)) ∧
    (∃ (s u : State) (rx : Rx), Running s ∧ u.role ≠ 2) ∧
    (∃ (s u : State) (rx : Rx) (b : RouteTable), Running s ∧ Arrives s rx 0x23 u ∧ u.role = 2 ∧ b = routeOfBytes (rx.frame.addr % 4096) rx.frame.payload ∧ b.parent < 4 ∧ b.parent < u.yard.ports.length ∧ portUp u b.parent = true ∧ ((∀ k, k < 4 → (u.xport k).waiting = [] ∧ (portUp u k = false → (u.xport k).unacked = []))) ∧ 1 ≤ creditsHeld (u.xport b.parent) 0 ∧ replayBytes (u.xport b.parent) + 32 ≤ 131072) ∧
    (∃ (s u : State) (rx : Rx), Running s ∧ Arrives s rx 0x24 u ∧ rx.frame.addr % 4096 = u.get F.XSH_GEN_EPOCH) ∧
    (∃ (s u : State) (rx : Rx), Running s ∧ Arrives s rx 0x24 u ∧ rx.frame.addr % 4096 ≠ u.get F.XSH_GEN_EPOCH) ∧
    (∃ (s : State), Running s ∧ (s.yard.epochRunning = false ∨ s.yard.ackAwait ≠ [])) ∧
    (∃ (s : State) (f : Frame) (k : Nat), Running s ∧ s.yard.epochRunning = true ∧ s.yard.ackAwait = [] ∧ s.yard.heldFrames = [f] ∧ s.yard.joining = [] ∧ s.yard.epochAgain = false ∧ SendsAtOnce s f k) ∧
    (∃ (s : State) (n : Nat) (m : YardMember), (Running s ∧ s.role = 1 ∧ s.yard.epochRunning = true ∧ s.yard.ackAwait = [] ∧ s.yard.heldFrames = [] ∧ s.yard.joining = [n] ∧ s.yard.epochAgain = false ∧ n < 64 ∧ s.yard.members.find? (fun x => decide (x.number = n)) = some m ∧ m.known = false) ∧ (s.get F.XSH_STRANGER_VALID = 0)) ∧
    (∃ (s u : State) (rx : Rx), Running s ∧ Arrives s rx 0x25 u ∧ u.role ≠ 1) ∧
    (∃ (s u : State) (rx : Rx), Running s ∧ Arrives s rx 0x25 u ∧ u.role = 1 ∧ u.yard.epochRunning = true) ∧
    (∃ (s u : State) (rx : Rx), Running s ∧ Arrives s rx 0x25 u ∧ u.role = 1 ∧ u.yard.epochRunning = true) ∧
    (∃ (s u : State) (rx : Rx), (Running s ∧ Arrives s rx 0x25 u ∧ u.role = 1 ∧ u.yard.epochRunning = false) ∧ ((∀ m ∈ u.yard.members, m.number < 64))) ∧
    (∃ (s u : State) (rx : Rx) (b : List Byte), Running s ∧ Arrives s rx 0x26 u ∧ u.role = 2 ∧ b = rx.frame.payload ∧ leAt b 0 2 < 2 ^ 13 ∧ u.get F.DRU_STATE_STATE = 2 ∧ u.get F.DRU_STATE_LOCK = 0 ∧ u.get F.DRU_LOCK_CTRL_EN = 1 ∧ leAt b 3 1 % 2 = 1 ∧ u.get F.DRU_STATE_FACETS = leAt b 2 1 ∧ u.get F.GLB_START_STAGE ≠ 5 ∧ u.get F.DRU_REQ_EFF_MODE = 1) ∧
    (∃ (s u : State) (rx : Rx) (b : List Byte), Running s ∧ Arrives s rx 0x26 u ∧ u.role = 2 ∧ b = rx.frame.payload ∧ leAt b 0 2 < 2 ^ 13 ∧ u.get F.DRU_STATE_STATE = 2 ∧ u.get F.DRU_STATE_LOCK = 0 ∧ u.get F.DRU_LOCK_CTRL_EN = 1 ∧ leAt b 3 1 % 2 = 1 ∧ u.get F.DRU_STATE_FACETS = leAt b 2 1 ∧ u.get F.GLB_START_STAGE ≠ 5 ∧ u.get F.DRU_REQ_EFF_MODE = 1) :=
  ⟨⟨head yard5 [], after (head yard5 []) rY 0x26, rY, by decide +kernel, by decide +kernel, by decide +kernel⟩,
    ⟨yardWith { yard5 with replyPorts := [] } [(F.XSH_ROLE_NUMBER, 5)], after (yardWith { yard5 with replyPorts := [] } [(F.XSH_ROLE_NUMBER, 5)]) rT 0x23, rT, by decide +kernel⟩,
    ⟨member yard5 [], after (member yard5 []) rT 0x23, rT, routeOfBytes 7 rT.frame.payload, by decide +kernel⟩,
    ⟨head { yard5 with ackAwait := [3, 5], epochRunning := true } [(F.XSH_GEN_EPOCH, 7)], after (head { yard5 with ackAwait := [3, 5], epochRunning := true } [(F.XSH_GEN_EPOCH, 7)]) (rK 7) 0x24, rK 7, by decide +kernel⟩,
    ⟨head { yard5 with ackAwait := [3, 5], epochRunning := true } [(F.XSH_GEN_EPOCH, 7)], after (head { yard5 with ackAwait := [3, 5], epochRunning := true } [(F.XSH_GEN_EPOCH, 7)]) (rK 6) 0x24, rK 6, by decide +kernel⟩,
    ⟨head { yard5 with ackAwait := [3, 5], epochRunning := true } [], by decide +kernel⟩,
    ⟨member { yard5 with heldFrames := [heldF], heldDests := [0], epochRunning := true } [], heldF, 0, by decide +kernel⟩,
    ⟨head { yard5 with members := [mem5], joining := [5], epochRunning := true } [], 5, mem5, by decide +kernel, by decide +kernel⟩,
    ⟨yardWith Yard.reset [], after (yardWith Yard.reset []) (rL 0) 0x25, rL 0, by decide +kernel⟩,
    ⟨head { yard5 with downLinks := [(5, 2)], epochRunning := true } [], after (head { yard5 with downLinks := [(5, 2)], epochRunning := true } []) (rL 1) 0x25, rL 1, by decide +kernel⟩,
    ⟨head { yard5 with downLinks := [(5, 1)], epochRunning := true } [], after (head { yard5 with downLinks := [(5, 1)], epochRunning := true } []) (rL 0) 0x25, rL 0, by decide +kernel⟩,
    ⟨head { yard5 with members := [mem5] } [(F.XSH_GEN_EPOCH, 4095)], after (head { yard5 with members := [mem5] } [(F.XSH_GEN_EPOCH, 4095)]) (rL 0) 0x25, rL 0, by decide +kernel, by decide +kernel⟩,
    ⟨member yard5 [(F.DRU_STATE_STATE, 2), (F.DRU_LOCK_CTRL_EN, 1), (F.DRU_STATE_FACETS, 6), (F.DRU_REQ_EFF_MODE, 1)], after (member yard5 [(F.DRU_STATE_STATE, 2), (F.DRU_LOCK_CTRL_EN, 1), (F.DRU_STATE_FACETS, 6), (F.DRU_REQ_EFF_MODE, 1)]) rY 0x26, rY, rY.frame.payload, by decide +kernel⟩,
    ⟨member yard5 [(F.DRU_STATE_STATE, 2), (F.DRU_LOCK_CTRL_EN, 1), (F.DRU_STATE_FACETS, 6), (F.DRU_REQ_EFF_MODE, 1)], after (member yard5 [(F.DRU_STATE_STATE, 2), (F.DRU_LOCK_CTRL_EN, 1), (F.DRU_STATE_FACETS, 6), (F.DRU_REQ_EFF_MODE, 1)]) rY0 0x26, rY0, rY0.frame.payload, by decide +kernel⟩⟩

/-- Clauses 12, 13, 14 of `RoutesAndSettings`: hypotheses met together. -/
theorem witness_RoutesAndSettings_b :
    (∃ (s u : State) (rx : Rx) (b : List Byte), Running s ∧ Arrives s rx 0x26 u ∧ u.role = 2 ∧ b = rx.frame.payload ∧ leAt b 0 2 < 2 ^ 13 ∧ u.get F.DRU_STATE_STATE = 0 ∧ u.get F.DRU_STATE_LOCK = 0 ∧ u.get F.DRU_STATE_FACETS ≠ 0 ∧ u.get F.DRU_STATE_FACETS ≠ leAt b 2 1 ∧ u.get F.GLB_START_STAGE ≠ 5 ∧ u.get F.DRU_REQ_EFF_MODE = 0) ∧
    (∃ (s : State), Running s ∧ (s.role ≠ 1 ∨ (setBits s.yard.cur.children 4).filter (portUp s) = [])) ∧
    (∃ (s : State) (k : Nat), Running s ∧ s.role = 1 ∧ (setBits s.yard.cur.children 4).filter (portUp s) = [k] ∧ k < s.yard.ports.length ∧ (s.xport k).waiting = [] ∧ 1 ≤ creditsHeld (s.xport k) 0 ∧ replayBytes (s.xport k) + 56 ≤ 131072) :=
  ⟨⟨member yard5 [(F.DRU_STATE_FACETS, 4), (F.DRU_REQ_EFF_MODE, 0)], after (member yard5 [(F.DRU_STATE_FACETS, 4), (F.DRU_REQ_EFF_MODE, 0)]) rY 0x26, rY, rY.frame.payload, by decide +kernel⟩,
    ⟨yardWith yard5 [], by decide +kernel⟩,
    ⟨head { yard5 with cur := { tbl with children := 4 } } [], 2, by decide +kernel⟩⟩

end W24

namespace W25

/-- A part of the witnesses below. -/
def tbl : RouteTable := ⟨6, 0, 0, 0, 0, [(7, 7, 7), (0, 0, 0), (2, 2, 2)]⟩
/-- A part of the witnesses below. -/
def yard5 : Yard := { Yard.reset with cur := tbl, prev := tbl }
/-- Member 5 of a yard. -/
def member (y : Yard) (l : List (Field × Nat)) : State := yardWith y ([(F.XSH_ROLE_ROLE, 2), (F.XSH_ROLE_NUMBER, 5)] ++ l)
/-- The head of a yard. -/
def head (y : Yard) (l : List (Field × Nat)) : State := yardWith y ([(F.XSH_ROLE_ROLE, 1), (F.XSH_ROLE_NUMBER, 0)] ++ l)
/-- A part of the witnesses below. -/
def linkedHead (y : Yard) (l : List (Field × Nat)) : State := { head y l with pcie := { Pcie.reset with linkUp := true } }
/-- A part of the witnesses below. -/
def rS (id eye conf t : Nat) : Rx := rxOf (frameOf 0x30 3 0 5 0 0 0 (leBytes 4 id ++ leBytes 1 eye ++ leBytes 1 conf ++ leBytes 2 0 ++ leBytes 4 100 ++ leBytes 4 0 ++ leBytes 4 5000 ++ leBytes 4 0 ++ leBytes 8 t))
/-- A part of the witnesses below. -/
def rV : Rx := rxOf { frameOf 0x31 3 0 0 0 0 0 (leBytes 4 3 ++ leBytes 4 1 ++ List.replicate 48 1 ++ leBytes 8 2000) with bcast := true }
/-- A part of the witnesses below. -/
def rC1 (kind : Nat) : Rx := rxOf { frameOf 0x32 0 0 0 0 0 0 (leBytes 4 12 ++ leBytes 2 1 ++ leBytes 2 0 ++ leBytes 1 kind ++ leBytes 1 2 ++ leBytes 1 1 ++ leBytes 1 0 ++ leBytes 4 3 ++ leBytes 8 0) with bcast := true }
/-- A part of the witnesses below. -/
def rC9 : Rx := rxOf { frameOf 0x32 0 0 0 0 0 0 (leBytes 4 12 ++ leBytes 2 64 ++ leBytes 2 0 ++ List.replicate 1016 1) with bcast := true }
/-- A part of the witnesses below. -/
def seen (x : Int) : Viewer := ⟨2, 3, 0, false, some (eyeAt x), none, 1000⟩
/-- A part of the witnesses below. -/
def rost (v : Viewer) : Roster := { Roster.reset with viewers := [v], edition := [v], lastId := 9 }
/-- A part of the witnesses below. -/
def pr1 : Frame := mkFrame 0x39 3 0 0 0 2 77 0 []

/-- Clauses 1, 2, 3, 4, 5, 6, 7, 8 of `TheRosterCrossesTheYard`: hypotheses met together. -/
theorem witness_TheRosterCrossesTheYard :
    (∃ (s u : State) (rx : Rx) (period : Nat), Running s ∧ Arrives s rx 0x30 u ∧ ((leAt rx.frame.payload 0 4 = 0 ∧ u.role ≠ 1) ∨ (leAt rx.frame.payload 0 4 ≠ 0 ∧ ∀ v ∈ u.roster.viewers, v.id ≠ leAt rx.frame.payload 0 4))) ∧
    (∃ (s u : State) (rx : Rx) (period : Nat) (b : List Byte) (v : Viewer) (e : EyeEst), Running s ∧ Arrives s rx 0x30 u ∧ b = rx.frame.payload ∧ leAt b 0 4 ≠ 0 ∧ u.roster.viewers.find? (fun w => decide (w.id = leAt b 0 4)) = some v ∧ leAt b 4 1 = 0 ∧ v.left = some e ∧ e.te - (period : Int) ≤ ((leAt b 0x18 8 : Nat) : Int) ∧ 2 ≤ leAt b 5 1 ∧ ((∀ w ∈ u.roster.viewers, ∀ x ∈ u.roster.viewers, w.id = x.id → w.owner = x.owner))) ∧
    (∃ (s u : State) (rx : Rx) (period : Nat) (b : List Byte) (v : Viewer), Running s ∧ Arrives s rx 0x30 u ∧ b = rx.frame.payload ∧ leAt b 0 4 ≠ 0 ∧ u.roster.viewers.find? (fun w => decide (w.id = leAt b 0 4)) = some v ∧ leAt b 4 1 = 1 ∧ v.right = none) ∧
    (∃ (s u : State) (rx : Rx) (period : Nat) (b : List Byte) (v : Viewer) (e : EyeEst), Running s ∧ Arrives s rx 0x30 u ∧ b = rx.frame.payload ∧ leAt b 0 4 ≠ 0 ∧ u.roster.viewers.find? (fun w => decide (w.id = leAt b 0 4)) = some v ∧ leAt b 4 1 = 0 ∧ v.left = some e ∧ ((leAt b 0x18 8 : Nat) : Int) < e.te - (period : Int)) ∧
    (∃ (s u : State) (rx : Rx) (b : List Byte), Running s ∧ Arrives s rx 0x31 u ∧ b = rx.frame.payload) ∧
    (∃ (s u : State) (rx : Rx), Running s ∧ Arrives s rx 0x32 u ∧ u.role ≠ 2) ∧
    (∃ (s u : State) (rx : Rx) (b : List Byte), Running s ∧ Arrives s rx 0x32 u ∧ u.role = 2 ∧ b = rx.frame.payload ∧ leAt b 4 2 ≠ 0 ∧ 944 < b.length) ∧
    (∃ (s u : State) (rx : Rx) (b : List Byte), (Running s ∧ Arrives s rx 0x32 u ∧ u.role = 2 ∧ b = rx.frame.payload ∧ leAt b 4 2 = 1 ∧ b.length = 24 ∧ (u.yard.rosterGen ≠ leAt b 0 4 ∨ u.yard.rosterParts = [])) ∧ (leAt b 8 1 = 1)) ∧
    (∃ (s u : State) (rx : Rx) (b : List Byte), (Running s ∧ Arrives s rx 0x32 u ∧ u.role = 2 ∧ b = rx.frame.payload ∧ leAt b 4 2 = 1 ∧ b.length = 24 ∧ (u.yard.rosterGen ≠ leAt b 0 4 ∨ u.yard.rosterParts = [])) ∧ (leAt b 8 1 = 2)) :=
  ⟨⟨{ head yard5 [] with roster := rost (seen 50) }, after ({ head yard5 [] with roster := rost (seen 50) }) (rS 4 0 3 2000) 0x30, rS 4 0 3 2000, 1000, by decide +kernel⟩,
    ⟨{ head yard5 [] with roster := rost (seen 50) }, after ({ head yard5 [] with roster := rost (seen 50) }) (rS 3 0 3 2000) 0x30, rS 3 0 3 2000, 1000, (rS 3 0 3 2000).frame.payload, seen 50, eyeAt 50, by decide +kernel⟩,
    ⟨{ head yard5 [] with roster := rost (seen 50) }, after ({ head yard5 [] with roster := rost (seen 50) }) (rS 3 1 3 2000) 0x30, rS 3 1 3 2000, 1000, (rS 3 1 3 2000).frame.payload, seen 50, by decide +kernel⟩,
    ⟨{ head yard5 [] with roster := rost (seen 50) }, after ({ head yard5 [] with roster := rost (seen 50) }) (rS 3 0 3 20) 0x30, rS 3 0 3 20, 100, (rS 3 0 3 20).frame.payload, seen 50, eyeAt 50, by decide +kernel⟩,
    ⟨{ member yard5 [] with roster := rost (seen 50) }, after ({ member yard5 [] with roster := rost (seen 50) }) rV 0x31, rV, rV.frame.payload, by decide +kernel⟩,
    ⟨{ head yard5 [] with roster := rost (seen 50) }, after ({ head yard5 [] with roster := rost (seen 50) }) (rC1 1) 0x32, rC1 1, by decide +kernel⟩,
    ⟨{ member yard5 [] with roster := rost (seen 50) }, after ({ member yard5 [] with roster := rost (seen 50) }) rC9 0x32, rC9, rC9.frame.payload, by decide +kernel⟩,
    ⟨{ member yard5 [] with roster := rost (seen 50) }, after ({ member yard5 [] with roster := rost (seen 50) }) (rC1 1) 0x32, rC1 1, (rC1 1).frame.payload, by decide +kernel, by decide +kernel⟩,
    ⟨{ member yard5 [] with roster := rost (seen 50) }, after ({ member yard5 [] with roster := rost (seen 50) }) (rC1 2) 0x32, rC1 2, (rC1 2).frame.payload, by decide +kernel, by decide +kernel⟩⟩

/-- Clauses 1, 2, 3, 4, 5, 6 of `FlipsCrossTheYard`: hypotheses met together. -/
theorem witness_FlipsCrossTheYard :
    (∃ (s u : State) (rx : Rx), (Running s) ∧ (u.role ≠ 2 ∧ Arrives s rx 0x38 u) ∧ (u.role ≠ 1 ∧ Arrives s rx 0x39 u) ∧ (u.role ≠ 2 ∧ Arrives s rx 0x3A u)) ∧
    (∃ (s u : State) (rx : Rx) (g tag k : Nat) (r : Frame), Running s ∧ Arrives s rx 0x38 u ∧ u.role = 2 ∧ g = rx.frame.arg % 4 ∧ tag = rx.frame.addr % 2 ^ 32 ∧ r = mkFrame 0x39 3 0 0 0 g tag 0 [] ∧ SendsAtOnce u r k) ∧
    (∃ (s u : State) (rx : Rx) (g : Nat), Running s ∧ Arrives s rx 0x39 u ∧ u.role = 1 ∧ g = rx.frame.arg % 4 ∧ (g, rx.frame.src) ∈ u.cmp.acks ∧ u.get (F.CMP_FLIP_TAG_TAG g) = rx.frame.addr % 2 ^ 32) ∧
    (∃ (s u : State) (rx : Rx) (g : Nat), Running s ∧ Arrives s rx 0x39 u ∧ u.role = 1 ∧ g = rx.frame.arg % 4 ∧ (g, rx.frame.src) ∈ u.cmp.acks ∧ u.get (F.CMP_FLIP_TAG_TAG g) = rx.frame.addr % 2 ^ 32) ∧
    (∃ (s u : State) (rx : Rx) (g : Nat), Running s ∧ Arrives s rx 0x39 u ∧ u.role = 1 ∧ g = rx.frame.arg % 4 ∧ ((g, rx.frame.src) ∉ u.cmp.acks ∨ u.get (F.CMP_FLIP_TAG_TAG g) ≠ rx.frame.addr % 2 ^ 32)) ∧
    (∃ (s u : State) (rx : Rx) (g tag : Nat) (e : Nat × Nat × Nat), Running s ∧ Arrives s rx 0x3A u ∧ u.role = 2 ∧ g = rx.frame.arg % 4 ∧ tag = leAt rx.frame.payload 0 4 ∧ u.cmp.prepared.find? (fun e => decide (e.1 = g) && decide (e.2.1 = tag)) = some e) ∧
    (∃ (s u : State) (rx : Rx), Running s ∧ Arrives s rx 0x3A u ∧ u.role = 2 ∧ ((∀ e ∈ u.cmp.prepared, e.1 ≠ rx.frame.arg % 4 ∨ e.2.1 ≠ leAt rx.frame.payload 0 4))) :=
  ⟨⟨yardWith { yard5 with replyPorts := [] } [], after (yardWith { yard5 with replyPorts := [] } []) (rxOf (frameOf 0x39 3 0 5 2 77 0 [])) 0x39, rxOf (frameOf 0x39 3 0 5 2 77 0 []), by decide +kernel, by decide +kernel, by decide +kernel, by decide +kernel⟩,
    ⟨{ member yard5 [] with cmp := { Cmp.reset with striped := 5, prepared := [(2, 76, 1), (1, 3, 1)] } }, after ({ member yard5 [] with cmp := { Cmp.reset with striped := 5, prepared := [(2, 76, 1), (1, 3, 1)] } }) (rxOf { frameOf 0x38 0 0 0 2 77 0 [] with bcast := true }) 0x38, rxOf { frameOf 0x38 0 0 0 2 77 0 [] with bcast := true }, 2, 77, 0, pr1, by decide +kernel⟩,
    ⟨{ head yard5 [(F.CMP_FLIP_TAG_TAG 2, 77), (F.CMP_FLIP_CTRL_ARMED 2, 1)] with cmp := { Cmp.reset with acks := [(2, 5)] } }, after ({ head yard5 [(F.CMP_FLIP_TAG_TAG 2, 77), (F.CMP_FLIP_CTRL_ARMED 2, 1)] with cmp := { Cmp.reset with acks := [(2, 5)] } }) (rxOf (frameOf 0x39 3 0 5 2 77 0 [])) 0x39, rxOf (frameOf 0x39 3 0 5 2 77 0 []), 2, by decide +kernel⟩,
    ⟨{ head yard5 [(F.CMP_FLIP_TAG_TAG 2, 77), (F.CMP_FLIP_CTRL_ARMED 2, 1)] with cmp := { Cmp.reset with acks := [(2, 5), (2, 6)] } }, after ({ head yard5 [(F.CMP_FLIP_TAG_TAG 2, 77), (F.CMP_FLIP_CTRL_ARMED 2, 1)] with cmp := { Cmp.reset with acks := [(2, 5), (2, 6)] } }) (rxOf (frameOf 0x39 3 0 5 2 77 0 [])) 0x39, rxOf (frameOf 0x39 3 0 5 2 77 0 []), 2, by decide +kernel⟩,
    ⟨{ head yard5 [(F.CMP_FLIP_TAG_TAG 2, 76), (F.CMP_FLIP_CTRL_ARMED 2, 1)] with cmp := { Cmp.reset with acks := [(2, 5)] } }, after ({ head yard5 [(F.CMP_FLIP_TAG_TAG 2, 76), (F.CMP_FLIP_CTRL_ARMED 2, 1)] with cmp := { Cmp.reset with acks := [(2, 5)] } }) (rxOf (frameOf 0x39 3 0 5 2 77 0 [])) 0x39, rxOf (frameOf 0x39 3 0 5 2 77 0 []), 2, by decide +kernel⟩,
    ⟨{ member yard5 [] with cmp := { Cmp.reset with prepared := [(2, 77, 5), (1, 3, 1)] } }, after ({ member yard5 [] with cmp := { Cmp.reset with prepared := [(2, 77, 5), (1, 3, 1)] } }) (rxOf { frameOf 0x3A 0 0 0 2 5000 0 (leBytes 4 77) with bcast := true }) 0x3A, rxOf { frameOf 0x3A 0 0 0 2 5000 0 (leBytes 4 77) with bcast := true }, 2, 77, (2, 77, 5), by decide +kernel⟩,
    ⟨{ member yard5 [] with cmp := { Cmp.reset with prepared := [(2, 76, 5), (1, 3, 1)] } }, after ({ member yard5 [] with cmp := { Cmp.reset with prepared := [(2, 76, 5), (1, 3, 1)] } }) (rxOf { frameOf 0x3A 0 0 0 2 5000 0 (leBytes 4 77) with bcast := true }) 0x3A, rxOf { frameOf 0x3A 0 0 0 2 5000 0 (leBytes 4 77) with bcast := true }, by decide +kernel⟩⟩

end W25

namespace W26

/-- A part of the witnesses below. -/
def tbl : RouteTable := ⟨6, 0, 0, 0, 0, [(7, 7, 7), (0, 0, 0), (2, 2, 2)]⟩
/-- A part of the witnesses below. -/
def yard5 : Yard := { Yard.reset with cur := tbl, prev := tbl }
/-- Member 5 of a yard. -/
def member (y : Yard) (l : List (Field × Nat)) : State := yardWith y ([(F.XSH_ROLE_ROLE, 2), (F.XSH_ROLE_NUMBER, 5)] ++ l)
/-- The head of a yard. -/
def head (y : Yard) (l : List (Field × Nat)) : State := yardWith y ([(F.XSH_ROLE_ROLE, 1), (F.XSH_ROLE_NUMBER, 0)] ++ l)
/-- A part of the witnesses below. -/
def linkedHead (y : Yard) (l : List (Field × Nat)) : State := { head y l with pcie := { Pcie.reset with linkUp := true } }
/-- A part of the witnesses below. -/
def msg (typ clock seq ns : Nat) (rest : List Byte) : List Byte :=
  beBytes 1 typ ++ beBytes 1 2 ++ beBytes 2 (44 + rest.length) ++ List.replicate 4 0 ++ beBytes 8 0 ++ beBytes 4 0 ++ beBytes 8 clock ++ beBytes 2 1 ++ beBytes 2 seq ++
    beBytes 2 0 ++ beBytes 6 (ns / 1000000000) ++ beBytes 4 (ns % 1000000000) ++ rest
/-- A part of the witnesses below. -/
def rPtp (typ clock seq ns : Nat) (rest : List Byte) : Rx := rxOf (frameOf 0x40 0 0 0 0 0 0 (msg typ clock seq ns rest))
/-- A part of the witnesses below. -/
def mtm (x : Tim) (l : List (Field × Nat)) : State := { member yard5 l with tim := x }
/-- A part of the witnesses below. -/
def t0 : Tim := { Tim.reset with syncs := [⟨7, 9, 100000 * 65536, 0, 0⟩], lockedMean := 0x200000000 }
/-- A part of the witnesses below. -/
def tx0 : Tim := { Tim.reset with exchanges := [⟨0, 7, some 1000, some (9, 2000, 4000), none, 0⟩] }
/-- A part of the witnesses below. -/
def trigState (g : Trig) (l : List (Field × Nat)) : State := { upWith ([(F.TIM_TIME_NS, 1000)] ++ l) with tim := { Tim.reset with trigs := Tim.reset.trigs.set 2 g } }
/-- A part of the witnesses below. -/
def trg : Trig := ⟨900, 64 * 2 ^ 32, 10, 5, 1, 4, none⟩
/-- A part of the witnesses below. -/
def caps16 : List Capture := List.replicate 16 ⟨3, 5, 0, false⟩
/-- A part of the witnesses below. -/
def stm (typ : Nat) (r : Bool) : TxStamp := ⟨2, typ, 77, 5000, 3, r⟩

/-- Clauses 1, 2, 3, 4, 5, 6, 7, 8 of `TheYardKeepsTime`: hypotheses met together. -/
theorem witness_TheYardKeepsTime_a :
    (∃ (s u : State) (rx : Rx) (typ stamp : Nat) (c : Instr), Running s ∧ (typ, c) ∈ [(0x0, Instr.ptpSync rx stamp), (0x8, .ptpFollowUp rx stamp), (0x2, .ptpPdelayReq rx stamp), (0x3, .ptpPdelayResp rx stamp),
      (0xA, .ptpPdelayRespFollowUp rx stamp)] ∧ Arrives s { rx with frame := asMessage typ rx.frame } 0x40 u ∧ (ptpSound typ (asMessage typ rx.frame).payload = false ∨ ((typ = 0x0 ∨ typ = 0x8) ∧ slavePort u (rx.port % 4) = false))) ∧
    (∃ (s u : State) (rx : Rx) (typ stamp : Nat) (c : Instr), Running s ∧ (typ, c) ∈ [(0x0, Instr.ptpSync rx stamp), (0x8, .ptpFollowUp rx stamp), (0x2, .ptpPdelayReq rx stamp), (0x3, .ptpPdelayResp rx stamp),
      (0xA, .ptpPdelayRespFollowUp rx stamp)] ∧ Arrives s { rx with frame := asMessage typ rx.frame } 0x40 u ∧ (ptpSound typ (asMessage typ rx.frame).payload = false ∨ ((typ = 0x0 ∨ typ = 0x8) ∧ slavePort u (rx.port % 4) = false))) ∧
    (∃ (s u : State) (rx : Rx) (stamp k : Nat) (b : List Byte), Running s ∧ Arrives s { rx with frame := asMessage 0x0 rx.frame } 0x40 u ∧ rx.port % 4 = k ∧ b = (asMessage 0x0 rx.frame).payload ∧ ptpSound 0x0 b = true ∧ u.role = 2 ∧ k = u.yard.cur.parent) ∧
    (∃ (s u : State) (rx : Rx) (stamp k : Nat) (b : List Byte) (e : SyncSeen) (theta : Int), (Running s ∧ Arrives s { rx with frame := asMessage 0x8 rx.frame } 0x40 u ∧ rx.port % 4 = k ∧ b = (asMessage 0x8 rx.frame).payload ∧ ptpSound 0x8 b = true ∧ u.role = 2 ∧ k = u.yard.cur.parent) ∧ (u.tim.syncs.find? (fun x => decide (x.seq = beAt b 30 2 ∧ x.clock = beAt b 20 8)) = none)) ∧
    (∃ (s u : State) (rx : Rx) (stamp k : Nat) (b : List Byte) (e : SyncSeen) (theta : Int), (Running s ∧ Arrives s { rx with frame := asMessage 0x8 rx.frame } 0x40 u ∧ rx.port % 4 = k ∧ b = (asMessage 0x8 rx.frame).payload ∧ ptpSound 0x8 b = true ∧ u.role = 2 ∧ k = u.yard.cur.parent) ∧ (u.tim.syncs.find? (fun x => decide (x.seq = beAt b 30 2 ∧ x.clock = beAt b 20 8)) = some e ∧ theta = (e.stamp : Int) - (ptpTime b + e.corr) - (((u.get (F.TIM_MEAN_DELAY_D k) : Nat) : Int) + u.getInt (F.TIM_ASYM_A k))) ∧ (u.tim.syncs.find? (fun x => decide (x.seq = beAt b 30 2 ∧ x.clock = beAt b 20 8)) = some e ∧ theta = (e.stamp : Int) - (ptpTime b + e.corr) - (((u.get (F.TIM_MEAN_DELAY_D k) : Nat) : Int) + u.getInt (F.TIM_ASYM_A k)) ∧ e.stepGen ≠ u.get F.TIM_STEPS_COUNT % 16)) ∧
    (∃ (s u : State) (rx : Rx) (stamp k : Nat) (b : List Byte) (e : SyncSeen) (theta : Int), (Running s ∧ Arrives s { rx with frame := asMessage 0x8 rx.frame } 0x40 u ∧ rx.port % 4 = k ∧ b = (asMessage 0x8 rx.frame).payload ∧ ptpSound 0x8 b = true ∧ u.role = 2 ∧ k = u.yard.cur.parent) ∧ (u.tim.syncs.find? (fun x => decide (x.seq = beAt b 30 2 ∧ x.clock = beAt b 20 8)) = some e ∧ theta = (e.stamp : Int) - (ptpTime b + e.corr) - (((u.get (F.TIM_MEAN_DELAY_D k) : Nat) : Int) + u.getInt (F.TIM_ASYM_A k)) ∧ e.stepGen = u.get F.TIM_STEPS_COUNT % 16 ∧ u.get F.TIM_SERVO_STATE = 1 ∧ 10000 * 65536 < iabs theta ∧ u.tim.stepped = false)) ∧
    (∃ (s u : State) (rx : Rx) (stamp k : Nat) (b : List Byte) (e : SyncSeen) (theta : Int), (Running s ∧ Arrives s { rx with frame := asMessage 0x8 rx.frame } 0x40 u ∧ rx.port % 4 = k ∧ b = (asMessage 0x8 rx.frame).payload ∧ ptpSound 0x8 b = true ∧ u.role = 2 ∧ k = u.yard.cur.parent) ∧ (u.tim.syncs.find? (fun x => decide (x.seq = beAt b 30 2 ∧ x.clock = beAt b 20 8)) = some e ∧ theta = (e.stamp : Int) - (ptpTime b + e.corr) - (((u.get (F.TIM_MEAN_DELAY_D k) : Nat) : Int) + u.getInt (F.TIM_ASYM_A k)) ∧ e.stepGen = u.get F.TIM_STEPS_COUNT % 16 ∧ u.get F.TIM_SERVO_STATE = 2 ∧ iabs theta ≤ 1000 * 65536 ∧ 0x1FF7CED91 + u.tim.lockedMean * 200 / 1000000 ≤ u.tim.lockedMean ∧ u.tim.lockedMean + u.tim.lockedMean * 200 / 1000000 ≤ 0x20083126F)) ∧
    (∃ (s u : State) (rx : Rx) (stamp k : Nat) (b : List Byte) (e : SyncSeen) (theta : Int), (Running s ∧ Arrives s { rx with frame := asMessage 0x8 rx.frame } 0x40 u ∧ rx.port % 4 = k ∧ b = (asMessage 0x8 rx.frame).payload ∧ ptpSound 0x8 b = true ∧ u.role = 2 ∧ k = u.yard.cur.parent) ∧ (u.tim.syncs.find? (fun x => decide (x.seq = beAt b 30 2 ∧ x.clock = beAt b 20 8)) = some e ∧ theta = (e.stamp : Int) - (ptpTime b + e.corr) - (((u.get (F.TIM_MEAN_DELAY_D k) : Nat) : Int) + u.getInt (F.TIM_ASYM_A k)) ∧ e.stepGen = u.get F.TIM_STEPS_COUNT % 16 ∧ u.get F.TIM_SERVO_STATE = 3 ∧ iabs theta ≤ 1000 * 65536)) ∧
    (∃ (s u : State) (rx : Rx) (stamp k : Nat) (b : List Byte), Running s ∧ Arrives s { rx with frame := asMessage 0x2 rx.frame } 0x40 u ∧ rx.port % 4 = k ∧ k < u.yard.ports.length ∧ b = (asMessage 0x2 rx.frame).payload ∧ ptpSound 0x2 b = true ∧ b.length = 54 ∧ (u.xport k).waiting = [] ∧ 2 ≤ creditsHeld (u.xport k) 0 ∧ replayBytes (u.xport k) + 86 ≤ 131072) ∧
    (∃ (s u : State) (rx : Rx) (stamp k : Nat) (b : List Byte), (Running s ∧ Arrives s { rx with frame := asMessage 0x3 rx.frame } 0x40 u ∧ rx.port % 4 = k ∧ b = (asMessage 0x3 rx.frame).payload ∧ ptpSound 0x3 b = true) ∧ ((beAt b 44 8 ≠ myClock ∨ beAt b 52 2 ≠ k + 1 ∨ (∀ e ∈ u.tim.exchanges, e.port ≠ k ∨ e.seq ≠ beAt b 30 2)))) ∧
    (∃ (s u : State) (rx : Rx) (stamp k seq : Nat) (b : List Byte), (Running s ∧ Arrives s { rx with frame := asMessage 0xA rx.frame } 0x40 u ∧ rx.port % 4 = k ∧ b = (asMessage 0xA rx.frame).payload ∧ ptpSound 0xA b = true ∧ seq = beAt b 30 2) ∧ (((∀ e ∈ u.tim.exchanges, e.port = k → e.seq = seq → ∀ r, e.resp = some r → r.1 ≠ beAt b 20 8)))) ∧
    (∃ (s u : State) (rx : Rx) (stamp k seq : Nat) (b : List Byte), Running s ∧ Arrives s { rx with frame := asMessage 0xA rx.frame } 0x40 u ∧ rx.port % 4 = k ∧ b = (asMessage 0xA rx.frame).payload ∧ ptpSound 0xA b = true ∧ seq = beAt b 30 2) ∧
    (∃ (s : State), Running s ∧ (setBits s.yard.cur.children 4).filter (portUp s) = []) ∧
    (∃ (s : State) (k : Nat), Running s ∧ (setBits s.yard.cur.children 4).filter (portUp s) = [k] ∧ k < s.yard.ports.length ∧ (s.xport k).waiting = [] ∧ 2 ≤ creditsHeld (s.xport k) 0 ∧ replayBytes (s.xport k) + 76 ≤ 131072) :=
  ⟨⟨member yard5 [], after (member yard5 []) { rPtp 0 9 7 0 [] with frame := { (rPtp 0 9 7 0 []).frame with payload := [0, 3] } } 0x40, { rPtp 0 9 7 0 [] with frame := { (rPtp 0 9 7 0 []).frame with payload := [0, 3] } }, 0, 5000, .ptpSync { rPtp 0 9 7 0 [] with frame := { (rPtp 0 9 7 0 []).frame with payload := [0, 3] } } 5000, by decide +kernel⟩,
    ⟨head yard5 [], after (head yard5 []) (rPtp 8 9 7 0 []) 0x40, rPtp 8 9 7 0 [], 8, 5000, .ptpFollowUp (rPtp 8 9 7 0 []) 5000, by decide +kernel⟩,
    ⟨member yard5 [], after (member yard5 []) (rPtp 0 9 7 0 []) 0x40, rPtp 0 9 7 0 [], 5000, 0, msg 0 9 7 0 [], by decide +kernel⟩,
    ⟨member yard5 [], after (member yard5 []) (rPtp 8 9 7 0 []) 0x40, rPtp 8 9 7 0 [], 5000, 0, msg 8 9 7 0 [], ⟨7, 9, 100000, 0, 0⟩, 0, by decide +kernel, by decide +kernel⟩,
    ⟨mtm t0 [(F.TIM_SERVO_STATE, 1), (F.TIM_STEPS_COUNT, 17)], after (mtm t0 [(F.TIM_SERVO_STATE, 1), (F.TIM_STEPS_COUNT, 17)]) (rPtp 8 9 7 0 []) 0x40, rPtp 8 9 7 0 [], 5000, 0, msg 8 9 7 0 [], ⟨7, 9, 100000 * 65536, 0, 0⟩, 100000 * 65536, by decide +kernel, by decide +kernel, by decide +kernel⟩,
    ⟨mtm t0 [(F.TIM_SERVO_STATE, 1), (F.TIM_TIME_NS, 200000)], after (mtm t0 [(F.TIM_SERVO_STATE, 1), (F.TIM_TIME_NS, 200000)]) (rPtp 8 9 7 0 []) 0x40, rPtp 8 9 7 0 [], 5000, 0, msg 8 9 7 0 [], ⟨7, 9, 100000 * 65536, 0, 0⟩, 100000 * 65536, by decide +kernel, by decide +kernel⟩,
    ⟨mtm t0 [(F.TIM_SERVO_STATE, 2), (F.TIM_INCREMENT_INC, 0x200000000)], after (mtm t0 [(F.TIM_SERVO_STATE, 2), (F.TIM_INCREMENT_INC, 0x200000000)]) (rPtp 8 9 7 99500 []) 0x40, rPtp 8 9 7 99500 [], 5000, 0, msg 8 9 7 99500 [], ⟨7, 9, 100000 * 65536, 0, 0⟩, 500 * 65536, by decide +kernel, by decide +kernel⟩,
    ⟨mtm t0 [(F.TIM_SERVO_STATE, 3), (F.TIM_INCREMENT_INC, 0x200000000)], after (mtm t0 [(F.TIM_SERVO_STATE, 3), (F.TIM_INCREMENT_INC, 0x200000000)]) (rPtp 8 9 7 100500 []) 0x40, rPtp 8 9 7 100500 [], 5000, 0, msg 8 9 7 100500 [], ⟨7, 9, 100000 * 65536, 0, 0⟩, -500 * 65536, by decide +kernel, by decide +kernel⟩,
    ⟨member yard5 [], after (member yard5 []) (rPtp 2 9 7 0 (List.replicate 10 0)) 0x40, rPtp 2 9 7 0 (List.replicate 10 0), 5000, 0, msg 2 9 7 0 (List.replicate 10 0), by decide +kernel⟩,
    ⟨member yard5 [], after (member yard5 []) (rPtp 3 9 7 0 (List.replicate 8 1 ++ beBytes 2 1)) 0x40, rPtp 3 9 7 0 (List.replicate 8 1 ++ beBytes 2 1), 5000, 0, msg 3 9 7 0 (List.replicate 8 1 ++ beBytes 2 1), by decide +kernel, Or.inr (Or.inr (by decide +kernel))⟩,
    ⟨mtm tx0 [], after (mtm tx0 []) (rPtp 10 8 7 0 []) 0x40, rPtp 10 8 7 0 [], 5000, 0, 7, msg 10 8 7 0 [], by decide +kernel, by decide +kernel⟩,
    ⟨mtm tx0 [], after (mtm tx0 []) (rPtp 10 9 7 3000 []) 0x40, rPtp 10 9 7 3000 [], 5000, 0, 7, msg 10 9 7 3000 [], by decide +kernel⟩,
    ⟨head yard5 [], by decide +kernel⟩,
    ⟨head { yard5 with cur := { tbl with children := 4 } } [], 2, by decide +kernel⟩⟩

/-- Clauses 9, 10, 11, 12 of `TheYardKeepsTime`: hypotheses met together. -/
theorem witness_TheYardKeepsTime_b :
    (∃ (s : State), Running s ∧ upPorts s = []) ∧
    (∃ (s : State) (k : Nat), Running s ∧ upPorts s = [k] ∧ k < s.yard.ports.length ∧ (s.xport k).waiting = [] ∧ 2 ≤ creditsHeld (s.xport k) 0 ∧ replayBytes (s.xport k) + 86 ≤ 131072) ∧
    (∃ (s : State), Running s ∧ (s.get F.TIM_SERVO_STATE = 1 ∨ s.get F.TIM_SERVO_STATE = 2) ∧ s.get F.DRU_STATE_LOCK = 0) ∧
    (∃ (s : State), Running s ∧ s.get F.TIM_SERVO_STATE ≠ 1 ∧ s.get F.TIM_SERVO_STATE ≠ 2) :=
  ⟨⟨upWith [], by decide +kernel⟩,
    ⟨yardWith yard5 [(F.XSH_PORT_STATE 2, 0)], 0, by decide +kernel⟩,
    ⟨member yard5 [(F.TIM_SERVO_STATE, 2)], by decide +kernel⟩,
    ⟨upWith [], by decide +kernel⟩⟩

/-- Clauses 1, 2, 3, 4, 5, 6, 7, 8, 9, 10 of `StepsTriggersAndStamps`: hypotheses met together. -/
theorem witness_StepsTriggersAndStamps_a :
    (∃ (s : State) (m : Master) (data : Nat) (d : Int), Running s ∧ MayWrite s m 0x110 ∧ data < 2 ^ 64 ∧ d = toSigned data 64) ∧
    (∃ (s : State) (n : Nat) (g : Trig), Running s ∧ n < 16 ∧ s.tim.trigs[n]? = some g ∧ g.fall = none ∧ s.get (F.TIM_TRIG_CTRL_EN n) = 1 ∧ trigSound g = true ∧ (g.count = 0 ∨ g.made < g.count) ∧ pulseTime g ≤ ((timeFrac s : Nat) : Int) ∧ ((∀ c, c < 8 → s.get (F.TIM_CAP_CFG_SOURCE c) ≠ 16 + n))) ∧
    (∃ (s : State) (n : Nat) (g : Trig) (f : Int), (Running s ∧ n < 16 ∧ s.tim.trigs[n]? = some g ∧ g.fall = some f ∧ f ≤ ((timeFrac s : Nat) : Int) ∧ ((∀ c, c < 8 → s.get (F.TIM_CAP_CFG_SOURCE c) ≠ 16 + n))) ∧ (s.get (F.TIM_TRIG_CTRL_UPDATE n) = 0)) ∧
    (∃ (s : State) (n : Nat) (g : Trig) (f : Int), (Running s ∧ n < 16 ∧ s.tim.trigs[n]? = some g ∧ g.fall = some f ∧ f ≤ ((timeFrac s : Nat) : Int) ∧ ((∀ c, c < 8 → s.get (F.TIM_CAP_CFG_SOURCE c) ≠ 16 + n))) ∧ (s.get (F.TIM_TRIG_CTRL_UPDATE n) = 1)) ∧
    (∃ (s : State) (n : Nat) (g : Trig), Running s ∧ n < 16 ∧ s.tim.trigs[n]? = some g ∧ ((g.fall = none ∧ (s.get (F.TIM_TRIG_CTRL_EN n) = 0 ∨ trigSound g = false ∨ (g.count ≠ 0 ∧ g.count ≤ g.made) ∨ ((timeFrac s : Nat) : Int) < pulseTime g)) ∨
      (∃ f, g.fall = some f ∧ ((timeFrac s : Nat) : Int) < f))) ∧
    (∃ (s : State) (n : Nat) (g : Trig), Running s ∧ n < 16 ∧ s.tim.trigs[n]? = some g ∧ ((g.fall = none ∧ (s.get (F.TIM_TRIG_CTRL_EN n) = 0 ∨ trigSound g = false ∨ (g.count ≠ 0 ∧ g.count ≤ g.made) ∨ ((timeFrac s : Nat) : Int) < pulseTime g)) ∨
      (∃ f, g.fall = some f ∧ ((timeFrac s : Nat) : Int) < f))) ∧
    (∃ (s : State) (m : Master) (n data : Nat) (g h : Trig), Running s ∧ MayWrite s m 0x112 ∧ n < 16 ∧ data < 2 ^ 32 ∧ s.tim.trigs[n]? = some g ∧ g.fall = none ∧ h = ⟨s.get (F.TIM_TRIG_START_NS n), s.get (F.TIM_TRIG_PERIOD_PERIOD n), s.get (F.TIM_TRIG_WIDTH_NS n), s.get (F.TIM_TRIG_COUNT_COUNT n), 0, 0, none⟩) ∧
    (∃ (s : State) (m : Master) (n data : Nat) (g : Trig) (f : Int), Running s ∧ MayWrite s m 0x112 ∧ n < 16 ∧ data < 2 ^ 32 ∧ s.tim.trigs[n]? = some g ∧ g.fall = some f ∧ s.get (F.TIM_TRIG_CTRL_EN n) = 1) ∧
    (∃ (s : State) (source c : Nat) (falling : Bool), (Running s ∧ source < 13 ∧ c < 8 ∧ (source ≠ 1 ∨ s.get F.TIM_SERVO_STATE ≠ 0 ∨ s.get F.TIM_SERVO_PPS = 0) ∧ ((∀ x, x < 8 → (s.get (F.TIM_CAP_CFG_SOURCE x) = source ∧ hasBit (s.get (F.TIM_CAP_CFG_EDGE x)) (if falling then 1 else 0) = true ↔ x = c)))) ∧ ((s.tim.caps.filter (fun e => decide (e.channel = c))).length < 16)) ∧
    (∃ (s : State) (source c : Nat) (falling : Bool), (Running s ∧ source < 13 ∧ c < 8 ∧ (source ≠ 1 ∨ s.get F.TIM_SERVO_STATE ≠ 0 ∨ s.get F.TIM_SERVO_PPS = 0) ∧ ((∀ x, x < 8 → (s.get (F.TIM_CAP_CFG_SOURCE x) = source ∧ hasBit (s.get (F.TIM_CAP_CFG_EDGE x)) (if falling then 1 else 0) = true ↔ x = c)))) ∧ (16 ≤ (s.tim.caps.filter (fun e => decide (e.channel = c))).length)) ∧
    (∃ (s : State) (source : Nat) (falling : Bool), Running s ∧ (source ≠ 1 ∨ s.get F.TIM_SERVO_STATE ≠ 0 ∨ s.get F.TIM_SERVO_PPS = 0) ∧ (13 ≤ source ∨ (∀ x, x < 8 → ¬(s.get (F.TIM_CAP_CFG_SOURCE x) = source ∧ hasBit (s.get (F.TIM_CAP_CFG_EDGE x)) (if falling then 1 else 0) = true)))) ∧
    (∃ (s : State) (falling : Bool), Running s ∧ s.get F.TIM_SERVO_STATE = 0 ∧ s.get F.TIM_SERVO_PPS = 1 ∧ s.get (F.TIM_CAP_CFG_SOURCE 1) = 1 ∧ hasBit (s.get (F.TIM_CAP_CFG_EDGE 1)) (if falling then 1 else 0) = true) ∧
    (∃ (s : State) (m : Master) (c data : Nat), (Running s ∧ MayWrite s m 0x113 ∧ c < 8 ∧ data < 2 ^ 32) ∧ (s.tim.caps.filter (fun e => decide (e.channel = c)) = [])) ∧
    (∃ (s : State) (m : Master) (c data : Nat), Running s ∧ MayWrite s m 0x113 ∧ c < 8 ∧ data < 2 ^ 32) :=
  ⟨⟨trigState { trg with fall := some 5 } [], .mp 0, 2 ^ 64 - 5, -5, by decide +kernel⟩,
    ⟨trigState trg [(F.TIM_TRIG_CTRL_EN 2, 1), (F.TIM_SYNC_OUT_EN, 1), (F.TIM_SYNC_OUT_SEL, 2), (F.CAM_CFG_TRIGGERED 3, 1), (F.CAM_CFG_FSYNC_TRIG 3, 2)], 2, trg, by decide +kernel⟩,
    ⟨trigState { trg with fall := some (999 * 2 ^ 32) } [(F.TIM_TRIG_CTRL_LEVEL 2, 1)], 2, { trg with fall := some (999 * 2 ^ 32) }, 999 * 2 ^ 32, by decide +kernel, by decide +kernel⟩,
    ⟨trigState { trg with fall := some (999 * 2 ^ 32) } [(F.TIM_TRIG_CTRL_LEVEL 2, 1), (F.TIM_TRIG_CTRL_UPDATE 2, 1), (F.TIM_TRIG_PERIOD_PERIOD 2, 2 ^ 40)], 2, { trg with fall := some (999 * 2 ^ 32) }, 999 * 2 ^ 32, by decide +kernel, by decide +kernel⟩,
    ⟨trigState trg [], 2, trg, by decide +kernel⟩,
    ⟨trigState { trg with fall := some (1001 * 2 ^ 32) } [], 2, { trg with fall := some (1001 * 2 ^ 32) }, by decide +kernel⟩,
    ⟨trigState trg [], .mp 0, 2, 3, trg, ⟨0, 0, 0, 0, 0, 0, none⟩, by decide +kernel⟩,
    ⟨trigState { trg with fall := some 5 } [(F.TIM_TRIG_CTRL_EN 2, 1)], .mp 0, 2, 2, { trg with fall := some 5 }, 5, by decide +kernel⟩,
    ⟨trigState trg [(F.TIM_CAP_CFG_SOURCE 3, 12), (F.TIM_CAP_CFG_EDGE 3, 2)], 12, 3, true, by decide +kernel, by decide +kernel⟩,
    ⟨{ trigState trg [(F.TIM_CAP_CFG_SOURCE 3, 12), (F.TIM_CAP_CFG_EDGE 3, 1)] with tim := { Tim.reset with caps := caps16 } }, 12, 3, false, by decide +kernel, by decide +kernel⟩,
    ⟨trigState trg [(F.TIM_CAP_CFG_SOURCE 3, 12), (F.TIM_CAP_CFG_EDGE 3, 1)], 12, true, by decide +kernel⟩,
    ⟨trigState trg [(F.TIM_SERVO_PPS, 1), (F.TIM_CAP_CFG_SOURCE 1, 1), (F.TIM_CAP_CFG_EDGE 1, 1)], false, by decide +kernel⟩,
    ⟨trigState trg [], .mp 0, 3, 1, by decide +kernel, by decide +kernel⟩,
    ⟨{ trigState trg [] with tim := { Tim.reset with caps := ⟨2, 4, 3, true⟩ :: ⟨3, 4, 3, true⟩ :: caps16 } }, .mp 0, 3, 1, by decide +kernel⟩⟩

/-- Clauses 11, 12, 13 of `StepsTriggersAndStamps`: hypotheses met together. -/
theorem witness_StepsTriggersAndStamps_b :
    (∃ (s : State) (m : Master) (k data : Nat), (Running s ∧ MayWrite s m 0x111 ∧ k < 4 ∧ data < 2 ^ 32) ∧ ((txqOf s k).find? (fun e => decide (e.typ = bitsOf data 24 4 ∧ e.seq = bitsOf data 0 16)) = none)) ∧
    (∃ (s : State) (m : Master) (k data : Nat), Running s ∧ MayWrite s m 0x111 ∧ k < 4 ∧ data < 2 ^ 32) ∧
    (∃ (s : State) (m : Master) (k data : Nat), Running s ∧ MayWrite s m 0x111 ∧ k < 4 ∧ data < 2 ^ 32) ∧
    (∃ (s : State) (k : Nat), Running s ∧ k < 4 ∧ txqOf s k = []) ∧
    (∃ (s : State) (k : Nat) (e : TxStamp), Running s ∧ k < 4 ∧ (txqOf s k).head? = some e) :=
  ⟨⟨trigState trg [], .mp 0, 2, 0x100004D, by decide +kernel, by decide +kernel⟩,
    ⟨{ yardWith yard5 [] with tim := { Tim.reset with txq := [stm 0 false] } }, .mp 0, 2, 77, by decide +kernel⟩,
    ⟨{ yardWith yard5 [] with tim := { Tim.reset with txq := [stm 0 true] } }, .mp 0, 2, 77, by decide +kernel⟩,
    ⟨trigState trg [], 3, by decide +kernel⟩,
    ⟨{ yardWith yard5 [] with tim := { Tim.reset with txq := [⟨1, 0, 7, 7, 7, false⟩, stm 0 false, stm 0 true] } }, 2, stm 0 false, by decide +kernel⟩⟩

end W26

namespace W27

/-- A part of the witnesses below. -/
def dm (x : Dmc) (l : List (Field × Nat)) : State := { dramWith l with dmc := x }
/-- A part of the witnesses below. -/
def lf (x : Loft) (l : List (Field × Nat)) : State := { dramWith ([(F.SEC_REGION_LIMIT 0, 1000), (F.LFT_HOLDUP_CFG_CAP_UF, 10000), (F.LFT_STATUS_TEMP_OK, 1)] ++ l) with loft := x }

/-- Clauses 1, 2, 3, 4, 5, 6, 7, 8, 9, 10, 11, 12 of `DramIsKept`: hypotheses met together. -/
theorem witness_DramIsKept_a :
    (∃ (s : State), Running s) ∧
    (∃ (s : State) (k d : Nat), (Running s ∧ k < 768 ∧ rankPresent s (k / 48 * 4 + k / 16 % 3) = true ∧ d = mapVal s.dmc.debts k + 1) ∧ (d < 8)) ∧
    (∃ (s : State) (k d : Nat), (Running s ∧ k < 768 ∧ rankPresent s (k / 48 * 4 + k / 16 % 3) = true ∧ d = mapVal s.dmc.debts k + 1) ∧ (8 ≤ d)) ∧
    (∃ (s : State) (c r : Nat) (step : Int), Running s ∧ c < 16 ∧ r < 3) ∧
    (∃ (s : State) (a w found : Nat), Running s ∧ w = a / 8 * 8 ∧ w ∉ s.mem.badDram ∧ w ∉ s.mem.weakDram ∧ (found = 0 ∨ w ∈ s.mem.poisonDram)) ∧
    (∃ (s : State) (a w u : Nat), Running s ∧ w = a / 8 * 8 ∧ w ∉ s.mem.badDram ∧ w ∉ s.mem.weakDram ∧ w ∉ s.mem.poisonDram ∧ rankOf s w = some u ∧ u < 64 ∧ u % 4 < 3 ∧ s.dmc.ceTimes = [] ∧ 1 ≤ s.get F.DMC_SPARE_CFG_CE_LIMIT) ∧
    (∃ (s : State) (a w u : Nat), Running s ∧ w = a / 8 * 8 ∧ w ∉ s.mem.weakDram ∧ w ∉ s.mem.poisonDram ∧ rankOf s w = some u ∧ u < 64 ∧ u % 4 < 3) ∧
    (∃ (s : State) (u : Nat), Running s ∧ u < 64 ∧ u % 4 < 3 ∧ s.dmc.ceTimes = [] ∧ 1 ≤ s.get F.DMC_SPARE_CFG_CE_LIMIT) ∧
    (∃ (s : State) (a w u n : Nat), (Running s ∧ w = a / 8 * 8 ∧ w ∉ s.mem.weakDram ∧ w ∉ s.mem.poisonDram ∧ rankOf s w = some u ∧ u < 64 ∧ u % 4 < 3) ∧ (n < 8) ∧ (n < 4 ∧ s.rsy.kernel.slot ≠ n)) ∧
    (∃ (s : State) (m : Master) (data : Nat), (Running s ∧ MayWrite s m 0x130 ∧ data < 2 ^ 32) ∧ (speedAllowed s = true)) ∧
    (∃ (s : State) (m : Master) (data : Nat), (Running s ∧ MayWrite s m 0x130 ∧ data < 2 ^ 32) ∧ (speedAllowed s = false)) ∧
    (∃ (s : State), Running s ∧ s.get F.DMC_SPEED_BUSY = 1) ∧
    (∃ (s : State), Running s ∧ s.get F.DMC_SPEED_BUSY = 0) ∧
    (∃ (s : State), Running s ∧ (s.dmc.event = none ∨ (∃ u, s.dmc.event = some (u, [])) ∨ s.get F.DMC_SPEED_BUSY = 1)) :=
  ⟨⟨dm { Dmc.reset with debts := [(3, 4)] } [(F.DMC_CH_STATE_STATE 5, 2)], by decide +kernel⟩,
    ⟨dm { Dmc.reset with debts := [(48, 3)] } [(F.DMC_CH_STATE_STATE 5, 2), (F.DMC_CH_STATE_RANK_PRESENT 1, 7)], 48, 4, by decide +kernel, by decide +kernel⟩,
    ⟨dm { Dmc.reset with debts := [(48, 7)] } [(F.DMC_CH_STATE_STATE 5, 2), (F.DMC_CH_STATE_RANK_PRESENT 1, 7)], 48, 8, by decide +kernel, by decide +kernel⟩,
    ⟨dm { Dmc.reset with centring := [(6, 5), (7, 8)] } [], 1, 2, -9, by decide +kernel⟩,
    ⟨dm Dmc.reset [], 0x1003, 0x1000, 0, by decide +kernel⟩,
    ⟨dm Dmc.reset [(F.DMC_SPARE_CFG_CE_LIMIT, 9)], 0x1003, 0x1000, 0, by decide +kernel⟩,
    ⟨dm Dmc.reset [], 0x1003, 0x1000, 0, by decide +kernel⟩,
    ⟨dm Dmc.reset [(F.DMC_SPARE_CFG_CE_LIMIT, 9)], 62, by decide +kernel⟩,
    ⟨dm Dmc.reset [(F.DMC_SPARE_CFG_CE_LIMIT, 9), (F.RSY_PKG_INFO_VALID 3, 1)], 0x1003, 0x1000, 0, 3, by decide +kernel, by decide +kernel, by decide +kernel⟩,
    ⟨dm { Dmc.reset with debts := [(48, 3)] } [(F.DMC_CH_STATE_STATE 5, 2)], .mp 0, 1, by decide +kernel, by decide +kernel⟩,
    ⟨dm { Dmc.reset with debts := [(48, 3)] } [(F.DMC_SPEED_BUSY, 1)], .mp 0, 1, by decide +kernel, by decide +kernel⟩,
    ⟨dm Dmc.reset [(F.DMC_SPEED_BUSY, 1), (F.DMC_CH_STATE_STATE 5, 3), (F.DMC_SPEED_ACTIVE, 1)], by decide +kernel⟩,
    ⟨dm Dmc.reset [], by decide +kernel⟩,
    ⟨dm { Dmc.reset with event := some (5, [1, 2]) } [(F.DMC_SPEED_BUSY, 1)], by exact ⟨by decide +kernel, Or.inr (Or.inr (by decide +kernel))⟩⟩⟩

/-- Clauses 13, 14, 15, 16, 17 of `DramIsKept`: hypotheses met together. -/
theorem witness_DramIsKept_b :
    (∃ (s : State) (u e : Nat), Running s ∧ s.dmc.event = some (u, [e]) ∧ e < 4 ∧ u < 64 ∧ u % 4 < 3 ∧ s.get F.DMC_SPEED_BUSY = 0 ∧ s.dmc.requests = [u] ∧ s.mem.badDram = []) ∧
    (∃ (s : State) (u e f : Nat), Running s ∧ s.dmc.event = some (u, [e, f]) ∧ e < 4 ∧ f < 4 ∧ e ≠ f ∧ s.get F.DMC_SPEED_BUSY = 0 ∧ s.mem.badDram = []) ∧
    (∃ (s : State) (m : Master) (c data : Nat), (Running s ∧ c < 16 ∧ MayWrite s m (0x120 + c) ∧ data < 2 ^ 32 ∧ bitsOf data 28 2 ≤ 2 ∧ 1 ≤ bitsOf data 0 10) ∧ ((s.get (F.DMC_CH_STATE_STATE c) < 2 ∨ hasBit (s.get F.DMC_SPARE_SET_RANKS) (3 * c + bitsOf data 16 2) = true))) ∧
    (∃ (s : State) (m : Master) (c data : Nat), (Running s ∧ c < 16 ∧ MayWrite s m (0x120 + c) ∧ data < 2 ^ 32 ∧ bitsOf data 28 2 ≤ 2 ∧ 1 ≤ bitsOf data 0 10) ∧ (2 ≤ s.get (F.DMC_CH_STATE_STATE c) ∧ hasBit (s.get F.DMC_SPARE_SET_RANKS) (3 * c + bitsOf data 16 2) = false) ∧ (2 ≤ s.get (F.DMC_CH_STATE_STATE c) ∧ hasBit (s.get F.DMC_SPARE_SET_RANKS) (3 * c + bitsOf data 16 2) = false ∧ s.get (F.ERR_FIRST_VALID (0x120 + c)) = 0)) ∧
    (∃ (s : State) (c errors lane : Nat), Running s ∧ c < 16 ∧ s.get (F.DMC_LOOP_BUSY c) = 0) ∧
    (∃ (s : State) (c errors lane u : Nat), (Running s ∧ c < 16 ∧ s.get (F.DMC_LOOP_BUSY c) = 1 ∧ u = 4 * c + s.get (F.DMC_LOOP_RANK c)) ∧ ((errors = 0 ∨ u ∉ standby s))) ∧
    (∃ (s : State) (c errors lane u : Nat), (Running s ∧ c < 16 ∧ s.get (F.DMC_LOOP_BUSY c) = 1 ∧ u = 4 * c + s.get (F.DMC_LOOP_RANK c)) ∧ (0 < errors ∧ u ∈ standby s)) :=
  ⟨⟨dm { Dmc.reset with event := some (5, [1]), requests := [5] } [(F.DMC_STATE_SPARES_LEFT, 3)], 5, 1, by decide +kernel⟩,
    ⟨dm { Dmc.reset with event := some (5, [1, 2]), requests := [5] } [(F.DMC_STATE_SPARES_LEFT, 3)], 5, 1, 2, by decide +kernel⟩,
    ⟨dm Dmc.reset [(F.DMC_CH_STATE_STATE 5, 1)], .mp 0, 5, 0x20020003, by decide +kernel, by decide +kernel⟩,
    ⟨dm Dmc.reset [(F.DMC_CH_STATE_STATE 5, 2)], .mp 0, 5, 0x20020003, by decide +kernel, by decide +kernel, by decide +kernel⟩,
    ⟨dm Dmc.reset [], 5, 0, 0, by decide +kernel⟩,
    ⟨dm Dmc.reset [(F.DMC_LOOP_BUSY 5, 1), (F.DMC_LOOP_RANK 5, 2)], 5, 2 ^ 33, 75, 22, by decide +kernel, by decide +kernel⟩,
    ⟨dm Dmc.reset [(F.DMC_LOOP_BUSY 5, 1), (F.DMC_LOOP_RANK 5, 2), (F.DMC_SPARE_SET_RANKS, 2 ^ 17), (F.DMC_STATE_SPARES_LEFT, 1), (F.DMC_CH_STATE_RANK_SPARE 5, 7)], 5, 3, 71, 22, by decide +kernel, by decide +kernel⟩⟩

end W27

namespace W28

/-- A part of the witnesses below. -/
def lf (x : Loft) (l : List (Field × Nat)) : State := { dramWith ([(F.SEC_REGION_WORLD 0, 0), (F.LFT_HOLDUP_CFG_CAP_UF, 10000), (F.LFT_STATUS_TEMP_OK, 1), (F.LFT_BUF_CLAIM_HOLDER, 2)] ++ l) with loft := x }

/-- Clauses 1, 2, 3, 4, 5, 6, 7, 8 of `TheLoftIsWritten`: hypotheses met together. -/
theorem witness_TheLoftIsWritten_a :
    (∃ (s : State) (m : Master) (data : Nat), Running s ∧ MayWrite s m 0x140 ∧ data < 2 ^ 32 ∧ hasBit data 30 = false) ∧
    (∃ (s : State) (m : Master) (data : Nat), (Running s ∧ MayWrite s m 0x140 ∧ data < 2 ^ 32 ∧ hasBit data 31 = false) ∧ (s.get F.LFT_BUF_CLAIM_HOLDER = m.code ∧ s.get F.LFT_CMD_STATUS_BUSY = 0)) ∧
    (∃ (s : State) (m : Master) (data : Nat), (Running s ∧ MayWrite s m 0x140 ∧ data < 2 ^ 32 ∧ hasBit data 31 = false) ∧ (s.get F.LFT_BUF_CLAIM_HOLDER = m.code ∧ s.get F.LFT_CMD_STATUS_BUSY = 1)) ∧
    (∃ (s : State) (m : Master) (data : Nat), (Running s ∧ MayWrite s m 0x140 ∧ data < 2 ^ 32 ∧ hasBit data 31 = false) ∧ (s.get F.LFT_BUF_CLAIM_HOLDER ≠ m.code)) ∧
    (∃ (s : State) (m : Master) (v o : Nat), Running s ∧ MayWrite s m 0x140 ∧ v < 2 ^ 64 ∧ s.get F.LFT_BUF_CLAIM_HOLDER = m.code ∧ s.get F.LFT_CMD_STATUS_BUSY = 0 ∧ s.get F.ERR_INJECT_ARM = 0 ∧ o = s.get F.LFT_BUF_PTR_OFFSET * 8) ∧
    (∃ (s : State) (m : Master) (v o : Nat), Running s ∧ MayWrite s m 0x140 ∧ v < 2 ^ 64 ∧ s.get F.LFT_BUF_CLAIM_HOLDER = m.code ∧ s.get F.LFT_CMD_STATUS_BUSY = 0 ∧ s.get F.ERR_INJECT_ARM = 0 ∧ o = s.get F.LFT_BUF_PTR_OFFSET * 8) ∧
    (∃ (s : State) (m : Master), Running s ∧ MayRead s m 0x140) ∧
    (∃ (s : State) (m : Master) (data a n : Nat), (Running s ∧ MayWrite s m 0x140 ∧ data < 2 ^ 64 ∧ s.get F.LFT_BUF_CLAIM_HOLDER = m.code ∧ s.get F.LFT_CMD_STATUS_BUSY = 0 ∧ s.get F.LFT_BUF_FILL_BUSY = 0 ∧ 1 ≤ bitsOf data 48 7 ∧ bitsOf data 48 7 ≤ 64 ∧ a = bitsOf data 6 30 * 64 ∧ n = bitsOf data 48 7 * 1024) ∧ ((mibPoints a n).all (byteSecure s) = true)) ∧
    (∃ (s : State) (m : Master) (data a n : Nat), (Running s ∧ MayWrite s m 0x140 ∧ data < 2 ^ 64 ∧ s.get F.LFT_BUF_CLAIM_HOLDER = m.code ∧ s.get F.LFT_CMD_STATUS_BUSY = 0 ∧ s.get F.LFT_BUF_FILL_BUSY = 0 ∧ 1 ≤ bitsOf data 48 7 ∧ bitsOf data 48 7 ≤ 64 ∧ a = bitsOf data 6 30 * 64 ∧ n = bitsOf data 48 7 * 1024) ∧ ((mibPoints a n).all (byteSecure s) = false)) ∧
    (∃ (s : State), Running s ∧ s.loft.fill = none) ∧
    (∃ (s : State) (a n : Nat), Running s ∧ s.loft.fill = some (a, n) ∧ dramBehind s a n = true ∧ (∀ w ∈ wordsOf a n, w ∉ s.mem.badDram ∧ w ∉ s.mem.poisonDram ∧ w ∉ s.mem.weakDram) ∧ s.get F.ERR_INJECT_ARM = 0) ∧
    (∃ (s : State) (m : Master) (a n mv p : Nat), (Running s ∧ MayWrite s m 0x140 ∧ n < 2 ^ 17 ∧ mv < 2 ^ 16 ∧ a = s.get F.LFT_STORE_ADDR_ADDR ∧ s.get F.LFT_CMD_STATUS_BUSY = 0 ∧ s.get F.LFT_BUF_FILL_BUSY = 0 ∧ s.get F.LFT_BUF_CLAIM_HOLDER = m.code ∧ 0 < n ∧ n ≤ 65536 ∧ loftPartition (a / 256) = some p ∧ loftPartition ((a + n - 1) / 256) = some p) ∧ (bpProtects (s.get F.LFT_CTRL_BP) ((a + n - 1) / 256) = false ∧ mayWritePartition m p = true ∧ s.get F.LFT_STATUS_POWER_DOWN = 0 ∧ s.get F.LFT_STATUS_TEMP_OK = 1 ∧ s.get F.LFT_STATUS_JOURNAL ≠ 3 ∧ reserveCovers mv (s.get F.LFT_HOLDUP_CFG_CAP_UF) (loftPages a n) = true ∧ (∀ w ∈ s.loft.badBuf, n ≤ w))) ∧
    (∃ (s : State) (m : Master) (a n mv p : Nat), Running s ∧ MayWrite s m 0x140 ∧ n < 2 ^ 17 ∧ mv < 2 ^ 16 ∧ a = s.get F.LFT_STORE_ADDR_ADDR ∧ s.get F.LFT_CMD_STATUS_BUSY = 0 ∧ s.get F.LFT_BUF_FILL_BUSY = 0 ∧ s.get F.LFT_BUF_CLAIM_HOLDER = m.code ∧ 0 < n ∧ n ≤ 65536 ∧ loftPartition (a / 256) = some p ∧ loftPartition ((a + n - 1) / 256) = some p) ∧
    (∃ (s : State) (m : Master) (a n mv p : Nat), Running s ∧ MayWrite s m 0x140 ∧ n < 2 ^ 17 ∧ mv < 2 ^ 16 ∧ a = s.get F.LFT_STORE_ADDR_ADDR ∧ s.get F.LFT_CMD_STATUS_BUSY = 0 ∧ s.get F.LFT_BUF_FILL_BUSY = 0 ∧ s.get F.LFT_BUF_CLAIM_HOLDER = m.code ∧ 0 < n ∧ n ≤ 65536 ∧ loftPartition (a / 256) = some p ∧ loftPartition ((a + n - 1) / 256) = some p) :=
  ⟨⟨lf Loft.reset [(F.LFT_BUF_CLAIM_HOLDER, 15)], .mp 0, 2 ^ 31, by decide +kernel⟩,
    ⟨lf Loft.reset [], .mp 0, 2 ^ 30, by decide +kernel, by decide +kernel⟩,
    ⟨lf Loft.reset [(F.LFT_CMD_STATUS_BUSY, 1)], .mp 0, 2 ^ 30, by decide +kernel, by decide +kernel⟩,
    ⟨lf Loft.reset [(F.LFT_BUF_CLAIM_HOLDER, 4)], .mp 0, 2 ^ 30, by decide +kernel, by decide +kernel⟩,
    ⟨lf { Loft.reset with badBuf := [24, 32] } [(F.LFT_BUF_PTR_OFFSET, 4)], .mp 0, 0x0102030405060708, 32, by decide +kernel⟩,
    ⟨lf { Loft.reset with badBuf := [65528] } [(F.LFT_BUF_PTR_OFFSET, 8191)], .mp 0, 0x0102030405060708, 65528, by decide +kernel⟩,
    ⟨lf { Loft.reset with badBuf := [24, 32] } [(F.LFT_BUF_PTR_OFFSET, 8191)], .mp 0, by decide +kernel⟩,
    ⟨lf Loft.reset [], .mp 0, 0x0001000000001000, 0x1000, 1024, by decide +kernel, by decide +kernel⟩,
    ⟨lf Loft.reset [(F.SEC_REGION_WORLD 0, 1)], .mp 0, 0x0001000000001000, 0x1000, 1024, by decide +kernel, by decide +kernel⟩,
    ⟨lf Loft.reset [], by decide +kernel⟩,
    ⟨lf { Loft.reset with fill := some (0x1000, 1024) } [], 0x1000, 1024, by decide +kernel⟩,
    ⟨lf Loft.reset [(F.LFT_STORE_ADDR_ADDR, 0x1240F)], .mp 0, 0x1240F, 300, 5000, 3, by decide +kernel, by decide +kernel⟩,
    ⟨lf Loft.reset [(F.LFT_STORE_ADDR_ADDR, 0x1240F), (F.LFT_CTRL_BP, 3)], .mp 0, 0x1240F, 300, 5000, 3, by decide +kernel⟩,
    ⟨lf Loft.reset [(F.LFT_STORE_ADDR_ADDR, 0xC0000F), (F.LFT_BUF_CLAIM_HOLDER, 3)], .mp 1, 0xC0000F, 300, 5000, 0, by decide +kernel⟩⟩

/-- Clauses 8, 9, 10, 11, 12, 13, 14, 15 of `TheLoftIsWritten`: hypotheses met together. -/
theorem witness_TheLoftIsWritten_b :
    (∃ (s : State) (m : Master) (a n mv p : Nat), Running s ∧ MayWrite s m 0x140 ∧ n < 2 ^ 17 ∧ mv < 2 ^ 16 ∧ a = s.get F.LFT_STORE_ADDR_ADDR ∧ s.get F.LFT_CMD_STATUS_BUSY = 0 ∧ s.get F.LFT_BUF_FILL_BUSY = 0 ∧ s.get F.LFT_BUF_CLAIM_HOLDER = m.code ∧ 0 < n ∧ n ≤ 65536 ∧ loftPartition (a / 256) = some p ∧ loftPartition ((a + n - 1) / 256) = some p) ∧
    (∃ (s : State) (m : Master) (a n mv p : Nat), Running s ∧ MayWrite s m 0x140 ∧ n < 2 ^ 17 ∧ mv < 2 ^ 16 ∧ a = s.get F.LFT_STORE_ADDR_ADDR ∧ s.get F.LFT_CMD_STATUS_BUSY = 0 ∧ s.get F.LFT_BUF_FILL_BUSY = 0 ∧ s.get F.LFT_BUF_CLAIM_HOLDER = m.code ∧ 0 < n ∧ n ≤ 65536 ∧ loftPartition (a / 256) = some p ∧ loftPartition ((a + n - 1) / 256) = some p) ∧
    (∃ (s : State) (m : Master) (a n mv p : Nat), Running s ∧ MayWrite s m 0x140 ∧ n < 2 ^ 17 ∧ mv < 2 ^ 16 ∧ a = s.get F.LFT_STORE_ADDR_ADDR ∧ s.get F.LFT_CMD_STATUS_BUSY = 0 ∧ s.get F.LFT_BUF_FILL_BUSY = 0 ∧ s.get F.LFT_BUF_CLAIM_HOLDER = m.code ∧ 0 < n ∧ n ≤ 65536 ∧ loftPartition (a / 256) = some p ∧ loftPartition ((a + n - 1) / 256) = some p) ∧
    (∃ (s : State) (m : Master) (a n mv p : Nat), Running s ∧ MayWrite s m 0x140 ∧ n < 2 ^ 17 ∧ mv < 2 ^ 16 ∧ a = s.get F.LFT_STORE_ADDR_ADDR ∧ s.get F.LFT_CMD_STATUS_BUSY = 0 ∧ s.get F.LFT_BUF_FILL_BUSY = 0 ∧ s.get F.LFT_BUF_CLAIM_HOLDER = m.code ∧ 0 < n ∧ n ≤ 65536 ∧ loftPartition (a / 256) = some p ∧ loftPartition ((a + n - 1) / 256) = some p) ∧
    (∃ (s : State) (m : Master) (n mv code : Nat), Running s ∧ MayWrite s m 0x140 ∧ n < 2 ^ 17 ∧ mv < 2 ^ 16 ∧ (s.get F.LFT_BUF_CLAIM_HOLDER = 0xF ∨ s.get F.LFT_BUF_CLAIM_HOLDER = m.code) ∧ (((s.get F.LFT_CMD_STATUS_BUSY = 1 ∨ s.get F.LFT_BUF_FILL_BUSY = 1) ∧ code = 1) ∨
      (s.get F.LFT_CMD_STATUS_BUSY = 0 ∧ s.get F.LFT_BUF_FILL_BUSY = 0 ∧ s.get F.LFT_BUF_CLAIM_HOLDER = 0xF ∧ code = 2) ∨
      (s.get F.LFT_CMD_STATUS_BUSY = 0 ∧ s.get F.LFT_BUF_FILL_BUSY = 0 ∧ s.get F.LFT_BUF_CLAIM_HOLDER = m.code ∧ (n = 0 ∨ 65536 < n ∨ s.get F.LFT_STORE_ADDR_ADDR < 0x12400) ∧ code = 3))) ∧
    (∃ (s : State) (m : Master) (n mv code : Nat), Running s ∧ MayWrite s m 0x140 ∧ n < 2 ^ 17 ∧ mv < 2 ^ 16 ∧ (s.get F.LFT_BUF_CLAIM_HOLDER = 0xF ∨ s.get F.LFT_BUF_CLAIM_HOLDER = m.code) ∧ (((s.get F.LFT_CMD_STATUS_BUSY = 1 ∨ s.get F.LFT_BUF_FILL_BUSY = 1) ∧ code = 1) ∨
      (s.get F.LFT_CMD_STATUS_BUSY = 0 ∧ s.get F.LFT_BUF_FILL_BUSY = 0 ∧ s.get F.LFT_BUF_CLAIM_HOLDER = 0xF ∧ code = 2) ∨
      (s.get F.LFT_CMD_STATUS_BUSY = 0 ∧ s.get F.LFT_BUF_FILL_BUSY = 0 ∧ s.get F.LFT_BUF_CLAIM_HOLDER = m.code ∧ (n = 0 ∨ 65536 < n ∨ s.get F.LFT_STORE_ADDR_ADDR < 0x12400) ∧ code = 3))) ∧
    (∃ (s : State) (m : Master) (n mv code : Nat), Running s ∧ MayWrite s m 0x140 ∧ n < 2 ^ 17 ∧ mv < 2 ^ 16 ∧ (s.get F.LFT_BUF_CLAIM_HOLDER = 0xF ∨ s.get F.LFT_BUF_CLAIM_HOLDER = m.code) ∧ (((s.get F.LFT_CMD_STATUS_BUSY = 1 ∨ s.get F.LFT_BUF_FILL_BUSY = 1) ∧ code = 1) ∨
      (s.get F.LFT_CMD_STATUS_BUSY = 0 ∧ s.get F.LFT_BUF_FILL_BUSY = 0 ∧ s.get F.LFT_BUF_CLAIM_HOLDER = 0xF ∧ code = 2) ∨
      (s.get F.LFT_CMD_STATUS_BUSY = 0 ∧ s.get F.LFT_BUF_FILL_BUSY = 0 ∧ s.get F.LFT_BUF_CLAIM_HOLDER = m.code ∧ (n = 0 ∨ 65536 < n ∨ s.get F.LFT_STORE_ADDR_ADDR < 0x12400) ∧ code = 3))) ∧
    (∃ (s : State), Running s ∧ s.loft.commit = none) ∧
    (∃ (s : State) (a : Nat) (bs : List Byte), Running s ∧ s.loft.commit = some (a, bs) ∧ SoundMemory s ∧ s.loft.saveDue = false) ∧
    (∃ (s : State) (m : Master) (a : Nat), Running s ∧ MayRead s m 0x140 ∧ a = s.get F.LFT_RD_ADDR_WORD * 8 ∧ a ∉ s.mem.badLoft ∧ (a < 0xBF0000 ∨ 0xC00000 ≤ a)) ∧
    (∃ (s : State) (m : Master) (a found : Nat), (Running s ∧ MayRead s m 0x140 ∧ a = s.get F.LFT_RD_ADDR_WORD * 8 ∧ 0xBF0000 ≤ a ∧ a < 0xC00000 ∧ ((∀ i, i % 4 = 0 → m ≠ .mp i))) ∧ (s.get (F.ERR_FIRST_VALID 0x140) = 0)) ∧
    (∃ (s : State), Running s ∧ (s.loft.weak = [] ∨ (∃ w, s.loft.weak = [w] ∧ ownCheck s (w / 256) 1 ≠ 0))) ∧
    (∃ (s : State), Running s ∧ (s.loft.weak = [] ∨ (∃ w, s.loft.weak = [w] ∧ ownCheck s (w / 256) 1 ≠ 0))) ∧
    (∃ (s : State) (w : Nat), Running s ∧ SoundMemory s ∧ s.loft.weak = [w] ∧ ownCheck s (w / 256) 1 = 0) :=
  ⟨⟨lf Loft.reset [(F.LFT_STORE_ADDR_ADDR, 0x1240F), (F.LFT_STATUS_POWER_DOWN, 1)], .mp 0, 0x1240F, 300, 5000, 3, by decide +kernel⟩,
    ⟨lf Loft.reset [(F.LFT_STORE_ADDR_ADDR, 0x1240F), (F.LFT_STATUS_TEMP_OK, 0)], .mp 0, 0x1240F, 300, 5000, 3, by decide +kernel⟩,
    ⟨lf Loft.reset [(F.LFT_STORE_ADDR_ADDR, 0x1240F)], .mp 0, 0x1240F, 300, 0, 3, by decide +kernel⟩,
    ⟨lf { Loft.reset with badBuf := [296] } [(F.LFT_STORE_ADDR_ADDR, 0x1240F)], .mp 0, 0x1240F, 300, 5000, 3, by decide +kernel⟩,
    ⟨lf Loft.reset [(F.LFT_CMD_STATUS_BUSY, 1)], .mp 0, 300, 5000, 1, by decide +kernel⟩,
    ⟨lf Loft.reset [(F.LFT_BUF_CLAIM_HOLDER, 15)], .mp 0, 300, 5000, 2, by decide +kernel⟩,
    ⟨lf Loft.reset [(F.LFT_STORE_ADDR_ADDR, 0x123FF)], .mp 0, 300, 5000, 3, by decide +kernel⟩,
    ⟨lf Loft.reset [], by decide +kernel⟩,
    ⟨lf { Loft.reset with commit := some (0x1240F, [1, 2, 0, 3]), releaseWait := true } [], 0x1240F, [1, 2, 0, 3], by decide +kernel⟩,
    ⟨lf Loft.reset [(F.LFT_RD_ADDR_WORD, 0x17DFFF)], .mp 0, 0xBEFFF8, by decide +kernel⟩,
    ⟨lf Loft.reset [(F.LFT_RD_ADDR_WORD, 0x17E000)], .mp 1, 0xBF0000, 2, by exact ⟨by decide +kernel, by decide +kernel, by decide +kernel, by decide +kernel, by decide +kernel, fun i h e => by cases e; simp at h⟩, by decide +kernel⟩,
    ⟨lf Loft.reset [], by exact ⟨by decide +kernel, Or.inl (by decide +kernel)⟩⟩,
    ⟨lf { Loft.reset with weak := [4096] } [(F.LFT_STATUS_POWER_DOWN, 1)], by exact ⟨by decide +kernel, Or.inr ⟨4096, by decide +kernel⟩⟩⟩,
    ⟨lf { Loft.reset with weak := [0x13000] } [(F.LFT_HOLDUP_CFG_V_MV, 5000)], 0x13000, by decide +kernel⟩⟩

end W28

namespace W29

/-- A part of the witnesses below. -/
def sens (x : Therm) (l : List (Field × Nat)) : State := { upWith ((List.range 48).map (fun i => (F.THM_SENSOR_STATE i, 0)) ++ l) with therm := x }
/-- A part of the witnesses below. -/
def nbrs (i : Nat) : List (Field × Nat) := [(F.THM_NBR_NBR0 i, 1), (F.THM_NBR_NBR1 i, 2), (F.THM_NBR_NBR2 i, 3), (F.THM_NBR_NBR3 i, 127), (F.THM_RAW_TEMP 1, 400), (F.THM_RAW_TEMP 2, 500), (F.THM_RAW_TEMP 3, 600)]
/-- A part of the witnesses below. -/
def far (i : Nat) : List (Field × Nat) := [(F.THM_NBR_NBR0 i, 127), (F.THM_NBR_NBR1 i, 127), (F.THM_NBR_NBR2 i, 127), (F.THM_NBR_NBR3 i, 127)]
/-- A part of the witnesses below. -/
def cl (x : Cal) (l : List (Field × Nat)) : State := { upWith l with cal := x }
/-- A part of the witnesses below. -/
def shows (s : State) : State := { s with drum := { Drum.reset with plans := [{ planAt 0 with started := true }] } }
/-- A part of the witnesses below. -/
def res : GroomResult := ⟨[(3, [1, 1, 1])], [], none, none, [], none⟩

/-- Clauses 1, 2, 3, 4, 5, 6, 7, 8, 9 of `CorrectionsAndTheReference`: hypotheses met together. -/
theorem witness_CorrectionsAndTheReference_a :
    (∃ (s : State) (m : Master) (data : Nat), Running s ∧ ((s.isMember = true → m ≠ .pcie)) ∧ ((s.pageWorld 0x150 = 0 → m.secure = true)) ∧ data < 2 ^ 32) ∧
    (∃ (s : State) (m : Master) (data : Nat), Running s ∧ ((s.isMember = true → m ≠ .pcie)) ∧ ((s.pageWorld 0x150 = 0 → m.secure = true)) ∧ data < 2 ^ 32) ∧
    (∃ (s : State), Running s ∧ (passDue s).isSome = true ∧ s.cal.pass = none ∧ s.cal.ended = none ∧ s.cal.applying = none) ∧
    (∃ (s : State), Running s ∧ (passDue s = none ∨ s.cal.pass.isSome = true ∨ s.cal.ended.isSome = true ∨ s.cal.applying.isSome = true)) ∧
    (∃ (s : State), Running s ∧ (s.cal.ended = none ∨ s.get F.CAL_STATE_STATE ≠ 2)) ∧
    (∃ (s : State), Running s ∧ s.cal.ended.isSome = true ∧ s.get F.CAL_STATE_STATE = 2) ∧
    (∃ (s : State) (r : GroomResult), Running s ∧ s.cal.ended = none) ∧
    (∃ (s : State) (r : GroomResult) (full : Bool) (bands bad : List Nat) (ended : Nat), (Running s ∧ s.cal.ended = some (full, bands, ended) ∧ (∀ b ∈ bands, b < 12) ∧ bad = exceeding s bands r) ∧ (passRejected bands bad = false ∧ s.rsy.lens.build = none)) ∧
    (∃ (s : State) (r : GroomResult) (full : Bool) (bands bad : List Nat) (ended : Nat), (Running s ∧ s.cal.ended = some (full, bands, ended) ∧ (∀ b ∈ bands, b < 12) ∧ bad = exceeding s bands r) ∧ (passRejected bands bad = true)) ∧
    (∃ (s : State) (m : Master) (data : Nat), (Running s ∧ MayWrite s m 0x151 ∧ data < 2 ^ 32) ∧ (s.get F.CAL_APPLY_PENDING = 0)) ∧
    (∃ (s : State) (m : Master) (data : Nat), (Running s ∧ MayWrite s m 0x151 ∧ data < 2 ^ 32) ∧ (s.get F.CAL_APPLY_PENDING = 1) ∧ (s.get F.CAL_APPLY_PENDING = 1 ∧ s.get (F.ERR_FIRST_VALID 0x151) = 0)) ∧
    (∃ (s : State), (Running s) ∧ (s.get F.CAL_REF_SOURCE ≠ 0)) ∧
    (∃ (s : State), (Running s) ∧ (s.get F.CAL_REF_SOURCE = 0 ∧ s.get F.CAL_REF_EXT ≠ 0)) ∧
    (∃ (s : State), (Running s) ∧ (s.get F.CAL_REF_SOURCE = 0 ∧ s.get F.CAL_REF_EXT = 0)) :=
  ⟨⟨upWith [], .mp 0, 0x010540, by decide +kernel⟩,
    ⟨upWith [], .mp 0, 0x030040, by decide +kernel⟩,
    ⟨cl Cal.reset [(F.CAL_REQ_NOW, 1)], by decide +kernel⟩,
    ⟨cl { Cal.reset with ended := some (true, [1], 5) } [(F.CAL_REQ_NOW, 1)], by decide +kernel⟩,
    ⟨cl Cal.reset [(F.CAL_STATE_STATE, 2)], by decide +kernel⟩,
    ⟨cl { Cal.reset with ended := some (true, [1], 5) } [(F.CAL_STATE_STATE, 2)], by decide +kernel⟩,
    ⟨cl Cal.reset [], res, by decide +kernel⟩,
    ⟨cl { Cal.reset with ended := some (true, [0], 5) } [(F.CAL_STATE_STATE, 3)], res, true, [0], exceeding (cl { Cal.reset with ended := some (true, [0], 5) } [(F.CAL_STATE_STATE, 3)]) [0] res, 5, by decide +kernel, by decide +kernel⟩,
    ⟨cl { Cal.reset with ended := some (true, [0], 5) } [(F.CAL_STATE_STATE, 3)], { res with lens := (List.range 700).map (fun n => (n, [30000, 30000, 30000])) }, true, [0], exceeding (cl { Cal.reset with ended := some (true, [0], 5) } [(F.CAL_STATE_STATE, 3)]) [0] { res with lens := (List.range 700).map (fun n => (n, [30000, 30000, 30000])) }, 5, by decide +kernel, by decide +kernel⟩,
    ⟨cl Cal.reset [], .mp 0, 7, by decide +kernel, by decide +kernel⟩,
    ⟨cl Cal.reset [(F.CAL_APPLY_PENDING, 1)], .mp 0, 7, by decide +kernel, by decide +kernel, by decide +kernel⟩,
    ⟨cl Cal.reset [(F.CAL_REF_SOURCE, 2)], by decide +kernel, by decide +kernel⟩,
    ⟨cl Cal.reset [(F.CAL_REF_EXT, 2)], by decide +kernel, by decide +kernel⟩,
    ⟨cl Cal.reset [], by decide +kernel, by decide +kernel⟩⟩

/-- Clauses 10, 11, 12, 13, 14 of `CorrectionsAndTheReference`: hypotheses met together. -/
theorem witness_CorrectionsAndTheReference_b :
    (∃ (s : State) (edges : Nat) (offset : Int) (f : Nat), (Running s ∧ f = refFrequency edges) ∧ (f = 0)) ∧
    (∃ (s : State) (edges : Nat) (offset : Int) (f : Nat), (Running s ∧ f = refFrequency edges) ∧ (f ≠ 0 ∧ (f ≠ s.cal.refFreq ∨ s.cal.refRun < 9)) ∧ (f ≠ 0 ∧ (f ≠ s.cal.refFreq ∨ s.cal.refRun < 9) ∧ -32768 ≤ offset ∧ offset < 32768)) ∧
    (∃ (s : State) (edges : Nat) (offset : Int) (f : Nat), (Running s ∧ f = refFrequency edges) ∧ (f ≠ 0 ∧ f = s.cal.refFreq ∧ 9 ≤ s.cal.refRun ∧ s.get F.CAL_REF_SOURCE ≠ 2) ∧ (f ≠ 0 ∧ f = s.cal.refFreq ∧ 9 ≤ s.cal.refRun ∧ s.get F.CAL_REF_SOURCE ≠ 2 ∧ -32768 ≤ offset ∧ offset < 32768 ∧ s.get F.CAL_REF_XTAL_BAD = 0)) ∧
    (∃ (s : State) (edges : Nat) (offset : Int) (f : Nat), (Running s ∧ f = refFrequency edges) ∧ (f ≠ 0 ∧ f = s.cal.refFreq ∧ 9 ≤ s.cal.refRun ∧ s.get F.CAL_REF_SOURCE = 2)) ∧
    (∃ (s : State), Running s ∧ s.get F.CAL_REF_SOURCE ≠ 2) ∧
    (∃ (s : State), Running s ∧ s.get F.CAL_REF_SOURCE = 2 ∧ s.get F.ERR_STATE_FAILED = 0 ∧ s.pnl.step = 30) ∧
    (∃ (s : State), Running s ∧ s.get F.CAL_REF_SOURCE = 2 ∧ s.get F.ERR_STATE_FAILED = 0 ∧ s.pnl.step < 20 ∧ s.isMember = false ∧ s.cal.pass = none ∧ s.rsy.lots = [] ∧ ((∀ g, g < 12 → s.get (F.SER_GROUP_STATE_STATE g) ≠ 7)) ∧ (∃ p ∈ s.drum.plans, p.started = true ∧ p.closed = false)) ∧
    (∃ (s : State), Running s) :=
  ⟨⟨cl Cal.reset [(F.CAL_REF_SOURCE, 1), (F.CAL_REF_XTAL_BAD, 1)], 3, 5, 0, by decide +kernel, by decide +kernel⟩,
    ⟨cl { Cal.reset with refFreq := refFrequency 25000, refRun := 8 } [(F.CAL_REF_EXT, 1)], 25000, -5, refFrequency 25000, by decide +kernel, by decide +kernel, by decide +kernel⟩,
    ⟨cl { Cal.reset with refFreq := refFrequency 25000, refRun := 9 } [(F.CAL_REF_EXT, 1)], 25000, -5, refFrequency 25000, by decide +kernel, by decide +kernel, by decide +kernel⟩,
    ⟨cl { Cal.reset with refFreq := refFrequency 25000, refRun := 9 } [(F.CAL_REF_SOURCE, 2)], 25000, -5, refFrequency 25000, by decide +kernel, by decide +kernel⟩,
    ⟨upWith [], by decide +kernel⟩,
    ⟨{ cl Cal.reset [(F.CAL_REF_SOURCE, 2)] with pnl := { Pnl.reset with step := 30 } }, by decide +kernel⟩,
    ⟨shows (cl Cal.reset [(F.CAL_REF_SOURCE, 2)]), by decide +kernel⟩,
    ⟨cl Cal.reset [(F.CAL_REF_SOURCE, 1), (F.CAL_REF_XTAL_BAD, 1)], by decide +kernel⟩⟩

/-- Clauses 1, 2, 3, 4 of `SamplesAreJudged`: hypotheses met together. -/
theorem witness_SamplesAreJudged :
    (∃ (s : State) (i : Nat) (x : Int) (us : List Int), (Running s ∧ i < 48 ∧ -880 ≤ x ∧ x ≤ 2400 ∧ s.get (F.THM_SENSOR_STATE i) = 0 ∧ i ∉ nbrInputs s i ∧ us = usable s s [] i ∧ s.therm.dieCrit < 3 ∧ s.therm.ainCrit < 3 ∧ s.loft.journal = none ∧ mapVal s.therm.far i < 15) ∧ (2 ≤ us.length)) ∧
    (∃ (s : State) (i : Nat) (x : Int) (us : List Int), Running s ∧ i < 48 ∧ -880 ≤ x ∧ x ≤ 2400 ∧ s.get (F.THM_SENSOR_STATE i) = 0 ∧ i ∉ nbrInputs s i ∧ us = usable s s [] i ∧ s.therm.dieCrit < 3 ∧ s.therm.ainCrit < 3 ∧ s.loft.journal = none ∧ mapVal s.therm.far i < 15) ∧
    (∃ (s : State) (i : Nat) (x : Int) (us : List Int), (Running s ∧ i < 48 ∧ -880 ≤ x ∧ x ≤ 2400 ∧ s.get (F.THM_SENSOR_STATE i) = 0 ∧ i ∉ nbrInputs s i ∧ us = usable s s [] i ∧ s.therm.dieCrit < 3 ∧ s.therm.ainCrit < 3 ∧ s.loft.journal = none ∧ mapVal s.therm.far i < 15) ∧ (us.length < 2)) ∧
    (∃ (s : State) (i : Nat) (v : Option Int), Running s ∧ i < 48 ∧ (v = none ∨ (∃ x, v = some x ∧ (x < -880 ∨ 2400 < x) ∧ -32768 ≤ x ∧ x < 32768)) ∧ s.get (F.THM_SENSOR_STATE i) ≠ 2 ∧ s.therm.dieCrit < 3 ∧ s.therm.ainCrit < 3 ∧ s.loft.journal = none) ∧
    (∃ (s : State) (i : Nat) (v : Option Int), Running s ∧ i < 48 ∧ (v = none ∨ (∃ x, v = some x ∧ (x < -880 ∨ 2400 < x) ∧ -32768 ≤ x ∧ x < 32768)) ∧ s.get (F.THM_SENSOR_STATE i) ≠ 2 ∧ s.therm.dieCrit < 3 ∧ s.therm.ainCrit < 3 ∧ s.loft.journal = none) ∧
    (∃ (s : State) (i : Nat) (x : Int), Running s ∧ i < 48 ∧ 1600 ≤ x ∧ x ≤ 2400 ∧ s.get (F.THM_SENSOR_STATE i) = 0 ∧ i ∉ nbrInputs s i ∧ (usable s s [] i).length < 2 ∧ s.therm.dieCrit < 3 ∧ s.therm.ainCrit < 3 ∧ s.loft.journal = none ∧ s.get F.THM_STATE_STEP = 0 ∧ s.get F.THM_STATE_LANE_CLOCK ≠ 2 ∧ s.get F.THM_STATE_WARN = 0 ∧ ((∀ d, d < 3 → dieBlind s d = false))) ∧
    (∃ (s : State) (i : Nat) (x : Int), Running s ∧ i < 48 ∧ 1760 ≤ x ∧ x ≤ 2400 ∧ s.get (F.THM_SENSOR_STATE i) = 0 ∧ i ∉ nbrInputs s i ∧ (usable s s [] i).length < 2 ∧ s.therm.dieCrit = 3 ∧ s.loft.journal = none ∧ s.power.critical = false ∧ s.pnl.step = 30) :=
  ⟨⟨sens Therm.reset (nbrs 10), 10, 700, [400, 500, 600], by decide +kernel, by decide +kernel⟩,
    ⟨sens Therm.reset (nbrs 10), 10, 600, [400, 500, 600], by decide +kernel⟩,
    ⟨sens Therm.reset (far 10), 10, -880, [], by decide +kernel, by decide +kernel⟩,
    ⟨sens Therm.reset (far 10), 10, none, by decide +kernel⟩,
    ⟨sens Therm.reset (far 10), 10, some 2401, by decide +kernel⟩,
    ⟨sens Therm.reset (far 10), 10, 1600, by decide +kernel⟩,
    ⟨{ sens { Therm.reset with dieCrit := 3 } (far 10) with pnl := { Pnl.reset with step := 30 } }, 10, 1760, by decide +kernel⟩⟩

end W29

namespace W30

/-- A part of the witnesses below. -/
def tbl : RouteTable := ⟨6, 0, 0, 0, 0, [(7, 7, 7), (0, 0, 0), (2, 2, 2)]⟩
/-- A part of the witnesses below. -/
def yard5 : Yard := { Yard.reset with cur := tbl, prev := tbl }
/-- A part of the witnesses below. -/
def dA : List Byte := List.replicate 48 1
/-- A part of the witnesses below. -/
def mem5 : YardMember := ⟨5, 0x21, dA, 6, true⟩
/-- A part of the witnesses below. -/
def exch (b : Byte) : Exchange := ⟨List.replicate 32 b, 4, [], 0, 0, []⟩
/-- A part of the witnesses below. -/
def member (x : Sec) (l : List (Field × Nat)) : State := { yardWith yard5 ([(F.XSH_ROLE_ROLE, 2), (F.XSH_ROLE_NUMBER, 5)] ++ l) with sec := x }
/-- A part of the witnesses below. -/
def headOf (x : Sec) (l : List (Field × Nat)) : State := { yardWith { yard5 with members := [mem5] } ([(F.XSH_ROLE_ROLE, 1), (F.XSH_ROLE_NUMBER, 0)] ++ l) with sec := x }
/-- A part of the witnesses below. -/
def msg (dst src m i n addr : Nat) (p : List Byte) : Rx := rxOf (frameOf 0x50 0 dst src (m + i * 256 + n * 65536) addr 0 p)
/-- A part of the witnesses below. -/
def nonce7 : Nat := leNat (List.replicate 8 7)
/-- A part of the witnesses below. -/
def sigma : List Byte := List.replicate 0x88 0
/-- A part of the witnesses below. -/
def keyed : Sec := { Sec.reset with keys := true }

/-- R303: whether a frame leaves at once does not depend on what its payload says. -/
theorem sendsAtOnce_payload (u : State) (f : Frame) (k : Nat) (p : List Byte) (h : SendsAtOnce u f k) (hl : p.length = f.payload.length) :
    SendsAtOnce u { f with payload := p } k := by
  obtain ⟨a, b, c, d, e, g, i, j, l⟩ := h
  refine ⟨a, b, c, d, e, ?_, i, j, ?_⟩
  · exact g
  · show (decide ((32 + p.length + 63) / 64 ≤ creditsHeld (u.xport k) f.vc) && decide (replayBytes (u.xport k) + 32 + p.length ≤ 131072)) = true
    rw [hl]
    exact l

/-- Clauses 1, 2, 3, 4, 5, 6, 7, 8, 9, 10, 11 of `MembersAreAttested`: hypotheses met together. -/
theorem witness_MembersAreAttested :
    (∃ (s u : State) (rx : Rx) (i count : Nat), Running s ∧ Arrives s rx 0x50 u ∧ u.sec.device = none ∧ i = rx.frame.arg / 256 % 256 ∧ count = rx.frame.arg / 65536 % 256 ∧ (count ≠ 1 ∨ i ≠ 0)) ∧
    (∃ (s u : State) (rx : Rx) (b nonce : List Byte) (k st : Nat) (r : Frame), Running s ∧ Arrives s rx 0x50 u ∧ rx.frame.arg / 256 % 256 = 0 ∧ rx.frame.arg / 65536 % 256 = 1 ∧ b = rx.frame.payload ∧ nonce = b.take 32 ∧ (canAttest u = false ∨ b.length ≠ 0x88 + leAt b 0x84 2 ∨ leAt b 0x81 3 ≠ 0 ∨ leAt b 0x86 2 ≠ 0) ∧ st = (if canAttest u then 1 else 4) ∧ r = mkFrame 0x50 0 0 0 0 (4 + 65536) (leNat (nonce.take 8)) 0 (leBytes 1 st ++ leBytes 15 0) ∧ SendsAtOnce u r k) ∧
    (∃ (s u : State) (rx : Rx) (b nonce : List Byte) (k st : Nat) (r : Frame), Running s ∧ Arrives s rx 0x50 u ∧ rx.frame.arg / 256 % 256 = 0 ∧ rx.frame.arg / 65536 % 256 = 1 ∧ b = rx.frame.payload ∧ nonce = b.take 32 ∧ (canAttest u = false ∨ b.length ≠ 0x88 + leAt b 0x84 2 ∨ leAt b 0x81 3 ≠ 0 ∨ leAt b 0x86 2 ≠ 0) ∧ st = (if canAttest u then 1 else 4) ∧ r = mkFrame 0x50 0 0 0 0 (4 + 65536) (leNat (nonce.take 8)) 0 (leBytes 1 st ++ leBytes 15 0) ∧ SendsAtOnce u r k) ∧
    (∃ (s u v : State) (rx : Rx) (b nonce : List Byte), Running s ∧ Arrives s rx 0x50 u ∧ rx.frame.arg / 256 % 256 = 0 ∧ rx.frame.arg / 65536 % 256 = 1 ∧ b = rx.frame.payload ∧ nonce = b.take 32 ∧ canAttest u = true ∧ b.length = 0x88 + leAt b 0x84 2 ∧ leAt b 0x81 3 = 0 ∧ leAt b 0x86 2 = 0 ∧ v = { u with free := u.free + 1, sec := { u.sec with device := some ⟨nonce, u.free, (b.drop 0x20).take 97, 0, 0, []⟩ } }) ∧
    (∃ (s u : State) (rx : Rx) (c : Instr), Running s ∧ Arrives s rx 0x50 u ∧ c ∈ [Instr.attestStatement rx, .attestDone rx] ∧ ((∀ x, assoc u.sec.heads rx.frame.src = some x → leNat (x.nonce.take 8) ≠ rx.frame.addr))) ∧
    (∃ (s u : State) (rx : Rx), Running s ∧ Arrives s rx 0x50 u ∧ ((∀ x, u.sec.device = some x → leNat (x.nonce.take 8) ≠ rx.frame.addr))) ∧
    (∃ (s u : State) (rx : Rx) (c : Instr) (n : Nat) (x : Exchange), Running s ∧ Arrives s rx 0x50 u ∧ rx.frame.src = n ∧ n < 64 ∧ assoc u.sec.heads n = some x ∧ leNat (x.nonce.take 8) = rx.frame.addr ∧ rx.frame.arg / 256 % 256 = 0 ∧ rx.frame.arg / 65536 % 256 = 1 ∧ ((c = .attestStatement rx ∧ statementGood u n x rx.frame.payload = false) ∨ (c = .attestDone rx ∧ leAt rx.frame.payload 0 1 ≠ 0))) ∧
    (∃ (s u : State) (rx : Rx) (n : Nat) (x : Exchange) (b : List Byte), Running s ∧ Arrives s rx 0x50 u ∧ rx.frame.src = n ∧ assoc u.sec.heads n = some x ∧ leNat (x.nonce.take 8) = rx.frame.addr ∧ rx.frame.arg / 256 % 256 = 0 ∧ rx.frame.arg / 65536 % 256 = 1 ∧ b = rx.frame.payload ∧ u.sec.yardKey.isSome = true) ∧
    (∃ (s u : State) (rx : Rx) (x : Exchange) (p : Option (List Byte)) (k : Nat) (done : Nat → Frame), Running s ∧ Arrives s rx 0x50 u ∧ u.sec.device = some x ∧ leNat (x.nonce.take 8) = rx.frame.addr ∧ rx.frame.arg / 256 % 256 = 0 ∧ rx.frame.arg / 65536 % 256 = 1 ∧ p = Config.gcmOpen (sessionKey x.ephemeral x.peerKey) (x.nonce.take 12) x.nonce ((rx.frame.payload.drop 0x10).take 149) ∧ (∀ st, done st = mkFrame 0x50 0 0 0 0 (4 + 65536) (leNat (x.nonce.take 8)) 0 (leBytes 1 st ++ leBytes 15 0)) ∧ (∀ st, SendsAtOnce u (done st) k)) ∧
    (∃ (s u : State) (rx : Rx) (n : Nat) (x : Exchange), Running s ∧ Arrives s rx 0x50 u ∧ rx.frame.src = n ∧ n < 64 ∧ assoc u.sec.heads n = some x ∧ leNat (x.nonce.take 8) = rx.frame.addr ∧ rx.frame.arg / 256 % 256 = 0 ∧ rx.frame.arg / 65536 % 256 = 1 ∧ leAt rx.frame.payload 0 1 = 0) ∧
    (∃ (s : State), Running s ∧ (s.isHead = false ∨ s.yard.members = [])) ∧
    (∃ (s : State) (m : YardMember) (nonce : List Byte) (x : Exchange), Running s ∧ s.isHead = true ∧ s.yard.members = [m] ∧ nonce = Config.freeBytes s.free 32 ∧ x = ⟨nonce, s.free, [], 0, 0, []⟩) :=
  ⟨⟨member Sec.reset [], after (member Sec.reset []) (msg 5 0 1 1 3 nonce7 [1, 2]) 0x50, msg 5 0 1 1 3 nonce7 [1, 2], 1, 3, by decide +kernel⟩,
    ⟨member Sec.reset [], after (member Sec.reset []) (msg 5 0 1 0 1 nonce7 sigma) 0x50, msg 5 0 1 0 1 nonce7 sigma, sigma, List.replicate 32 0, 0, 4, mkFrame 0x50 0 0 0 0 (4 + 65536) 0 0 (leBytes 1 4 ++ leBytes 15 0), by decide +kernel⟩,
    ⟨member keyed [(F.SEC_STATE_IDENTITY_OK, 1)], after (member keyed [(F.SEC_STATE_IDENTITY_OK, 1)]) (msg 5 0 1 0 1 nonce7 [1]) 0x50, msg 5 0 1 0 1 nonce7 [1], [1], [1], 0, 1, mkFrame 0x50 0 0 0 0 (4 + 65536) 1 0 (leBytes 1 1 ++ leBytes 15 0), by decide +kernel⟩,
    ⟨member keyed [(F.SEC_STATE_IDENTITY_OK, 1)], after (member keyed [(F.SEC_STATE_IDENTITY_OK, 1)]) (msg 5 0 1 0 1 0 sigma) 0x50, { after (member keyed [(F.SEC_STATE_IDENTITY_OK, 1)]) (msg 5 0 1 0 1 0 sigma) 0x50 with free := (after (member keyed [(F.SEC_STATE_IDENTITY_OK, 1)]) (msg 5 0 1 0 1 0 sigma) 0x50).free + 1, sec := { (after (member keyed [(F.SEC_STATE_IDENTITY_OK, 1)]) (msg 5 0 1 0 1 0 sigma) 0x50).sec with device := some ⟨List.replicate 32 0, (after (member keyed [(F.SEC_STATE_IDENTITY_OK, 1)]) (msg 5 0 1 0 1 0 sigma) 0x50).free, List.replicate 97 0, 0, 0, []⟩ } }, msg 5 0 1 0 1 0 sigma, sigma, List.replicate 32 0, by decide +kernel⟩,
    ⟨headOf { Sec.reset with heads := [(5, exch 6)] } [], after (headOf { Sec.reset with heads := [(5, exch 6)] } []) (msg 0 5 2 0 1 nonce7 [1]) 0x50, msg 0 5 2 0 1 nonce7 [1], .attestStatement (msg 0 5 2 0 1 nonce7 [1]), by decide +kernel⟩,
    ⟨member { Sec.reset with device := some (exch 6) } [], after (member { Sec.reset with device := some (exch 6) } []) (msg 5 0 3 0 1 nonce7 [1]) 0x50, msg 5 0 3 0 1 nonce7 [1], by decide +kernel⟩,
    ⟨headOf { Sec.reset with heads := [(5, exch 7), (6, exch 7)] } [], after (headOf { Sec.reset with heads := [(5, exch 7), (6, exch 7)] } []) (msg 0 5 4 0 1 nonce7 [1]) 0x50, msg 0 5 4 0 1 nonce7 [1], .attestDone (msg 0 5 4 0 1 nonce7 [1]), 5, exch 7, by decide +kernel⟩,
    ⟨headOf { Sec.reset with heads := [(5, exch 7), (6, exch 7)], yardKey := some [1] } [], after (headOf { Sec.reset with heads := [(5, exch 7), (6, exch 7)], yardKey := some [1] } []) (msg 0 5 2 0 1 nonce7 [1]) 0x50, msg 0 5 2 0 1 nonce7 [1], 5, exch 7, [1], by decide +kernel⟩,
    ⟨member { Sec.reset with device := some (exch 7) } [], after (member { Sec.reset with device := some (exch 7) } []) (msg 5 0 3 0 1 nonce7 [1]) 0x50, msg 5 0 3 0 1 nonce7 [1], exch 7, Config.gcmOpen (sessionKey 4 []) (List.replicate 12 7) (List.replicate 32 7) [], 0, fun st => mkFrame 0x50 0 0 0 0 (4 + 65536) nonce7 0 (leBytes 1 st ++ leBytes 15 0), by exact ⟨by decide +kernel, by decide +kernel, by decide +kernel, by decide +kernel, by decide +kernel, by decide +kernel, rfl, fun _ => rfl, fun st => sendsAtOnce_payload _ (mkFrame 0x50 0 0 0 0 (4 + 65536) nonce7 0 (leBytes 1 0 ++ leBytes 15 0)) 0 (leBytes 1 st ++ leBytes 15 0) (by decide +kernel) rfl⟩⟩,
    ⟨headOf { Sec.reset with heads := [(5, exch 7), (6, exch 7)] } [], after (headOf { Sec.reset with heads := [(5, exch 7), (6, exch 7)] } []) (msg 0 5 4 0 1 nonce7 [0]) 0x50, msg 0 5 4 0 1 nonce7 [0], 5, exch 7, by decide +kernel⟩,
    ⟨member Sec.reset [], by decide +kernel⟩,
    ⟨headOf Sec.reset [], mem5, Config.freeBytes ((headOf Sec.reset [])).free 32, ⟨Config.freeBytes ((headOf Sec.reset [])).free 32, ((headOf Sec.reset [])).free, [], 0, 0, []⟩, by exact ⟨by decide +kernel, by decide +kernel, by decide +kernel, rfl, rfl⟩⟩⟩

end W30

namespace W31

/-- A request of a command in hand. -/
def ask (cmd : Nat) (p : List Byte) (f : State → State) (l : List (Field × Nat)) : State :=
  let s := f (dramWith ([(F.LFT_STATUS_TEMP_OK, 1), (F.LFT_HOLDUP_CFG_CAP_UF, 10000), (F.LFT_HOLDUP_CFG_V_MV, 5000), (F.HIF_MBX_CMD_BUSY, 1), (F.HIF_MBX_RESP_ADDR, 0x100)] ++ l))
  { s with sec := { s.sec with request := some (leBytes 4 0x4D425831 ++ leBytes 2 cmd ++ leBytes 2 0 ++ leBytes 4 (32 + p.length) ++ leBytes 4 0 ++ List.replicate 16 0 ++ p) } }
/-- A part of the witnesses below. -/
def asHead (s : State) : State := s.setAll [(F.XSH_ROLE_ROLE, 1), (F.XSH_ROLE_NUMBER, 0)]
/-- A part of the witnesses below. -/
def withSec (x : Sec) (s : State) : State := { s with sec := x }
/-- A part of the witnesses below. -/
def withYard (x : Yard) (s : State) : State := { s with yard := x }
/-- A part of the witnesses below. -/
def dA : List Byte := List.replicate 48 1
/-- A part of the witnesses below. -/
def mem5 : YardMember := ⟨5, 0x21, dA, 6, true⟩
/-- A part of the witnesses below. -/
def id5 : IdEntry := ⟨dA, 5, true, 0x21⟩
/-- A part of the witnesses below. -/
def pt : List Byte := List.replicate 97 2
/-- A part of the witnesses below. -/
def pages (n : Nat) : List Byte := leBytes 2 n ++ leBytes 2 2 ++ leBytes 1 1 ++ leBytes 1 1 ++ leBytes 2 0
/-- A part of the witnesses below. -/
def low : List (Field × Nat) := [(F.LFT_HOLDUP_CFG_V_MV, 0)]
/-- A part of the witnesses below. -/
def off : List (Field × Nat) := [(F.LFT_STATUS_POWER_DOWN, 1)]
/-- A part of the witnesses below. -/
def rd (a n : Nat) : List Byte := leBytes 4 a ++ leBytes 4 n
/-- A part of the witnesses below. -/
def linked (s : State) : State := { s with pcie := { s.pcie with linkUp := true } }
/-- A part of the witnesses below. -/
def up (a n : Nat) (k : Nat) : List Byte := leBytes 8 a ++ leBytes 4 n ++ leBytes 4 k
/-- An image of 4 bytes of body. -/
def image (rollback : Nat) : List Byte :=
  leBytes 4 0x4F5A5A31 ++ leBytes 2 1 ++ leBytes 2 0 ++ leBytes 4 7 ++ leBytes 4 rollback ++ leBytes 4 512 ++ leBytes 12 0 ++ Config.sha384 (List.replicate 512 5) ++ List.replicate 97 0 ++
    List.replicate 15 0 ++ List.replicate 96 0 ++ List.replicate 224 0 ++ List.replicate 512 5
/-- A part of the witnesses below. -/
def withImage (b : List Byte) (s : State) : State := { s with mem := { s.mem with dram := memWrite [] 0x100000 b } }
/-- A part of the witnesses below. -/
def pload (a n : Nat) (d : List Byte) : List Byte := leBytes 8 a ++ leBytes 4 n ++ leBytes 4 16 ++ d ++ leBytes 4 0x30002 ++ leBytes 4 0x20004 ++ leBytes 8 0

/-- Clauses 1, 2, 3, 4, 5, 6, 7 of `RequestsAreAnswered`: hypotheses met together. -/
theorem witness_RequestsAreAnswered_a :
    (∃ (s : State) (c : Instr) (cmd : Nat), Running s ∧ (c, cmd) ∈ [(Instr.getIdentity, 0x0001), (.mbxAttest, 0x0002), (.claimOwner, 0x0010), (.replaceOwner, 0x0011), (.releaseOwner, 0x0012), (.setPage, 0x0020), (.setLoftProtect, 0x0031),
      (.loftRead, 0x0030), (.fwUpdate, 0x0040), (.enrol, 0x0050), (.unenrol, 0x0051), (.rotateYardKey, 0x0052), (.protectedLoad, 0x0060), (.debugUnlock, 0x0070), (.debugLock, 0x0071)] ∧ ((∀ b, s.sec.request = some b → reqCommand b ≠ cmd))) ∧
    (∃ (s : State) (c : Instr) (cmd : Nat), Running s ∧ (c, cmd) ∈ [(Instr.getIdentity, 0x0001), (.mbxAttest, 0x0002), (.claimOwner, 0x0010), (.replaceOwner, 0x0011), (.releaseOwner, 0x0012), (.setPage, 0x0020), (.setLoftProtect, 0x0031),
      (.loftRead, 0x0030), (.fwUpdate, 0x0040), (.enrol, 0x0050), (.unenrol, 0x0051), (.rotateYardKey, 0x0052), (.protectedLoad, 0x0060), (.debugUnlock, 0x0070), (.debugLock, 0x0071)] ∧ ((∀ b, s.sec.request = some b → reqCommand b ≠ cmd))) ∧
    (∃ (s : State) (p : List Byte), Asks s 0x0001 p) ∧
    (∃ (s : State) (p : List Byte), Asks s 0x0001 p) ∧
    (∃ (s : State) (p : List Byte), (Asks s 0x0002 p) ∧ (canAttest s = false)) ∧
    (∃ (s : State) (p : List Byte), (Asks s 0x0002 p) ∧ (canAttest s = true)) ∧
    (∃ (s : State) (p : List Byte), Asks s 0x0010 p ∧ s.sec.owner.isSome = true) ∧
    (∃ (s : State) (p : List Byte) (c : Instr) (cmd : Nat), (Asks s cmd p ∧ ((c = .claimOwner ∧ cmd = 0x0010 ∧ s.sec.owner = none) ∨ (c = .replaceOwner ∧ cmd = 0x0011))) ∧ (ownCheck s 0xBF00 1 = 0)) ∧
    (∃ (s : State) (p : List Byte) (c : Instr) (cmd : Nat), (Asks s cmd p ∧ ((c = .claimOwner ∧ cmd = 0x0010 ∧ s.sec.owner = none) ∨ (c = .replaceOwner ∧ cmd = 0x0011))) ∧ (ownCheck s 0xBF00 1 ≠ 0)) ∧
    (∃ (s : State) (p : List Byte), (Asks s 0x0012 p ∧ (∀ m ∈ s.yard.members, m.number < 64)) ∧ (ownCheck s 0xBF00 1 = 0 ∧ ownCheck s (copyBase 1 0 / 256) 17 = 0)) ∧
    (∃ (s : State) (p : List Byte), (Asks s 0x0012 p ∧ (∀ m ∈ s.yard.members, m.number < 64)) ∧ (ownCheck s 0xBF00 1 ≠ 0)) ∧
    (∃ (s : State) (p : List Byte) (pages : List Nat) (w o : Nat), (Asks s 0x0020 p ∧ pages = (List.range (leAt p 2 2)).map (fun i => leAt p 0 2 + i) ∧ w = leAt p 4 1 ∧ o = leAt p 5 1 ∧ w < 2 ∧ o < 2) ∧ ((∀ x ∈ pages, fixedHostPage x = false ∧ fixedSecurePage x = false) ∧ ownCheck s (copyBase 0 0 / 256) 4 = 0)) ∧
    (∃ (s : State) (p : List Byte) (pages : List Nat) (w o : Nat), (Asks s 0x0020 p ∧ pages = (List.range (leAt p 2 2)).map (fun i => leAt p 0 2 + i) ∧ w = leAt p 4 1 ∧ o = leAt p 5 1 ∧ w < 2 ∧ o < 2) ∧ ((∀ x ∈ pages, fixedHostPage x = false ∧ fixedSecurePage x = false) ∧ ownCheck s (copyBase 0 0 / 256) 4 ≠ 0)) ∧
    (∃ (s : State) (p : List Byte) (pages : List Nat) (w o : Nat), (Asks s 0x0020 p ∧ pages = (List.range (leAt p 2 2)).map (fun i => leAt p 0 2 + i) ∧ w = leAt p 4 1 ∧ o = leAt p 5 1 ∧ w < 2 ∧ o < 2) ∧ (((∃ x ∈ pages, fixedHostPage x = true ∨ fixedSecurePage x = true)))) :=
  ⟨⟨upWith [], .getIdentity, 1, by exact ⟨by decide +kernel, by decide +kernel, nofun⟩⟩,
    ⟨ask 0x0002 [] id [], .debugLock, 0x0071, by decide +kernel⟩,
    ⟨ask 1 [] id [], [], by exact ⟨by decide +kernel, by decide +kernel, _, rfl, by decide +kernel, by decide +kernel⟩⟩,
    ⟨ask 1 [] linked [(F.HIF_MBX_RESP_HOST, 1)], [], by exact ⟨by decide +kernel, by decide +kernel, _, rfl, by decide +kernel, by decide +kernel⟩⟩,
    ⟨ask 2 dA id [], dA, by exact ⟨by decide +kernel, by decide +kernel, _, rfl, by decide +kernel, by decide +kernel⟩, by decide +kernel⟩,
    ⟨ask 2 dA (withSec { Sec.reset with keys := true }) [(F.SEC_STATE_IDENTITY_OK, 1)], dA, by exact ⟨by decide +kernel, by decide +kernel, _, rfl, by decide +kernel, by decide +kernel⟩, by decide +kernel⟩,
    ⟨ask 0x10 pt (withSec { Sec.reset with owner := some dA }) [], pt, by exact ⟨⟨by decide +kernel, by decide +kernel, _, rfl, by decide +kernel, by decide +kernel⟩, by decide +kernel⟩⟩,
    ⟨ask 0x10 pt id [], pt, .claimOwner, 0x10, by exact ⟨⟨by decide +kernel, by decide +kernel, _, rfl, by decide +kernel, by decide +kernel⟩, by decide +kernel⟩, by decide +kernel⟩,
    ⟨ask 0x11 pt (withSec { Sec.reset with owner := some dA }) off, pt, .replaceOwner, 0x11, by exact ⟨⟨by decide +kernel, by decide +kernel, _, rfl, by decide +kernel, by decide +kernel⟩, by decide +kernel⟩, by decide +kernel⟩,
    ⟨ask 0x12 [] (withYard { Yard.reset with members := [mem5], idRoster := [id5] }) [(F.XSH_MEMBER0_STATE 5, 1)], [], by exact ⟨⟨by decide +kernel, by decide +kernel, _, rfl, by decide +kernel, by decide +kernel⟩, by decide +kernel⟩, by decide +kernel⟩,
    ⟨ask 0x12 [] (withYard { Yard.reset with members := [mem5], idRoster := [id5] }) low, [], by exact ⟨⟨by decide +kernel, by decide +kernel, _, rfl, by decide +kernel, by decide +kernel⟩, by decide +kernel⟩, by decide +kernel⟩,
    ⟨ask 0x20 (pages 0xB1) id [], pages 0xB1, [0xB1, 0xB2], 1, 1, by exact ⟨⟨by decide +kernel, by decide +kernel, _, rfl, by decide +kernel, by decide +kernel⟩, by decide +kernel⟩, by decide +kernel⟩,
    ⟨ask 0x20 (pages 0xB1) id low, pages 0xB1, [0xB1, 0xB2], 1, 1, by exact ⟨⟨by decide +kernel, by decide +kernel, _, rfl, by decide +kernel, by decide +kernel⟩, by decide +kernel⟩, by decide +kernel⟩,
    ⟨ask 0x20 (pages 0) id low, pages 0, [0, 1], 1, 1, by exact ⟨⟨by decide +kernel, by decide +kernel, _, rfl, by decide +kernel, by decide +kernel⟩, by decide +kernel⟩, by decide +kernel⟩⟩

/-- Clauses 8, 9, 10 of `RequestsAreAnswered`: hypotheses met together. -/
theorem witness_RequestsAreAnswered_b :
    (∃ (s : State) (p : List Byte), (Asks s 0x0031 p) ∧ (loftTempOk s = true)) ∧
    (∃ (s : State) (p : List Byte), (Asks s 0x0031 p) ∧ (loftTempOk s = false)) ∧
    (∃ (s : State) (p : List Byte) (a n : Nat), (Asks s 0x0030 p ∧ a = leAt p 0 4 ∧ n = leAt p 4 4) ∧ (0x012400 ≤ a ∧ a + n ≤ 0xBF0000 ∧ s.mem.badLoft = [])) ∧
    (∃ (s : State) (p : List Byte) (a n : Nat), (Asks s 0x0030 p ∧ a = leAt p 0 4 ∧ n = leAt p 4 4) ∧ ((a < 0x012400 ∨ 0xBF0000 < a + n))) ∧
    (∃ (s : State) (p : List Byte), Asks s 0x0071 p) :=
  ⟨⟨ask 0x31 [2] id [], [2], by exact ⟨by decide +kernel, by decide +kernel, _, rfl, by decide +kernel, by decide +kernel⟩, by decide +kernel⟩,
    ⟨ask 0x31 [2] id [(F.LFT_STATUS_TEMP_OK, 0)], [2], by exact ⟨by decide +kernel, by decide +kernel, _, rfl, by decide +kernel, by decide +kernel⟩, by decide +kernel⟩,
    ⟨ask 0x30 (rd 0x12400 8) id [], rd 0x12400 8, 0x12400, 8, by exact ⟨⟨by decide +kernel, by decide +kernel, _, rfl, by decide +kernel, by decide +kernel⟩, by decide +kernel⟩, by decide +kernel⟩,
    ⟨ask 0x30 (rd 0x123FF 8) id [], rd 0x123FF 8, 0x123FF, 8, by exact ⟨⟨by decide +kernel, by decide +kernel, _, rfl, by decide +kernel, by decide +kernel⟩, by decide +kernel⟩, by decide +kernel⟩,
    ⟨ask 0x71 [] id [], [], by exact ⟨by decide +kernel, by decide +kernel, _, rfl, by decide +kernel, by decide +kernel⟩⟩⟩

/-- Clauses 1, 2, 3, 4, 5 of `KeysImagesAndSurfaces`: hypotheses met together. -/
theorem witness_KeysImagesAndSurfaces_a :
    (∃ (s : State) (p : List Byte) (a n : Nat), (Asks s 0x0040 p ∧ hasBit (leAt p 0x0C 1) 0 = false ∧ a = leAt p 0 8 ∧ n = leAt p 8 4 ∧ s.mem.badDram = [] ∧ s.mem.poisonDram = [] ∧ s.mem.weakDram = []) ∧ (dramBehind s a n = false)) ∧
    (∃ (s : State) (p : List Byte) (a n : Nat), (Asks s 0x0040 p ∧ hasBit (leAt p 0x0C 1) 0 = false ∧ a = leAt p 0 8 ∧ n = leAt p 8 4 ∧ s.mem.badDram = [] ∧ s.mem.poisonDram = [] ∧ s.mem.weakDram = []) ∧ (dramBehind s a n = true) ∧ (∃ img, img = dramRead s a n ∧ dramBehind s a n = true ∧ imageValid 1 0 img = false)) ∧
    (∃ (s : State) (p digest : List Byte) (n : Nat), (Asks s 0x0050 p ∧ digest = p.take 48 ∧ n = leAt p 0x30 1) ∧ ((s.isHead = false ∨ (∃ e ∈ s.yard.idRoster, e.number = n ∧ e.digest ≠ digest ∧ ∃ m ∈ s.yard.members, m.digest = e.digest)))) ∧
    (∃ (s : State) (p digest : List Byte) (n : Nat), (Asks s 0x0050 p ∧ digest = p.take 48 ∧ n = leAt p 0x30 1) ∧ (s.isHead = true ∧ ((∀ e ∈ s.yard.idRoster, e.number = n → e.digest = digest ∨ ∀ m ∈ s.yard.members, m.digest ≠ e.digest))) ∧ (s.isHead = true ∧ ((∀ e ∈ s.yard.idRoster, e.number = n → e.digest = digest ∨ ∀ m ∈ s.yard.members, m.digest ≠ e.digest)) ∧ ownCheck s (copyBase 1 0 / 256) 17 = 0 ∧ (∀ m ∈ s.yard.members, m.digest ≠ digest))) ∧
    (∃ (s : State) (p digest : List Byte) (n : Nat), (Asks s 0x0050 p ∧ digest = p.take 48 ∧ n = leAt p 0x30 1) ∧ (s.isHead = true ∧ ((∀ e ∈ s.yard.idRoster, e.number = n → e.digest = digest ∨ ∀ m ∈ s.yard.members, m.digest ≠ e.digest)) ∧ ownCheck s (copyBase 1 0 / 256) 17 ≠ 0)) ∧
    (∃ (s : State) (p digest : List Byte) (n : Nat), Asks s 0x0050 p ∧ digest = p.take 48 ∧ n = leAt p 0x30 1) ∧
    (∃ (s : State) (p digest : List Byte), (Asks s 0x0051 p ∧ digest = p.take 48) ∧ (s.isHead = false)) ∧
    (∃ (s : State) (p digest : List Byte), (Asks s 0x0051 p ∧ digest = p.take 48) ∧ (s.isHead = true ∧ (∀ e ∈ s.yard.idRoster, e.digest ≠ digest))) ∧
    (∃ (s : State) (p digest : List Byte), (Asks s 0x0051 p ∧ digest = p.take 48) ∧ (s.isHead = true ∧ (∃ e ∈ s.yard.idRoster, e.digest = digest) ∧ ownCheck s (copyBase 1 0 / 256) 17 = 0)) ∧
    (∃ (s : State) (p digest : List Byte), (Asks s 0x0051 p ∧ digest = p.take 48) ∧ (s.isHead = true ∧ (∃ e ∈ s.yard.idRoster, e.digest = digest) ∧ ownCheck s (copyBase 1 0 / 256) 17 = 0 ∧ (∀ m ∈ s.yard.members, m.digest ≠ digest))) ∧
    (∃ (s : State) (p : List Byte), (Asks s 0x0052 p) ∧ (s.isMember = true)) ∧
    (∃ (s : State) (p : List Byte), (Asks s 0x0052 p) ∧ (s.isMember = false)) ∧
    (∃ (s : State) (p : List Byte) (a n : Nat), (Asks s 0x0060 p ∧ a = leAt p 0 8 ∧ n = leAt p 8 4 ∧ s.mem.badDram = [] ∧ s.mem.poisonDram = [] ∧ s.mem.weakDram = []) ∧ (dramBehind s a n = true)) ∧
    (∃ (s : State) (p : List Byte) (a n : Nat), (Asks s 0x0060 p ∧ a = leAt p 0 8 ∧ n = leAt p 8 4 ∧ s.mem.badDram = [] ∧ s.mem.poisonDram = [] ∧ s.mem.weakDram = []) ∧ (dramBehind s a n = false)) :=
  ⟨⟨ask 0x40 (up (2 ^ 36 + 0x1000) 600 0) id [], up (2 ^ 36 + 0x1000) 600 0, 2 ^ 36 + 0x1000, 600, by exact ⟨⟨by decide +kernel, by decide +kernel, _, rfl, by decide +kernel, by decide +kernel⟩, by decide +kernel⟩, by decide +kernel⟩,
    ⟨ask 0x40 (up 0x100000 1024 0) id [], up 0x100000 1024 0, 0x100000, 1024, by exact ⟨⟨by decide +kernel, by decide +kernel, _, rfl, by decide +kernel, by decide +kernel⟩, by decide +kernel⟩, by decide +kernel, ⟨_, rfl, by decide +kernel⟩⟩,
    ⟨ask 0x50 (dA ++ [7]) id [], dA ++ [7], dA, 7, by exact ⟨⟨by decide +kernel, by decide +kernel, _, rfl, by decide +kernel, by decide +kernel⟩, by decide +kernel⟩, by decide +kernel⟩,
    ⟨ask 0x50 (dA ++ [7]) asHead [], dA ++ [7], dA, 7, by exact ⟨⟨by decide +kernel, by decide +kernel, _, rfl, by decide +kernel, by decide +kernel⟩, by decide +kernel⟩, by decide +kernel, by decide +kernel⟩,
    ⟨ask 0x50 (dA ++ [7]) asHead low, dA ++ [7], dA, 7, by exact ⟨⟨by decide +kernel, by decide +kernel, _, rfl, by decide +kernel, by decide +kernel⟩, by decide +kernel⟩, by decide +kernel⟩,
    ⟨ask 0x50 (dA ++ [7]) (fun s => asHead (withYard { Yard.reset with members := [mem5], idRoster := [⟨[2], 7, true, 0⟩, id5] } s)) [], dA ++ [7], dA, 7, by exact ⟨⟨by decide +kernel, by decide +kernel, _, rfl, by decide +kernel, by decide +kernel⟩, by decide +kernel⟩⟩,
    ⟨ask 0x51 dA id [], dA, dA, by exact ⟨⟨by decide +kernel, by decide +kernel, _, rfl, by decide +kernel, by decide +kernel⟩, by decide +kernel⟩, by decide +kernel⟩,
    ⟨ask 0x51 dA asHead [], dA, dA, by exact ⟨⟨by decide +kernel, by decide +kernel, _, rfl, by decide +kernel, by decide +kernel⟩, by decide +kernel⟩, by decide +kernel⟩,
    ⟨ask 0x51 dA (fun s => asHead (withYard { Yard.reset with members := [mem5], idRoster := [⟨[2], 7, true, 0⟩, id5] } s)) [], dA, dA, by exact ⟨⟨by decide +kernel, by decide +kernel, _, rfl, by decide +kernel, by decide +kernel⟩, by decide +kernel⟩, by decide +kernel⟩,
    ⟨ask 0x51 dA (fun s => asHead (withYard { Yard.reset with members := [], idRoster := [⟨[2], 7, true, 0⟩, id5] } s)) [], dA, dA, by exact ⟨⟨by decide +kernel, by decide +kernel, _, rfl, by decide +kernel, by decide +kernel⟩, by decide +kernel⟩, by decide +kernel⟩,
    ⟨ask 0x52 [] id [(F.XSH_ROLE_ROLE, 2)], [], by exact ⟨by decide +kernel, by decide +kernel, _, rfl, by decide +kernel, by decide +kernel⟩, by decide +kernel⟩,
    ⟨ask 0x52 [] (fun s => asHead (withYard { Yard.reset with members := [mem5] } s)) [], [], by exact ⟨by decide +kernel, by decide +kernel, _, rfl, by decide +kernel, by decide +kernel⟩, by decide +kernel⟩,
    ⟨ask 0x60 (pload 0x100000 32 dA) id [], pload 0x100000 32 dA, 0x100000, 32, by exact ⟨⟨by decide +kernel, by decide +kernel, _, rfl, by decide +kernel, by decide +kernel⟩, by decide +kernel⟩, by decide +kernel⟩,
    ⟨ask 0x60 (pload (2 ^ 36) 32 dA) id [], pload (2 ^ 36) 32 dA, 2 ^ 36, 32, by exact ⟨⟨by decide +kernel, by decide +kernel, _, rfl, by decide +kernel, by decide +kernel⟩, by decide +kernel⟩, by decide +kernel⟩⟩

/-- Clause 6 of `KeysImagesAndSurfaces`: hypotheses met together. -/
theorem witness_KeysImagesAndSurfaces_b :
    ∃ (s : State) (p : List Byte) (surfaces : List Plane), Asks s 0x0070 p ∧ surfaces = protBack s :: s.cmp.prot.toList.map Prod.fst :=
  ⟨ask 0x70 [] (withImage (List.replicate 32 6)) [(F.CMP_PROT_ADDR_ADDR, 0x4000), (F.CMP_PROT_PITCH_BYTES, 16), (F.CMP_PROT_SIZE_W, 4), (F.CMP_PROT_SIZE_H, 2)], [], [protBack (ask 0x70 [] (withImage (List.replicate 32 6)) [(F.CMP_PROT_ADDR_ADDR, 0x4000), (F.CMP_PROT_PITCH_BYTES, 16), (F.CMP_PROT_SIZE_W, 4), (F.CMP_PROT_SIZE_H, 2)])], by exact ⟨⟨by decide +kernel, by decide +kernel, _, rfl, by decide +kernel, by decide +kernel⟩, by decide +kernel⟩⟩

end W31

namespace W32

/-- A part of the witnesses below. -/
def er (x : ErrMgr) (l : List (Field × Nat)) : State := { upWith ([(F.LFT_STATUS_TEMP_OK, 1), (F.LFT_HOLDUP_CFG_CAP_UF, 10000), (F.LFT_HOLDUP_CFG_V_MV, 5000)] ++ l) with err := x }
/-- A part of the witnesses below. -/
def entry (seq cls sev code unit : Nat) : ErrEntry := ⟨seq, cls, sev, code, 100, unit, 2, 0, false, false, false, false, false, 5⟩
/-- A part of the witnesses below. -/
def mk (s : State) (why : Nat) (parts : List Nat) : State := muckRecord (s.set F.BST_STATE_TEST_MHZ 0x10007) (muckResult why (muckParts s true parts)) why 0x10007 (muckParts s true parts) ([3, 2 ^ 32 + 4].map (fun r => r % 2 ^ 32))
/-- A part of the witnesses below. -/
def muck : State := er ErrMgr.reset [(F.BST_STATE_STATE, 2)]
/-- A part of the witnesses below. -/
def muckR : State := { muck with power := { Power.reset with waiting := some .device } }

/-- Clauses 1, 2, 3, 4, 5, 6, 7, 8, 9 of `EntriesAreServiced`: hypotheses met together. -/
theorem witness_EntriesAreServiced_a :
    (∃ (s : State), Running s ∧ (s.err.held = [] ∨ 64 ≤ s.err.ring.length)) ∧
    (∃ (s : State) (page : Nat) (e : ErrEntry) (rest : List (Nat × ErrEntry)), (Running s ∧ s.err.held = (page, e) :: rest ∧ s.err.ring.length < 64 ∧ (∀ h ∈ rest, h.1 ≠ page)) ∧ (((∀ x ∈ s.err.ring, x.cls ≠ e.cls ∨ x.code ≠ e.code ∨ x.unit ≠ e.unit))) ∧ (((∀ x ∈ s.err.ring, x.cls ≠ e.cls ∨ x.code ≠ e.code ∨ x.unit ≠ e.unit)) ∧ pageHasHeader page = true ∧ s.get (F.ERR_FIRST_VALID page) = 0)) ∧
    (∃ (s : State) (page : Nat) (e : ErrEntry) (rest : List (Nat × ErrEntry)), Running s ∧ s.err.held = (page, e) :: rest ∧ s.err.ring.length < 64 ∧ (∀ h ∈ rest, h.1 ≠ page)) ∧
    (∃ (s : State), Running s ∧ s.err.ring = []) ∧
    (∃ (s u : State) (e d : ErrEntry), (Running s ∧ presented s.err.ring = some e ∧ u = servicePolicy s e ∧ d = { e with action := actionOf e, serviced := true }) ∧ (1 ≤ e.sev) ∧ (1 ≤ e.sev ∧ ((∀ x ∈ u.err.toLoft, x.cls ≠ e.cls ∨ x.code ≠ e.code ∨ x.time ≠ e.time ∨ x.unit ≠ e.unit)))) ∧
    (∃ (s u : State) (e d : ErrEntry), (Running s ∧ presented s.err.ring = some e ∧ u = servicePolicy s e ∧ d = { e with action := actionOf e, serviced := true }) ∧ (e.sev = 0)) ∧
    (∃ (s u : State) (e d : ErrEntry), (Running s ∧ presented s.err.ring = some e ∧ u = servicePolicy s e ∧ d = { e with action := actionOf e, serviced := true }) ∧ (u.get F.ERR_CFG_IRQ_LEVEL ≤ e.sev)) ∧
    (∃ (s : State) (hour : Bool), Running s ∧ s.err.toLoft = [] ∧ (hour = false ∨ s.err.sev0 = [])) ∧
    (∃ (s : State), (Running s ∧ s.err.toLoft ≠ []) ∧ (∃ c, c = ownCheck s 0x0124 ((s.err.toLoft.length * 32 + 255) / 256) ∧ c = 0)) ∧
    (∃ (s : State), (Running s ∧ s.err.toLoft ≠ []) ∧ (∃ c, c = ownCheck s 0x0124 ((s.err.toLoft.length * 32 + 255) / 256) ∧ c ≠ 0)) ∧
    (∃ (s : State), (Running s ∧ s.err.toLoft = [] ∧ s.err.sev0 ≠ []) ∧ (ownCheck s 0x0124 1 = 0)) ∧
    (∃ (s : State), (Running s ∧ s.err.toLoft = [] ∧ s.err.sev0 ≠ []) ∧ (ownCheck s 0x0124 1 ≠ 0)) ∧
    (∃ (s : State) (m : Master) (data : Nat), Running s ∧ MayWrite s m 0x180 ∧ data < 2 ^ 32) ∧
    (∃ (s : State) (m : Master) (data : Nat), (Running s ∧ MayWrite s m 0x190 ∧ data < 2 ^ 32) ∧ (s.get F.PNL_SEQ_STATE_STATE = 5 ∧ s.power.off = .command ∧ s.get F.BST_STATE_STATE ≤ 1)) :=
  ⟨⟨upWith [], by decide +kernel⟩,
    ⟨er { ErrMgr.reset with held := [(0x50, entry 0 2 1 3 4), (0x60, entry 0 2 1 3 4)], dropPending := true, ring := [entry 8 1 1 3 4] } [(F.ERR_SEQ_SEQ, 0xFFFFFFFF)], 0x50, entry 0 2 1 3 4, [(0x60, entry 0 2 1 3 4)], by decide +kernel, by decide +kernel, by decide +kernel⟩,
    ⟨er { ErrMgr.reset with held := [(0x50, entry 0 2 1 3 4), (0x60, entry 0 2 1 3 4)], ring := [entry 8 2 2 3 4] } [], 0x50, entry 0 2 1 3 4, [(0x60, entry 0 2 1 3 4)], by decide +kernel⟩,
    ⟨upWith [], by decide +kernel⟩,
    ⟨er { ErrMgr.reset with ring := [entry 8 7 0 3 4, entry 9 7 1 5 4] } [(F.ERR_FIRST_VALID 0x60, 1), (F.ERR_FIRST_CODE 0x60, 0x7F), (F.ERR_INFO 0x60 0, 9)], servicePolicy (er { ErrMgr.reset with ring := [entry 8 7 0 3 4, entry 9 7 1 5 4] } [(F.ERR_FIRST_VALID 0x60, 1), (F.ERR_FIRST_CODE 0x60, 0x7F), (F.ERR_INFO 0x60 0, 9)]) (entry 9 7 1 5 4), entry 9 7 1 5 4, { entry 9 7 1 5 4 with action := actionOf (entry 9 7 1 5 4), serviced := true }, by decide +kernel, by decide +kernel, by decide +kernel⟩,
    ⟨er { ErrMgr.reset with ring := [entry 8 4 0 3 4], hostLog := List.replicate 256 (entry 1 1 1 1 1) } [], servicePolicy (er { ErrMgr.reset with ring := [entry 8 4 0 3 4], hostLog := List.replicate 256 (entry 1 1 1 1 1) } []) (entry 8 4 0 3 4), entry 8 4 0 3 4, { entry 8 4 0 3 4 with action := actionOf (entry 8 4 0 3 4), serviced := true }, by decide +kernel, by decide +kernel⟩,
    ⟨er { ErrMgr.reset with ring := [entry 9 7 1 5 4] } [(F.ERR_CFG_IRQ_LEVEL, 1)], servicePolicy (er { ErrMgr.reset with ring := [entry 9 7 1 5 4] } [(F.ERR_CFG_IRQ_LEVEL, 1)]) (entry 9 7 1 5 4), entry 9 7 1 5 4, { entry 9 7 1 5 4 with action := actionOf (entry 9 7 1 5 4), serviced := true }, by decide +kernel, by decide +kernel⟩,
    ⟨er { ErrMgr.reset with sev0 := [(3, 1)] } [], false, by decide +kernel⟩,
    ⟨er { ErrMgr.reset with toLoft := [entry 9 7 1 5 4], sev0 := [(3, 1)] } [], by decide +kernel, ⟨_, rfl, by decide +kernel⟩⟩,
    ⟨er { ErrMgr.reset with toLoft := [entry 9 7 1 5 4], sev0 := [(3, 1)] } [(F.LFT_STATUS_POWER_DOWN, 1)], by decide +kernel, ⟨_, rfl, by decide +kernel⟩⟩,
    ⟨er { ErrMgr.reset with sev0 := [(3, 1)] } [], by decide +kernel, by decide +kernel⟩,
    ⟨er { ErrMgr.reset with sev0 := [(3, 1)] } [(F.LFT_STATUS_POWER_DOWN, 1)], by decide +kernel, by decide +kernel⟩,
    ⟨upWith [], .mp 0, 0x37470FFF, by decide +kernel⟩,
    ⟨{ upWith [(F.PNL_SEQ_STATE_STATE, 5)] with power := { Power.reset with off := .command } }, .mp 0, 3, by decide +kernel, by decide +kernel⟩⟩

/-- Clauses 9, 10, 11 of `EntriesAreServiced`: hypotheses met together. -/
theorem witness_EntriesAreServiced_b :
    (∃ (s : State) (m : Master) (data : Nat), (Running s ∧ MayWrite s m 0x190 ∧ data < 2 ^ 32) ∧ ((s.get F.PNL_SEQ_STATE_STATE ≠ 5 ∨ s.power.off ≠ .command ∨ 2 ≤ s.get F.BST_STATE_STATE)) ∧ ((s.get F.PNL_SEQ_STATE_STATE ≠ 5 ∨ s.power.off ≠ .command ∨ 2 ≤ s.get F.BST_STATE_STATE) ∧ s.get (F.ERR_FIRST_VALID 0x190) = 0)) ∧
    (∃ (s : State) (readBack : Bool) (mhz : Nat) (parts repairs : List Nat), Running s ∧ s.get F.BST_STATE_STATE ≠ 2) ∧
    (∃ (s v : State) (readBack : Bool) (mhz why : Nat) (parts repairs ps : List Nat), (Running s ∧ s.get F.BST_STATE_STATE = 2 ∧ why = (if s.power.muckWhy = 0 then (if readBack then 0 else 1) else s.power.muckWhy) ∧ ps = muckParts s readBack parts ∧ v = muckRecord (s.set F.BST_STATE_TEST_MHZ mhz) (muckResult why ps) why mhz ps (repairs.map (fun r => r % 2 ^ 32))) ∧ (s.power.waiting = none)) ∧
    (∃ (s v : State) (readBack : Bool) (mhz why : Nat) (parts repairs ps : List Nat), Running s ∧ s.get F.BST_STATE_STATE = 2 ∧ why = (if s.power.muckWhy = 0 then (if readBack then 0 else 1) else s.power.muckWhy) ∧ ps = muckParts s readBack parts ∧ v = muckRecord (s.set F.BST_STATE_TEST_MHZ mhz) (muckResult why ps) why mhz ps (repairs.map (fun r => r % 2 ^ 32))) :=
  ⟨⟨upWith [], .mp 0, 3, by decide +kernel, by decide +kernel, by decide +kernel⟩,
    ⟨upWith [], true, 7, [], [], by decide +kernel⟩,
    ⟨muck, mk (muck) 0 [0x40000003], true, 0x10007, 0, [0x40000003], [3, 2 ^ 32 + 4], muckParts (muck) true [0x40000003], by exact ⟨by decide +kernel, by decide +kernel, by decide +kernel, rfl, rfl⟩, by decide +kernel⟩,
    ⟨muckR, mk (muckR) 0 [0x40000003], true, 0x10007, 0, [0x40000003], [3, 2 ^ 32 + 4], muckParts (muckR) true [0x40000003], by exact ⟨by decide +kernel, by decide +kernel, by decide +kernel, rfl, rfl⟩⟩⟩

end W32

namespace W33

/-- A part of the witnesses below. -/
def start : Start := ⟨2, 5000, 400, [], [], []⟩
/-- A part of the witnesses below. -/
def cold : Start := { start with loftTemp := -1 }
/-- A part of the witnesses below. -/
def lf (x : Loft) (l : List (Field × Nat)) : State := { resetWith l with loft := x }
/-- A part of the witnesses below. -/
def shows (s : State) : State := { s with drum := { Drum.reset with plans := [{ planAt 0 with started := true }] } }

/-- Clauses 1, 2, 3, 4, 5, 6, 7 of `ResetsAndStartUp`: hypotheses met together. -/
theorem witness_ResetsAndStartUp_a :
    (∃ (s : State) (e : Bool) (fate : CommitFate), ((s.loft.commit = none ∨ fate = .completed)) ∧ (s.loft.commit = none)) ∧
    (∃ (s : State) (e : Bool) (fate : CommitFate), (s.loft.commit = none ∨ fate = .completed)) ∧
    (∃ (s : State) (e : Bool) (a : Nat) (bs : List Byte), s.loft.commit = some (a, bs)) ∧
    (∃ (s : State) (c : Instr) (why : Cause), (((c = .perstAssert ∧ why = .perst) ∨
      (∃ m data, c = .deviceReset m data ∧ why = .device ∧ Running s ∧ MayWrite s m 0x000 ∧ data < 2 ^ 32 ∧ hasBit data 0 = true ∧ bitsOf data 16 16 = 0xD1CE))) ∧ (ResetsAtOnce s) ∧ (ResetsAtOnce s ∧ why = .perst)) ∧
    (∃ (s : State) (c : Instr) (why : Cause), (((c = .perstAssert ∧ why = .perst) ∨
      (∃ m data, c = .deviceReset m data ∧ why = .device ∧ Running s ∧ MayWrite s m 0x000 ∧ data < 2 ^ 32 ∧ hasBit data 0 = true ∧ bitsOf data 16 16 = 0xD1CE))) ∧ (s.power.stopped = false ∧ s.power.held = false ∧ s.get F.BST_STATE_STATE = 0 ∧ (s.pnl.step ≠ 0 ∨ s.get F.PNL_SEQ_STATE_STATE = 2) ∧ PanelShows s)) ∧
    (∃ (s : State) (c : Instr) (why : Cause), (((c = .perstAssert ∧ why = .perst) ∨
      (∃ m data, c = .deviceReset m data ∧ why = .device ∧ Running s ∧ MayWrite s m 0x000 ∧ data < 2 ^ 32 ∧ hasBit data 0 = true ∧ bitsOf data 16 16 = 0xD1CE))) ∧ (s.power.stopped = false ∧ s.power.held = false ∧ s.get F.BST_STATE_STATE = 1)) ∧
    (∃ (s : State) (c : Instr) (why : Cause), (((c = .perstAssert ∧ why = .perst) ∨
      (∃ m data, c = .deviceReset m data ∧ why = .device ∧ Running s ∧ MayWrite s m 0x000 ∧ data < 2 ^ 32 ∧ hasBit data 0 = true ∧ bitsOf data 16 16 = 0xD1CE))) ∧ (s.power.stopped = false ∧ s.power.held = false ∧ 2 ≤ s.get F.BST_STATE_STATE ∧ s.get F.BST_STATE_STATE ≤ 5)) ∧
    (∃ (s : State) (c : Instr) (why : Cause), ((c = .perstAssert ∧ why = .perst) ∨
      (∃ m data, c = .deviceReset m data ∧ why = .device ∧ Running s ∧ MayWrite s m 0x000 ∧ data < 2 ^ 32 ∧ hasBit data 0 = true ∧ bitsOf data 16 16 = 0xD1CE))) ∧
    (∃ (s : State) (m : Master) (data : Nat), (Running s ∧ MayWrite s m 0x000 ∧ data < 2 ^ 32) ∧ (hasBit data 0 = false)) ∧
    (∃ (s : State) (m : Master) (data : Nat), (Running s ∧ MayWrite s m 0x000 ∧ data < 2 ^ 32) ∧ (hasBit data 0 = true ∧ bitsOf data 16 16 ≠ 0xD1CE) ∧ (hasBit data 0 = true ∧ bitsOf data 16 16 ≠ 0xD1CE ∧ s.get (F.ERR_FIRST_VALID 0x000) = 0)) ∧
    (∃ (s : State), Running s) ∧
    (∃ (s v : State), (Running s ∧ v = { s with pcie := { s.pcie with linkUp := true } }) ∧ ((candidate v = false ∨ upPorts v = [] ∨ s.yard.enumSent = true))) ∧
    (∃ (s v : State), (Running s ∧ v = { s with pcie := { s.pcie with linkUp := true } }) ∧ (candidate v = true ∧ upPorts v ≠ [] ∧ s.yard.enumSent = false)) ∧
    (∃ (s : State) (x : Start), Running s ∧ (s.mech.loaded.isSome = true ∨ s.get F.GLB_START_STAGE ≠ 0)) :=
  ⟨⟨upWith [(F.ERR_STATE_FAILED, 1)], true, .beforePoint, by decide +kernel, by decide +kernel⟩,
    ⟨lf { Loft.reset with commit := some (0x13000, [1, 0, 2]) } [], false, .completed, by decide +kernel⟩,
    ⟨lf { Loft.reset with commit := some (0x13000, [1, 0, 2]) } [], true, 0x13000, [1, 0, 2], by decide +kernel⟩,
    ⟨upWith [(F.ERR_STATE_FAILED, 1)], .perstAssert, .perst, by exact Or.inl ⟨rfl, rfl⟩, by decide +kernel, by decide +kernel⟩,
    ⟨shows (upWith [(F.PNL_SEQ_STATE_STATE, 2)]), .perstAssert, .perst, by exact Or.inl ⟨rfl, rfl⟩, by decide +kernel⟩,
    ⟨upWith [(F.BST_STATE_STATE, 1)], .perstAssert, .perst, by exact Or.inl ⟨rfl, rfl⟩, by decide +kernel⟩,
    ⟨upWith [(F.BST_STATE_STATE, 2)], .perstAssert, .perst, by exact Or.inl ⟨rfl, rfl⟩, by decide +kernel⟩,
    ⟨upWith [(F.BST_STATE_STATE, 2)], .deviceReset .pcie 0xD1CE0001, .device, by exact Or.inr ⟨.pcie, 0xD1CE0001, by decide +kernel⟩⟩,
    ⟨upWith [], .pcie, 0xD1CE0000, by decide +kernel, by decide +kernel⟩,
    ⟨upWith [], .pcie, 0xD1CF0001, by decide +kernel, by decide +kernel, by decide +kernel⟩,
    ⟨{ upWith [(F.GLB_LINK_RESETS_COUNT, 5)] with pcie := { Pcie.reset with linkUp := true } }, by decide +kernel⟩,
    ⟨upWith [], { (upWith []) with pcie := { ((upWith [])).pcie with linkUp := true } }, by decide +kernel, by decide +kernel⟩,
    ⟨yardWith Yard.reset [(F.XSH_ROLE_HEAD_PRIO, 4), (F.XSH_CTRL_EN, 1)], { (yardWith Yard.reset [(F.XSH_ROLE_HEAD_PRIO, 4), (F.XSH_CTRL_EN, 1)]) with pcie := { ((yardWith Yard.reset [(F.XSH_ROLE_HEAD_PRIO, 4), (F.XSH_CTRL_EN, 1)])).pcie with linkUp := true } }, by decide +kernel, by decide +kernel⟩,
    ⟨upWith [(F.GLB_START_STAGE, 1)], start, by decide +kernel⟩⟩

/-- Clauses 8, 9, 10, 11 of `ResetsAndStartUp`: hypotheses met together. -/
theorem witness_ResetsAndStartUp_b :
    (∃ (s : State) (x : Start) (ok : Nat), (Running s ∧ s.power.test = false ∧ s.mech.loaded = none ∧ s.get F.GLB_START_STAGE = 0 ∧ ok = (if 0 ≤ x.loftTemp ∧ x.loftTemp ≤ 1440 then 1 else 0)) ∧ (s.loft.torn = false ∧ s.loft.journal = none ∧ bootSlot s = none)) ∧
    (∃ (s : State) (x : Start) (ok : Nat), (Running s ∧ s.power.test = false ∧ s.mech.loaded = none ∧ s.get F.GLB_START_STAGE = 0 ∧ ok = (if 0 ≤ x.loftTemp ∧ x.loftTemp ≤ 1440 then 1 else 0)) ∧ (s.loft.torn = true ∧ bootSlot s = none)) ∧
    (∃ (s : State) (x : Start) (ok : Nat), Running s ∧ s.power.test = false ∧ s.mech.loaded = none ∧ s.get F.GLB_START_STAGE = 0 ∧ ok = (if 0 ≤ x.loftTemp ∧ x.loftTemp ≤ 1440 then 1 else 0)) ∧
    (∃ (s : State) (x : Start) (ok : Nat), Running s ∧ s.power.test = false ∧ s.mech.loaded = none ∧ s.get F.GLB_START_STAGE = 0 ∧ ok = (if 0 ≤ x.loftTemp ∧ x.loftTemp ≤ 1440 then 1 else 0)) ∧
    (∃ (s : State), Running s ∧ s.get F.GLB_START_STAGE ≠ 3) ∧
    (∃ (s : State), Running s ∧ s.get F.GLB_START_STAGE = 3 ∧ (∃ b, b < 12 ∧ s.get (F.SER_GROUP_STATE_STATE b) ∉ [0, 6, 8])) ∧
    (∃ (s : State) (x : Start), Running s ∧ s.power.test = true ∧ s.mech.loaded = none ∧ s.get F.GLB_START_STAGE = 0) :=
  ⟨⟨upWith [], start, 1, by decide +kernel, by decide +kernel⟩,
    ⟨lf { Loft.reset with torn := true } [], start, 1, by decide +kernel, by decide +kernel⟩,
    ⟨lf { Loft.reset with journal := some (0x13000, [1, 0, 2]) } [], start, 1, by decide +kernel⟩,
    ⟨lf { Loft.reset with journal := some (0x13000, [1, 0, 2]) } [], cold, 0, by decide +kernel⟩,
    ⟨upWith [], by decide +kernel⟩,
    ⟨upWith [(F.GLB_START_STAGE, 3), (F.SER_GROUP_STATE_STATE 11, 5)], by decide +kernel⟩,
    ⟨{ upWith [] with power := { Power.reset with test := true } }, start, by decide +kernel⟩⟩

end W33

namespace W34

/-- A part of the witnesses below. -/
def shows (s : State) : State := { s with drum := { Drum.reset with plans := [{ planAt 0 with started := true }] } }
/-- A part of the witnesses below. -/
def pw (x : Power) (l : List (Field × Nat)) : State := { upWith ([(F.LFT_STATUS_TEMP_OK, 1)] ++ l) with power := x }
/-- A part of the witnesses below. -/
def dark (s : State) : State := { s with pnl := { Pnl.reset with step := 30 } }

/-- Clauses 1, 2, 3, 4, 5, 6, 7 of `SuppliesAndClocksFail`: hypotheses met together. -/
theorem witness_SuppliesAndClocksFail_a :
    (∃ (s : State), Running s ∧ s.get F.CKP_PNL_PWR_WARN = 1) ∧
    (∃ (s : State), (Running s ∧ s.get F.CKP_PNL_PWR_WARN = 0) ∧ (2 ≤ s.get F.BST_STATE_STATE ∧ s.get F.BST_STATE_STATE ≤ 5)) ∧
    (∃ (s : State), (Running s ∧ s.get F.CKP_PNL_PWR_WARN = 0) ∧ ((s.get F.BST_STATE_STATE < 2 ∨ 5 < s.get F.BST_STATE_STATE)) ∧ ((s.get F.BST_STATE_STATE < 2 ∨ 5 < s.get F.BST_STATE_STATE) ∧ (s.power.held = true ∨ s.get F.ERR_STATE_FAILED = 1 ∨ s.power.critical = true ∨ 5 < s.get F.GLB_START_STAGE)) ∧ ((s.get F.BST_STATE_STATE < 2 ∨ 5 < s.get F.BST_STATE_STATE) ∧ (s.power.held = true ∨ s.get F.ERR_STATE_FAILED = 1 ∨ s.power.critical = true ∨ 5 < s.get F.GLB_START_STAGE) ∧ s.loft.commit = none ∧ loftTempOk s = true)) ∧
    (∃ (s : State), (Running s ∧ s.get F.CKP_PNL_PWR_WARN = 0) ∧ ((s.get F.BST_STATE_STATE < 2 ∨ 5 < s.get F.BST_STATE_STATE) ∧ (s.power.held = true ∨ s.get F.ERR_STATE_FAILED = 1 ∨ s.power.critical = true ∨ 5 < s.get F.GLB_START_STAGE) ∧ s.loft.commit.isSome = true)) ∧
    (∃ (s : State), (Running s ∧ s.get F.CKP_PNL_PWR_WARN = 0) ∧ ((s.get F.BST_STATE_STATE < 2 ∨ 5 < s.get F.BST_STATE_STATE) ∧ s.power.held = false ∧ s.get F.ERR_STATE_FAILED = 0 ∧ s.power.critical = false ∧ s.get F.GLB_START_STAGE < 4)) ∧
    (∃ (s : State), (Running s ∧ s.get F.CKP_PNL_PWR_WARN = 0) ∧ ((s.get F.BST_STATE_STATE < 2 ∨ 5 < s.get F.BST_STATE_STATE) ∧ s.power.held = false ∧ s.get F.ERR_STATE_FAILED = 0 ∧ s.power.critical = false ∧ 4 ≤ s.get F.GLB_START_STAGE ∧ s.get F.GLB_START_STAGE ≤ 5 ∧ PanelShows s)) ∧
    (∃ (s : State), Running s ∧ s.get F.CKP_PNL_PWR_WARN = 0) ∧
    (∃ (s : State), (Running s ∧ s.get F.CKP_PNL_PWR_WARN = 1) ∧ (ResetsAtOnce s)) ∧
    (∃ (s : State), (Running s ∧ s.get F.CKP_PNL_PWR_WARN = 1) ∧ (s.power.held = false ∧ 2 ≤ s.get F.BST_STATE_STATE ∧ s.get F.BST_STATE_STATE ≤ 5)) ∧
    (∃ (s : State) (rail mv r : Nat) (c : Instr), (Running s ∧ r = rail % 9 ∧ c ∈ [Instr.railOutOfRange rail mv, .railReturnsToTolerance rail mv]) ∧ (railState r mv = 2 ∧ s.get (F.CKP_RAIL_STATE r) ≠ 2)) ∧
    (∃ (s : State) (rail mv r : Nat) (c : Instr), (Running s ∧ r = rail % 9 ∧ c ∈ [Instr.railOutOfRange rail mv, .railReturnsToTolerance rail mv]) ∧ ((railState r mv ≠ 2 ∨ s.get (F.CKP_RAIL_STATE r) = 2))) ∧
    (∃ (s : State), Running s) ∧
    (∃ (s : State) (d : Nat) (pll : Pll) (domains : List Nat), (Running s ∧ (pll, domains) ∈ [(Pll.computeDie d, [12 + 2 * (d % 2), 13 + 2 * (d % 2)]), (.dieLink d, [16 + d % 2]), (.ioCore, [18, 41, 42, 43]), (.ioLink, [16, 17]), (.dram d, [19 + d % 4]), (.timeBase, [44, 45])]) ∧ (s.get F.ERR_STATE_FAILED = 0 ∧ s.pnl.step = 30)) ∧
    (∃ (s : State) (d : Nat) (pll : Pll) (domains : List Nat), (Running s ∧ (pll, domains) ∈ [(Pll.computeDie d, [12 + 2 * (d % 2), 13 + 2 * (d % 2)]), (.dieLink d, [16 + d % 2]), (.ioCore, [18, 41, 42, 43]), (.ioLink, [16, 17]), (.dram d, [19 + d % 4]), (.timeBase, [44, 45])]) ∧ (s.get F.ERR_STATE_FAILED = 0 ∧ PanelShows s)) :=
  ⟨⟨upWith [(F.CKP_PNL_PWR_WARN, 1)], by decide +kernel⟩,
    ⟨upWith [(F.BST_STATE_STATE, 5)], by decide +kernel, by decide +kernel⟩,
    ⟨pw { Power.reset with held := true } [], by decide +kernel, by decide +kernel, by decide +kernel, by decide +kernel⟩,
    ⟨{ pw { Power.reset with critical := true } [] with loft := { Loft.reset with commit := some (0x13000, [1]) } }, by decide +kernel, by decide +kernel⟩,
    ⟨pw Power.reset [(F.GLB_START_STAGE, 3)], by decide +kernel, by decide +kernel⟩,
    ⟨shows (pw Power.reset [(F.GLB_START_STAGE, 5)]), by decide +kernel, by decide +kernel⟩,
    ⟨upWith [], by decide +kernel⟩,
    ⟨upWith [(F.CKP_PNL_PWR_WARN, 1)], by decide +kernel, by decide +kernel⟩,
    ⟨upWith [(F.CKP_PNL_PWR_WARN, 1), (F.BST_STATE_STATE, 4)], by decide +kernel, by decide +kernel⟩,
    ⟨upWith [], 12, 0, 3, .railOutOfRange 12 0, by decide +kernel, by decide +kernel⟩,
    ⟨upWith [(F.CKP_RAIL_STATE 3, 2)], 3, 900, 3, .railReturnsToTolerance 3 900, by decide +kernel, by decide +kernel⟩,
    ⟨upWith [(F.CAL_REF_EXT, 1)], by decide +kernel⟩,
    ⟨dark (upWith []), 5, .computeDie 5, [14, 15], by decide +kernel, by decide +kernel⟩,
    ⟨shows (upWith []), 0, .ioCore, [18, 41, 42, 43], by decide +kernel, by decide +kernel⟩⟩

/-- Clauses 7, 8, 9 of `SuppliesAndClocksFail`: hypotheses met together. -/
theorem witness_SuppliesAndClocksFail_b :
    (∃ (s : State) (d : Nat) (pll : Pll) (domains : List Nat), (Running s ∧ (pll, domains) ∈ [(Pll.computeDie d, [12 + 2 * (d % 2), 13 + 2 * (d % 2)]), (.dieLink d, [16 + d % 2]), (.ioCore, [18, 41, 42, 43]), (.ioLink, [16, 17]), (.dram d, [19 + d % 4]), (.timeBase, [44, 45])]) ∧ (s.get F.ERR_STATE_FAILED = 1)) ∧
    (∃ (s : State) (k : Nat), (Running s ∧ k < 12) ∧ (stallActive s k = false)) ∧
    (∃ (s : State) (k : Nat), (Running s ∧ k < 12) ∧ (stallActive s k = true ∧ k < s.rsy.stalls.length ∧ ((∀ l ∈ s.rsy.lots, l.stall ≠ k ∨ l.phase ≠ .running)))) ∧
    (∃ (s : State) (d g : Nat), (Running s ∧ d ≠ 28 ∧ ((∀ i, i < 3 → 3 * (d % 4) + i ≠ g → s.get (F.SER_CTRL_ENABLE (3 * (d % 4) + i)) = 0))) ∧ ((s.get (F.SER_CTRL_ENABLE g) = 0 ∨ (∀ i, i < 3 → 3 * (d % 4) + i ≠ g)))) ∧
    (∃ (s : State) (d g : Nat), (Running s ∧ d ≠ 28 ∧ ((∀ i, i < 3 → 3 * (d % 4) + i ≠ g → s.get (F.SER_CTRL_ENABLE (3 * (d % 4) + i)) = 0))) ∧ (s.get (F.SER_CTRL_ENABLE g) = 1 ∧ g / 3 = d % 4 ∧ s.rsy.lots = [])) :=
  ⟨⟨upWith [(F.ERR_STATE_FAILED, 1)], 6, .dram 6, [21], by decide +kernel, by decide +kernel⟩,
    ⟨upWith [(F.STL_STATE_STATE 4, 2)], 4, by decide +kernel, by decide +kernel⟩,
    ⟨upWith [(F.STL_STATE_STATE 4, 0)], 4, by decide +kernel, by decide +kernel⟩,
    ⟨upWith [], 24, 1, by decide +kernel, by decide +kernel⟩,
    ⟨upWith [(F.SER_CTRL_ENABLE 4, 1), (F.SER_GROUP_STATE_STATE 4, 6)], 25, 4, by decide +kernel, by decide +kernel⟩⟩

end W34

/-! ### Witnesses of the statements about stored words, addresses, and every step -/

/-- The command in front of `StepRunsTheFrontCommand`. -/
theorem witness_StepRunsTheFrontCommand :
    ∃ (s : State) (c : Instr) (rest : List Instr), s.pending = c :: rest :=
  ⟨{ State.reset with pending := [.commitLatch, .subframeBoundary] }, .commitLatch, [.subframeBoundary], rfl⟩

/-- The hypotheses of `EveryStepKeepsMemorySound`, met together. -/
theorem witness_EveryStepKeepsMemorySound : ∃ s t : State, SoundMemory s ∧ step s = .next t :=
  ⟨State.reset, tick State.reset, by decide +kernel, rfl⟩

/-- The hypotheses of `StoppedClocksStayStopped`, met together, with a command in front. -/
theorem witness_StoppedClocksStayStopped : ∃ s t : State, Halted s ∧ s.pending = [.commitLatch] ∧ step s = .next t :=
  ⟨{ State.reset with power := { State.reset.power with stopped := true }, pending := [.commitLatch] },
   { State.reset with power := { State.reset.power with stopped := true } }, by decide +kernel, rfl, rfl⟩

/-- The clauses of `StoredWordsAreCorrected`, each at the ends of its ranges. -/
theorem witness_StoredWordsAreCorrected :
    (∃ d : Nat, d < 2 ^ 64 ∧ d = 2 ^ 64 - 1) ∧
    (∃ d i : Nat, d < 2 ^ 64 ∧ i < 72 ∧ 2 < weight64 (Nat.xor (if i < 64 then Nat.xor d (2 ^ i) else d) poisonPattern) ∧ i = 71) ∧
    (∃ d i : Nat, d < 2 ^ 64 ∧ i < 72 ∧ weight64 (Nat.xor (if i < 64 then Nat.xor d (2 ^ i) else d) poisonPattern) ≤ 2 ∧ i = 0) ∧
    (∃ d i j : Nat, d < 2 ^ 64 ∧ i < 72 ∧ j < 72 ∧ i ≠ j ∧ i = 0 ∧ j = 71) ∧ (∃ i : Nat, i < 64 ∧ i = 63) ∧ (∃ j : Nat, j < 8 ∧ j = 7) :=
  ⟨⟨_, by decide +kernel, rfl⟩, ⟨0, 71, by decide +kernel, by decide, by decide +kernel, rfl⟩,
   ⟨poisonPattern, 0, by decide +kernel, by decide, by decide +kernel, rfl⟩, ⟨0, 0, 71, by decide, by decide, by decide, by decide, rfl, rfl⟩,
   ⟨63, by decide, rfl⟩, ⟨7, by decide, rfl⟩⟩

/-- The clauses of `TileSlotAddresses` and `CheckColumns` that have hypotheses. -/
theorem witness_TileSlotAddresses :
    (∃ (_s : State) (k l t x : Nat), k < 4 ∧ l < 64 ∧ t < 3600 ∧ x < 2 ∧ t = 3599) ∧
    (∃ (_s : State) (n m x y : Nat), x < 2 ∧ y < 2 ∧ (n ≠ m ∨ x ≠ y)) ∧ (∃ j : Nat, j < 8 ∧ j = 7) :=
  ⟨⟨State.reset, 3, 63, 3599, 1, by decide, by decide, by decide, by decide, rfl⟩,
   ⟨State.reset, 5, 5, 0, 1, by decide, by decide, Or.inr (by decide)⟩, ⟨7, by decide, rfl⟩⟩

/-- The clauses of `LossyTexelsAreMixed`: the last texel of a tile, with its index; two endpoints. -/
theorem witness_LossyTexelsAreMixed :
    (∃ (p : List Byte) (a b c cell n i : Nat), p.length = 1024 ∧ a < 32 ∧ b < 32 ∧ c < 4 ∧ cell = (b / 4 * 8 + a / 4) * 16 ∧ n = 4 * (b % 4) + a % 4 ∧
      i = (p.getD (cell + 8 + n / 2) 0).toNat / 16 ^ (n % 2) % 16 ∧ i = 15) ∧
    (∃ e0 e1 : Nat, e0 < 256 ∧ e1 < 256 ∧ e0 = 255) :=
  ⟨⟨List.replicate 1024 0xFF, 31, 31, 3, 1008, 15, 15, by decide +kernel, by decide, by decide, by decide, by decide, by decide, by decide +kernel, rfl⟩,
   ⟨255, 0, by decide, by decide, rfl⟩⟩

/-- The hypotheses of `RecordsInUseAreSums`, met together: XTALK out of a factory record, and a groom delta that takes it below zero. -/
theorem witness_RecordsInUseAreSums :
    ∃ (s : State) (v : Version) (n i : Nat) (f : LensRec) (g h : LensDelta), i < 12 ∧
      f = (assoc s.rsy.lens.factory n).getD LensRec.zero ∧ g = (assoc v.groom n).getD LensDelta.zero ∧ h = (assoc v.host n).getD LensDelta.zero ∧
      (recordOf s v n).at i = 0 :=
  ⟨{ State.reset with rsy := { Rsy.reset with lens := { Lens.reset with factory := [(3, ⟨List.replicate 12 5, 0⟩)] } } },
   ⟨0, 0, false, 0, 0, [], [], [(3, ⟨List.replicate 12 (-6), 0, 0⟩)], [], [], [], 0, none⟩, 3, 9, _, _, _, by decide, rfl, rfl, rfl, by decide +kernel⟩

end Sys2Proof.Tests
end

/-! Scope (spec/00_scope.md): what reset leaves, and the writes of page headers, of the interrupt router and of the MSI-X table. -/

namespace Sys2Proof.Machine

/-! ### Reset -/

/-- R5, log entry 7: right after reset every field, loaded from the loft or not, reads its reset value. -/
theorem get_reset (f : Field) : State.reset.get f = f.rst % 2 ^ f.w := by
  have hdefault : fieldDefault State.reset.mech.loaded f = f.rst := by
    unfold fieldDefault
    split <;> rfl
  show fieldDefault State.reset.mech.loaded f % 2 ^ f.w = _
  rw [hdefault]

/-- Settles O55: nothing is set in the reset state, so every field reads its default and every memory is empty. -/
theorem resetLeaves : Obligations.ResetLeaves :=
  ⟨rfl, State.reset_wf, rfl, fun _ => ⟨rfl, rfl⟩, get_reset⟩

/-! ### Commands of a running controller -/

theorem exec_registerWrite {s : State} (hr : Running s) (m : Master) (a size d : Nat) :
    exec (.registerWrite m a size d) s = .next (regWrite s m a size d) := live_running hr _

theorem exec_irqClrWrite {s : State} (hr : Running s) (m : Master) (page bits : Nat) :
    exec (.irqClrWrite m page bits) s = .next (regWrite s m (page * 0x1000 + 0x01C) 4 (bits % 2 ^ 32)) := live_running hr _

theorem exec_intVecWrite {s : State} (hr : Running s) (m : Master) (page en vector : Nat) :
    exec (.intVecWrite m page en vector) s =
      .next (regWrite s m (0x10100 + 4 * (page % 0x1B0)) 4 (en % 2 * 2 ^ 15 + vector % 2 ^ 11)) := live_running hr _

theorem exec_msixUnmask {s : State} (hr : Running s) (v : Nat) :
    exec (.msixUnmask v) s = .next (regWrite s .pcie (0x8000 + 16 * (v % 2048) + 12) 4 0) := live_running hr _

theorem exec_secureLatchClear {s : State} (hr : Running s) (page bits : Nat) :
    exec (.secureLatchClear page bits none) s = .next (clearLatch s page bits) := live_running hr _

/-! ### Words written to one field -/

theorem andNot_one_of_lt {v : Nat} (h : v < 2) : andNot v 1 = 0 := by
  unfold andNot
  obtain rfl | rfl : v = 0 ∨ v = 1 := by omega
  · rfl
  · rfl

theorem wouldChange_w1c {s : State} {f : Field} {v : Nat} (ha : f.acc = .w1c) : wouldChange s f v = !decide (Nat.land v (s.get f) = 0) := by
  simp only [wouldChange, ha]

/-- R7, R45: a 32-bit register of one RW field that nothing refuses holds the bits written. -/
theorem writeReg_rw {s : State} {m : Master} {b d : Nat} {f : Field} (hlow : f.lo + f.w ≤ 32) (hwide : 0 < f.w) (hd : d < 2 ^ 32)
    (ha : f.acc = .rw) (hl : f.legal = .any) (ho : f.plain = true ∨ ownsPage s m (f.addr / 0x1000) = true)
    (hf : fieldRule s f (d / 2 ^ f.lo % 2 ^ f.w) = none) (hr : registerRule s m b [(0, d)] = none) :
    writeReg s m ⟨b, 32, 0, [f]⟩ [(0, d)] = ⟨s.set f (d / 2 ^ f.lo % 2 ^ f.w), [(f, d / 2 ^ f.lo % 2 ^ f.w)], none⟩ := by
  have hj : judgeField s m f (d / 2 ^ f.lo % 2 ^ f.w) = .take (d / 2 ^ f.lo % 2 ^ f.w) :=
    judgeField_owned s m f _ (by simp [ha]) ho (by rw [hl]; rfl)
  rw [writeReg_narrow s m _ _ (Nat.le_refl _) hr,
    writeFields_take m _ f [] ⟨s, [], none⟩ (fieldWritten_word s f d hlow hwide hd) hj hf]
  simp only [writeFields, storeField, ha, List.nil_append]

/-! ### The common page header (R40) -/

/-- R50: after a write of a header register the router re-evaluates the page's vector where the word was PAGE_CTRL or IRQ_EN. -/
theorem routerAfter_header (before after : State) {page off : Nat} (hh : pageHasHeader page = true) (ho : off < 0x100) :
    routerAfter before after (page * 0x1000 + off) =
      if off = 0x008 ∨ off = 0x014 then reevaluate after (vectorOf after page) else after := by
  have hpage : (page * 0x1000 + off) / 0x1000 = page := by omega
  have hoff : (page * 0x1000 + off) % 0x1000 = off := by omega
  have hn : ¬ (0x008 ≤ page ∧ page ≤ 0x00F) := by
    intro hx
    simp [pageHasHeader, hx.1, hx.2] at hh
  have hentry : ¬ (page = 0x010 ∧ 0x100 ≤ off ∧ off < 0x7C0) := by omega
  have hmask : ¬ (0x008 ≤ page ∧ page ≤ 0x00F ∧ (page * 0x1000 + off) % 16 / 4 = 3) := fun e => hn ⟨e.1, e.2.1⟩
  unfold routerAfter
  dsimp only
  rw [hpage, hoff, hh, if_neg hentry, if_neg hmask]
  simp

/-- R40: a word written to IRQ_EN is set, and the page's vector re-evaluated. -/
theorem regWrite_irqEn {s : State} {m : Master} {page data : Nat} (hh : pageHasHeader page = true) (hd : data < 2 ^ 32)
    (hm : s.isMember = true → m = .pcie → ctrlPage page = false) (hw : s.pageWorld page = 0 → m.secure = true)
    (hp : 0xB1 ≤ page → page ≤ 0xB8 → s.isMember = true → m.host = false) :
    regWrite s m (page * 0x1000 + 0x014) 4 data =
      reevaluate (s.set (F.IRQ_EN page) data) (vectorOf (s.set (F.IRQ_EN page) data) page) := by
  have hval : data / 2 ^ (F.IRQ_EN page).lo % 2 ^ (F.IRQ_EN page).w = data := by
    show data / 2 ^ 0 % 2 ^ 32 = data
    omega
  have hrule := fieldRule_header s (F.IRQ_EN page) (data / 2 ^ (F.IRQ_EN page).lo % 2 ^ (F.IRQ_EN page).w)
    (by simp only [F.IRQ_EN, fld]; omega) (by decide : 0 < 512)
  have hreg : writeReg s m ⟨page * 0x1000 + 0x014, 32, 0, [F.IRQ_EN page]⟩ [(0, data)] =
      ⟨s.set (F.IRQ_EN page) data, [(F.IRQ_EN page, data)], none⟩ := by
    have h := writeReg_rw (f := F.IRQ_EN page) (b := page * 0x1000 + 0x014) (s := s) (m := m) (Nat.le_refl 32) (Nat.succ_pos 31) hd rfl rfl
      (Or.inl rfl) hrule (registerRule_header s m page 0x014 _ (by decide) hp)
    rwa [hval] at h
  rw [regWrite_header s m page 0x014 data _ hh (by decide) (by decide) (by decide) rfl rfl hd hm hw, hreg,
    routerAfter_header _ _ hh (by decide), if_pos (Or.inr rfl)]
  rfl

theorem registerWrite_irqEn {s : State} {m : Master} {page data : Nat} (hrun : Running s) (hh : pageHasHeader page = true)
    (hd : data < 2 ^ 32) (hm : s.isMember = true → m = .pcie → ctrlPage page = false) (hw : s.pageWorld page = 0 → m.secure = true)
    (hp : 0xB1 ≤ page → page ≤ 0xB8 → s.isMember = true → m.host = false) :
    ∃ t, exec (.registerWrite m (page * 0x1000 + 0x014) 4 data) s = .next t ∧ t.get (F.IRQ_EN page) = data ∧
      Keeps (ofFields [F.IRQ_EN page]) s t := by
  have hsend := sends_reevaluate (s.set (F.IRQ_EN page) data) _ (vectorOf_lt (s.set (F.IRQ_EN page) data) page)
  have hkey : sendKey (F.IRQ_EN page).key = false := sendKey_low _ (by simp only [F.IRQ_EN, fld, Field.key]; omega)
  refine ⟨_, exec_registerWrite hrun .., ?_, ?_⟩ <;> rw [regWrite_irqEn hh hd hm hw hp]
  · rw [hsend.get _ hkey, State.get_set_same]
    exact Nat.mod_eq_of_lt hd
  · exact ((Keeps.refl _ s).set data (ofFields_self _ _)).reports hsend.reports

/-! #### ERR_FIRST (R40, R41, R45) -/

/-- The fields of ERR_FIRST beside VALID ignore what is written. -/
theorem writeFields_errFirst_tail (m : Master) (page data : Nat) (hd : data < 2 ^ 32) (w : Written) :
    writeFields m [(0, data)] [F.ERR_FIRST_CODE page, F.ERR_FIRST_MASTER page, F.ERR_FIRST_OFFSET page] w = w := by
  have skip : ∀ (f : Field) (fs : List Field), f.acc = .ro → f.lo + f.w ≤ 32 → 0 < f.w →
      writeFields m [(0, data)] (f :: fs) w = writeFields m [(0, data)] fs w := fun f fs ha hlow hwide =>
    writeFields_skip m _ f fs w (fieldWritten_word w.s f data hlow hwide hd) (judgeField_ro _ _ _ _ (Or.inl ha))
  rw [skip _ _ rfl (by decide : 24 + 7 ≤ 32) (by decide : 0 < 7), skip _ _ rfl (by decide : 20 + 4 ≤ 32) (by decide : 0 < 4),
    skip _ _ rfl (by decide : 0 + 12 ≤ 32) (by decide : 0 < 12), writeFields]

/-- The bit that a word with bit 31 set brings to ERR_FIRST.VALID. -/
theorem fieldWritten_errFirstValid (s : State) (page : Nat) {data : Nat} (hd : data < 2 ^ 32) (h31 : data / 2 ^ 31 = 1) :
    fieldWritten s (F.ERR_FIRST_VALID page) [(0, data)] = some 1 := by
  rw [fieldWritten_word s (F.ERR_FIRST_VALID page) data (Nat.le_refl 32) (Nat.succ_pos 0) hd]
  exact congrArg (fun bit => some (bit % 2 ^ 1)) h31

theorem errFirstValid_page (page : Nat) : (F.ERR_FIRST_VALID page).addr / 0x1000 = page := by
  simp only [F.ERR_FIRST_VALID, fld]; omega

/-- R40: a 1 that the owner writes to ERR_FIRST.VALID clears it. -/
theorem regWrite_errFirst_owner {s : State} {m : Master} {page data : Nat} (hh : pageHasHeader page = true) (hd : data < 2 ^ 32)
    (h31 : data / 2 ^ 31 = 1) (hmw : MayWrite s m page) (hp : 0xB1 ≤ page → page ≤ 0xB8 → s.isMember = true → m.host = false) :
    regWrite s m (page * 0x1000 + 0x028) 4 data = s.set (F.ERR_FIRST_VALID page) 0 := by
  obtain ⟨-, hm, hw, howns⟩ := hmw
  have hj : judgeField s m (F.ERR_FIRST_VALID page) 1 = .take 1 :=
    judgeField_owned s m _ _ (by simp [F.ERR_FIRST_VALID, fld]) (Or.inr (by rw [errFirstValid_page]; exact howns)) rfl
  have hrule := fieldRule_header s (F.ERR_FIRST_VALID page) 1 (by simp only [F.ERR_FIRST_VALID, fld]; omega) (by decide : 31 < 512)
  have hstore : storeField s (F.ERR_FIRST_VALID page) 1 = s.set (F.ERR_FIRST_VALID page) 0 := by
    show s.set _ (andNot (s.get (F.ERR_FIRST_VALID page)) 1) = _
    rw [andNot_one_of_lt (State.get_lt s (F.ERR_FIRST_VALID page))]
  rw [regWrite_header s m page 0x028 data _ hh (by decide) (by decide) (by decide) rfl rfl hd hm hw,
    writeReg_narrow _ _ _ _ (Nat.le_refl _) (registerRule_header s m page 0x028 _ (by decide) hp),
    writeFields_take m _ _ _ ⟨s, [], none⟩ (fieldWritten_errFirstValid s page hd h31) hj hrule, hstore,
    writeFields_errFirst_tail m page data hd, routerAfter_header _ _ hh (by decide), if_neg (by decide)]
  rfl

theorem registerWrite_errFirst_owner {s : State} {m : Master} {page data : Nat} (hrun : Running s) (hh : pageHasHeader page = true)
    (hd : data < 2 ^ 32) (h31 : data / 2 ^ 31 = 1) (hmw : MayWrite s m page)
    (hp : 0xB1 ≤ page → page ≤ 0xB8 → s.isMember = true → m.host = false) :
    ∃ t, exec (.registerWrite m (page * 0x1000 + 0x028) 4 data) s = .next t ∧ t.get (F.ERR_FIRST_VALID page) = 0 ∧
      KeepsAllRegs (ofFields [F.ERR_FIRST_VALID page]) s t ∧ KeepsBytes s t := by
  refine ⟨_, exec_registerWrite hrun .., ?_⟩
  rw [regWrite_errFirst_owner hh hd h31 hmw hp]
  exact ⟨State.get_set_same .., (KeepsAllRegs.refl _ s).set 0 (ofFields_self _ _), keepsBytes_of_mem rfl⟩

/-- R45: a 1 that a master other than the owner writes to ERR_FIRST.VALID is dropped and logged with code 0x03. -/
theorem regWrite_errFirst_stranger {s : State} {m : Master} {page data : Nat} (hh : pageHasHeader page = true) (hd : data < 2 ^ 32)
    (h31 : data / 2 ^ 31 = 1) (hm : s.isMember = true → m = .pcie → ctrlPage page = false) (hw : s.pageWorld page = 0 → m.secure = true)
    (howns : ownsPage s m page = false) (hoz : m.ozzizo = false) (hv : s.get (F.ERR_FIRST_VALID page) = 1) :
    regWrite s m (page * 0x1000 + 0x028) 4 data = logAccess s m page 0x028 0x03 data 4 := by
  have hpage : (page * 0x1000 + 0x028) / 0x1000 = page := by omega
  have hoff : (page * 0x1000 + 0x028) % 0x1000 = 0x028 := by omega
  have hj : judgeField s m (F.ERR_FIRST_VALID page) 1 = .drop 0x03 := by
    show (if !false && !ownsPage s m ((F.ERR_FIRST_VALID page).addr / 0x1000) then
      (if wouldChange s (F.ERR_FIRST_VALID page) 1 then Verdict.drop 0x03 else Verdict.skip) else _) = _
    rw [errFirstValid_page, howns, wouldChange_w1c rfl, hv]
    rfl
  have hreg : writeReg s m ⟨page * 0x1000 + 0x028, 32, 0, [F.ERR_FIRST_VALID page, F.ERR_FIRST_CODE page, F.ERR_FIRST_MASTER page,
      F.ERR_FIRST_OFFSET page]⟩ [(0, data)] = ⟨s, [], some 0x03⟩ := by
    have hfields : ∀ fs, writeFields m [(0, data)] (F.ERR_FIRST_VALID page :: fs) ⟨s, [], none⟩ =
        writeFields m [(0, data)] fs ⟨s, [], some 0x03⟩ := by
      intro fs
      simp only [writeFields, fieldWritten_errFirstValid s page hd h31, hj, Option.getD_none]
    simp only [writeReg, gatherPieces, Nat.le_refl, if_true]
    rw [hfields, writeFields_errFirst_tail m page data hd]
    rfl
  rw [regWrite_header s m page 0x028 data _ hh (by decide) (by decide) (by decide) rfl rfl hd hm hw, hreg,
    routerAfter_header _ _ hh (by decide), if_neg (by decide)]
  simp [logDrop, hpage, hoff, hoz]

/-- R40, R41: a later access error on a page is counted, and the capture stays. -/
theorem get_logAccess_later (s : State) (m : Master) (page off code data size : Nat) (hh : pageHasHeader page = true)
    (hv : s.get (F.ERR_FIRST_VALID page) = 1) :
    (logAccess s m page off code data size).get (F.ERR_FIRST_VALID page) = 1 ∧
      (logAccess s m page off code data size).get (F.ERR_COUNT page) = Nat.min (s.get (F.ERR_COUNT page) + 1) 0xFFFF := by
  have hon : s.on (F.ERR_FIRST_VALID page) = true := by simp [State.on, hv]
  have hkey : (F.ERR_FIRST_VALID page).key ≠ (F.ERR_COUNT page).key := by
    simp only [F.ERR_FIRST_VALID, F.ERR_COUNT, fld, Field.key]; omega
  have hcapture : capturePage s page code m.code off (data % 2 ^ 32) (data / 2 ^ 32) (size % 256) = s.bump (F.ERR_COUNT page) := by
    unfold capturePage
    rw [if_pos hh, if_pos hon]
  have hget : ∀ f : Field, f.key / 512 % 4096 < 0x100 →
      (logAccess s m page off code data size).get f = (s.bump (F.ERR_COUNT page)).get f := by
    intro f hf
    unfold logAccess
    rw [hcapture]
    dsimp only
    split
    · exact get_captureHost _ _ _ _ _ hf
    · rfl
  constructor
  · rw [hget _ (by simp only [F.ERR_FIRST_VALID, fld, Field.key]; omega), State.get_bump_ne _ hkey, hv]
  · rw [hget _ (by simp only [F.ERR_COUNT, fld, Field.key]; omega), State.get_bump_same]
    rfl

theorem registerWrite_errFirst_stranger {s : State} {m : Master} {page data : Nat} (hrun : Running s) (hh : pageHasHeader page = true)
    (hd : data < 2 ^ 32) (h31 : data / 2 ^ 31 = 1) (hm : s.isMember = true → m = .pcie → ctrlPage page = false)
    (hw : s.pageWorld page = 0 → m.secure = true) (howns : ownsPage s m page = false) (hoz : m.ozzizo = false)
    (hv : s.get (F.ERR_FIRST_VALID page) = 1) :
    ∃ t, exec (.registerWrite m (page * 0x1000 + 0x028) 4 data) s = .next t ∧ t.get (F.ERR_FIRST_VALID page) = 1 ∧
      t.get (F.ERR_COUNT page) = Nat.min (s.get (F.ERR_COUNT page) + 1) 0xFFFF ∧ Keeps noField s t := by
  obtain ⟨hvalid, hcount⟩ := get_logAccess_later s m page 0x028 0x03 data 4 hh hv
  refine ⟨_, exec_registerWrite hrun .., ?_⟩
  rw [regWrite_errFirst_stranger hh hd h31 hm hw howns hoz hv]
  exact ⟨hvalid, hcount, (reports_logAccess ..).keepsReported⟩

/-- R4, R41: an access of another size or alignment is captured with code 0x01, whatever master makes it. -/
theorem registerWrite_misaligned {s : State} {m : Master} {page off size data : Nat} (hrun : Running s) (hh : pageHasHeader page = true)
    (ho : off < 0x1000) (ha : accessAligned (page * 0x1000 + off) size = false) (hv : s.get (F.ERR_FIRST_VALID page) = 0) :
    ∃ t, exec (.registerWrite m (page * 0x1000 + off) size data) s = .next t ∧ t.get (F.ERR_FIRST_VALID page) = 1 ∧
      t.get (F.ERR_FIRST_CODE page) = 0x01 ∧ t.get (F.ERR_FIRST_MASTER page) = m.code % 16 ∧ t.get (F.ERR_FIRST_OFFSET page) = off ∧
      t.get (F.ERR_INFO page 0) = data % 2 ^ 32 ∧ hasBit (t.get (F.IRQ_RAW page)) 30 = true ∧ Keeps noField s t := by
  have hpage : (page * 0x1000 + off) / 0x1000 = page := by omega
  have hoff : (page * 0x1000 + off) % 0x1000 = off := by omega
  obtain ⟨hvalid, hcode, hmaster, hoffset, hinfo, -, -, -, hraw⟩ := get_logAccess_first s m page off 0x01 data size hh hv
  refine ⟨_, exec_registerWrite hrun .., ?_⟩
  rw [regWrite_misaligned s m _ size data ha, hpage, hoff]
  exact ⟨hvalid, hcode, hmaster, hoffset.trans (Nat.mod_eq_of_lt ho), hinfo.trans (Nat.mod_mod _ _), hraw, (reports_logAccess ..).keepsReported⟩

/-! ### The interrupt router (R48 to R52) -/

/-- R50: a write of IRQ_CLR clears the bits written, and the page's vector is re-evaluated. -/
theorem regWrite_irqClr {s : State} {m : Master} {page bits : Nat} (hh : pageHasHeader page = true) (hb : bits < 2 ^ 32)
    (hm : s.isMember = true → m = .pcie → ctrlPage page = false) (hw : s.pageWorld page = 0 → m.secure = true) :
    regWrite s m (page * 0x1000 + 0x01C) 4 bits = reevaluate (clearRaw s page bits) (vectorOf s page) := by
  have hpage : (page * 0x1000 + 0x01C) / 0x1000 = page := by omega
  have hoff : (page * 0x1000 + 0x01C) % 0x1000 = 0x01C := by omega
  have hword : writeWord m (page * 0x1000 + 0x01C) bits ⟨s, [], none⟩ =
      ⟨reevaluate (clearRaw s page bits) (vectorOf s page), [], none⟩ := by
    simp only [writeWord]
    rw [hpage, hoff, if_pos ⟨rfl, hh⟩]
  have hacc := writeAccess_word s m (page * 0x1000 + 0x01C) bits (by omega) (by rw [hpage]; exact pageImplemented_of_header hh)
    (by rw [hpage]; exact hm) (by rw [hpage]; exact hw)
  rw [Nat.mod_eq_of_lt hb, hword] at hacc
  rw [regWrite_none _ _ _ _ _ (by rw [hacc]), hacc]
  rfl

theorem irqClrWrite_clears {s : State} {m : Master} {page bits : Nat} (hrun : Running s) (hh : pageHasHeader page = true) (hb : bits < 2 ^ 32)
    (hm : s.isMember = true → m = .pcie → ctrlPage page = false) (hw : s.pageWorld page = 0 → m.secure = true) :
    ∃ t, exec (.irqClrWrite m page bits) s = .next t ∧
      t.get (F.IRQ_RAW page) = s.get (F.IRQ_RAW page) - Nat.land (s.get (F.IRQ_RAW page)) bits ∧
      (∀ f : Field, f.key ≠ (F.IRQ_RAW page).key → sendKey f.key = false → t.get f = s.get f) ∧
      mapVal t.mech.second (F.IRQ_RAW page).key = mapVal s.mech.second (F.IRQ_RAW page).key ∧ KeepsBytes s t := by
  have hsend : Sends (clearRaw s page bits) _ := sends_reevaluate (clearRaw s page bits) _ (vectorOf_lt s page)
  refine ⟨_, exec_irqClrWrite hrun .., ?_⟩
  rw [Nat.mod_eq_of_lt hb, regWrite_irqClr hh hb hm hw]
  refine ⟨?_, ?_, hsend.second _ (sendKey_irqRaw page), keepsBytes_of_mem hsend.mem⟩
  · rw [hsend.get _ (sendKey_irqRaw page), clearRaw, State.get_set_same]
    exact Nat.mod_eq_of_lt (Nat.lt_of_le_of_lt (Nat.sub_le _ _) (State.get_lt s (F.IRQ_RAW page)))
  · intro f hf hs
    rw [hsend.get _ hs, clearRaw, State.get_set_ne _ _ hf]

/-- R45, R50: nothing follows a word that a register of the MSI-X table or of INT has taken but what the interrupt router does. -/
theorem regWrite_router {s t : State} {m : Master} {b d : Nat} {fs : List Field} {p : Field × Nat} {took : List (Field × Nat)}
    (hf : findRow b = some ⟨b, 32, 0, fs⟩) (h4 : b % 4 = 0) (hlo : 0x8000 ≤ b) (hhi : b < 0x20000)
    (hc : ¬ (b % 0x1000 = 0x01C ∧ pageHasHeader (b / 0x1000) = true)) (hi : pageImplemented (b / 0x1000) = true)
    (hw : s.pageWorld (b / 0x1000) = 0 → m.secure = true) (hd : d < 2 ^ 32)
    (hreg : writeReg s m ⟨b, 32, 0, fs⟩ [(0, d)] = ⟨t, p :: took, none⟩) : regWrite s m b 4 d = routerAfter s t b := by
  have hctrl : s.isMember = true → m = .pcie → ctrlPage (b / 0x1000) = false := by
    intro _ _
    unfold ctrlPage
    exact decide_eq_false (by omega)
  rw [regWrite_row s m b d _ hf h4 hc rfl hi hctrl hw ⟨t, p :: took, none⟩ (by rw [Nat.mod_eq_of_lt hd]; exact hreg), if_neg (by simp),
    afterWrite_low s m b _ (by omega) (by omega) (by omega) (by omega) (by omega) (by omega)]
  rfl

/-! #### INT.VEC (R49) -/

theorem findRow_intVec {page : Nat} (h : page < 0x1B0) :
    findRow (0x10100 + 4 * page) = some ⟨0x10100 + 4 * page, 32, 0, [F.INT_VEC_EN page, F.INT_VEC_VECTOR page]⟩ := by
  obtain ⟨rest, hrows⟩ : ∃ rest, regRows.filter (fun r => decide (r.pLo ≤ 0x010) && decide (0x010 ≤ r.pHi)) = R.INT_VEC :: rest := ⟨_, rfl⟩
  have haddr : 0x10100 + 4 * page = 0x010 * 0x1000 + (0x100 + 4 * page) := by omega
  have hindex : (0x100 + 4 * page - 0x100) / 4 = page := by omega
  have hhit : R.INT_VEC.hit 0x010 (0x100 + 4 * page) =
      some ⟨0x10100 + 4 * page, 32, 0, [F.INT_VEC_EN page, F.INT_VEC_VECTOR page]⟩ := by
    simp only [Reg.hit, R.INT_VEC, hindex]
    rw [if_pos (by omega), if_neg (by decide), if_pos (by omega)]
    have hbase : 0x010 * 0x1000 + 0x100 + page * 4 = 0x10100 + 4 * page := by omega
    have hpiece : (0x100 + 4 * page - 0x100 - page * 4) / 4 = 0 := by omega
    rw [hbase, hpiece]
  rw [haddr, findRow_rows 0x010 (0x100 + 4 * page) (by omega) (by omega) (by decide) (by omega), hrows, List.findSome?_cons, hhit, haddr]

/-- An entry of INT.VEC with its two fields set. -/
def withIntVec (s : State) (page en vector : Nat) : State := s.setAll [(F.INT_VEC_EN page, en), (F.INT_VEC_VECTOR page, vector)]

/-- R50: after a write of an entry of INT.VEC the router sends no more than interrupt messages. -/
theorem sends_routerAfter_intVec (before after : State) {page : Nat} (h : page < 0x1B0) :
    Sends after (routerAfter before after (0x10100 + 4 * page)) := by
  have hpage : (0x10100 + 4 * page) / 0x1000 = 0x010 := by omega
  have hoff : (0x10100 + 4 * page) % 0x1000 = 0x100 + 4 * page := by omega
  unfold routerAfter
  dsimp only
  rw [hpage, hoff, if_neg (by simp; omega), if_pos (by omega)]
  have hfirst := sends_reevaluate after (vectorOf before ((0x100 + 4 * page - 0x100) / 4)) (vectorOf_lt _ _)
  split
  · exact hfirst
  · exact hfirst.trans (sends_reevaluate _ _ (vectorOf_lt _ _))

theorem regWrite_intVec {s : State} {m : Master} {page en vector : Nat} (h : page < 0x1B0) (he : en < 2) (hv : vector < 2048)
    (hw : s.pageWorld 0x010 = 0 → m.secure = true) :
    regWrite s m (0x10100 + 4 * page) 4 (en * 2 ^ 15 + vector) =
      routerAfter s (withIntVec s page en vector) (0x10100 + 4 * page) := by
  have hpage : (0x10100 + 4 * page) / 0x1000 = 0x010 := by omega
  have hd : en * 2 ^ 15 + vector < 2 ^ 32 := by omega
  have hen : (en * 2 ^ 15 + vector) / 2 ^ 15 % 2 ^ 1 = en := by omega
  have hvec : (en * 2 ^ 15 + vector) / 2 ^ 0 % 2 ^ 11 = vector := by omega
  have hfield : ∀ f ∈ [F.INT_VEC_EN page, F.INT_VEC_VECTOR page], f.addr = 0x10100 + 4 * page ∧ f.acc = .rw ∧ f.plain = true ∧
      f.legal = .any ∧ f.lo + f.w ≤ 32 ∧ 0 < f.w := by
    have haddr : 0x010 * 0x1000 + (0x100 + 4 * page) = 0x10100 + 4 * page := by omega
    intro f hf
    simp only [List.mem_cons, List.not_mem_nil, or_false] at hf
    rcases hf with rfl | rfl
    · exact ⟨haddr, rfl, rfl, rfl, (by decide : 15 + 1 ≤ 32), (by decide : 0 < 1)⟩
    · exact ⟨haddr, rfl, rfl, rfl, (by decide : 0 + 11 ≤ 32), (by decide : 0 < 11)⟩
  have hword : ∀ f ∈ [F.INT_VEC_EN page, F.INT_VEC_VECTOR page], WordField s m (en * 2 ^ 15 + vector) f := by
    intro f hf
    obtain ⟨haddr, hacc, hplain, hlegal, hlow, hwide⟩ := hfield f hf
    exact
      { low := hlow, wide := hwide, off := by omega, acc := Or.inr (by simp [takesBits, hacc]), owns := fun _ => Or.inl hplain
        unlocked := fun e => by simp [hacc] at e, legal := fun _ => by rw [hlegal]; rfl
        rule := fun u => fieldRule_none u f _ (by omega) (by omega) (by omega) (by omega) (by omega) }
  have hrole : ∀ f ∈ [F.INT_VEC_EN page, F.INT_VEC_VECTOR page], f.addr ≠ F.XSH_ROLE_ROLE.addr := by
    intro f hf
    rw [(hfield f hf).1]
    simp only [F.XSH_ROLE_ROLE, fld]
    omega
  have hreg : writeReg s m ⟨0x10100 + 4 * page, 32, 0, [F.INT_VEC_EN page, F.INT_VEC_VECTOR page]⟩ [(0, en * 2 ^ 15 + vector)] =
      ⟨withIntVec s page en vector, [(F.INT_VEC_EN page, en), (F.INT_VEC_VECTOR page, vector)], none⟩ := by
    rw [writeReg_narrow _ _ _ _ (Nat.le_refl _) (registerRule_low s m _ _ (by dsimp only; omega) (by dsimp only; omega) (by dsimp only; omega)
      (by dsimp only; omega)), writeFields_word m _ hd _ _ hword hrole]
    show (⟨s.setAll [(F.INT_VEC_EN page, _), (F.INT_VEC_VECTOR page, _)], [(F.INT_VEC_EN page, _), (F.INT_VEC_VECTOR page, _)], none⟩ : Written) = _
    rw [show (en * 2 ^ 15 + vector) / 2 ^ (F.INT_VEC_EN page).lo % 2 ^ (F.INT_VEC_EN page).w = en from hen,
      show (en * 2 ^ 15 + vector) / 2 ^ (F.INT_VEC_VECTOR page).lo % 2 ^ (F.INT_VEC_VECTOR page).w = vector from hvec]
    rfl
  exact regWrite_router (findRow_intVec h) (by omega) (by omega) (by omega) (by omega) (by rw [hpage]; decide) (by rw [hpage]; exact hw) hd hreg

theorem intVecWrite_sets {s : State} {m : Master} {page en vector : Nat} (hrun : Running s) (h : page < 0x1B0) (he : en < 2)
    (hv : vector < 2048) (hw : s.pageWorld 0x010 = 0 → m.secure = true) :
    ∃ t, exec (.intVecWrite m page en vector) s = .next t ∧ t.get (F.INT_VEC_EN page) = en ∧ t.get (F.INT_VEC_VECTOR page) = vector ∧
      (∀ f : Field, f.key ≠ (F.INT_VEC_EN page).key → f.key ≠ (F.INT_VEC_VECTOR page).key → sendKey f.key = false → t.get f = s.get f) ∧
      KeepsBytes s t := by
  have hsend := sends_routerAfter_intVec s (withIntVec s page en vector) h
  have hke : (F.INT_VEC_EN page).key / 512 / 4096 = 0x010 := by simp only [F.INT_VEC_EN, fld, Field.key]; omega
  have hkv : (F.INT_VEC_VECTOR page).key / 512 / 4096 = 0x010 := by simp only [F.INT_VEC_VECTOR, fld, Field.key]; omega
  have hne : (F.INT_VEC_EN page).key ≠ (F.INT_VEC_VECTOR page).key := by
    simp only [F.INT_VEC_EN, F.INT_VEC_VECTOR, fld, Field.key]; omega
  refine ⟨_, exec_intVecWrite hrun .., ?_⟩
  rw [Nat.mod_eq_of_lt h, Nat.mod_eq_of_lt he, Nat.mod_eq_of_lt (show vector < 2 ^ 11 from hv), regWrite_intVec h he hv hw]
  refine ⟨?_, ?_, ?_, keepsBytes_of_mem hsend.mem⟩
  · rw [hsend.get _ (by simp [sendKey, hke]), withIntVec, State.setAll_cons, State.setAll_cons, State.setAll_nil, State.get_set_ne _ _ hne,
      State.get_set_same]
    exact Nat.mod_eq_of_lt he
  · rw [hsend.get _ (by simp [sendKey, hkv]), withIntVec, State.setAll_cons, State.setAll_cons, State.setAll_nil, State.get_set_same]
    exact Nat.mod_eq_of_lt hv
  · intro f hfe hfv hs
    rw [hsend.get _ hs, withIntVec, State.setAll_cons, State.setAll_cons, State.setAll_nil, State.get_set_ne _ _ hfv, State.get_set_ne _ _ hfe]

/-! #### The MSI-X table (R48) -/

/-- The address of the word of a vector's table entry that holds its mask bit. -/
def maskAddr (v : Nat) : Nat := 0x8000 + 16 * v + 12

theorem msixMask_addr (v : Nat) : (F.MSIX_MASK v).addr = maskAddr v := rfl

theorem maskAddr_page {v : Nat} (hv : v < 2048) : 0x008 ≤ maskAddr v / 0x1000 ∧ maskAddr v / 0x1000 ≤ 0x00F := by
  unfold maskAddr; omega

/-- R48, R416: the table's pages are implemented, open with no header, and are the host's. -/
theorem msixPage {page : Nat} (h : 0x008 ≤ page ∧ page ≤ 0x00F) :
    pageImplemented page = true ∧ pageHasHeader page = false ∧ fixedHostPage page = true := by
  have all : ∀ p, p < 0x010 → 0x008 ≤ p → pageImplemented p = true ∧ pageHasHeader p = false ∧ fixedHostPage p = true := by decide
  exact all page (Nat.lt_succ_of_le h.2) h.1

theorem findRow_msixMask {v : Nat} (hv : v < 2048) : findRow (maskAddr v) = some ⟨maskAddr v, 32, 0, [F.MSIX_MASK v]⟩ := by
  have hentry : (maskAddr v - 0x8000) / 16 = v := by unfold maskAddr; omega
  have hword : maskAddr v % 16 / 4 = 3 := by unfold maskAddr; omega
  simp only [findRow]
  rw [if_pos (maskAddr_page hv)]
  simp only [msixHit, hentry, hword]

/-- R50: a message of an unmasked vector over a link that is up. -/
theorem sendMsix_unmasked {s : State} {v : Nat} (hf : s.pcie.functionMask = false) (hm : s.get (F.MSIX_MASK v) = 0) (hl : s.pcie.linkUp = true) :
    sendMsix s v = s.emit (.msix v (s.get (F.MSIX_ADDR_LO v) + s.get (F.MSIX_ADDR_HI v) * 2 ^ 32) (s.get (F.MSIX_DATA v))) := by
  have hon : s.on (F.MSIX_MASK v) = false := by simp [State.on, hm]
  simp [sendMsix, hf, hon, hl]

/-- R48: unmasking a vector whose pending bit is set clears the bit and sends the message held for it. -/
theorem routerAfter_unmask (before after : State) {v : Nat} (hv : v < 2048) (hm : after.get (F.MSIX_MASK v) = 0)
    (hp : after.get (F.MSIX_PBA v) = 1) : routerAfter before after (maskAddr v) = sendMsix (after.set (F.MSIX_PBA v) 0) v := by
  obtain ⟨hlo, hhi⟩ := maskAddr_page hv
  obtain ⟨-, hhead, -⟩ := msixPage ⟨hlo, hhi⟩
  have hentry : (maskAddr v - 0x8000) / 16 = v := by unfold maskAddr; omega
  have hword : maskAddr v % 16 / 4 = 3 := by unfold maskAddr; omega
  have hmask : after.on (F.MSIX_MASK v) = false := by simp [State.on, hm]
  have hpend : after.on (F.MSIX_PBA v) = true := by simp [State.on, hp]
  unfold routerAfter
  dsimp only
  rw [hhead, if_neg (by simp), if_neg (by omega), if_pos ⟨hlo, hhi, hword⟩, hentry, hmask, hpend]
  rfl

theorem msixMask_key (v : Nat) : (F.MSIX_MASK v).key = maskAddr v * 512 := by
  rw [Field.key, msixMask_addr]
  exact Nat.add_zero _

theorem msixPba_key {v : Nat} (hv : v < 2048) : (F.MSIX_PBA v).key < 0x8000 * 512 := by
  simp only [F.MSIX_PBA, Field.key]; omega

theorem maskAddr_range {v : Nat} (hv : v < 2048) : 0x8000 ≤ maskAddr v ∧ maskAddr v < 0x10000 ∧ maskAddr v % 4 = 0 := by
  unfold maskAddr; omega

theorem msixPba_ne_mask {v : Nat} (hv : v < 2048) : (F.MSIX_PBA v).key ≠ (F.MSIX_MASK v).key := by
  have hp := msixPba_key hv
  have hm := maskAddr_range hv
  have hk := msixMask_key v
  omega

/-- R48, R416: the mask bit of a vector takes a 0 from the port of a controller that is no member. -/
theorem writeReg_unmask {s : State} {v : Nat} (hv : v < 2048) (hmem : s.isMember = false) :
    writeReg s .pcie ⟨maskAddr v, 32, 0, [F.MSIX_MASK v]⟩ [(0, 0)] = ⟨s.set (F.MSIX_MASK v) 0, [(F.MSIX_MASK v, 0)], none⟩ := by
  obtain ⟨-, -, hfixed⟩ := msixPage (maskAddr_page hv)
  obtain ⟨hlo, hhi, -⟩ := maskAddr_range hv
  have howner : s.pageOwner (maskAddr v / 0x1000) = 1 := by simp only [State.pageOwner, hfixed, if_true]
  have howns : ownsPage s .pcie ((F.MSIX_MASK v).addr / 0x1000) = true := by
    rw [msixMask_addr, ownsPage, howner, if_neg (by decide), hmem]
    rfl
  have hkey : (F.MSIX_MASK v).key ≠ F.QMG_CTRL_ENABLE.key := by
    have hq : F.QMG_CTRL_ENABLE.key = 0x20108 * 512 := by decide
    rw [msixMask_key, hq]
    omega
  have hfield : fieldRule s (F.MSIX_MASK v) (0 / 2 ^ (F.MSIX_MASK v).lo % 2 ^ (F.MSIX_MASK v).w) = none :=
    fieldRule_low s _ _ (by rw [msixMask_addr]; omega) hkey (by decide : 0 < 512)
  have h := writeReg_rw (f := F.MSIX_MASK v) (m := .pcie) (d := 0) (by decide : 0 + 1 ≤ 32) (by decide : 0 < 1) (by decide) rfl rfl
    (Or.inr howns) hfield (registerRule_low s .pcie (maskAddr v) _ (by omega) (by omega) (by omega) (by omega))
  rwa [Nat.zero_div, Nat.zero_mod] at h

theorem regWrite_unmask {s : State} {v : Nat} (hv : v < 2048) (hmem : s.isMember = false) (hp : s.get (F.MSIX_PBA v) = 1) :
    regWrite s .pcie (maskAddr v) 4 0 = sendMsix ((s.set (F.MSIX_MASK v) 0).set (F.MSIX_PBA v) 0) v := by
  obtain ⟨himp, hhead, hfixed⟩ := msixPage (maskAddr_page hv)
  obtain ⟨hlo, hhi, h4⟩ := maskAddr_range hv
  have hworld : s.pageWorld (maskAddr v / 0x1000) = 1 := by simp only [State.pageWorld, hfixed, if_true]
  rw [regWrite_router (findRow_msixMask hv) h4 hlo (by omega) (by simp [hhead]) himp (by simp [hworld]) (by decide) (writeReg_unmask hv hmem)]
  exact routerAfter_unmask _ _ hv (State.get_set_same ..) (by rw [State.get_set_ne _ _ (msixPba_ne_mask hv), hp])

theorem msixUnmask_sends {s : State} {v : Nat} (hrun : Running s) (hmem : s.isMember = false) (hv : v < 2048) (hp : s.get (F.MSIX_PBA v) = 1)
    (hf : s.pcie.functionMask = false) (hl : s.pcie.linkUp = true) :
    ∃ t, exec (.msixUnmask v) s = .next t ∧ t.get (F.MSIX_MASK v) = 0 ∧ t.get (F.MSIX_PBA v) = 0 ∧
      t.out = s.out ++ [.msix v (s.get (F.MSIX_ADDR_LO v) + s.get (F.MSIX_ADDR_HI v) * 2 ^ 32) (s.get (F.MSIX_DATA v))] ∧
      KeepsAllRegs (ofFields [F.MSIX_MASK v, F.MSIX_PBA v]) s t ∧ KeepsBytes s t := by
  have hmask : ((s.set (F.MSIX_MASK v) 0).set (F.MSIX_PBA v) 0).get (F.MSIX_MASK v) = 0 := by
    rw [State.get_set_ne _ _ (msixPba_ne_mask hv).symm, State.get_set_same, Nat.zero_mod]
  have hkeep : KeepsAllRegs (ofFields [F.MSIX_MASK v, F.MSIX_PBA v]) s ((s.set (F.MSIX_MASK v) 0).set (F.MSIX_PBA v) 0) :=
    ((KeepsAllRegs.refl _ s).set 0 (ofFields_mem (by simp))).set 0 (ofFields_mem (by simp))
  have hother : ∀ f : Field, f.addr = 0x8000 + 16 * v ∨ f.addr = 0x8000 + 16 * v + 4 ∨ f.addr = 0x8000 + 16 * v + 8 → f.lo = 0 →
      ((s.set (F.MSIX_MASK v) 0).set (F.MSIX_PBA v) 0).get f = s.get f := by
    intro f ha hlo
    have hpba := msixPba_key hv
    have hk : f.key = f.addr * 512 := by rw [Field.key, hlo, Nat.add_zero]
    rw [State.get_set_ne _ _ (by omega), State.get_set_ne _ _ (by rw [msixMask_key, hk, maskAddr]; omega)]
  refine ⟨_, exec_msixUnmask hrun v, ?_⟩
  rw [Nat.mod_eq_of_lt hv, show 0x8000 + 16 * v + 12 = maskAddr v from rfl, regWrite_unmask hv hmem hp,
    sendMsix_unmasked (s := (s.set (F.MSIX_MASK v) 0).set (F.MSIX_PBA v) 0) hf hmask hl,
    hother (F.MSIX_ADDR_LO v) (Or.inl rfl) rfl, hother (F.MSIX_ADDR_HI v) (Or.inr (Or.inl rfl)) rfl, hother (F.MSIX_DATA v) (Or.inr (Or.inr rfl)) rfl]
  exact ⟨hmask, State.get_set_same .., rfl, hkeep, keepsBytes_of_mem rfl⟩

/-- R52: a clear on the secure route clears latches, and no register. -/
theorem secureLatchClear_clears {s : State} (hrun : Running s) (page bits : Nat) :
    ∃ t, exec (.secureLatchClear page bits none) s = .next t ∧
      mapVal t.mech.second (F.IRQ_RAW page).key =
        mapVal s.mech.second (F.IRQ_RAW page).key - Nat.land (mapVal s.mech.second (F.IRQ_RAW page).key) bits ∧
      KeepsAllRegs noField s t ∧ KeepsBytes s t :=
  ⟨_, exec_secureLatchClear hrun page bits, mapVal_mapPut_same .., (KeepsAllRegs.refl _ s).same rfl rfl, keepsBytes_of_mem rfl⟩

/-- Settles O2, by the equation of each register's write: what it sets, and what the interrupt router sends after it. -/
theorem headerAndRouterWrites : Obligations.HeaderAndRouterWrites := by
  refine ⟨⟨?_, ?_, ?_, ?_⟩, ?_, ?_, ?_, ?_⟩
  · exact fun _ _ _ _ => registerWrite_irqEn
  · exact fun _ _ _ _ => registerWrite_errFirst_owner
  · exact fun _ _ _ _ => registerWrite_errFirst_stranger
  · exact fun _ _ _ _ _ _ => registerWrite_misaligned
  · exact fun _ _ _ _ => irqClrWrite_clears
  · exact fun _ _ _ _ _ => intVecWrite_sets
  · exact fun _ _ => msixUnmask_sends
  · exact fun _ page bits hrun => secureLatchClear_clears hrun page bits

end Sys2Proof.Machine

/-! Subframe boundaries (R114, R153). A commit names one of four sets by two bits of its block (R54), but `Commit.set` is any number and no premise
of `BoundariesAndTicks` bounds it: the enable mask of a commit taken for set 26612 lands in the drum's angle correction table. -/

namespace Sys2Proof.Machine

/-- A commit that the latch has taken for set 26612, whose LAY.ENABLE_FRONT would have the address of DRU.ANGLE_CORR[0]. -/
def strayCommit : Commit where
  queue := 0
  seq := 0
  set := 26612
  mask := 0
  waitFence := false
  fenceIndex := 0
  fenceValue := 0
  withSelect := false
  tag := 0
  waiting := []
  snapshot := some 1
  taken := true

/-- The machine after reset, with that commit waiting for the boundary and nothing else in flight. -/
def strayCommitState : State := { State.reset with scene := { Scene.reset with commits := [strayCommit] } }

/-- R163: outside parked output the boundary is one of light-field output. -/
theorem exec_subframeBoundary_light {s : State} (hrun : Running s) (hparked : s.get F.DRU_STATE_PARKED_OUT = 0) :
    exec .subframeBoundary s = .next (lightBoundary s) := by
  have hoff : ¬ s.on F.DRU_STATE_PARKED_OUT = true := by simp [State.on, hparked]
  exact (live_running hrun _).trans (congrArg Host.Outcome.next (if_neg hoff))

/-- R153: the correction table that the boundary puts into force begins with the commit's mask. -/
theorem lightBoundary_strayCommit_corr : (lightBoundary strayCommitState).drum.corr.head? = some 1 := by decide +kernel

/-- Refutes O19: clause 1 says that with no correction set pending the table in force is the one that DRU.ANGLE_CORR held, but a taken
commit of set 26612 has its enable mask written over the table's first entry before the boundary reads it. -/
theorem not_boundariesAndTicks : ¬ Obligations.BoundariesAndTicks := by
  unfold Obligations.BoundariesAndTicks
  rintro ⟨hboundary, -⟩
  have hrun : Running strayCommitState := rfl
  have hparked : strayCommitState.get F.DRU_STATE_PARKED_OUT = 0 := by decide +kernel
  obtain ⟨t, hexec, -, -, -, -, -, -, -, -, -, hcorr, -⟩ := hboundary strayCommitState hrun hparked
  obtain rfl : lightBoundary strayCommitState = t := by
    rw [exec_subframeBoundary_light hrun hparked] at hexec
    injection hexec
  have hread : strayCommitState.getInt (F.DRU_ANGLE_CORR_VALUE 0) = 0 := by decide +kernel
  have hhead := congrArg List.head? (hcorr (by decide +kernel))
  rw [lightBoundary_strayCommit_corr] at hhead
  simp [List.head?_range, hread] at hhead

end Sys2Proof.Machine

/-! The read of a block and its checks (R57, R508). -/

namespace Sys2Proof.Machine

/-! ### Checks 1 to 5 (R57) -/

/-- R57: the status of a block that fails one of checks 1 to 5 is that of the first it fails. -/
theorem blockCheck_eq_some {s : State} {r : Run} {b : List Byte} {code : Nat}
    (h : (code = 0x02 ∧ check1 b r.desc.length = false) ∨
      (check1 b r.desc.length = true ∧ ((code = 0x03 ∧ check2 b r.desc.length = false) ∨
        (check2 b r.desc.length = true ∧ ((code = 0x04 ∧ check3 b r.desc.kind r.queue = false) ∨
          (check3 b r.desc.kind r.queue = true ∧ ((code = 0x02 ∧ check4 b = false) ∨
            (check4 b = true ∧ code = 0x05 ∧ check5 b (s.get (F.LAY_SET_STATUS_STREAM_TAG (headerOf b).set)) = false)))))))) :
    blockCheck s r b = some code := by
  obtain ⟨rfl, h1⟩ | ⟨h1, ⟨rfl, h2⟩ | ⟨h2, ⟨rfl, h3⟩ | ⟨h3, ⟨rfl, h4⟩ | ⟨h4, rfl, h5⟩⟩⟩⟩ := h
  · simp only [blockCheck, h1, Bool.not_false, if_true]
  · simp only [blockCheck, h1, h2, Bool.not_true, Bool.false_eq_true, if_false, Bool.not_false, if_true]
  · simp only [blockCheck, h1, h2, h3, Bool.not_true, Bool.false_eq_true, if_false, Bool.not_false, if_true]
  · simp only [blockCheck, h1, h2, h3, h4, Bool.not_true, Bool.false_eq_true, if_false, Bool.not_false, if_true]
  · simp only [blockCheck, h1, h2, h3, h4, h5, Bool.not_true, Bool.false_eq_true, if_false, Bool.not_false, if_true]

theorem blockCheck_eq_none {s : State} {r : Run} {b : List Byte} (h1 : check1 b r.desc.length = true) (h2 : check2 b r.desc.length = true)
    (h3 : check3 b r.desc.kind r.queue = true) (h4 : check4 b = true)
    (h5 : check5 b (s.get (F.LAY_SET_STATUS_STREAM_TAG (headerOf b).set)) = true) : blockCheck s r b = none := by
  simp only [blockCheck, h1, h2, h3, h4, h5, Bool.not_true, Bool.false_eq_true, if_false]

/-! ### The end of a read (R508) -/

theorem exec_blockReadDone {s : State} (hrun : Running s) (q : Nat) (completed : Bool) :
    exec (.blockReadDone q completed) s = .next (finishRead s q completed) := live_running hrun _

section
variable {s u : State} {r : Run} (hrun : runOf s r.queue = some r) (hstage : r.stage = .reading)
include hrun hstage

theorem finishRead_lost {o : Option (List Byte)} {completed : Bool}
    (hfetch : blockFetch s r.desc.hostMemory r.desc.src r.desc.length = (u, o)) (h : o = none ∨ completed = false) :
    finishRead s r.queue completed = finishRun u r.queue 0x09 0 0 := by
  unfold finishRead
  simp only [hrun, if_pos hstage, hfetch]
  cases o with
  | none => rfl
  | some b =>
    obtain rfl : completed = false := h.resolve_left nofun
    rfl

theorem finishRead_failed {b : List Byte} {code : Nat} (hfetch : blockFetch s r.desc.hostMemory r.desc.src r.desc.length = (u, some b))
    (hcheck : blockCheck u r b = some code) : finishRead s r.queue true = finishRun u r.queue code 0 0 := by
  unfold finishRead
  simp only [hrun, if_pos hstage, hfetch, hcheck]
  rfl

theorem finishRead_passed {b : List Byte} (hfetch : blockFetch s r.desc.hostMemory r.desc.src r.desc.length = (u, some b))
    (hcheck : blockCheck u r b = none) : finishRead s r.queue true = setRun u r.queue (fun x => { x with stage := .decoding, block := b }) := by
  unfold finishRead
  simp only [hrun, if_pos hstage, hfetch, hcheck]
  rfl

end

/-! ### A descriptor changed after a fetch -/

theorem keeps_setRun (s : State) (q : Nat) (f : Run → Run) : Keeps noField s (setRun s q f) := (Keeps.refl noField s).same rfl rfl rfl

/-- A started descriptor changed after a fetch: the fetch has left it, and every other queue's, as it was. -/
theorem runOf_setRun_fetched {s u : State} {r : Run} {host : Bool} {a n : Nat} {o : Option (List Byte)} (hrun : runOf s r.queue = some r)
    (hfetch : blockFetch s host a n = (u, o)) (f : Run → Run) (hf : ∀ x, (f x).queue = x.queue) :
    runOf (setRun u r.queue f) r.queue = some (f r) ∧ ∀ p, p ≠ r.queue → runOf (setRun u r.queue f) p = runOf s p := by
  have hruns : ∀ p, runOf u p = runOf s p := runOf_congr (congrArg Scene.runs (blockFetch_scene_of hfetch))
  constructor
  · rw [runOf_setRun_same u r.queue f hf, hruns, hrun]
    rfl
  · intro p hp
    rw [runOf_setRun_ne u f hf hp, hruns]

/-- Settles O8, by what the end of a read comes to: the block lost, a check failed, or all passed. -/
theorem blocksAreCheckedInOrder : Obligations.BlocksAreCheckedInOrder := by
  refine ⟨?_, ?_, ?_, fun _ _ _ => blockFetch_clean⟩
  · intro s u r b hlive hrun hstage hfetch h1 h2 h3 h4 h5
    obtain ⟨hsame, hother⟩ := runOf_setRun_fetched hrun hfetch (fun x => { x with stage := .decoding, block := b }) (fun _ => rfl)
    have hctxs : u.scene.ctxs = s.scene.ctxs := congrArg Scene.ctxs (blockFetch_scene_of hfetch)
    refine ⟨_, exec_blockReadDone hlive .., ?_⟩
    rw [finishRead_passed hrun hstage hfetch (blockCheck_eq_none h1 h2 h3 h4 h5)]
    exact ⟨hsame, hother, hctxs, keeps_setRun ..⟩
  · intro s u r b code hlive hrun hstage hfetch hcheck
    obtain ⟨hsame, hother⟩ := runOf_setRun_fetched hrun hfetch (fun x => { x with stage := .finished, status := code, object := 0, info := 0 })
      (fun _ => rfl)
    refine ⟨_, exec_blockReadDone hlive .., ?_⟩
    rw [finishRead_failed hrun hstage hfetch (blockCheck_eq_some hcheck)]
    exact ⟨hsame, hother, keeps_setRun ..⟩
  · intro s u r o completed hlive hrun hstage hfetch hlost
    obtain ⟨hsame, -⟩ := runOf_setRun_fetched hrun hfetch (fun x => { x with stage := .finished, status := 0x09, object := 0, info := 0 })
      (fun _ => rfl)
    refine ⟨_, exec_blockReadDone hlive .., ?_⟩
    rw [finishRead_lost hrun hstage hfetch hlost]
    exact ⟨hsame, keeps_setRun ..⟩

end Sys2Proof.Machine

/-! The load of a colour bank (R233). A load that runs has put its bank under the number of CMP.LUT_LOAD.BANK, and a refused write puts it back.
Clause 3 of `BanksAndTheProtectedLayer` assumes only that BUSY is set, and its frame ranges over every `Field`, those of no register included: where
nothing stands under BANK's number, the refusal leaves BANK's own value 0 there, and what was read there before was the default of the field asked for. -/

namespace Sys2Proof.Machine

/-- The machine after reset, with CMP.LUT_LOAD showing a load although no write has named its bank. -/
def unnamedLoadState : State := State.reset.set F.CMP_LUT_LOAD_BUSY 1

/-- A field of the number and width of CMP.LUT_LOAD.BANK with the default 1. -/
def bankDefaultOne : Field := { F.CMP_LUT_LOAD_BANK with rst := 1 }

theorem exec_lutLoad {s : State} (hrun : Running s) (m : Master) (data : Nat) : exec (.lutLoad m data) s = .next (lutLoadWrite s m data) :=
  live_running hrun _

/-- R233: the refused write reads BANK, where nothing stands yet, and stores what it reads. -/
theorem lutLoadWrite_unnamedLoad :
    unnamedLoadState.get bankDefaultOne = 1 ∧ (lutLoadWrite unnamedLoadState (.mp 0) 0).get bankDefaultOne = 0 := by decide +kernel

/-- Refutes O26: clause 3 has a refused load change no field but CMP.LUT_STATUS.CODE, but it stores CMP.LUT_LOAD.BANK's value over a default. -/
theorem not_banksAndTheProtectedLayer : ¬ Obligations.BanksAndTheProtectedLayer := by
  unfold Obligations.BanksAndTheProtectedLayer
  rintro ⟨-, -, hrefused, -⟩
  have hrun : Running unnamedLoadState := rfl
  have hwrite : MayWrite unnamedLoadState (.mp 0) 0x0B0 := by decide +kernel
  obtain ⟨t, hexec, -, -, hkeep, -⟩ := hrefused unnamedLoadState (.mp 0) 0 hrun hwrite (State.get_set_same ..)
  obtain rfl : lutLoadWrite unnamedLoadState (.mp 0) 0 = t := by
    rw [exec_lutLoad hrun] at hexec
    injection hexec
  obtain ⟨hbefore, hafter⟩ := lutLoadWrite_unnamedLoad
  have hsame := hkeep bankDefaultOne (by decide)
  rw [hbefore, hafter] at hsame
  exact absurd hsame (by decide)

end Sys2Proof.Machine

/-! Lossy tiles (R73, R74): where a texel's bytes stand in a tile, and which bits of a cell are its index. -/

namespace Sys2Proof.Machine

/-! ### Bytes of a little-endian number -/

theorem leNat_mod_byte (bs : List Byte) : leNat bs % 256 = (bs.getD 0 0).toNat := by
  cases bs with
  | nil => rfl
  | cons b bs =>
    have hb : b.toNat < 256 := b.isLt
    simp only [leNat, List.getD_cons_zero]
    omega

theorem leNat_shift (bs : List Byte) (k : Nat) : leNat bs / 256 ^ k = leNat (bs.drop k) := by
  induction k generalizing bs with
  | zero => rw [Nat.pow_zero, Nat.div_one, List.drop_zero]
  | succ k ih =>
    cases bs with
    | nil => exact Nat.zero_div _
    | cons b bs =>
      have hb : b.toNat < 256 := b.isLt
      have htail : leNat (b :: bs) / 256 = leNat bs := by
        simp only [leNat]
        omega
      rw [Nat.pow_succ', ← Nat.div_div_eq_div_mul, htail, ih, List.drop_succ_cons]

/-- Byte `k` of a little-endian field is the byte `k` places past its offset. -/
theorem leAt_byte (bs : List Byte) (off : Nat) {n k : Nat} (hk : k < n) : leAt bs off n / 256 ^ k % 256 = (bs.getD (off + k) 0).toNat := by
  rw [leAt, leNat_shift, leNat_mod_byte]
  simp only [List.getD_eq_getElem?_getD, List.getElem?_drop, Nat.add_zero, List.getElem?_take_of_lt hk]

theorem leAt_one (bs : List Byte) (off : Nat) : leAt bs off 1 = (bs.getD off 0).toNat := by
  have hbyte := leAt_byte bs off (Nat.zero_lt_one)
  have hlt : leAt bs off 1 < 256 := by
    unfold leAt
    cases bs.drop off with
    | nil => decide
    | cons b tail => exact b.isLt
  rw [Nat.pow_zero, Nat.div_one, Nat.mod_eq_of_lt hlt] at hbyte
  exact hbyte

/-- R73: the 4-bit index `n` of a field stands in its byte `n / 2`, the even one in the low half. -/
theorem bitsOf_leAt_nibble (bs : List Byte) (off : Nat) {len n : Nat} (hn : n / 2 < len) :
    bitsOf (leAt bs off len) (4 * n) 4 = (bs.getD (off + n / 2) 0).toNat / 16 ^ (n % 2) % 16 := by
  have hsplit : 2 ^ (4 * n) = 256 ^ (n / 2) * 16 ^ (n % 2) := by
    calc 2 ^ (4 * n) = 2 ^ (8 * (n / 2) + 4 * (n % 2)) := by congr 1; omega
      _ = 256 ^ (n / 2) * 16 ^ (n % 2) := by rw [Nat.pow_add, Nat.pow_mul, Nat.pow_mul]
  rw [bitsOf, hsplit, ← Nat.div_div_eq_div_mul, ← leAt_byte bs off hn]
  obtain heven | hodd := Nat.mod_two_eq_zero_or_one n
  · rw [heven]; omega
  · rw [hodd]; omega

/-! ### Texels in a tile -/

theorem length_flatMap_range {α : Type} (f : Nat → List α) {k : Nat} (hf : ∀ t, (f t).length = k) (n : Nat) :
    ((List.range n).flatMap f).length = n * k := by
  induction n with
  | zero => exact (Nat.zero_mul k).symm
  | succ n ih => rw [List.range_succ, List.flatMap_append, List.length_append, List.flatMap_singleton, ih, hf, Nat.succ_mul]

/-- In runs of `k` elements each, element `c` of run `i` stands at `i * k + c`. -/
theorem getElem?_flatMap_range {α : Type} (f : Nat → List α) {k : Nat} (hf : ∀ t, (f t).length = k) {n i c : Nat} (hi : i < n) (hc : c < k) :
    ((List.range n).flatMap f)[i * k + c]? = (f i)[c]? := by
  induction n with
  | zero => exact absurd hi (Nat.not_lt_zero i)
  | succ n ih =>
    have hlen := length_flatMap_range f hf n
    rw [List.range_succ, List.flatMap_append, List.flatMap_singleton]
    obtain hlt | rfl := Nat.lt_succ_iff_lt_or_eq.mp hi
    · have hin : i * k + c < n * k := by
        calc i * k + c < (i + 1) * k := by rw [Nat.succ_mul]; omega
          _ ≤ n * k := Nat.mul_le_mul_right k hlt
      rw [List.getElem?_append_left (by omega), ih hlt]
    · rw [List.getElem?_append_right (by omega), hlen, Nat.add_sub_cancel_left]

theorem length_lossyTexel (p : List Byte) (a b : Nat) : (lossyTexel p a b).length = 4 := rfl

/-- R65, R73: a lossy tile has 1,024 texels of four bytes. -/
theorem length_decodeLossy (p : List Byte) : (decodeLossy p).length = 4096 :=
  length_flatMap_range _ (fun _ => length_lossyTexel ..) 1024

/-- R65: the texel of column `a` and row `b` stands at 4 bytes times `32 b + a`. -/
theorem decodeLossy_texel (p : List Byte) {a b c : Nat} (ha : a < 32) (hb : b < 32) (hc : c < 4) :
    (decodeLossy p)[(b * 32 + a) * 4 + c]? = (lossyTexel p a b)[c]? := by
  have hcol : (b * 32 + a) % 32 = a := by omega
  have hrow : (b * 32 + a) / 32 = b := by omega
  have h := getElem?_flatMap_range (fun t => lossyTexel p (t % 32) (t / 32)) (fun _ => length_lossyTexel ..)
    (show b * 32 + a < 1024 by omega) hc
  rwa [hcol, hrow] at h

/-- R74: a channel of a texel, from the bytes of its cell. -/
theorem lossyTexel_channel (p : List Byte) (a b : Nat) {c cell n i : Nat} (hc : c < 4) (hcell : cell = (b / 4 * 8 + a / 4) * 16)
    (hn : n = 4 * (b % 4) + a % 4) (hi : i = (p.getD (cell + 8 + n / 2) 0).toNat / 16 ^ (n % 2) % 16) :
    (lossyTexel p a b)[c]? =
      some (BitVec.ofNat 8 (((p.getD (cell + c) 0).toNat * (15 - i) + (p.getD (cell + 4 + c) 0).toNat * i + 7) / 15)) := by
  have hindex : bitsOf (leAt p (cell + 8) 8) (4 * n) 4 = i := by rw [bitsOf_leAt_nibble p _ (by omega), hi]
  subst hcell hn
  simp only [lossyTexel, List.getElem?_map, List.getElem?_range hc, Option.map_some, hindex, lossyChannel, leAt_one]

/-- R74: the first index gives the first endpoint, and the last the second. -/
theorem lossyChannel_ends (e0 e1 : Nat) : lossyChannel e0 e1 0 = e0 ∧ lossyChannel e0 e1 15 = e1 := by
  unfold lossyChannel
  omega

/-- Settles O59: each texel is found in the tile by its place, and its index in its cell's last eight bytes. -/
theorem lossyTexelsAreMixed : Obligations.LossyTexelsAreMixed := by
  refine ⟨rfl, ?_, fun e0 e1 _ _ => lossyChannel_ends e0 e1, rfl⟩
  intro p a b c _ ha hb hc
  refine ⟨rfl, length_decodeLossy p, ?_⟩
  intro cell n i hcell hn hi
  rw [decodeLossy_texel p ha hb hc]
  exact lossyTexel_channel p a b hc hcell hn hi

end Sys2Proof.Machine

/-! The scene's queues (spec/04_scene_queues.md): where tile slots lie, what starts, decodes and retires, the rings, fences and latch beside them, and
the 2-D engine's lists. -/

namespace Sys2Proof.Machine

/-! ### Tile slots (R107) -/

/-- R107: the slots of all four sets lie one after another, two of 4 KiB for a tile. -/
theorem slotOffset_eq (n slot : Nat) : slotOffset n slot = (n * 2 + slot) * 4096 := by
  unfold slotOffset
  omega

theorem slotOffset_tileNo (k l t x : Nat) : slotOffset (tileNo k l t) x = k * 0x70800000 + ((l * 3600 + t) * 2 + x) * 4096 := by
  rw [slotOffset_eq, tileNo]
  omega

/-- R107: no two slots share a byte. -/
theorem slotOffset_disjoint {n m x y : Nat} (hx : x < 2) (hy : y < 2) (h : n ≠ m ∨ x ≠ y) :
    slotOffset n x + 4096 ≤ slotOffset m y ∨ slotOffset m y + 4096 ≤ slotOffset n x := by
  rw [slotOffset_eq, slotOffset_eq]
  omega

/-- Settles O58: a slot's offset is 4 KiB times its number, counted over all sets. -/
theorem tileSlotAddresses : Obligations.TileSlotAddresses := by
  refine ⟨?_, rfl, rfl, ?_⟩
  · intro s k l t x _ _ _ _
    simp only [slotAddr, retainAddr, slotOffset_tileNo]
    omega
  · intro s n m x y hx hy h
    have hoffset := slotOffset_disjoint hx hy h
    simp only [slotAddr]
    omega

end Sys2Proof.Machine

/-! The start of a descriptor (R90, R98, R507). -/

namespace Sys2Proof.Machine

/-! ### SCD.UNITS (R103) -/

/-- R103: SCD.UNITS.BUSY shows the decode units occupied; its six bits hold the 32 that there are. -/
theorem get_showUnits_busy {s : State} (h : (s.scene.runs.filter (fun r => r.inUnit)).length < 64) :
    (showUnits s).get F.SCD_UNITS_BUSY = (s.scene.runs.filter (fun r => r.inUnit)).length := by
  have hkey : F.SCD_UNITS_BUSY.key ≠ F.SCD_UNITS_HELD.key := by decide
  unfold showUnits
  rw [State.setAll_cons, State.setAll_cons, State.setAll_nil, State.get_set_ne _ _ hkey, State.get_set_same]
  exact Nat.mod_eq_of_lt h

theorem KeepsAllRegs.showUnits {may : Nat → Bool} {s t : State} (h : KeepsAllRegs may s t) (hbusy : may F.SCD_UNITS_BUSY.key = true)
    (hheld : may F.SCD_UNITS_HELD.key = true) : KeepsAllRegs may s (showUnits t) := by
  refine h.setAll _ ?_
  simp only [List.forall_mem_cons, List.not_mem_nil, false_imp_iff, implies_true, and_true]
  exact ⟨hbusy, hheld⟩

/-! ### Starting -/

theorem exec_descriptorStart {s : State} (hrun : Running s) (readable : Bool) :
    exec (.descriptorStart readable) s = .next (startDescriptor s readable) := live_running hrun _

/-- R98: a queue named as the one served last. -/
def serveQueue (s : State) (q : Nat) : State := s.setScene (fun c => { c with lastServed := q })

/-- A descriptor that has started joins the others. -/
def addRun (s : State) (r : Run) : State := s.setScene (fun c => { c with runs := c.runs ++ [r] })

/-- R507: an entry that cannot be read, started and finished at once with FETCH_ERROR. -/
def lostRun (q i : Nat) : Run := freshRun q i ⟨0, 0, 0, 0, 0, 0, 0⟩ .finished false 0x09

theorem lostRun_signalFence (q i : Nat) : (lostRun q i).desc.signalFence = false := by
  simp [lostRun, freshRun, Desc.signalFence, hasBit]

/-- R90: a descriptor that has passed its checks gives its queue the SEQ and starts in a decode unit. -/
def startRun (s : State) (q i : Nat) (b : List Byte) : State :=
  showUnits (addRun (setCtx s q (fun c => { c with lastSeq := (descOf b).seq })) (freshRun q i (descOf b) .reading true 0))

theorem startDescriptor_idle {s : State} (readable : Bool)
    (h : s.get F.QMG_CTRL_ENABLE = 0 ∨ 32 ≤ (s.scene.runs.filter (fun r => r.inUnit)).length ∨ nextQueue s = none) :
    startDescriptor s readable = s := by
  unfold startDescriptor
  obtain hoff | hfull | hnone := h
  · rw [if_pos (by simp [State.on, hoff])]
  · rw [if_pos (by simp [hfull])]
  · rw [hnone]
    split <;> rfl

section
variable {s u : State} {q : Nat} {readable : Bool} (hon : s.get F.QMG_CTRL_ENABLE = 1)
  (hfree : (s.scene.runs.filter (fun r => r.inUnit)).length < 32) (hnext : nextQueue s = some q)
include hon hfree hnext

theorem startDescriptor_lost (hread : readDesc s q (ctxOf s q).head readable = (u, none)) :
    startDescriptor s readable = addRun (serveQueue u q) (lostRun q (ctxOf u q).head) := by
  unfold startDescriptor
  rw [if_neg (by simp [State.on, hon, hfree]), hnext]
  simp only [hread]
  rfl

theorem startDescriptor_failed {b : List Byte} {code : Nat} (hread : readDesc s q (ctxOf s q).head readable = (u, some b))
    (hcheck : descCheck (serveQueue u q) q b = some code) :
    startDescriptor s readable = addRun (serveQueue u q) (freshRun q (ctxOf s q).head (descOf b) .finished false code) := by
  unfold startDescriptor
  rw [if_neg (by simp [State.on, hon, hfree]), hnext]
  simp only [hread, show u.setScene (fun c => { c with lastServed := q }) = serveQueue u q from rfl, hcheck]
  rfl

theorem startDescriptor_passed {b : List Byte} (hread : readDesc s q (ctxOf s q).head readable = (u, some b))
    (hcheck : descCheck (serveQueue u q) q b = none) :
    startDescriptor s readable = startRun (serveQueue u q) q (ctxOf s q).head b := by
  unfold startDescriptor
  rw [if_neg (by simp [State.on, hon, hfree]), hnext]
  simp only [hread, show u.setScene (fun c => { c with lastServed := q }) = serveQueue u q from rfl, hcheck]
  rfl

end

/-! ### Checks D1 to D3 (R90) -/

theorem descCheck_eq_none {s : State} {q : Nat} {b : List Byte} (h1 : descFormatOk b = true)
    (h2 : (descOf b).supersede = true → queueClass q ≠ .control) (h3 : seqLater (descOf b).seq (ctxOf s q).lastSeq = true) :
    descCheck s q b = none := by
  have hsuper : ((descOf b).supersede && decide (queueClass q = .control)) = false := by simpa using h2
  simp only [descCheck, h1, hsuper, h3, Bool.not_true, Bool.false_eq_true, if_false]

/-- R90: the status of a descriptor that fails one of D1 to D3 is that of the first it fails. -/
theorem descCheck_eq_some {s : State} {q code : Nat} {b : List Byte}
    (h : (code = 0x02 ∧ descFormatOk b = false) ∨
      (descFormatOk b = true ∧ ((code = 0x04 ∧ (descOf b).supersede = true ∧ queueClass q = .control) ∨
        (code = 0x08 ∧ ((descOf b).supersede = true → queueClass q ≠ .control) ∧ seqLater (descOf b).seq (ctxOf s q).lastSeq = false)))) :
    descCheck s q b = some code := by
  obtain ⟨rfl, h1⟩ | ⟨h1, ⟨rfl, hsuper, hclass⟩ | ⟨rfl, h2, h3⟩⟩ := h
  · simp only [descCheck, h1, Bool.not_false, if_true]
  · simp only [descCheck, h1, hsuper, hclass, decide_true, Bool.and_true, Bool.not_true, Bool.false_eq_true, if_false, if_true]
  · have hsuper : ((descOf b).supersede && decide (queueClass q = .control)) = false := by simpa using h2
    simp only [descCheck, h1, hsuper, h3, Bool.not_true, Bool.not_false, Bool.false_eq_true, if_false, if_true]

/-! ### What a start leaves -/

/-- R507: the read of a ring entry changes no context and no started descriptor. -/
theorem ctxOf_fetched {s u : State} {host : Bool} {a n : Nat} {o : Option (List Byte)} (hfetch : blockFetch s host a n = (u, o)) (p : Nat) :
    ctxOf u p = ctxOf s p := ctxOf_congr (congrArg Scene.ctxs (blockFetch_scene_of hfetch)) p

theorem runs_fetched {s u : State} {host : Bool} {a n : Nat} {o : Option (List Byte)} (hfetch : blockFetch s host a n = (u, o)) :
    u.scene.runs = s.scene.runs := congrArg Scene.runs (blockFetch_scene_of hfetch)

theorem keeps_addRun (s : State) (q : Nat) (r : Run) : Keeps noField s (addRun (serveQueue s q) r) := (Keeps.refl noField s).same rfl rfl rfl

section
variable (s : State) (q i : Nat) (b : List Byte)

theorem ctxOf_startRun_same : ctxOf (startRun s q i b) q = { ctxOf s q with lastSeq := (descOf b).seq } :=
  ctxOf_setCtx_same s q (fun c => { c with lastSeq := (descOf b).seq })

theorem ctxOf_startRun_ne {p : Nat} (h : p ≠ q) : ctxOf (startRun s q i b) p = ctxOf s p :=
  ctxOf_setCtx_ne s (fun c => { c with lastSeq := (descOf b).seq }) h

theorem runs_startRun : (startRun s q i b).scene.runs = s.scene.runs ++ [freshRun q i (descOf b) .reading true 0] := rfl

/-- R103: the descriptor started takes one more unit. -/
theorem get_startRun_busy (hfree : (s.scene.runs.filter (fun r => r.inUnit)).length < 32) :
    (startRun s q i b).get F.SCD_UNITS_BUSY = (s.scene.runs.filter (fun r => r.inUnit)).length + 1 := by
  have hunits : ((startRun s q i b).scene.runs.filter (fun r => r.inUnit)).length = (s.scene.runs.filter (fun r => r.inUnit)).length + 1 := by
    rw [runs_startRun, List.filter_append, List.length_append]
    rfl
  rw [← hunits]
  exact get_showUnits_busy (by change ((startRun s q i b).scene.runs.filter (fun r => r.inUnit)).length < 64; omega)

theorem keeps_startRun : Keeps (ofFields [F.SCD_UNITS_BUSY, F.SCD_UNITS_HELD]) s (startRun s q i b) := by
  have hkeep : KeepsAllRegs (ofFields [F.SCD_UNITS_BUSY, F.SCD_UNITS_HELD]) s (startRun s q i b) :=
    KeepsAllRegs.showUnits ((KeepsAllRegs.refl _ s).same rfl rfl) (ofFields_mem (by simp)) (ofFields_mem (by simp))
  exact hkeep.keeps (keepsBytes_of_mem rfl)

end

/-- Settles O7, by what a start comes to: nothing to serve, the descriptor lost, a check failed, or all passed. -/
theorem descriptorsStart : Obligations.DescriptorsStart := by
  refine ⟨?_, ?_, ?_, ?_⟩
  · intro s u q b hrun hon hfree hnext hfetch h1 h2 h3
    have hctx : ∀ p, ctxOf (serveQueue u q) p = ctxOf s p := fun p => ctxOf_fetched hfetch p
    have hruns : (serveQueue u q).scene.runs = s.scene.runs := show u.scene.runs = _ from runs_fetched hfetch
    have hread : readDesc s q (ctxOf s q).head true = (u, some b) := hfetch
    have hcheck := descCheck_eq_none (s := serveQueue u q) h1 h2 (by rw [hctx]; exact h3)
    refine ⟨_, exec_descriptorStart hrun true, ?_⟩
    rw [startDescriptor_passed hon hfree hnext hread hcheck]
    refine ⟨?_, ?_, ?_, rfl, ?_, keeps_startRun (serveQueue u q) ..⟩
    · rw [runs_startRun, hruns]; rfl
    · rw [ctxOf_startRun_same, hctx]
    · intro p hp
      rw [ctxOf_startRun_ne _ _ _ _ hp, hctx]
    · rw [get_startRun_busy _ _ _ _ (by rw [hruns]; exact hfree), hruns]
  · intro s u q code b hrun hon hfree hnext hfetch hfail
    have hctx : ∀ p, ctxOf (serveQueue u q) p = ctxOf s p := fun p => ctxOf_fetched hfetch p
    have hread : readDesc s q (ctxOf s q).head true = (u, some b) := hfetch
    have hcheck := descCheck_eq_some (s := serveQueue u q) (q := q) (code := code) (b := b) (by rw [hctx]; exact hfail)
    refine ⟨_, exec_descriptorStart hrun true, ?_⟩
    rw [startDescriptor_failed hon hfree hnext hread hcheck]
    refine ⟨?_, hctx, keeps_addRun ..⟩
    rw [← runs_fetched hfetch]; rfl
  · intro s q hrun hon hfree hnext
    obtain ⟨u, hfetch⟩ : ∃ u, (blockFetch s (ctxOf s q).ringHost (ringAddr (ctxOf s q) (ctxOf s q).head) 32).1 = u := ⟨_, rfl⟩
    have hctx : ∀ p, ctxOf u p = ctxOf s p := fun p => by rw [← hfetch]; exact ctxOf_fetched rfl p
    have hruns : u.scene.runs = s.scene.runs := by rw [← hfetch]; exact runs_fetched rfl
    have hread : readDesc s q (ctxOf s q).head false = (u, none) := by rw [← hfetch]; rfl
    refine ⟨_, exec_descriptorStart hrun false, ?_⟩
    rw [startDescriptor_lost hon hfree hnext hread, hctx q]
    refine ⟨⟨lostRun q (ctxOf s q).head, ?_, rfl, rfl, rfl, rfl, rfl, lostRun_signalFence ..⟩, hctx⟩
    rw [← hruns]; rfl
  · intro s readable hrun hidle
    refine ⟨_, exec_descriptorStart hrun readable, ?_⟩
    rw [startDescriptor_idle readable hidle]
    exact ⟨rfl, KeepsAllRegs.refl _ s, keepsBytes_of_mem rfl⟩

end Sys2Proof.Machine

/-! The end of decoding and the release of held writes (R99, R108, R109, R508). -/

namespace Sys2Proof.Machine

theorem exec_decodeDone {s : State} (hrun : Running s) (q : Nat) : exec (.decodeDone q) s = .next (finishDecode s q) := live_running hrun _

theorem exec_heldWriteRelease {s : State} (hrun : Running s) (q : Nat) : exec (.heldWriteRelease q) s = .next (releaseHeld s q) :=
  live_running hrun _

/-! ### Finishing -/

/-- A started descriptor that finishes has its status, and everything else it had. -/
theorem runOf_finishRun {s : State} {q : Nat} {r : Run} (hrun : runOf s q = some r) (status object info : Nat) :
    runOf (finishRun s q status object info) q =
      some { r with stage := .finished, status := status, object := object, info := info } := by
  have hfinish := runOf_setRun_same s q (fun x => { x with stage := .finished, status := status, object := object, info := info }) (fun _ => rfl)
  rw [hrun] at hfinish
  exact hfinish

theorem KeepsAllRegs.finishRun {may : Nat → Bool} {s t : State} (h : KeepsAllRegs may s t) (q status object info : Nat) :
    KeepsAllRegs may s (finishRun t q status object info) := h.same rfl rfl

/-- R109: a run that begins to wait, with its bytes. -/
def heldRun (s : State) (isTile : Bool) (bytes : List Byte) (x : Run) : Run :=
  let free := decide ((s.scene.runs.filter (fun y => y.inHold)).length < 64)
  { x with stage := .held, decoded := bytes, wasHeld := true, waitNo := s.scene.waitCount, inHold := isTile && free, inUnit := isTile && !free }

section
variable {s : State} {r : Run} (hrun : runOf s r.queue = some r)
include hrun

/-! ### What the end of decoding comes to (R508) -/

section
variable (hstage : r.stage = .decoding)
include hstage

theorem finishDecode_tile (hclass : queueClass r.queue = .tile) : finishDecode s r.queue = decodeTileRun s r := by
  unfold finishDecode
  simp only [hrun, if_pos hstage, hclass]

theorem finishDecode_control (hclass : queueClass r.queue = .control) : finishDecode s r.queue = decodeControlRun s r := by
  unfold finishDecode
  simp only [hrun, if_pos hstage, hclass]

/-- R58, R77: a tile or control block that does not decode finishes with FORMAT status 0x02. -/
theorem finishDecode_malformed (h : (queueClass r.queue = .tile ∧ decodeTile r.desc.kind (payloadOf r.block) = none) ∨
    (queueClass r.queue = .control ∧ controlOk r.block = false)) : finishDecode s r.queue = finishRun s r.queue 0x02 0 0 := by
  obtain ⟨hclass, hnone⟩ | ⟨hclass, hbad⟩ := h
  · rw [finishDecode_tile hrun hstage hclass, decodeTileRun, hnone]
  · rw [finishDecode_control hrun hstage hclass, decodeControlRun, hbad]
    rfl

/-- R79: a LAYER_ENABLE finishes DONE and changes nothing before it retires. -/
theorem finishDecode_layerEnable (hclass : queueClass r.queue = .control) (hok : controlOk r.block = true)
    (hkind : (headerOf r.block).kind = 0x22) : finishDecode s r.queue = finishRun s r.queue 0 0 0 := by
  rw [finishDecode_control hrun hstage hclass, decodeControlRun, hok, hkind]
  rfl

variable {bytes : List Byte} (hclass : queueClass r.queue = .tile) (hdecode : decodeTile r.desc.kind (payloadOf r.block) = some bytes)
include hclass hdecode

theorem finishDecode_held (hheld : tileHeld s r.desc.seq (headerOf r.block).set (r.queue / 4096) (r.queue % 4096) = true) :
    finishDecode s r.queue = beginHold s r true bytes := by
  rw [finishDecode_tile hrun hstage hclass, decodeTileRun, hdecode]
  exact if_pos hheld

theorem finishDecode_written (hheld : tileHeld s r.desc.seq (headerOf r.block).set (r.queue / 4096) (r.queue % 4096) = false) :
    finishDecode s r.queue = finishTile s r bytes := by
  rw [finishDecode_tile hrun hstage hclass, decodeTileRun, hdecode]
  exact if_neg (by simp [hheld])

end

/-! ### What a release comes to (R109) -/

section
variable (hstage : r.stage = .held)
include hstage

theorem releaseHeld_tileHeld (hclass : queueClass r.queue = .tile)
    (hheld : tileHeld s r.desc.seq (headerOf r.block).set (r.queue / 4096) (r.queue % 4096) = true) : releaseHeld s r.queue = s := by
  unfold releaseHeld
  simp only [hrun, if_pos hstage, if_pos hclass, if_pos hheld]

theorem releaseHeld_layer (hclass : queueClass r.queue = .control)
    (hheld : layerHeld s r.desc.seq (headerOf r.block).set (r.queue / 4096) = false) : releaseHeld s r.queue = finishLayer s r := by
  have htile : queueClass r.queue ≠ .tile := by simp [hclass]
  unfold releaseHeld
  simp only [hrun, if_pos hstage, if_neg htile, hheld, Bool.false_eq_true, if_false]

end

/-! ### Writes of tiles and layers (R99, R108, R114) -/

theorem runOf_beginHold (isTile : Bool) (bytes : List Byte) :
    runOf (beginHold s r isTile bytes) r.queue = some (heldRun s isTile bytes r) := by
  have hold := runOf_setRun_same (s.setScene (fun c => { c with waitCount := c.waitCount + 1 })) r.queue (heldRun s isTile bytes) (fun _ => rfl)
  exact hold.trans (congrArg (Option.map (heldRun s isTile bytes)) hrun)

theorem runOf_writeLayer (set layer : Nat) (d : Layer) : runOf (writeLayer s set layer d) r.queue = some r := hrun

end

theorem keepsAllRegs_beginHold (s : State) (r : Run) (isTile : Bool) (bytes : List Byte) :
    KeepsAllRegs (ofFields [F.SCD_UNITS_BUSY, F.SCD_UNITS_HELD]) s (beginHold s r isTile bytes) :=
  KeepsAllRegs.showUnits ((KeepsAllRegs.refl _ s).same rfl rfl) (ofFields_mem (by simp)) (ofFields_mem (by simp))

theorem tileOf_setTile_same (s : State) (n : Nat) (f : Tile → Tile) : tileOf (setTile s n f) n = f (tileOf s n) := by
  show (assoc (assocPut s.scene.tiles n (f (tileOf s n))) n).getD Tile.reset = _
  rw [assoc_assocPut_same]
  rfl

theorem Tile.front_withSlot (t : Tile) (slot : Nat) (zero rgb retained : Bool) : (t.withSlot slot zero rgb retained).front = t.front := by
  unfold Tile.withSlot
  split <;> rfl

theorem backLayer_writeLayer_same (s : State) (set layer : Nat) (d : Layer) : backLayer (writeLayer s set layer d) set layer = d := by
  show (assoc (assocPut s.scene.backLayers (set * 64 + layer) d) (set * 64 + layer)).getD Layer.reset = _
  rw [assoc_assocPut_same]
  rfl

theorem finishLayer_described {s : State} {r : Run} {d : Layer} (h : layerOf (payloadOf r.block) = some d) :
    finishLayer s r = finishRun (writeLayer s (headerOf r.block).set (r.queue / 4096) d) r.queue 0 0 0 := by
  rw [finishLayer, h]

/-- R99, R108: a tile whose bytes are in its back slot. -/
def tileStored (s : State) (n : Nat) (bytes : List Byte) : State :=
  setTile (dramWrite s (slotAddr s n (1 - (tileOf s n).front)) bytes) n (fun t =>
    { t.withSlot (1 - (tileOf s n).front) (allZero bytes) (rgbZero bytes) false with pending := true })

section
variable {s : State} {n : Nat} {bytes : List Byte} (hbehind : dramBehind s (slotAddr s n (1 - (tileOf s n).front)) bytes.length = true)
  (hsecure : rangeSecure s (slotAddr s n (1 - (tileOf s n).front)) bytes.length = false)

include hbehind hsecure in
/-- R108: a tile written while no retained copies are kept. -/
theorem writeTile_stored (block : List Byte) (hretain : s.get F.LAY_RETAIN_BASE_EN = 0) :
    writeTile s n bytes block = (tileStored s n bytes, true) := by
  have hkeep : (dramWrite s (slotAddr s n (1 - (tileOf s n).front)) bytes).on F.LAY_RETAIN_BASE_EN = false := by
    simp [State.on, (dramWrite_keeps s _ bytes F.LAY_RETAIN_BASE_EN (by decide) (by decide)).1, hretain]
  unfold writeTile dramStore
  simp only [hbehind, hsecure, hkeep, Bool.not_true, Bool.false_and, Bool.false_eq_true, if_false]
  rfl

end

section
variable (s : State) (n : Nat) (bytes : List Byte)

theorem tileOf_tileStored : (tileOf (tileStored s n bytes) n).pending = true ∧ (tileOf (tileStored s n bytes) n).front = (tileOf s n).front := by
  have htile : tileOf (dramWrite s (slotAddr s n (1 - (tileOf s n).front)) bytes) n = tileOf s n := by
    rw [tileOf, (dramWrite_keeps s _ bytes F.LAY_RETAIN_BASE_EN (by decide) (by decide)).2, tileOf]
  rw [tileStored, tileOf_setTile_same, htile]
  exact ⟨rfl, Tile.front_withSlot ..⟩

theorem runOf_tileStored (q : Nat) : runOf (tileStored s n bytes) q = runOf s q :=
  runOf_congr (congrArg Scene.runs (dramWrite_keeps s (slotAddr s n (1 - (tileOf s n).front)) bytes F.LAY_RETAIN_BASE_EN (by decide) (by decide)).2) q

theorem keepsAllRegs_tileStored (hquiet : s.get F.ERR_INJECT_ARM = 0) : KeepsAllRegs noField s (tileStored s n bytes) := by
  obtain ⟨hregs, hmech, -⟩ := dramWrite_quiet s (slotAddr s n (1 - (tileOf s n).front)) bytes hquiet
  exact (KeepsAllRegs.refl _ s).same hregs (congrArg RegMech.loaded hmech)

end

/-- R415: after a write to device memory the bytes stand at its address and every other byte reads as before. -/
theorem memGet_dramWrite {s : State} (hsound : SoundMemory s) (a : Nat) (bytes : List Byte) :
    (∀ x, a ≤ x → x < a + bytes.length → memGet (dramWrite s a bytes).mem.dram x = bytes.getD (x - a) 0) ∧
    (∀ x, (x < a ∨ a + bytes.length ≤ x) → memGet (dramWrite s a bytes).mem.dram x = memGet s.mem.dram x) := by
  rw [(dramWrite_mem s a bytes).1]
  constructor
  · intro x hlo hhi
    rw [memGet_memWrite hsound.1, if_pos ⟨hlo, hhi⟩]
  · intro x hout
    rw [memGet_memWrite hsound.1, if_neg (by omega)]

/-- Settles O9, by what the end of decoding and a release come to. -/
theorem decodedBlocksAreWritten : Obligations.DecodedBlocksAreWritten := by
  refine ⟨?_, ?_, ?_, ?_, ?_, ?_⟩
  · intro s r bytes hlive hsound hrun hstage hclass hdecode _ hheld hretain hquiet n a hn ha hbehind hsecure
    subst ha
    obtain ⟨hin, hout⟩ := memGet_dramWrite hsound (slotAddr s n (1 - (tileOf s n).front)) bytes
    obtain ⟨-, hhost, hloft⟩ := dramWrite_mem s (slotAddr s n (1 - (tileOf s n).front)) bytes
    obtain ⟨hpending, hfront⟩ := tileOf_tileStored s n bytes
    refine ⟨_, exec_decodeDone hlive r.queue, ?_⟩
    rw [finishDecode_written hrun hstage hclass hdecode hheld, finishTile, ← hn, writeTile_stored hbehind hsecure r.block hretain]
    exact ⟨runOf_finishRun ((runOf_tileStored ..).trans hrun) .., hpending, hfront, hin, hout, hhost, hloft,
      (keepsAllRegs_tileStored s n bytes hquiet).finishRun _ _ _ _⟩
  · intro s r bytes hlive hrun hstage hclass hdecode hheld
    refine ⟨_, heldRun s true bytes r, exec_decodeDone hlive r.queue, ?_⟩
    rw [finishDecode_held hrun hstage hclass hdecode hheld]
    exact ⟨runOf_beginHold hrun .., rfl, rfl, rfl, rfl, keepsAllRegs_beginHold s r true bytes, keepsBytes_of_mem rfl⟩
  · intro s r hlive hrun hstage hbad
    refine ⟨_, exec_decodeDone hlive r.queue, ?_⟩
    rw [finishDecode_malformed hrun hstage hbad]
    exact ⟨runOf_finishRun hrun .., (KeepsAllRegs.refl _ s).finishRun _ _ _ _, keepsBytes_of_mem rfl⟩
  · intro s r hlive hrun hstage hclass hok hkind
    refine ⟨_, exec_decodeDone hlive r.queue, ?_⟩
    rw [finishDecode_layerEnable hrun hstage hclass hok hkind]
    exact ⟨runOf_finishRun hrun .., (KeepsAllRegs.refl _ s).finishRun _ _ _ _, keepsBytes_of_mem rfl⟩
  · intro s r d hlive hrun hstage hclass hheld hlayer
    refine ⟨_, exec_heldWriteRelease hlive r.queue, ?_⟩
    rw [releaseHeld_layer hrun hstage hclass hheld, finishLayer_described hlayer]
    exact ⟨backLayer_writeLayer_same .., runOf_finishRun (runOf_writeLayer hrun ..) ..,
      (KeepsAllRegs.refl _ s).same rfl rfl, keepsBytes_of_mem rfl⟩
  · intro s r hlive hrun hstage hclass hheld
    refine ⟨_, exec_heldWriteRelease hlive r.queue, ?_⟩
    rw [releaseHeld_tileHeld hrun hstage hclass hheld]
    exact ⟨rfl, KeepsAllRegs.refl _ s, keepsBytes_of_mem rfl⟩

end Sys2Proof.Machine

/-! Retirement (R99 to R102): a descriptor is counted, its completion entry stored, its fence raised and its block's effect made; then it leaves the
waiting sets and its queue's head advances. -/

namespace Sys2Proof.Machine

theorem exec_descriptorRetire {s : State} (hrun : Running s) (q : Nat) (readable : Bool) :
    exec (.descriptorRetire q readable) s = .next (retireFront s q readable) := live_running hrun _

/-! ### Fences (R110) -/

/-- R110: a fence takes the greater of its value and a value of 64 bits. -/
theorem get_fenceMax_same (s : State) (n : Nat) {v : Nat} (hv : v < 2 ^ 64) :
    (fenceMax s n v).get (F.LAY_FENCE_VALUE n) = Nat.max (s.get (F.LAY_FENCE_VALUE n)) v := by
  have hold : s.get (F.LAY_FENCE_VALUE n) < 2 ^ 64 := State.get_lt s (F.LAY_FENCE_VALUE n)
  rw [fenceMax, State.get_set_same, Nat.mod_eq_of_lt hv]
  exact Nat.mod_eq_of_lt (Nat.max_lt.mpr ⟨hold, hv⟩)

/-! ### The front of a queue (R99, R102) -/

theorem frontOf_finished {s : State} {r : Run} (hrun : runOf s r.queue = some r) (hstage : r.stage = .finished)
    (hcount : (ctxOf s r.queue).count ≠ 0) : frontOf s r.queue = .run r := by
  simp only [frontOf, if_neg hcount, hrun, if_pos hstage]

theorem retireFront_nothing {s : State} {q : Nat} (h : frontOf s q = .nothing) (readable : Bool) : retireFront s q readable = s := by
  rw [retireFront, h]

section
variable {s : State} {r : Run} (hfront : frontOf s r.queue = .run r) (readable : Bool)
include hfront

/-- R102: with no room in its ring a descriptor waits behind the delayed retirements. -/
theorem retireFront_delayed (hroom : ringRoom s (ctxOf s r.queue).cq = false) (hnew : r.queue ∉ s.scene.delayed) :
    retireFront s r.queue readable = s.setScene (fun c => { c with delayed := c.delayed ++ [r.queue] }) := by
  have hcontains : s.scene.delayed.contains r.queue = false := by simpa using hnew
  unfold retireFront
  rw [hfront]
  simp only [hroom, hcontains, Bool.false_and, Bool.false_eq_true, if_false]

theorem retireFront_now (hroom : ringRoom s (ctxOf s r.queue).cq = true)
    (hfirst : ∀ x ∈ s.scene.delayed, (ctxOf s x).cq ≠ (ctxOf s r.queue).cq) :
    retireFront s r.queue readable = retireWith s r.queue (ctxOf s r.queue).head r.status (some r.desc) (some r) := by
  have hnone : s.scene.delayed.any (fun x => decide ((ctxOf s x).cq = (ctxOf s r.queue).cq)) = false := by
    simpa using hfirst
  unfold retireFront retireNow
  simp only [hfront, hroom, hnone, Bool.not_false, Bool.and_self, if_true]

end

/-! ### The steps of a retirement -/

/-- R101: a completion entry's bytes stored, and TAIL advanced. -/
def entryStored (s : State) (cq : Nat) (r : Run) : State :=
  (blockStore s (s.on (F.QMG_CQ_BASE_HOST cq))
    (s.get (F.QMG_CQ_BASE_ADDR cq) * 64 + s.get (F.QMG_CQ_TAIL_TAIL cq) % 2 ^ s.get (F.QMG_CQ_SIZE_CQ_LOG2 cq) * 16)
    (completionBytes r.queue r.desc.seq r.status (1 - s.get (F.QMG_CQ_TAIL_TAIL cq) / 2 ^ s.get (F.QMG_CQ_SIZE_CQ_LOG2 cq) % 2) r.wasHeld r.object
      r.info)).1.set (F.QMG_CQ_TAIL_TAIL cq) (s.get (F.QMG_CQ_TAIL_TAIL cq) + 1)

/-- R99 to R101: a finished descriptor counted, and its completion entry written, but for DONE on a quiet queue. -/
def counted (s : State) (r : Run) : State :=
  if (ctxOf s r.queue).quiet && decide (r.status = 0) then s.bump (F.SCD_STATUS_COUNT_COUNT r.status)
  else writeCompletion (s.bump (F.SCD_STATUS_COUNT_COUNT r.status)) (ctxOf s r.queue).cq r.queue r.desc.seq r.status r.wasHeld r.object r.info

/-- R110: the fence of a SIGNAL_FENCE descriptor raised. -/
def signalled (s : State) (d : Desc) : State := if d.signalFence then fenceMax s d.fenceIndex d.fenceValue else s

/-- R60, R61, R78 to R80: the effect of a block that is DONE. -/
def effected (s : State) (r : Run) : State := if r.status = 0 then retireEffect s r else s

theorem retireWith_run (s : State) (i : Nat) (r : Run) :
    retireWith s r.queue i r.status (some r.desc) (some r) =
      advanceHead (leaveWaiting (effected (signalled (counted s r) r.desc) r) r.queue i) r.queue i := rfl

/-- R102: an entry stored may raise the ring's interrupt, and does nothing more. -/
theorem writeCompletion_eq (s : State) (cq : Nat) (r : Run) :
    writeCompletion s cq r.queue r.desc.seq r.status r.wasHeld r.object r.info = entryStored s cq r ∨
      writeCompletion s cq r.queue r.desc.seq r.status r.wasHeld r.object r.info = raiseIrq (entryStored s cq r) (0x030 + cq) 0 := by
  unfold writeCompletion
  dsimp only
  split
  · exact Or.inr rfl
  · exact Or.inl rfl

theorem reports_writeCompletion (s : State) (cq : Nat) (r : Run) :
    Reports (entryStored s cq r) (writeCompletion s cq r.queue r.desc.seq r.status r.wasHeld r.object r.info) := by
  obtain h | h := writeCompletion_eq s cq r
  · rw [h]; exact Touches.refl _ _
  · rw [h]; exact reports_raiseIrq ..

/-! ### What a retirement leaves: contexts and descriptors -/

theorem scene_entryStored (s : State) (cq : Nat) (r : Run) : (entryStored s cq r).scene = s.scene :=
  (blockStore_keeps s _ _ _ F.SCD_UNITS_BUSY (by decide) (by decide) (by decide) (by decide)).2

theorem scene_counted (s : State) (r : Run) : (counted s r).scene = s.scene := by
  unfold counted
  split
  · rfl
  · rw [(reports_writeCompletion ..).scene, scene_entryStored, State.bump_scene]

theorem scene_signalled (s : State) (d : Desc) : (signalled s d).scene = s.scene := by
  unfold signalled
  split <;> rfl

/-- R60, R61, R78 to R80: a block's effect is on registers, streams and selections. -/
theorem retireEffect_leaves (s : State) (r : Run) :
    (retireEffect s r).scene.ctxs = s.scene.ctxs ∧ (retireEffect s r).scene.runs = s.scene.runs ∧ (retireEffect s r).mem = s.mem := by
  unfold retireEffect
  dsimp only
  split
  · split <;> exact ⟨rfl, rfl, rfl⟩
  · split <;> exact ⟨rfl, rfl, rfl⟩
  · exact ⟨rfl, rfl, rfl⟩
  · exact ⟨rfl, rfl, rfl⟩
  · exact ⟨rfl, rfl, rfl⟩

theorem effected_leaves (s : State) (r : Run) :
    (effected s r).scene.ctxs = s.scene.ctxs ∧ (effected s r).scene.runs = s.scene.runs ∧ (effected s r).mem = s.mem := by
  unfold effected
  split
  · exact retireEffect_leaves s r
  · exact ⟨rfl, rfl, rfl⟩

/-- R103: a tile that moves into a hold buffer stays where it was in every queue. -/
theorem fillHold_leaves (s : State) :
    (fillHold s).scene.ctxs = s.scene.ctxs ∧ (fillHold s).mem = s.mem ∧ (fillHold s).regs = s.regs ∧ (fillHold s).mech = s.mech ∧
      ∀ x ∈ (fillHold s).scene.runs, ∃ y ∈ s.scene.runs, y.queue = x.queue ∧ y.index = x.index := by
  obtain h | ⟨q, h⟩ := fillHold_frame s
  · rw [h]
    exact ⟨rfl, rfl, rfl, rfl, fun x hx => ⟨x, hx, rfl, rfl⟩⟩
  · rw [h]
    refine ⟨rfl, rfl, rfl, rfl, ?_⟩
    intro x hx
    obtain ⟨y, hy, rfl⟩ := List.mem_map.mp hx
    refine ⟨y, hy, ?_⟩
    split <;> exact ⟨rfl, rfl⟩

/-- R87, R99: the state in which head has advanced, before a hold buffer that is free is filled. -/
def headAdvanced (s : State) (q i : Nat) : State :=
  (setCtx s q (fun c => { c with head := (c.head + 1) % 2 ^ 32 })).setScene (fun c =>
    { c with runs := c.runs.filter (fun r => !(decide (r.queue = q) && decide (r.index = i)))
             skipped := c.skipped.filter (fun e => !decide (e = (q, i)))
             aborted := c.aborted.filter (fun e => !decide (e = (q, i)))
             commits := c.commits.filter (fun m => !decide (m.queue = q)) })

theorem advanceHead_eq (s : State) (q i : Nat) : advanceHead s q i = showUnits (fillHold (headAdvanced s q i)) := rfl

theorem ctxOf_advanceHead (s : State) (q i p : Nat) :
    ctxOf (advanceHead s q i) p = ctxOf (setCtx s q (fun c => { c with head := (c.head + 1) % 2 ^ 32 })) p := by
  obtain ⟨hctxs, -⟩ := fillHold_leaves (headAdvanced s q i)
  exact ctxOf_congr (t := advanceHead s q i) hctxs p

theorem not_mem_runs_advanceHead (s : State) (q i : Nat) : ∀ x ∈ (advanceHead s q i).scene.runs, ¬ (x.queue = q ∧ x.index = i) := by
  obtain ⟨-, -, -, -, hruns⟩ := fillHold_leaves (headAdvanced s q i)
  intro x hx
  obtain ⟨y, hy, hqueue, hindex⟩ := hruns x hx
  have hleft : y ∈ s.scene.runs.filter (fun r => !(decide (r.queue = q) && decide (r.index = i))) := hy
  have hkept := (List.mem_filter.mp hleft).2
  rintro ⟨rfl, rfl⟩
  simp [hqueue, hindex] at hkept

theorem mem_advanceHead (s : State) (q i : Nat) : (advanceHead s q i).mem = s.mem := by
  obtain ⟨-, hmem, -⟩ := fillHold_leaves (headAdvanced s q i)
  exact hmem

/-- R99 to R102: when a descriptor retires, the contexts change as its queue's head advances. -/
theorem ctxOf_retireWith (s : State) (i : Nat) (r : Run) (p : Nat) :
    ctxOf (retireWith s r.queue i r.status (some r.desc) (some r)) p =
      ctxOf (setCtx s r.queue (fun c => { c with head := (c.head + 1) % 2 ^ 32 })) p := by
  have hctxs : (leaveWaiting (effected (signalled (counted s r) r.desc) r) r.queue i).scene.ctxs = s.scene.ctxs := by
    show (effected (signalled (counted s r) r.desc) r).scene.ctxs = _
    rw [(effected_leaves ..).1, scene_signalled, scene_counted]
  have hctx : ∀ q, ctxOf (leaveWaiting (effected (signalled (counted s r) r.desc) r) r.queue i) q = ctxOf s q := ctxOf_congr hctxs
  rw [retireWith_run, ctxOf_advanceHead]
  by_cases hp : p = r.queue
  · rw [hp, ctxOf_setCtx_same, ctxOf_setCtx_same, hctx]
  · rw [ctxOf_setCtx_ne _ _ hp, ctxOf_setCtx_ne _ _ hp, hctx]

/-- R101: after the completion entry a retirement stores nothing. -/
theorem mem_retireWith (s : State) (i : Nat) (r : Run) :
    (retireWith s r.queue i r.status (some r.desc) (some r)).mem = (counted s r).mem := by
  have hsignalled : (signalled (counted s r) r.desc).mem = (counted s r).mem := by
    unfold signalled
    split <;> rfl
  rw [retireWith_run, mem_advanceHead]
  show (effected (signalled (counted s r) r.desc) r).mem = _
  rw [(effected_leaves ..).2.2, hsignalled]

/-! ### What a retirement leaves: registers -/

/-- A field on a page below layer control's is changed by none of a retirement's steps after the completion entry but SCD.UNITS. -/
theorem get_retireWith_low (s : State) (i : Nat) (r : Run) {f : Field} (hpage : f.key < 0x50000 * 512) (hunits : f.key / 512 ≠ 0x40140) :
    (retireWith s r.queue i r.status (some r.desc) (some r)).get f = (counted s r).get f := by
  have hsignalled : (signalled (counted s r) r.desc).get f = (counted s r).get f := by
    unfold signalled
    split
    · exact State.get_set_ne _ _ (by simp only [F.LAY_FENCE_VALUE, fld, Field.key] at *; omega)
    · rfl
  have heffected : (effected (signalled (counted s r) r.desc) r).get f = (signalled (counted s r) r.desc).get f := by
    unfold effected
    split
    · exact retireEffect_keeps _ _ _ (by omega) (by omega)
    · rfl
  rw [retireWith_run, advanceHead_keeps _ _ _ _ hunits, leaveWaiting_keeps _ _ _ _ (by omega), heffected, hsignalled]

/-- R101: beside TAIL of the ring a completion entry changes reports, SEC.DENIED and an injection's registers only. -/
theorem get_writeCompletion (s : State) (cq : Nat) (r : Run) {f : Field} (hreport : reportKey f.key = false)
    (harm : f.key ≠ F.ERR_INJECT_ARM.key) (hdone : f.key ≠ F.ERR_INJECT_DONE.key) (hdenied : f.key ≠ F.SEC_DENIED_COUNT.key)
    (htail : f.key ≠ (F.QMG_CQ_TAIL_TAIL cq).key) :
    (writeCompletion s cq r.queue r.desc.seq r.status r.wasHeld r.object r.info).get f = s.get f := by
  rw [(reports_writeCompletion s cq r).get f hreport, entryStored, State.get_set_ne _ _ htail]
  exact (blockStore_keeps s _ _ _ f hreport harm hdone hdenied).1

/-- R101: TAIL of the ring advances with each entry written. -/
theorem get_writeCompletion_tail (s : State) {cq : Nat} (r : Run) (hcq : cq < 16) :
    (writeCompletion s cq r.queue r.desc.seq r.status r.wasHeld r.object r.info).get (F.QMG_CQ_TAIL_TAIL cq) =
      (s.get (F.QMG_CQ_TAIL_TAIL cq) + 1) % 2 ^ 32 := by
  have hreport : reportKey (F.QMG_CQ_TAIL_TAIL cq).key = false := by
    have hall : ∀ n, n < 16 → reportKey (F.QMG_CQ_TAIL_TAIL n).key = false := by decide
    exact hall cq hcq
  rw [(reports_writeCompletion s cq r).get _ hreport, entryStored, State.get_set_same]
  rfl

/-- R100: a descriptor that retires is counted by its status. -/
theorem get_counted_status (s : State) (r : Run) (hstatus : r.status < 11) (hcq : (ctxOf s r.queue).cq < 16) :
    (counted s r).get (F.SCD_STATUS_COUNT_COUNT r.status) = satAdd 32 (s.get (F.SCD_STATUS_COUNT_COUNT r.status)) 1 := by
  have hkey : (F.SCD_STATUS_COUNT_COUNT r.status).key = (0x40100 + 4 * r.status) * 512 := by
    simp only [F.SCD_STATUS_COUNT_COUNT, fld, Field.key]; omega
  have htail : (F.SCD_STATUS_COUNT_COUNT r.status).key ≠ (F.QMG_CQ_TAIL_TAIL (ctxOf s r.queue).cq).key := by
    rw [hkey]; simp only [F.QMG_CQ_TAIL_TAIL, fld, Field.key]; omega
  have hfixed : ∀ n, n < 11 → reportKey (F.SCD_STATUS_COUNT_COUNT n).key = false ∧ (F.SCD_STATUS_COUNT_COUNT n).key ≠ F.ERR_INJECT_ARM.key ∧
      (F.SCD_STATUS_COUNT_COUNT n).key ≠ F.ERR_INJECT_DONE.key ∧ (F.SCD_STATUS_COUNT_COUNT n).key ≠ F.SEC_DENIED_COUNT.key := by decide
  obtain ⟨hreport, harm, hdone, hdenied⟩ := hfixed r.status hstatus
  unfold counted
  split
  · exact State.get_bump_same ..
  · rw [get_writeCompletion _ _ r hreport harm hdone hdenied htail]
    exact State.get_bump_same ..

/-- R101: TAIL of the ring advances unless the queue is quiet and the status DONE. -/
theorem get_counted_tail (s : State) (r : Run) (hstatus : r.status < 11) (hcq : (ctxOf s r.queue).cq < 16) :
    (counted s r).get (F.QMG_CQ_TAIL_TAIL (ctxOf s r.queue).cq) =
      if (ctxOf s r.queue).quiet = true ∧ r.status = 0 then s.get (F.QMG_CQ_TAIL_TAIL (ctxOf s r.queue).cq)
      else (s.get (F.QMG_CQ_TAIL_TAIL (ctxOf s r.queue).cq) + 1) % 2 ^ 32 := by
  have hkey : (F.QMG_CQ_TAIL_TAIL (ctxOf s r.queue).cq).key ≠ (F.SCD_STATUS_COUNT_COUNT r.status).key := by
    simp only [F.QMG_CQ_TAIL_TAIL, F.SCD_STATUS_COUNT_COUNT, fld, Field.key]; omega
  unfold counted
  by_cases hquiet : (ctxOf s r.queue).quiet = true ∧ r.status = 0
  · rw [if_pos (by simpa using hquiet), if_pos hquiet, State.get_bump_ne _ hkey]
  · rw [if_neg (by simpa using hquiet), if_neg hquiet, get_writeCompletion_tail _ r hcq, State.get_bump_ne _ hkey]

/-! ### A quiet DONE (R110) -/

theorem KeepsAllRegs.showCommits {may : Nat → Bool} {s t : State} (h : KeepsAllRegs may s t)
    (hsets : ∀ k, k < 4 → may (F.LAY_SET_STATUS_WAITING k).key = true ∧ may (F.LAY_SET_STATUS_READY k).key = true) :
    KeepsAllRegs may s (showCommits t) := by
  rw [showCommits_set]
  refine h.setAll _ ?_
  intro p hp
  simp only [List.mem_flatMap, List.mem_range, List.mem_cons, List.not_mem_nil, or_false] at hp
  obtain ⟨k, hk, rfl | rfl⟩ := hp
  · exact (hsets k hk).1
  · exact (hsets k hk).2

theorem KeepsAllRegs.leaveWaiting {may : Nat → Bool} {s t : State} (h : KeepsAllRegs may s t) (q i : Nat)
    (hsets : ∀ k, k < 4 → may (F.LAY_SET_STATUS_WAITING k).key = true ∧ may (F.LAY_SET_STATUS_READY k).key = true) :
    KeepsAllRegs may s (leaveWaiting t q i) := KeepsAllRegs.showCommits (h.same rfl rfl) hsets

theorem KeepsAllRegs.advanceHead {may : Nat → Bool} {s t : State} (h : KeepsAllRegs may s t) (q i : Nat)
    (hbusy : may F.SCD_UNITS_BUSY.key = true) (hheld : may F.SCD_UNITS_HELD.key = true) : KeepsAllRegs may s (advanceHead t q i) := by
  obtain ⟨-, -, hregs, hmech, -⟩ := fillHold_leaves (headAdvanced t q i)
  exact KeepsAllRegs.showUnits (h.same hregs (congrArg RegMech.loaded hmech)) hbusy hheld

/-- R108: a tile's block has no effect beyond its bytes when it retires. -/
theorem retireEffect_tile {s : State} {r : Run} (hkind : (headerOf r.block).kind = 0x10) : retireEffect s r = s := by
  unfold retireEffect
  dsimp only
  rw [hkind]
  rfl

/-- The fields that a DONE with a fence changes on a quiet queue. -/
def quietFields (fence : Nat) : List Field :=
  [F.LAY_FENCE_VALUE fence, F.SCD_STATUS_COUNT_COUNT 0, F.SCD_UNITS_BUSY, F.SCD_UNITS_HELD] ++
    (List.range 4).flatMap (fun k => [F.LAY_SET_STATUS_WAITING k, F.LAY_SET_STATUS_READY k])

section
variable {s : State} {r : Run} (hstatus : r.status = 0) (hquiet : (ctxOf s r.queue).quiet = true) (hkind : (headerOf r.block).kind = 0x10)
  (hsignal : r.desc.signalFence = true)
include hstatus hquiet hkind hsignal

/-- R99, R110: what a DONE with a fence on a quiet queue comes to before it leaves the waiting sets. -/
theorem effected_quietFence : effected (signalled (counted s r) r.desc) r =
    fenceMax (s.bump (F.SCD_STATUS_COUNT_COUNT 0)) r.desc.fenceIndex r.desc.fenceValue := by
  have hcounted : counted s r = s.bump (F.SCD_STATUS_COUNT_COUNT 0) := by
    rw [counted, hstatus, hquiet]
    rfl
  rw [effected, if_pos hstatus, retireEffect_tile hkind, signalled, if_pos hsignal, hcounted]

/-- R110: the fence takes the greater of its value and the descriptor's. -/
theorem get_retireWith_fence (i : Nat) (hindex : r.desc.fenceIndex < 256) (hvalue : r.desc.fenceValue < 2 ^ 64) :
    (retireWith s r.queue i r.status (some r.desc) (some r)).get (F.LAY_FENCE_VALUE r.desc.fenceIndex) =
      Nat.max (s.get (F.LAY_FENCE_VALUE r.desc.fenceIndex)) r.desc.fenceValue := by
  have hkey : (F.LAY_FENCE_VALUE r.desc.fenceIndex).key = (0x51100 + 8 * r.desc.fenceIndex) * 512 := by
    simp only [F.LAY_FENCE_VALUE, fld, Field.key]; omega
  have hcount : (F.LAY_FENCE_VALUE r.desc.fenceIndex).key ≠ (F.SCD_STATUS_COUNT_COUNT 0).key := by
    rw [hkey]; simp only [F.SCD_STATUS_COUNT_COUNT, fld, Field.key]; omega
  rw [retireWith_run, advanceHead_keeps _ _ _ _ (by omega), leaveWaiting_keeps _ _ _ _ (by omega),
    effected_quietFence hstatus hquiet hkind hsignal]
  rw [get_fenceMax_same _ _ hvalue, State.get_bump_ne _ hcount]

theorem keepsAllRegs_retireWith_fence (i : Nat) :
    KeepsAllRegs (ofFields (quietFields r.desc.fenceIndex)) s (retireWith s r.queue i r.status (some r.desc) (some r)) := by
  have hsets : ∀ k, k < 4 → ofFields (quietFields r.desc.fenceIndex) (F.LAY_SET_STATUS_WAITING k).key = true ∧
      ofFields (quietFields r.desc.fenceIndex) (F.LAY_SET_STATUS_READY k).key = true := by
    intro k hk
    have hin : ∀ f ∈ [F.LAY_SET_STATUS_WAITING k, F.LAY_SET_STATUS_READY k], f ∈ quietFields r.desc.fenceIndex :=
      fun f hf => List.mem_append_right _ (List.mem_flatMap.mpr ⟨k, List.mem_range.mpr hk, hf⟩)
    exact ⟨ofFields_mem (hin _ (by simp)), ofFields_mem (hin _ (by simp))⟩
  have hfirst : ∀ f ∈ [F.LAY_FENCE_VALUE r.desc.fenceIndex, F.SCD_STATUS_COUNT_COUNT 0, F.SCD_UNITS_BUSY, F.SCD_UNITS_HELD],
      ofFields (quietFields r.desc.fenceIndex) f.key = true := fun f hf => ofFields_mem (List.mem_append_left _ hf)
  have hfence : KeepsAllRegs (ofFields (quietFields r.desc.fenceIndex)) s
      (fenceMax (s.bump (F.SCD_STATUS_COUNT_COUNT 0)) r.desc.fenceIndex r.desc.fenceValue) :=
    ((KeepsAllRegs.refl _ s).bump (hfirst _ (by simp))).set _ (hfirst _ (by simp))
  rw [retireWith_run, effected_quietFence hstatus hquiet hkind hsignal]
  exact KeepsAllRegs.advanceHead (KeepsAllRegs.leaveWaiting hfence _ _ hsets) _ _ (hfirst _ (by simp)) (hfirst _ (by simp))

end

theorem mem_retireWith_quiet {s : State} {r : Run} (hstatus : r.status = 0) (hquiet : (ctxOf s r.queue).quiet = true) (i : Nat) :
    (retireWith s r.queue i r.status (some r.desc) (some r)).mem = s.mem := by
  rw [mem_retireWith, counted, hstatus, hquiet]
  rfl

/-! ### An entry's bytes (R101) -/

theorem length_leBytes (n v : Nat) : (leBytes n v).length = n := by
  induction n generalizing v with
  | zero => rfl
  | succ n ih => rw [leBytes, List.length_cons, ih]

theorem length_completionBytes (queue seq status phase : Nat) (held : Bool) (object info : Nat) :
    (completionBytes queue seq status phase held object info).length = 16 := by
  simp only [completionBytes, List.length_append, length_leBytes]

/-- R101: an entry of a ring in device memory is written there, where the regions let it through. -/
theorem mem_entryStored {s : State} {cq : Nat} {r : Run} {a : Nat} (hhost : s.get (F.QMG_CQ_BASE_HOST cq) = 0)
    (ha : a = s.get (F.QMG_CQ_BASE_ADDR cq) * 64 + s.get (F.QMG_CQ_TAIL_TAIL cq) % 2 ^ s.get (F.QMG_CQ_SIZE_CQ_LOG2 cq) * 16)
    (hbehind : dramBehind s a 16 = true) (hsecure : rangeSecure s a 16 = false) :
    (entryStored s cq r).mem = (dramWrite s a (completionBytes r.queue r.desc.seq r.status
      (1 - s.get (F.QMG_CQ_TAIL_TAIL cq) / 2 ^ s.get (F.QMG_CQ_SIZE_CQ_LOG2 cq) % 2) r.wasHeld r.object r.info)).mem := by
  have hdevice : s.on (F.QMG_CQ_BASE_HOST cq) = false := by simp [State.on, hhost]
  rw [entryStored, hdevice, ← ha, State.set_mem]
  simp only [blockStore, dramStore, length_completionBytes, hbehind, hsecure, Bool.not_true, Bool.false_eq_true, if_false]

/-- Counting a status changes no field but the count. -/
theorem get_bump_status (s : State) {n : Nat} {f : Field} (hn : n < 11) (h : f.key < 0x40100 * 512 ∨ 0x40140 * 512 ≤ f.key) :
    (s.bump (F.SCD_STATUS_COUNT_COUNT n)).get f = s.get f :=
  State.get_bump_ne s (by simp only [F.SCD_STATUS_COUNT_COUNT, fld, Field.key] at *; omega)

/-- R101: the bytes of a completion entry lie at the ring's tail when its descriptor has retired. -/
theorem mem_counted {s : State} {r : Run} {k a : Nat} (hcq : (ctxOf s r.queue).cq < 16) (hpos : 0 < r.status) (hstatus : r.status < 11)
    (hhost : s.get (F.QMG_CQ_BASE_HOST (ctxOf s r.queue).cq) = 0) (hk : k = s.get (F.QMG_CQ_SIZE_CQ_LOG2 (ctxOf s r.queue).cq))
    (ha : a = s.get (F.QMG_CQ_BASE_ADDR (ctxOf s r.queue).cq) * 64 + s.get (F.QMG_CQ_TAIL_TAIL (ctxOf s r.queue).cq) % 2 ^ k * 16)
    (hbehind : dramBehind s a 16 = true) (hsecure : rangeSecure s a 16 = false) :
    (counted s r).mem = (dramWrite (s.bump (F.SCD_STATUS_COUNT_COUNT r.status)) a (completionBytes r.queue r.desc.seq r.status
      (1 - s.get (F.QMG_CQ_TAIL_TAIL (ctxOf s r.queue).cq) / 2 ^ k % 2) r.wasHeld r.object r.info)).mem := by
  have hring : ∀ f : Field, f.key < 0x40000 * 512 → (s.bump (F.SCD_STATUS_COUNT_COUNT r.status)).get f = s.get f :=
    fun f hf => get_bump_status s hstatus (Or.inl (by omega))
  have hbase := hring (F.QMG_CQ_BASE_HOST (ctxOf s r.queue).cq) (by simp only [F.QMG_CQ_BASE_HOST, fld, Field.key]; omega)
  have haddr := hring (F.QMG_CQ_BASE_ADDR (ctxOf s r.queue).cq) (by simp only [F.QMG_CQ_BASE_ADDR, fld, Field.key]; omega)
  have hsize := hring (F.QMG_CQ_SIZE_CQ_LOG2 (ctxOf s r.queue).cq) (by simp only [F.QMG_CQ_SIZE_CQ_LOG2, fld, Field.key]; omega)
  have htail := hring (F.QMG_CQ_TAIL_TAIL (ctxOf s r.queue).cq) (by simp only [F.QMG_CQ_TAIL_TAIL, fld, Field.key]; omega)
  have hfar : ∀ f : Field, 0x100 ≤ f.key / 512 / 4096 → (s.bump (F.SCD_STATUS_COUNT_COUNT r.status)).get f = s.get f :=
    fun f hf => get_bump_status s hstatus (Or.inr (by omega))
  have hnot : ¬ ((ctxOf s r.queue).quiet && decide (r.status = 0)) = true := by
    simp only [Bool.and_eq_true, decide_eq_true_eq]
    omega
  rw [counted, if_neg hnot, (reports_writeCompletion ..).mem, mem_entryStored (a := a), htail, hsize, hk]
  · rw [hbase, hhost]
  · rw [haddr, htail, hsize, ← hk, ha]
  · rw [dramBehind_congr (fun f hf => hfar f (by omega)), hbehind]
  · rw [rangeSecure_congr (fun f hf => hfar f (by omega)), hsecure]

/-- Settles O10, by the steps of a retirement: each keeps what the ones after it need. -/
theorem descriptorsRetire : Obligations.DescriptorsRetire := by
  refine ⟨?_, ?_, ?_, ?_, ?_⟩
  · intro s r readable hlive hrun hstage hcount hindex hcq hstatus hroom hfirst
    refine ⟨_, exec_descriptorRetire hlive r.queue readable, ?_⟩
    rw [retireFront_now (frontOf_finished hrun hstage hcount) readable hroom hfirst, ← hindex]
    have hself := ctxOf_retireWith s r.index r r.queue
    rw [ctxOf_setCtx_same] at hself
    refine ⟨by rw [hself, hindex], by rw [hself], ?_, not_mem_runs_advanceHead _ _ _, ?_, ?_⟩
    · intro p hp
      rw [ctxOf_retireWith, ctxOf_setCtx_ne _ _ hp]
    · rw [get_retireWith_low _ _ _ (by simp only [F.SCD_STATUS_COUNT_COUNT, fld, Field.key]; omega)
        (by simp only [F.SCD_STATUS_COUNT_COUNT, fld, Field.key]; omega), get_counted_status s r hstatus hcq]
    · rw [get_retireWith_low _ _ _ (by simp only [F.QMG_CQ_TAIL_TAIL, fld, Field.key]; omega)
        (by simp only [F.QMG_CQ_TAIL_TAIL, fld, Field.key]; omega), get_counted_tail s r hstatus hcq]
  · intro s r readable hlive hrun hstage hcount hindex hstatus hquiet hroom hfirst hfence hfenceIndex hvalue hkind
    refine ⟨_, exec_descriptorRetire hlive r.queue readable, ?_⟩
    rw [retireFront_now (frontOf_finished hrun hstage hcount) readable hroom hfirst]
    exact ⟨get_retireWith_fence hstatus hquiet hkind hfence _ hfenceIndex hvalue, keepsAllRegs_retireWith_fence hstatus hquiet hkind hfence _,
      keepsBytes_of_mem (mem_retireWith_quiet hstatus hquiet _)⟩
  · intro s r readable k a hlive hsound hrun hstage hcount hindex hcq hpos hstatus hroom hfirst hhost hk ha hbehind hsecure
    obtain ⟨hin, hout⟩ := memGet_dramWrite (s := s.bump (F.SCD_STATUS_COUNT_COUNT r.status)) hsound a (completionBytes r.queue r.desc.seq r.status
      (1 - s.get (F.QMG_CQ_TAIL_TAIL (ctxOf s r.queue).cq) / 2 ^ k % 2) r.wasHeld r.object r.info)
    obtain ⟨-, hhostMem, hloft⟩ := dramWrite_mem (s.bump (F.SCD_STATUS_COUNT_COUNT r.status)) a (completionBytes r.queue r.desc.seq r.status
      (1 - s.get (F.QMG_CQ_TAIL_TAIL (ctxOf s r.queue).cq) / 2 ^ k % 2) r.wasHeld r.object r.info)
    rw [length_completionBytes] at hin hout
    refine ⟨_, exec_descriptorRetire hlive r.queue readable, ?_⟩
    rw [retireFront_now (frontOf_finished hrun hstage hcount) readable hroom hfirst, mem_retireWith,
      mem_counted hcq hpos hstatus hhost hk ha hbehind hsecure]
    exact ⟨hin, hout, hhostMem, hloft⟩
  · intro s r readable hlive hrun hstage hcount hroom hnew
    refine ⟨_, exec_descriptorRetire hlive r.queue readable, ?_⟩
    rw [retireFront_delayed (frontOf_finished hrun hstage hcount) readable hroom hnew]
    exact ⟨rfl, (KeepsAllRegs.refl _ s).same rfl rfl, keepsBytes_of_mem rfl⟩
  · intro s q readable hlive hnothing
    refine ⟨_, exec_descriptorRetire hlive q readable, ?_⟩
    rw [retireFront_nothing hnothing readable]
    exact ⟨rfl, KeepsAllRegs.refl _ s, keepsBytes_of_mem rfl⟩

end Sys2Proof.Machine

/-! Completion rings, fences and the commit latch (R102, R110, R113). -/

namespace Sys2Proof.Machine

/-! ### Completion rings (R102) -/

theorem exec_cqHeadWrite {s : State} (hrun : Running s) (m : Master) (ring head : Nat) :
    exec (.cqHeadWrite m ring head) s = .next (cqHeadThen (ring % 16) (writeAccess s m ((0x030 + ring % 16) * 0x1000 + 0x10C) 4 head)) :=
  live_running hrun _

theorem findRow_cqHead {ring : Nat} (h : ring < 16) :
    findRow ((0x030 + ring) * 0x1000 + 0x10C) = some ⟨(0x030 + ring) * 0x1000 + 0x10C, 32, 0, [F.QMG_CQ_HEAD_HEAD ring]⟩ := by
  have hall : ∀ n, n < 16 →
      findRow ((0x030 + n) * 0x1000 + 0x10C) = some ⟨(0x030 + n) * 0x1000 + 0x10C, 32, 0, [F.QMG_CQ_HEAD_HEAD n]⟩ := by decide +kernel
  exact hall ring h

theorem writeAccess_cqHead {s : State} {m : Master} {ring head : Nat} (hring : ring < 16) (hhead : head < 2 ^ 32)
    (hwrite : MayWrite s m (0x030 + ring)) :
    writeAccess s m ((0x030 + ring) * 0x1000 + 0x10C) 4 head =
      ⟨s.set (F.QMG_CQ_HEAD_HEAD ring) head, [(F.QMG_CQ_HEAD_HEAD ring, head)], none⟩ := by
  have hpage : ((0x030 + ring) * 0x1000 + 0x10C) / 0x1000 = 0x030 + ring := by omega
  have hfree : ∀ n, n < 16 → freeAddr ((0x030 + n) * 0x1000 + 0x10C) = true ∧
      [F.QMG_CQ_HEAD_HEAD n].all (wordOk ((0x030 + n) * 0x1000 + 0x10C)) = true := by decide
  obtain ⟨haddr, hfield⟩ := hfree ring hring
  have hvalue : head / 2 ^ (F.QMG_CQ_HEAD_HEAD ring).lo % 2 ^ (F.QMG_CQ_HEAD_HEAD ring).w = head := by
    show head / 2 ^ 0 % 2 ^ 32 = head
    omega
  rw [writeAccess_ok (findRow_cqHead hring) (by rw [hpage]; exact hwrite) haddr hfield hhead
    (registerRule_low _ _ _ _ (by omega) (by omega) (by omega) (by omega))]
  show (⟨s.setAll [(F.QMG_CQ_HEAD_HEAD ring, _)], [(F.QMG_CQ_HEAD_HEAD ring, _)], none⟩ : Written) = _
  rw [hvalue, State.setAll_cons, State.setAll_nil]

/-- R102: consumed entries free room, but no retirement of the ring waits for it. -/
theorem cqHeadAfter_idle {s : State} {ring : Nat} (h : ∀ x ∈ s.scene.delayed, (ctxOf s x).cq ≠ ring) : cqHeadAfter s ring = s := by
  have hnone : s.scene.delayed.find? (fun q => decide ((ctxOf s q).cq = ring)) = none := by
    simpa using h
  unfold cqHeadAfter drainDelayed
  rw [hnone]

theorem exec_cqAgeTimeout {s : State} (hrun : Running s) {ring : Nat} (h : ring < 16) :
    exec (.cqAgeTimeout ring) s =
      .next (if s.on (F.QMG_CQ_MOD_MICROSECONDS ring) && !decide (s.get (F.QMG_CQ_TAIL_TAIL ring) = s.get (F.QMG_CQ_HEAD_HEAD ring))
        then raiseIrq s (0x030 + ring) 0 else s) := by
  have hexec : exec (.cqAgeTimeout ring) s = .next (if s.on (F.QMG_CQ_MOD_MICROSECONDS (ring % 16)) &&
      !decide (s.get (F.QMG_CQ_TAIL_TAIL (ring % 16)) = s.get (F.QMG_CQ_HEAD_HEAD (ring % 16)))
      then raiseIrq s (0x030 + ring % 16) 0 else s) := live_running hrun _
  rwa [Nat.mod_eq_of_lt h] at hexec

/-! ### Fences written (R110) -/

theorem exec_fenceWrite {s : State} (hrun : Running s) (m : Master) (n v : Nat) :
    exec (.fenceWrite m n v) s = .next (writeAccess s m (0x51100 + 8 * (n % 256)) 8 v).s := live_running hrun _

theorem exec_fenceMaxWrite {s : State} (hrun : Running s) (m : Master) (n v : Nat) :
    exec (.fenceMaxWrite m n v) s = .next (fenceMaxAfter (n % 256) (writeAccess s m (0x52100 + 8 * (n % 256)) 8 v)) := live_running hrun _

/-- A page whose first row is an array of 256 registers of 64 bits at 0x100. -/
theorem findRow_fencePage {page n : Nat} {f : Nat → Field} (hpage : page = 0x051 ∨ page = 0x052) (hn : n < 256)
    (hrows : (regRows.filter (fun r => decide (r.pLo ≤ page) && decide (page ≤ r.pHi))).head? =
      some ⟨page, page, 0x100, 256, 8, 64, fun _ i => [f i]⟩) :
    findRow (page * 0x1000 + (0x100 + 8 * n)) = some ⟨page * 0x1000 + (0x100 + 8 * n), 64, 0, [f n]⟩ := by
  have hindex : (0x100 + 8 * n - 0x100) / 8 = n := by omega
  have hbase : page * 0x1000 + 0x100 + n * 8 = page * 0x1000 + (0x100 + 8 * n) := by omega
  have hpiece : (0x100 + 8 * n - 0x100 - n * 8) / 4 = 0 := by omega
  have hhit : Reg.hit ⟨page, page, 0x100, 256, 8, 64, fun _ i => [f i]⟩ page (0x100 + 8 * n) =
      some ⟨page * 0x1000 + (0x100 + 8 * n), 64, 0, [f n]⟩ := by
    simp only [Reg.hit, hindex]
    rw [if_pos (by omega), if_neg (by decide), if_pos (by omega), hbase, hpiece]
  obtain ⟨rest, hrest⟩ := List.head?_eq_some_iff.mp hrows
  rw [findRow_rows page (0x100 + 8 * n) (by omega) (by omega) (by omega) (by omega), hrest, List.findSome?_cons, hhit]

theorem fenceAddr (n : Nat) : 0x51100 + 8 * n = 0x051 * 0x1000 + (0x100 + 8 * n) := by omega

theorem fenceMaxAddr (n : Nat) : 0x52100 + 8 * n = 0x052 * 0x1000 + (0x100 + 8 * n) := by omega

theorem findRow_fence {n : Nat} (hn : n < 256) : findRow (0x51100 + 8 * n) = some ⟨0x51100 + 8 * n, 64, 0, [F.LAY_FENCE_VALUE n]⟩ := by
  rw [fenceAddr]
  exact findRow_fencePage (Or.inl rfl) hn rfl

theorem findRow_fenceMax {n : Nat} (hn : n < 256) :
    findRow (0x52100 + 8 * n) = some ⟨0x52100 + 8 * n, 64, 0, [F.LAY_FENCE_MAX_VALUE n]⟩ := by
  rw [fenceMaxAddr]
  exact findRow_fencePage (Or.inr rfl) hn rfl

/-- R4, R110: an aligned 8-byte write of a plain 64-bit register of layer control's fence pages. -/
theorem writeAccess_fencePage {s : State} {m : Master} {b v : Nat} {f : Field} (hrow : findRow b = some ⟨b, 64, 0, [f]⟩) (h8 : b % 8 = 0)
    (hlo : 0x51000 ≤ b) (hhi : b < 0x53000) (hwrite : MayWrite s m (b / 0x1000)) (hv : v < 2 ^ 64) (haddr : f.addr = b) (hlow : f.lo = 0)
    (hwide : f.w = 64) (hacc : f.acc = .rw ∨ f.acc = .wo) (hplain : f.plain = true) (hlegal : f.legal = .any) :
    writeAccess s m b 8 v = ⟨if f.acc = .wo then unheld s m b else (unheld s m b).set f v, [(f, v)], none⟩ :=
  writeAccess_pair s m b v f hrow h8 hwrite hv hlow hwide hacc (Or.inl hplain) (by rw [hlegal]; rfl)
    (fieldRule_none _ _ _ (by omega) (by omega) (by omega) (by omega) (by omega))
    (registerRule_low _ _ _ _ (by omega) (by omega) (by omega) (by omega))

theorem writeAccess_fence {s : State} {m : Master} {n v : Nat} (hn : n < 256) (hv : v < 2 ^ 64) (hwrite : MayWrite s m 0x051) :
    (writeAccess s m (0x51100 + 8 * n) 8 v).s = (unheld s m (0x51100 + 8 * n)).set (F.LAY_FENCE_VALUE n) v := by
  have hpage : (0x51100 + 8 * n) / 0x1000 = 0x051 := by omega
  rw [writeAccess_fencePage (findRow_fence hn) (by omega) (by omega) (by omega) (by rw [hpage]; exact hwrite) hv (fenceAddr n).symm rfl rfl
    (Or.inl rfl) rfl rfl, if_neg (by simp [F.LAY_FENCE_VALUE, fld])]

theorem fenceMaxAfter_written {s : State} {m : Master} {n v : Nat} (hn : n < 256) (hv : v < 2 ^ 64) (hwrite : MayWrite s m 0x052) :
    fenceMaxAfter n (writeAccess s m (0x52100 + 8 * n) 8 v) = fenceMax (unheld s m (0x52100 + 8 * n)) n v := by
  have hpage : (0x52100 + 8 * n) / 0x1000 = 0x052 := by omega
  rw [writeAccess_fencePage (findRow_fenceMax hn) (by omega) (by omega) (by omega) (by rw [hpage]; exact hwrite) hv (fenceMaxAddr n).symm rfl
    rfl (Or.inr rfl) rfl rfl, if_pos (show (F.LAY_FENCE_MAX_VALUE n).acc = .wo from rfl), fenceMaxAfter, tookField_same]

/-! ### The latch (R113) -/

theorem exec_commitLatch {s : State} (hrun : Running s) : exec .commitLatch s = .next (commitLatch s) := live_running hrun _

/-- R113: does the latch take a commit? -/
def latches (s : State) (m : Commit) : Bool := m.waiting.isEmpty && (!m.waitFence || fenceMet s m.fenceIndex m.fenceValue)

/-- R113: a commit after the latch. -/
def latched (s : State) (m : Commit) : Commit := if latches s m then { m with taken := true } else m

theorem latches_iff (s : State) (m : Commit) :
    latches s m = true ↔ m.waiting = [] ∧ (m.waitFence = true → m.fenceValue ≤ s.get (F.LAY_FENCE_VALUE m.fenceIndex)) := by
  cases hfence : m.waitFence <;> simp [latches, fenceMet, hfence]

theorem commits_latchScene (s : State) : (latchScene s).scene.commits = s.scene.commits.map (latched s) := rfl

theorem foldl_planeToFront_leaves (l : List Nat) (s : State) :
    (l.foldl planeToFront s).scene = s.scene ∧ (l.foldl planeToFront s).mem = s.mem :=
  ⟨foldl_keep l planeToFront State.scene (fun _ _ => rfl) s, foldl_keep l planeToFront State.mem (fun _ _ => rfl) s⟩

theorem takeGroup_leaves (s : State) (g : Nat) : (takeGroup s g).scene = s.scene ∧ (takeGroup s g).mem = s.mem := by
  have hplanes := foldl_planeToFront_leaves (setBits (s.get (F.CMP_FLIP_CTRL_PLANES g)) 8) (swapSlots s g)
  unfold takeGroup
  dsimp only
  split
  · rw [originate_scene, originate_mem]
    exact hplanes
  · exact hplanes

/-- R226: the flip groups that the latch takes change nothing of the scene and store nothing. -/
theorem latchFlips_leaves (s : State) : (latchFlips s).scene = s.scene ∧ (latchFlips s).mem = s.mem := by
  have hstep : ∀ t g, (if flipReady t g then takeGroup t g else t).scene = t.scene ∧ (if flipReady t g then takeGroup t g else t).mem = t.mem := by
    intro t g
    split
    · exact takeGroup_leaves t g
    · exact ⟨rfl, rfl⟩
  exact ⟨foldl_keep _ _ State.scene (fun t g => (hstep t g).1) s, foldl_keep _ _ State.mem (fun t g => (hstep t g).2) s⟩

theorem latchProt_leaves (s : State) : (latchProt s).scene = s.scene ∧ (latchProt s).mem = s.mem := by
  unfold latchProt
  split <;> exact ⟨rfl, rfl⟩

theorem commitLatch_leaves (s : State) : (commitLatch s).scene = (latchScene s).scene ∧ (commitLatch s).mem = s.mem := by
  obtain ⟨hprotScene, hprotMem⟩ := latchProt_leaves (latchFlips (latchScene s))
  obtain ⟨hflipScene, hflipMem⟩ := latchFlips_leaves (latchScene s)
  exact ⟨hprotScene.trans hflipScene, hprotMem.trans hflipMem⟩

/-- Settles O11, by the equation of each write and what the latch makes of each commit. -/
theorem ringsFencesAndTheLatch : Obligations.RingsFencesAndTheLatch := by
  refine ⟨?_, ?_, ?_, ?_, ?_, ?_⟩
  · intro s m ring head hlive hring hhead hwrite hidle
    refine ⟨_, exec_cqHeadWrite hlive m ring head, ?_⟩
    rw [Nat.mod_eq_of_lt hring, writeAccess_cqHead hring hhead hwrite, cqHeadThen, tookField_same, Option.isSome_some, if_pos rfl,
      cqHeadAfter_idle (s := s.set (F.QMG_CQ_HEAD_HEAD ring) head) hidle]
    exact ⟨(State.get_set_same ..).trans (Nat.mod_eq_of_lt hhead), rfl, (KeepsAllRegs.refl _ s).set head (ofFields_self _ _), keepsBytes_of_mem rfl⟩
  · intro s ring hlive hring hage hwaiting
    refine ⟨_, exec_cqAgeTimeout hlive hring, ?_⟩
    rw [if_pos (by simp [State.on, hage, hwaiting])]
    exact ⟨raiseIrq_hasBit s _ 0 (by decide), raiseIrq_scene .., (Keeps.refl _ s).raiseIrq _ _⟩
  · intro s ring hlive hring hquiet
    refine ⟨_, exec_cqAgeTimeout hlive hring, ?_⟩
    rw [if_neg (by obtain h | h := hquiet <;> simp [State.on, h])]
    exact ⟨KeepsAllRegs.refl _ s, keepsBytes_of_mem rfl⟩
  · intro s m n v hlive hn hv hwrite
    refine ⟨_, exec_fenceWrite hlive m n v, ?_⟩
    rw [Nat.mod_eq_of_lt hn, writeAccess_fence hn hv hwrite]
    exact ⟨(State.get_set_same ..).trans (Nat.mod_eq_of_lt hv), KeepsAllRegs.set ((KeepsAllRegs.refl _ s).same rfl rfl) v (ofFields_self _ _),
      keepsBytes_of_mem rfl⟩
  · intro s m n v hlive hn hv hwrite
    refine ⟨_, exec_fenceMaxWrite hlive m n v, ?_⟩
    rw [Nat.mod_eq_of_lt hn, fenceMaxAfter_written hn hv hwrite]
    exact ⟨get_fenceMax_same (unheld s m _) n hv, KeepsAllRegs.set ((KeepsAllRegs.refl _ s).same rfl rfl) _ (ofFields_self _ _), keepsBytes_of_mem rfl⟩
  · intro s hlive
    obtain ⟨hscene, hmem⟩ := commitLatch_leaves s
    refine ⟨_, exec_commitLatch hlive, ?_⟩
    rw [hscene, commits_latchScene]
    refine ⟨?_, ?_, rfl, keepsBytes_of_mem hmem⟩
    · intro m hm hwaiting hfence
      have htaken : latched s m = { m with taken := true } := if_pos ((latches_iff s m).mpr ⟨hwaiting, hfence⟩)
      exact htaken ▸ List.mem_map_of_mem hm
    · intro m hm
      obtain ⟨o, ho, rfl⟩ := List.mem_map.mp hm
      refine ⟨o, ho, ?_⟩
      unfold latched
      split
      · next htakes => exact ⟨rfl, Or.inr ((latches_iff s o).mp htakes)⟩
      · exact ⟨rfl, Or.inl rfl⟩

end Sys2Proof.Machine

/-! Lists of the 2-D engine (R110, R235, R236, R239, R243): the next command is fetched, which stores nothing, and is then run, or stops the list. -/

namespace Sys2Proof.Machine

/-! ### Fetches store nothing -/

theorem KeepsBytes.refl (s : State) : KeepsBytes s s := fun _ => ⟨rfl, rfl, rfl⟩

theorem KeepsBytes.trans {s t u : State} (h : KeepsBytes s t) (g : KeepsBytes t u) : KeepsBytes s u := by
  intro a
  obtain ⟨hdram, hhost, hloft⟩ := h a
  obtain ⟨gdram, ghost, gloft⟩ := g a
  exact ⟨gdram.trans hdram, ghost.trans hhost, gloft.trans hloft⟩

theorem keepsBytes_foldl {α : Type} (l : List α) (g : State → α → State) (h : ∀ t x, KeepsBytes t (g t x)) (s : State) :
    KeepsBytes s (l.foldl g s) := by
  induction l generalizing s with
  | nil => exact KeepsBytes.refl s
  | cons x l ih => exact (h s x).trans (ih (g s x))

theorem requestSparing_mem (s : State) (u : Nat) : (requestSparing s u).mem = s.mem := by
  unfold requestSparing
  split <;> rfl

/-- R358: an uncorrectable word is reported, and no byte changes. -/
theorem dramUe_mem (s : State) (a : Nat) : (dramUe s a).mem = s.mem := by
  unfold dramUe
  split
  · rfl
  · dsimp only
    rw [requestSparing_mem]
    dsimp only
    rw [raiseIrq_mem, raiseIrq_mem, (reports_raise _ _ (by simp) (by simp)).mem, State.bump_mem]

theorem rankCe_mem (s : State) (u a : Nat) : (rankCe s u a).mem = s.mem := by
  unfold rankCe
  dsimp only
  split
  · rw [requestSparing_mem, (reports_raise _ _ (by simp) (by simp)).mem]
    exact (reports_raise _ _ (by simp) (by simp)).mem
  · exact (reports_raise _ _ (by simp) (by simp)).mem

/-- R439: a correctable word is written back as it reads. -/
theorem keepsBytes_dramCe (s : State) (a : Nat) : KeepsBytes s (dramCe s a) := by
  unfold dramCe
  split
  · exact KeepsBytes.refl s
  · next u _ =>
    intro x
    rw [← rankCe_mem s u a]
    exact ⟨rfl, rfl, rfl⟩

theorem keepsBytes_reportBad (s : State) (a n : Nat) : KeepsBytes s (reportBad s a n) :=
  (keepsBytes_foldl _ dramUe (fun t x => keepsBytes_of_mem (dramUe_mem t x)) s).trans (keepsBytes_foldl _ dramCe keepsBytes_dramCe _)

theorem keepsBytes_dramFetch (s : State) (m a n : Nat) : KeepsBytes s (dramFetch s m a n).1 := by
  unfold dramFetch
  split
  · exact KeepsBytes.refl s
  · split
    · exact keepsBytes_of_mem (reports_raiseWith _ _ _ (by simp) (by simp)).mem
    · split <;> exact keepsBytes_reportBad s a n

theorem keepsBytes_hostAsk (s : State) (a n tag : Nat) : KeepsBytes s (hostAsk s a n tag) := by
  unfold hostAsk
  split
  · exact keepsBytes_of_mem (originate_mem _ _)
  · exact KeepsBytes.refl s

theorem keepsBytes_blockFetch {s u : State} {host : Bool} {a n : Nat} {o : Option (List Byte)} (h : blockFetch s host a n = (u, o)) :
    KeepsBytes s u := by
  have hkeep : KeepsBytes s (blockFetch s host a n).1 := by
    unfold blockFetch
    split
    · dsimp only
      split <;> exact keepsBytes_hostAsk s a n 0
    · exact keepsBytes_dramFetch s 7 a n
  rwa [h] at hkeep

/-- R105, R235: the bytes of a list are read along its chain. -/
theorem keepsBytes_chainRead (n : Nat) : ∀ (s : State) (ptr at0 off len : Nat), KeepsBytes s (chainRead n s ptr at0 off len).1 := by
  induction n with
  | zero => exact fun s _ _ _ _ => KeepsBytes.refl s
  | succ n ih =>
    intro s ptr at0 off len
    rw [chainRead]
    split
    · exact KeepsBytes.refl s
    · split
      · next hentry => exact keepsBytes_blockFetch hentry
      · next s1 e hentry =>
        have hkeep1 := keepsBytes_blockFetch hentry
        dsimp only
        split
        · exact hkeep1
        · split
          · split
            · exact hkeep1
            · exact hkeep1.trans (ih _ _ _ _ _)
          · split
            · next hbytes => exact hkeep1.trans (keepsBytes_blockFetch hbytes)
            · next s2 bs hbytes =>
              have hkeep2 := hkeep1.trans (keepsBytes_blockFetch hbytes)
              split
              · exact hkeep2
              · split
                · exact hkeep2
                · have hrest := ih s2 (leAt e 16 8) (at0 + leAt e 8 4) (off + Nat.min len (at0 + leAt e 8 4 - off))
                    (len - Nat.min len (at0 + leAt e 8 4 - off))
                  split
                  · next hread => rw [hread] at hrest; exact hkeep2.trans hrest
                  · next hread => rw [hread] at hrest; exact hkeep2.trans hrest

theorem keepsBytes_listRead {s t : State} {l : BltList} {off len : Nat} {o : Option (List Byte)} (h : listRead s l off len = (t, o)) :
    KeepsBytes s t := by
  have hkeep : KeepsBytes s (listRead s l off len).1 := by
    unfold listRead
    split
    · exact KeepsBytes.refl s
    · exact keepsBytes_chainRead _ _ _ _ _ _
  rwa [h] at hkeep

/-- R236: the next command of a list is read, and nothing stored. -/
theorem keepsBytes_nextCmd {s u : State} {l : BltList} {c : NextCmd} (h : nextCmd s l = (u, c)) : KeepsBytes s u := by
  have hkeep : KeepsBytes s (nextCmd s l).1 := by
    unfold nextCmd
    split
    · exact KeepsBytes.refl s
    · split
      · exact KeepsBytes.refl s
      · split
        · next hhead => exact keepsBytes_listRead hhead
        · next t b hhead =>
          have hkeep1 := keepsBytes_listRead hhead
          dsimp only
          split
          · exact hkeep1
          · split
            · exact hkeep1
            · split
              · exact hkeep1
              · split
                · next hbody => exact hkeep1.trans (keepsBytes_listRead hbody)
                · next hbody => exact hkeep1.trans (keepsBytes_listRead hbody)
  rwa [h] at hkeep

/-! ### Steps of a list (R235) -/

/-- The operation that a command of the engine runs. -/
def bltOp : Instr → Nat
  | .bltEnd => 0x00
  | .bltFill => 0x01
  | .bltCopy => 0x02
  | .bltBlend => 0x03
  | .bltWaitLine => 0x10
  | .bltFence => 0x11
  | _ => 0x12

theorem exec_blt {s : State} (hrun : Running s) {c : Instr}
    (hc : c ∈ [Instr.bltEnd, .bltFill, .bltCopy, .bltBlend, .bltWaitLine, .bltFence, .bltIrq]) : exec c s = .next (bltStep s (bltOp c)) := by
  simp only [List.mem_cons, List.not_mem_nil, or_false] at hc
  obtain rfl | rfl | rfl | rfl | rfl | rfl | rfl := hc <;> exact live_running hrun _

theorem exec_waitLineTimeout {s : State} (hrun : Running s) : exec .waitLineTimeout s = .next (waitLineTimeout s) := live_running hrun _

/-- R235: no list runs, stripe copies go first, or the list waits for a line. -/
theorem bltStep_idle {s : State} (op : Nat)
    (h : s.cmp.list = none ∨ s.cmp.copies ≠ [] ∨ ∃ l w, s.cmp.list = some l ∧ l.waiting = some w) : bltStep s op = s := by
  unfold bltStep
  cases hlist : s.cmp.list with
  | none => rfl
  | some l =>
    refine if_pos ?_
    obtain hnone | hcopies | ⟨l', w, hsome, hwait⟩ := h
    · simp [hlist] at hnone
    · simp [hcopies]
    · obtain rfl : l = l' := by simpa [hlist] using hsome
      simp [hwait]

/-- R236: a command of a list run. -/
def runCmd (s : State) (l : BltList) (op : Nat) (b : List Byte) (clips : List Rect) (n : Nat) : State :=
  match op with
  | 0x00 => finishList (s.bump F.BLT_COMMANDS_COUNT) l
  | 0x01 => fillCmd s l b clips n
  | 0x02 => copyCmd s l false b clips n
  | 0x03 => copyCmd s l true b clips n
  | 0x10 => waitCmd s l b n
  | 0x11 => fenceCmd s l b n
  | _ => irqCmd s l b n

section
variable {s u : State} {l : BltList} (hlist : s.cmp.list = some l) (hwait : l.waiting = none) (hcopies : s.cmp.copies = [])
include hlist hwait hcopies

theorem bltStep_bad {code : Nat} (op : Nat) (hnext : nextCmd s l = (u, .bad code)) : bltStep s op = stopList u l code := by
  simp only [bltStep, hlist, hwait, hcopies, hnext, Option.isSome_none, List.isEmpty_nil, Bool.not_true, Bool.or_self, Bool.false_eq_true, if_false]

theorem bltStep_cmd {op n : Nat} {b : List Byte} {clips : List Rect} (hnext : nextCmd s l = (u, .cmd op b clips n)) :
    bltStep s op = runCmd u l op b clips n := by
  simp only [bltStep, hlist, hwait, hcopies, hnext, Option.isSome_none, List.isEmpty_nil, Bool.not_true, Bool.or_self, Bool.false_eq_true, if_false, if_true]
  rfl

end

/-! ### Going on and stopping (R235, R243) -/

/-- R243: a list that did not wait goes on at its next command. -/
theorem cmp_advanceList (s : State) {l : BltList} (n : Nat) (hwait : l.waiting = none) :
    (advanceList s l n).cmp = { s.cmp with list := some { l with offset := l.offset + n } } := by
  show { s.cmp with list := some { l with offset := l.offset + n, waiting := none } } = _
  rw [← hwait]

theorem get_advanceList_commands (s : State) (l : BltList) (n : Nat) :
    (advanceList s l n).get F.BLT_COMMANDS_COUNT = satAdd 32 (s.get F.BLT_COMMANDS_COUNT) 1 := State.get_bump_same ..

theorem get_advanceList_ne (s : State) (l : BltList) (n : Nat) {f : Field} (h : f.key ≠ F.BLT_COMMANDS_COUNT.key) :
    (advanceList s l n).get f = s.get f := State.get_bump_ne s h

/-- The registers of a list that stops. -/
def stopFields : List Field := [F.BLT_LIST_STATUS_CODE, F.BLT_LIST_STATUS_BUSY, F.BLT_LIST_OFFSET_OFFSET, F.BLT_LIST_SEQ_SEQ]

section
variable (s : State) (l : BltList) (code : Nat)

/-- R235: the state in which a stopped list has shown its code and offset and raised its interrupt. -/
def stopShown : State := raiseIrq (s.setAll [(F.BLT_LIST_STATUS_CODE, code), (F.BLT_LIST_OFFSET_OFFSET, l.offset)]) 0x0C0 13

theorem stopList_eq : stopList s l code = endList (stopShown s l code) l := rfl

/-- R235: the end of a list changes BUSY and SEQ only. -/
theorem get_endList_ne {f : Field} (hbusy : f.key ≠ F.BLT_LIST_STATUS_BUSY.key) (hseq : f.key ≠ F.BLT_LIST_SEQ_SEQ.key) :
    (endList s l).get f = s.get f := by
  show (s.setAll [(F.BLT_LIST_STATUS_BUSY, 0), (F.BLT_LIST_SEQ_SEQ, l.seq)]).get f = _
  rw [State.setAll_cons, State.setAll_cons, State.setAll_nil, State.get_set_ne _ _ hseq, State.get_set_ne _ _ hbusy]

theorem get_endList_busy : (endList s l).get F.BLT_LIST_STATUS_BUSY = 0 := by
  have hkey : F.BLT_LIST_STATUS_BUSY.key ≠ F.BLT_LIST_SEQ_SEQ.key := by decide
  show (s.setAll [(F.BLT_LIST_STATUS_BUSY, 0), (F.BLT_LIST_SEQ_SEQ, l.seq)]).get F.BLT_LIST_STATUS_BUSY = 0
  rw [State.setAll_cons, State.setAll_cons, State.setAll_nil, State.get_set_ne _ _ hkey, State.get_set_same, Nat.zero_mod]

theorem get_endList_seq : (endList s l).get F.BLT_LIST_SEQ_SEQ = l.seq % 2 ^ 32 := by
  show (s.setAll [(F.BLT_LIST_STATUS_BUSY, 0), (F.BLT_LIST_SEQ_SEQ, l.seq)]).get F.BLT_LIST_SEQ_SEQ = _
  rw [State.setAll_cons, State.setAll_cons, State.setAll_nil, State.get_set_same]
  rfl

/-- R235: a stopped list shows its code. -/
theorem get_stopList_code (hcode : code < 8) : (stopList s l code).get F.BLT_LIST_STATUS_CODE = code := by
  have hkey : F.BLT_LIST_STATUS_CODE.key ≠ F.BLT_LIST_OFFSET_OFFSET.key := by decide
  rw [stopList_eq, get_endList_ne _ _ (by decide) (by decide), stopShown, get_raiseIrq _ _ _ (by decide), State.setAll_cons, State.setAll_cons,
    State.setAll_nil, State.get_set_ne _ _ hkey, State.get_set_same]
  show code % 2 ^ 8 = code
  omega

/-- R235: a stopped list shows the offset of the command that stopped it. -/
theorem get_stopList_offset : (stopList s l code).get F.BLT_LIST_OFFSET_OFFSET = l.offset % 2 ^ 32 := by
  rw [stopList_eq, get_endList_ne _ _ (by decide) (by decide), stopShown, get_raiseIrq _ _ _ (by decide), State.setAll_cons, State.setAll_cons,
    State.setAll_nil, State.get_set_same]
  rfl

theorem stopList_irq : hasBit ((stopList s l code).get (F.IRQ_RAW 0x0C0)) 13 = true := by
  rw [stopList_eq, get_endList_ne _ _ (by decide) (by decide)]
  exact raiseIrq_hasBit _ 0x0C0 13 (by decide)

theorem cmp_stopList : (stopList s l code).cmp = { s.cmp with list := none } := by
  show { (stopShown s l code).cmp with list := none } = _
  rw [stopShown, raiseIrq_cmp, State.setAll_cmp]

/-- R235: the descriptor of a list that stops may retire DONE. -/
theorem runs_stopList : (stopList s l code).scene.runs =
    s.scene.runs.map (fun r => if r.queue = l.queue then { r with stage := .finished, status := 0 } else r) := by
  show (stopShown s l code).scene.runs.map _ = _
  rw [stopShown, raiseIrq_scene, State.setAll_scene]

theorem keeps_stopList : Keeps (ofFields stopFields) s (stopList s l code) := by
  have hshown : Keeps (ofFields stopFields) s (stopShown s l code) :=
    ((Keeps.refl _ s).setAll [(F.BLT_LIST_STATUS_CODE, code), (F.BLT_LIST_OFFSET_OFFSET, l.offset)] (by
      simp only [List.forall_mem_cons, List.not_mem_nil, false_imp_iff, implies_true, and_true]; decide)).raiseIrq _ _
  have hended := hshown.setAll [(F.BLT_LIST_STATUS_BUSY, 0), (F.BLT_LIST_SEQ_SEQ, l.seq)] (by
    simp only [List.forall_mem_cons, List.not_mem_nil, false_imp_iff, implies_true, and_true]; decide)
  exact hended.same rfl rfl rfl

end

/-! ### WAIT_LINE, FENCE and IRQ (R236) -/

theorem runCmd_waitLine (s : State) (l : BltList) {b : List Byte} (clips : List Rect) (n : Nat) (hband : leAt b 0 1 ≤ 11) (hzero : leAt b 1 1 = 0)
    (hline : leAt b 2 2 ≤ 539) (hrest : leAt b 4 4 = 0) :
    runCmd s l 0x10 b clips n = s.setCmp (fun c => { c with list := some { l with waiting := some (leAt b 0 1, leAt b 2 2, n) } }) := by
  show waitCmd s l b n = _
  unfold waitCmd
  exact if_neg (by omega)

theorem leNat_lt (bs : List Byte) : leNat bs < 256 ^ bs.length := by
  induction bs with
  | nil => exact Nat.one_pos
  | cons b bs ih =>
    have hb : b.toNat < 256 := b.isLt
    simp only [leNat, List.length_cons, Nat.pow_succ]
    omega

/-- A field of `n` bytes is less than 256 to the `n`. -/
theorem leAt_lt (bs : List Byte) (off n : Nat) : leAt bs off n < 256 ^ n :=
  Nat.lt_of_lt_of_le (leNat_lt _) (Nat.pow_le_pow_right (by decide) (List.length_take_le ..))

/-- R236: the state in which IRQ has shown its tag and raised its interrupt. -/
def tagShown (s : State) (b : List Byte) : State := raiseIrq (s.set F.BLT_TAG_TAG (leAt b 0 2)) 0x0C0 12

theorem runCmd_fence (s : State) (l : BltList) {b : List Byte} (clips : List Rect) (n : Nat) (h : leAt b 1 7 = 0) :
    runCmd s l 0x11 b clips n = advanceList (fenceMax s (leAt b 0 1) (leAt b 8 8)) l n := by
  show fenceCmd s l b n = _
  unfold fenceCmd
  exact if_neg (by omega)

theorem runCmd_irq (s : State) (l : BltList) {b : List Byte} (clips : List Rect) (n : Nat) (h : leAt b 2 6 = 0) :
    runCmd s l 0x12 b clips n = advanceList (tagShown s b) l n := by
  show irqCmd s l b n = _
  unfold irqCmd
  exact if_neg (by omega)

/-- R236: IRQ shows its TAG, 16 bits. -/
theorem get_tagShown (s : State) (b : List Byte) : (tagShown s b).get F.BLT_TAG_TAG = leAt b 0 2 := by
  rw [tagShown, get_raiseIrq _ _ _ (by decide), State.get_set_same]
  exact Nat.mod_eq_of_lt (leAt_lt b 0 2)

theorem keeps_tagShown {may : Nat → Bool} (s : State) (b : List Byte) (h : may F.BLT_TAG_TAG.key = true) : Keeps may s (tagShown s b) :=
  ((Keeps.refl may s).set _ h).raiseIrq _ _

/-- R236: a FENCE in a list raises the fence that it names. -/
theorem get_advanceList_fence (s : State) (l : BltList) (b : List Byte) (n : Nat) :
    (advanceList (fenceMax s (leAt b 0 1) (leAt b 8 8)) l n).get (F.LAY_FENCE_VALUE (leAt b 0 1)) =
      Nat.max (s.get (F.LAY_FENCE_VALUE (leAt b 0 1))) (leAt b 8 8) := by
  have hindex : leAt b 0 1 < 256 := leAt_lt b 0 1
  have hcommands : F.BLT_COMMANDS_COUNT.key = 0xC0180 * 512 := by decide
  rw [get_advanceList_ne _ _ _ (by rw [hcommands]; simp only [F.LAY_FENCE_VALUE, fld, Field.key]; omega)]
  exact get_fenceMax_same s _ (leAt_lt b 8 8)

theorem get_fenceMax_commands (s : State) (b : List Byte) :
    (fenceMax s (leAt b 0 1) (leAt b 8 8)).get F.BLT_COMMANDS_COUNT = s.get F.BLT_COMMANDS_COUNT := by
  have hindex : leAt b 0 1 < 256 := leAt_lt b 0 1
  have hcommands : F.BLT_COMMANDS_COUNT.key = 0xC0180 * 512 := by decide
  exact State.get_set_ne _ _ (by rw [hcommands]; simp only [F.LAY_FENCE_VALUE, fld, Field.key]; omega)

/-! ### WAIT_LINE's timeout (R236) -/

theorem waitLineTimeout_stops {s : State} {l : BltList} {w : Nat × Nat × Nat} (hlist : s.cmp.list = some l) (hwait : l.waiting = some w) :
    waitLineTimeout s = stopList s l 7 := by
  simp only [waitLineTimeout, hlist, hwait, Option.isSome_some, if_true]

theorem waitLineTimeout_idle {s : State} (h : ∀ l, s.cmp.list = some l → l.waiting = none) : waitLineTimeout s = s := by
  unfold waitLineTimeout
  split
  · next l hlist => exact if_neg (by simp [h l hlist])
  · rfl

/-- Settles O28, by what a step of a list comes to: nothing, the list stopped, or its command run. -/
theorem listsWaitSignalAndStop : Obligations.ListsWaitSignalAndStop := by
  refine ⟨?_, ?_, ?_, ?_, ?_, ?_, ?_⟩
  · intro s u l b clips n hlive hlist hwait hcopies hnext hband hzero hline hrest
    refine ⟨_, exec_blt hlive (c := .bltWaitLine) (by simp), ?_⟩
    rw [show bltOp .bltWaitLine = 0x10 from rfl, bltStep_cmd hlist hwait hcopies hnext, runCmd_waitLine u l clips n hband hzero hline hrest]
    exact ⟨rfl, (KeepsAllRegs.refl _ u).same rfl rfl, (keepsBytes_nextCmd hnext).trans (keepsBytes_of_mem rfl)⟩
  · intro s u l b clips n hlive hlist hwait hcopies hnext hzero
    refine ⟨_, exec_blt hlive (c := .bltFence) (by simp), ?_⟩
    rw [show bltOp .bltFence = 0x11 from rfl, bltStep_cmd hlist hwait hcopies hnext, runCmd_fence u l clips n hzero]
    refine ⟨get_advanceList_fence u l b n, ?_, cmp_advanceList _ n hwait, ?_, (keepsBytes_nextCmd hnext).trans (keepsBytes_of_mem rfl)⟩
    · rw [get_advanceList_commands, get_fenceMax_commands]
    · exact KeepsAllRegs.same (((KeepsAllRegs.refl _ u).set _ (ofFields_mem (by simp))).bump (f := F.BLT_COMMANDS_COUNT) (ofFields_mem (by simp))) rfl rfl
  · intro s u l b clips n hlive hlist hwait hcopies hnext hzero
    refine ⟨_, exec_blt hlive (c := .bltIrq) (by simp), ?_⟩
    rw [show bltOp .bltIrq = 0x12 from rfl, bltStep_cmd hlist hwait hcopies hnext, runCmd_irq u l clips n hzero]
    refine ⟨?_, ?_, ?_, ?_, ?_⟩
    · rw [get_advanceList_ne _ _ _ (by decide), get_tagShown]
    · rw [get_advanceList_ne _ _ _ (by decide)]
      exact raiseIrq_hasBit _ 0x0C0 12 (by decide)
    · rw [get_advanceList_commands, tagShown, get_raiseIrq _ _ _ (by decide), State.get_set_ne _ _ (by decide)]
    · rw [cmp_advanceList _ n hwait, tagShown, raiseIrq_cmp, State.set_cmp]
    · exact ((keeps_tagShown u b (by decide)).bump (f := F.BLT_COMMANDS_COUNT) (by decide)).same rfl rfl rfl
  · intro s u l c code hlive hlist hwait hcopies hnext hcode hc
    refine ⟨_, exec_blt hlive hc, ?_⟩
    rw [bltStep_bad hlist hwait hcopies (bltOp c) hnext]
    exact ⟨get_stopList_code u l code hcode, get_endList_busy _ l, get_stopList_offset u l code, get_endList_seq _ l, stopList_irq u l code,
      cmp_stopList u l code, runs_stopList u l code, keeps_stopList u l code⟩
  · intro s l w hlive hlist hwait
    refine ⟨_, exec_waitLineTimeout hlive, ?_⟩
    rw [waitLineTimeout_stops hlist hwait]
    exact ⟨get_stopList_code s l 7 (by decide), get_endList_busy _ l, get_stopList_offset s l 7, stopList_irq s l 7, cmp_stopList s l 7,
      keeps_stopList s l 7⟩
  · intro s hlive hidle
    rw [exec_waitLineTimeout hlive, waitLineTimeout_idle hidle]
  · intro s c hlive hc hidle
    rw [exec_blt hlive hc, bltStep_idle (bltOp c) hidle]

end Sys2Proof.Machine

/-! Viewers coast, leave and change owner (R202, R204 to R207, R213): a roster changed, then published as an edition (R207), and by the head
broadcast (R205, R318). -/

namespace Sys2Proof.Machine

/-! ### Editions (R207, R213) -/

/-- The fields that show an edition's number and the roster's numbers. -/
def shownFields : List Field :=
  [F.VWB_EDITION_COUNT, F.VWB_STATUS_VIEWERS, F.VWB_STATUS_CANDIDATES, F.VWB_STATUS_OVERFLOW, F.VWB_STATUS_KEEPER]

/-- The fields that show an edition and the zones that it observes. -/
def editionFields : List Field := shownFields ++ (List.range 24).map F.VWB_ZONE_OBSERVED

/-- The roster copied whole, counted, and its numbers shown: an edition but for the zones that it observes. -/
def editionShown (s : State) : State :=
  ((s.setRoster (fun r => { r with edition := r.viewers })).step1 F.VWB_EDITION_COUNT).setAll
    [(F.VWB_STATUS_VIEWERS, s.roster.viewers.length), (F.VWB_STATUS_CANDIDATES, s.roster.candidates.length),
     (F.VWB_STATUS_OVERFLOW, s.roster.overflow.length), (F.VWB_STATUS_KEEPER, b2n (rosterKeeper s))]

/-- A zone in which an eye lies becomes observed. -/
def observeZone (s : State) (z : Nat) : State :=
  if zoneSeen s z && !s.on (F.VWB_ZONE_OBSERVED z) then
    (s.set (F.VWB_ZONE_OBSERVED z) 1).setRoster (fun r => { r with seenAt := mapPut r.seenAt z s.now })
  else s

theorem publish_eq (s : State) : publish s = (List.range 24).foldl observeZone (editionShown s) := rfl

theorem observeZone_leaves (s : State) (z : Nat) :
    KeepsAllRegs (ofFields [F.VWB_ZONE_OBSERVED z]) s (observeZone s z) ∧ (observeZone s z).mem = s.mem ∧
      ∃ m, (observeZone s z).roster = { s.roster with seenAt := m } := by
  unfold observeZone
  split
  · exact ⟨((KeepsAllRegs.refl _ s).set 1 (ofFields_self _ _)).same rfl rfl, rfl, _, rfl⟩
  · exact ⟨KeepsAllRegs.refl _ s, rfl, _, rfl⟩

theorem foldl_observeZone_leaves (l : List Nat) (s : State) :
    KeepsAllRegs (ofFields (l.map F.VWB_ZONE_OBSERVED)) s (l.foldl observeZone s) ∧ (l.foldl observeZone s).mem = s.mem ∧
      ∃ m, (l.foldl observeZone s).roster = { s.roster with seenAt := m } := by
  induction l generalizing s with
  | nil => exact ⟨KeepsAllRegs.refl _ s, rfl, _, rfl⟩
  | cons z l ih =>
    obtain ⟨hone, honemem, m, honeroster⟩ := observeZone_leaves s z
    obtain ⟨hrest, hrestmem, n, hrestroster⟩ := ih (observeZone s z)
    refine ⟨fun f hf => ?_, hrestmem.trans honemem, n, ?_⟩
    · obtain ⟨hz, hl⟩ : ofFields [F.VWB_ZONE_OBSERVED z] f.key = false ∧ ofFields (l.map F.VWB_ZONE_OBSERVED) f.key = false := by
        simpa [ofFields] using hf
      exact (hrest f hl).trans (hone f hz)
    · rw [List.foldl_cons, hrestroster, honeroster]

theorem mem_publish (s : State) : (publish s).mem = s.mem := (foldl_observeZone_leaves _ (editionShown s)).2.1

theorem roster_publish (s : State) : ∃ m, (publish s).roster = { s.roster with edition := s.roster.viewers, seenAt := m } :=
  (foldl_observeZone_leaves _ (editionShown s)).2.2

theorem viewers_publish (s : State) : (publish s).roster.viewers = s.roster.viewers := by
  obtain ⟨m, hroster⟩ := roster_publish s
  rw [hroster]

theorem candidates_publish (s : State) : (publish s).roster.candidates = s.roster.candidates := by
  obtain ⟨m, hroster⟩ := roster_publish s
  rw [hroster]

theorem overflow_publish (s : State) : (publish s).roster.overflow = s.roster.overflow := by
  obtain ⟨m, hroster⟩ := roster_publish s
  rw [hroster]

theorem edition_publish (s : State) : (publish s).roster.edition = s.roster.viewers := by
  obtain ⟨m, hroster⟩ := roster_publish s
  rw [hroster]

/-- The zones apart, an edition's fields read as they were shown. -/
theorem get_publish_shown (s : State) {f : Field} (h : ofFields ((List.range 24).map F.VWB_ZONE_OBSERVED) f.key = false) :
    (publish s).get f = (editionShown s).get f := (foldl_observeZone_leaves _ (editionShown s)).1 f h

theorem keepsAllRegs_editionShown (s : State) : KeepsAllRegs (ofFields shownFields) s (editionShown s) :=
  (((KeepsAllRegs.refl _ s).same (u := s.setRoster (fun r => { r with edition := r.viewers })) rfl rfl).set _ (ofFields_self _ _)).setAll _
    (by simp [ofFields])

theorem keepsAllRegs_publish (s : State) : KeepsAllRegs (ofFields editionFields) s (publish s) := by
  intro f hf
  rw [editionFields, ofFields, List.any_append, Bool.or_eq_false_iff] at hf
  obtain ⟨hshown, hzones⟩ := hf
  exact (get_publish_shown s hzones).trans (keepsAllRegs_editionShown s f hshown)

theorem get_publish_count (s : State) : (publish s).get F.VWB_EDITION_COUNT = (s.get F.VWB_EDITION_COUNT + 1) % 2 ^ 32 := by
  rw [get_publish_shown s (by decide)]
  simp only [editionShown, State.setAll_cons, State.setAll_nil]
  rw [State.get_set_ne _ _ (by decide), State.get_set_ne _ _ (by decide), State.get_set_ne _ _ (by decide), State.get_set_ne _ _ (by decide),
    State.get_step1_same]
  rfl

theorem get_publish_candidates (s : State) : (publish s).get F.VWB_STATUS_CANDIDATES = s.roster.candidates.length % 2 ^ 8 := by
  rw [get_publish_shown s (by decide)]
  simp only [editionShown, State.setAll_cons, State.setAll_nil]
  rw [State.get_set_ne _ _ (by decide), State.get_set_ne _ _ (by decide), State.get_set_same]
  rfl

theorem get_publish_overflow (s : State) : (publish s).get F.VWB_STATUS_OVERFLOW = s.roster.overflow.length % 2 ^ 8 := by
  rw [get_publish_shown s (by decide)]
  simp only [editionShown, State.setAll_cons, State.setAll_nil]
  rw [State.get_set_ne _ _ (by decide), State.get_set_same]
  rfl

/-! ### Pages -/

/-- What no page of some pages holds, none of their fields is. -/
theorem ofFields_eq_false_of_ofPages {l : List Field} {pages : List Nat} {k : Nat} (hl : ∀ f ∈ l, ofPages pages f.key = true)
    (hk : ofPages pages k = false) : ofFields l k = false := by
  rw [ofFields, List.any_eq_false]
  intro f hf he
  obtain rfl : f.key = k := of_decide_eq_true he
  rw [hl f hf] at hk
  exact Bool.noConfusion hk

/-- Every field of page 0x0A0 that an edition or a change of the roster's generation sets. -/
def rosterFields : List Field := F.VWB_ROSTER_GEN_GEN :: editionFields

theorem rosterFields_page : ∀ f ∈ rosterFields, ofPages [0x0A0] f.key = true := by decide

theorem ofFields_editionFields_of_rosterFields {k : Nat} (h : ofFields rosterFields k = false) : ofFields editionFields k = false := by
  rw [rosterFields, ofFields, List.any_cons, Bool.or_eq_false_iff] at h
  exact h.2

/-! ### Editions announced (R205, R207) -/

/-- State `t` is `s` with its roster published: by this controller's own edition, and by frames that leave. -/
structure Published (s t : State) : Prop where
  viewers : t.roster.viewers = s.roster.viewers
  edition : t.roster.edition = s.roster.viewers
  count : t.get F.VWB_EDITION_COUNT = (s.get F.VWB_EDITION_COUNT + 1) % 2 ^ 32
  get : ∀ f : Field, ofFields rosterFields f.key = false → sendKey f.key = false → t.get f = s.get f
  mem : t.mem = s.mem

theorem Published.keeps {s t : State} (h : Published s t) : Keeps (ofPages [0x0A0]) s t :=
  ⟨fun f hpage hreport => h.get f (ofFields_eq_false_of_ofPages rosterFields_page hpage) (sendKey_of_reportKey _ hreport),
    keepsBytes_of_mem h.mem⟩

theorem published_publish (s : State) : Published s (publish s) where
  viewers := viewers_publish s
  edition := edition_publish s
  count := get_publish_count s
  get := fun f hf _ => keepsAllRegs_publish s f (ofFields_editionFields_of_rosterFields hf)
  mem := mem_publish s

theorem published_publishChange (s : State) : Published s (publishChange s) := by
  have h := published_publish (s.step1 F.VWB_ROSTER_GEN_GEN)
  constructor
  case viewers => rw [publishChange, h.viewers, State.step1_roster]
  case edition => rw [publishChange, h.edition, State.step1_roster]
  case count => rw [publishChange, h.count, State.get_step1_ne _ (by decide)]
  case get => exact fun f hf hs => (h.get f hf hs).trans (State.get_step1_ne _ (ne_of_ofFields hf (List.mem_cons_self ..)))
  case mem => exact h.mem

/-- R205: a new generation is one more than the one before. -/
theorem get_publishChange_gen (s : State) :
    (publishChange s).get F.VWB_ROSTER_GEN_GEN = (s.get F.VWB_ROSTER_GEN_GEN + 1) % 2 ^ 32 := by
  rw [publishChange, keepsAllRegs_publish _ _ (by decide), State.get_step1_same]
  rfl

theorem sends_sendRoster (s : State) (entries : List (List Byte)) : Sends s (sendRoster s entries) := by
  unfold sendRoster
  split
  · exact sends_foldl _ _ (fun t _ _ => sends_originate t _) s
  · exact Touches.refl _ s

theorem Published.sends {s t u : State} (h : Published s t) (g : Sends t u) : Published s u := by
  constructor
  case viewers => rw [g.roster, h.viewers]
  case edition => rw [g.roster, h.edition]
  case count => rw [g.get _ (by decide), h.count]
  case get => exact fun f hf hs => (g.get f hs).trans (h.get f hf hs)
  case mem => rw [g.mem, h.mem]

theorem announce_same {before after : State} (h : after.roster = before.roster) : announce before after = after := if_pos h

/-- R205: no viewer is admitted, released or moved. -/
def sameSeats (before after : State) : Bool :=
  (before.roster.viewers.filter (fun v => !after.roster.viewers.any (fun w => decide (w.id = v.id)))).isEmpty &&
    (after.roster.viewers.filter (fun v => !before.roster.viewers.any (fun w => decide (w.id = v.id)))).isEmpty &&
    (after.roster.viewers.filter (fun v => before.roster.viewers.any (fun w => decide (w.id = v.id) && !decide (w.owner = v.owner)))).isEmpty

theorem announce_edition {before after : State} (hne : after.roster ≠ before.roster) (h : sameSeats before after = true) :
    announce before after = publish after := (if_neg hne).trans (if_pos h)

theorem announce_change {before after : State} (hne : after.roster ≠ before.roster) (h : sameSeats before after = false) :
    ∃ entries, announce before after = sendRoster (publishChange after) entries :=
  ⟨_, (if_neg hne).trans (if_neg (by rw [← sameSeats, h]; decide))⟩

theorem sameSeats_of_gone {before after : State} {v : Viewer} (hv : v ∈ before.roster.viewers)
    (hgone : ∀ w ∈ after.roster.viewers, w.id ≠ v.id) : sameSeats before after = false := by
  have hmem : v ∈ before.roster.viewers.filter (fun v => !after.roster.viewers.any (fun w => decide (w.id = v.id))) := by
    simp only [List.mem_filter, Bool.not_eq_true', List.any_eq_false, decide_eq_true_eq]
    exact ⟨hv, hgone⟩
  simp only [sameSeats, List.isEmpty_eq_false_iff_exists_mem.mpr ⟨v, hmem⟩, Bool.false_and]

theorem sameSeats_of_moved {before after : State} {v w : Viewer} (hv : v ∈ before.roster.viewers) (hw : w ∈ after.roster.viewers)
    (hid : v.id = w.id) (howner : v.owner ≠ w.owner) : sameSeats before after = false := by
  have hmem : w ∈ after.roster.viewers.filter
      (fun v => before.roster.viewers.any (fun w => decide (w.id = v.id) && !decide (w.owner = v.owner))) := by
    simp only [List.mem_filter, List.any_eq_true, Bool.and_eq_true, Bool.not_eq_true', decide_eq_true_eq, decide_eq_false_iff_not]
    exact ⟨hw, v, hv, hid, howner⟩
  simp only [sameSeats, List.isEmpty_eq_false_iff_exists_mem.mpr ⟨w, hmem⟩, Bool.and_false]

/-- R207: a roster that has changed is published. -/
theorem announce_published {before after : State} (hne : after.roster ≠ before.roster) : Published after (announce before after) := by
  cases h : sameSeats before after with
  | true =>
    rw [announce_edition hne h]
    exact published_publish after
  | false =>
    obtain ⟨entries, he⟩ := announce_change hne h
    rw [he]
    exact (published_publishChange after).sends (sends_sendRoster ..)

/-- R207: a viewer admitted, released or moved changes the generation too. -/
theorem get_announce_gen {before after : State} (hne : after.roster ≠ before.roster) (h : sameSeats before after = false) :
    (announce before after).get F.VWB_ROSTER_GEN_GEN = (after.get F.VWB_ROSTER_GEN_GEN + 1) % 2 ^ 32 := by
  obtain ⟨entries, he⟩ := announce_change hne h
  rw [he, (sends_sendRoster ..).get _ (by decide), get_publishChange_gen]

/-! ### Viewers coast (R202) -/

theorem exec_trackLostTimeout {s : State} (hrun : Running s) (x : Tracked) : exec (.trackLostTimeout x) s = .next (trackLost s x) :=
  live_running hrun _

/-- The viewer of a slot coasts. -/
def coasted (s : State) (slot : Nat) : State :=
  s.setRoster (fun r => { r with viewers := r.viewers.map (fun v => if v.slot = slot then { v with coasting := true } else v) })

theorem leaveRange_inside {s : State} (h : ∀ v ∈ s.roster.viewers, outOfRange s v = false) : leaveRange s = s := by
  have hnone : s.roster.viewers.filter (fun v => v.coasting && outOfRange s v) = [] := by
    rw [List.filter_eq_nil_iff]
    intro v hv
    simp [h v hv]
  unfold leaveRange
  split
  · rfl
  · rw [hnone, List.foldl_nil]

/-- Coasting leaves a viewer's eyes where they are. -/
theorem outOfRange_coasted {s : State} (slot : Nat) (h : ∀ v ∈ s.roster.viewers, outOfRange s v = false) :
    ∀ v ∈ (coasted s slot).roster.viewers, outOfRange (coasted s slot) v = false := by
  intro w hw
  obtain ⟨v, hv, rfl⟩ := List.mem_map.mp hw
  split
  · exact h v hv
  · exact h v hv

theorem trackLost_viewer {s : State} (slot : Nat) (h : ∀ v ∈ s.roster.viewers, outOfRange s v = false) :
    trackLost s (.viewer slot) = announce s (coasted s slot) :=
  congrArg (announce s) (leaveRange_inside (outOfRange_coasted slot h))

theorem keeps_coasted (may : Nat → Bool) (s : State) (slot : Nat) : Keeps may s (coasted s slot) := (Keeps.refl may s).same rfl rfl rfl

theorem trackLost_overflow (s : State) (i : Nat) :
    trackLost s (.overflow i) = publish (s.setRoster (fun r => { r with overflow := r.overflow.eraseIdx i })) := rfl

theorem trackLost_candidate (s : State) (i : Nat) :
    trackLost s (.candidate i) = publish (s.setRoster (fun r => { r with candidates := r.candidates.eraseIdx i })) := rfl

/-- An edition of a roster that alone has changed leaves every register of the other pages. -/
theorem keepsAllRegs_publish_page {s u : State} (hregs : u.regs = s.regs) (hloaded : u.mech.loaded = s.mech.loaded) :
    KeepsAllRegs (ofPages [0x0A0]) s (publish u) :=
  ((KeepsAllRegs.refl _ s).same hregs hloaded).trans (fun f hf => keepsAllRegs_publish u f
    (ofFields_editionFields_of_rosterFields (ofFields_eq_false_of_ofPages rosterFields_page hf)))

/-! ### Viewers leave (R202, R204, R206) -/

theorem exec_coastExpiry {s : State} (hrun : Running s) (slot : Nat) : exec (.coastExpiry slot) s = .next (coastExpired s slot) :=
  live_running hrun _

/-- A slot's viewer released, counted and signalled. -/
def released (s : State) (slot : Nat) : State :=
  raiseIrq ((s.setRoster (fun r => { r with viewers := r.viewers.filter (fun v => !decide (v.slot = slot)) })).bump (F.VWB_COUNT_COUNT 1)) 0x0A0 1

theorem roster_released (s : State) (slot : Nat) :
    (released s slot).roster = { s.roster with viewers := s.roster.viewers.filter (fun v => !decide (v.slot = slot)) } :=
  raiseIrq_roster ..

/-- R204: without overflow viewers nobody takes a free slot. -/
theorem admitOverflow_nil {s : State} (h : s.roster.overflow = []) : admitOverflow s = s := by
  unfold admitOverflow
  split
  · next hoverflow => rw [h] at hoverflow; cases hoverflow
  · rfl

theorem releaseViewer_eq {s : State} {v : Viewer} (hv : v ∈ s.roster.viewers) (h : s.roster.overflow = []) :
    releaseViewer s v.slot = released s v.slot :=
  (if_pos (List.any_eq_true.mpr ⟨v, hv, decide_eq_true rfl⟩)).trans
    (admitOverflow_nil (s := released s v.slot) (by rw [roster_released]; exact h))

theorem get_released_count (s : State) (slot : Nat) :
    (released s slot).get (F.VWB_COUNT_COUNT 1) = satAdd 32 (s.get (F.VWB_COUNT_COUNT 1)) 1 := by
  rw [released, get_raiseIrq _ _ _ (by decide), State.get_bump_same]
  rfl

theorem get_released_ne (s : State) (slot : Nat) {f : Field} (hcount : f.key ≠ (F.VWB_COUNT_COUNT 1).key) (hreport : reportKey f.key = false) :
    (released s slot).get f = s.get f := by
  rw [released, get_raiseIrq _ _ _ hreport, State.get_bump_ne _ hcount]
  rfl

theorem keeps_released (s : State) (slot : Nat) : Keeps (ofPages [0x0A0]) s (released s slot) :=
  (((Keeps.refl _ s).same (u := s.setRoster _) rfl rfl rfl).bump (by decide)).raiseIrq _ _

theorem coastExpired_released {s : State} {v : Viewer} (hrole : s.role ≠ 2) (hv : v ∈ s.roster.viewers) (hcoasting : v.coasting = true)
    (h : s.roster.overflow = []) : coastExpired s v.slot = announce s (released s v.slot) := by
  have hany : s.roster.viewers.any (fun w => decide (w.slot = v.slot) && w.coasting) = true :=
    List.any_eq_true.mpr ⟨v, hv, by simp [hcoasting]⟩
  rw [coastExpired, if_neg (by simp only [hrole, hany]; decide), releaseViewer_eq hv h]

/-- R202, R206: a member leaves it to the roster keeper, and a viewer that is tracked stays. -/
theorem coastExpired_idle {s : State} {slot : Nat} (h : s.role = 2 ∨ ∀ v ∈ s.roster.viewers, v.slot = slot → v.coasting = false) :
    coastExpired s slot = s := by
  refine if_pos ?_
  rw [Bool.or_eq_true]
  refine h.imp decide_eq_true (fun htracked => ?_)
  rw [Bool.not_eq_true', List.any_eq_false]
  intro v hv he
  obtain ⟨hslot, hcoasting⟩ := (Bool.and_eq_true _ _).mp he
  rw [htracked v hv (of_decide_eq_true hslot)] at hcoasting
  exact Bool.noConfusion hcoasting

/-! ### The head moves ownership (R205) -/

theorem exec_ownerReassign {s : State} (hrun : Running s) (slot owner : Nat) :
    exec (.ownerReassign slot owner) s = .next (reassignOwner s slot (owner % 64)) := live_running hrun _

/-- A slot's viewer given to an owner, and counted. -/
def reowned (s : State) (slot owner : Nat) : State :=
  (s.setRoster (fun r => { r with viewers := r.viewers.map (fun v => if v.slot = slot then { v with owner := owner } else v) })).bump
    (F.VWB_COUNT_COUNT 6)

theorem mem_reowned {s : State} {v : Viewer} (owner : Nat) (hv : v ∈ s.roster.viewers) :
    { v with owner := owner } ∈ (reowned s v.slot owner).roster.viewers :=
  List.mem_map.mpr ⟨v, hv, if_pos rfl⟩

theorem roster_reowned_ne {s : State} {v : Viewer} {owner : Nat} (hv : v ∈ s.roster.viewers) (hne : v.owner ≠ owner) :
    (reowned s v.slot owner).roster ≠ s.roster := by
  intro he
  have hmap : s.roster.viewers.map (fun w => if w.slot = v.slot then { w with owner := owner } else w) = s.roster.viewers.map id :=
    (congrArg Roster.viewers he).trans (List.map_id _).symm
  have hsame := List.map_inj_left.mp hmap v hv
  rw [if_pos rfl] at hsame
  exact hne (congrArg Viewer.owner hsame).symm

theorem keeps_reowned (s : State) (slot owner : Nat) : Keeps (ofPages [0x0A0]) s (reowned s slot owner) :=
  ((Keeps.refl _ s).same (u := s.setRoster _) rfl rfl rfl).bump (by decide)

theorem reassignOwner_reowned {s : State} {v : Viewer} {owner : Nat} (hrole : s.role = 1) (hv : v ∈ s.roster.viewers) (hne : v.owner ≠ owner) :
    reassignOwner s v.slot owner = announce s (reowned s v.slot owner) := by
  have hany : s.roster.viewers.any (fun w => decide (w.slot = v.slot) && !decide (w.owner = owner)) = true :=
    List.any_eq_true.mpr ⟨v, hv, by simp [hne]⟩
  exact if_pos (by rw [State.isHead, hrole, hany]; rfl)

theorem reassignOwner_notHead {s : State} (hrole : s.role ≠ 1) (slot owner : Nat) : reassignOwner s slot owner = s :=
  if_neg (by simp [State.isHead, hrole])

/-! ### Zones (R213) -/

/-- R213: what the end of a zone's time makes of it. -/
def zoneEnded (s : State) (zone : Nat) : State :=
  if decide (zone < 24) && !zoneSeen s zone then s.set (F.VWB_ZONE_OBSERVED zone) 0 else s

theorem exec_zoneUnobserved {s : State} (hrun : Running s) (zone : Nat) : exec (.zoneUnobserved zone) s = .next (zoneEnded s zone) :=
  live_running hrun _

theorem zoneEnded_unseen {s : State} {zone : Nat} (hzone : zone < 24) (h : zoneSeen s zone = false) :
    zoneEnded s zone = s.set (F.VWB_ZONE_OBSERVED zone) 0 := if_pos (by rw [h, decide_eq_true hzone]; rfl)

theorem zoneEnded_seen {s : State} {zone : Nat} (h : 24 ≤ zone ∨ zoneSeen s zone = true) : zoneEnded s zone = s := by
  refine if_neg ?_
  obtain hzone | hseen := h
  · simp [Nat.not_lt.mpr hzone]
  · simp [hseen]

/-- Settles O24, by the roster that each command leaves and what the edition announced after it shows. -/
theorem viewersCoastAndLeave : Obligations.ViewersCoastAndLeave := by
  refine ⟨?_, ?_, ?_, ?_, ?_, ?_, ?_, ?_⟩
  · intro s slot hrun hinside
    refine ⟨_, exec_trackLostTimeout hrun _, ?_⟩
    rw [trackLost_viewer slot hinside]
    by_cases hsame : (coasted s slot).roster = s.roster
    · rw [announce_same hsame]
      exact ⟨rfl, fun hne => absurd (congrArg Roster.viewers hsame) hne, keeps_coasted _ s slot⟩
    · have hpub := announce_published hsame
      exact ⟨hpub.viewers, fun _ => ⟨hpub.edition.trans hpub.viewers.symm, hpub.count⟩, (keeps_coasted _ s slot).trans hpub.keeps⟩
  · intro s i hrun
    refine ⟨⟨_, exec_trackLostTimeout hrun _, ?_⟩, _, exec_trackLostTimeout hrun _, ?_⟩
    · rw [trackLost_overflow]
      exact ⟨overflow_publish _, viewers_publish _, candidates_publish _, get_publish_overflow _, get_publish_count _,
        keepsAllRegs_publish_page rfl rfl, keepsBytes_of_mem (mem_publish _)⟩
    · rw [trackLost_candidate]
      exact ⟨candidates_publish _, viewers_publish _, overflow_publish _, get_publish_candidates _, keepsAllRegs_publish_page rfl rfl,
        keepsBytes_of_mem (mem_publish _)⟩
  · intro s v hrun hrole hv hcoasting hids hoverflow
    have hviewers := congrArg Roster.viewers (roster_released s v.slot)
    have hgone : ∀ w ∈ (released s v.slot).roster.viewers, w.id ≠ v.id := by
      intro w hw
      rw [hviewers] at hw
      obtain ⟨hold, hslot⟩ := List.mem_filter.mp hw
      exact hids w hold (by simpa using hslot)
    have hne : (released s v.slot).roster ≠ s.roster := fun he => hgone v (by rw [he]; exact hv) rfl
    have hpub := announce_published hne
    refine ⟨_, exec_coastExpiry hrun _, ?_⟩
    rw [coastExpired_released hrole hv hcoasting hoverflow]
    refine ⟨hpub.viewers.trans hviewers, hpub.edition.trans hpub.viewers.symm, ?_, ?_, ?_, ?_, (keeps_released s v.slot).trans hpub.keeps⟩
    · rw [hpub.get _ (by decide) (by decide), get_released_count]
    · rw [hpub.get _ (by decide) (by decide)]
      exact raiseIrq_hasBit _ 0x0A0 1 (by decide)
    · rw [get_announce_gen hne (sameSeats_of_gone hv hgone), get_released_ne s _ (by decide) (by decide)]
    · rw [hpub.count, get_released_ne s _ (by decide) (by decide)]
  · intro s slot hrun hidle
    refine ⟨_, exec_coastExpiry hrun slot, ?_⟩
    rw [coastExpired_idle hidle]
    exact ⟨rfl, KeepsAllRegs.refl _ s, KeepsBytes.refl s⟩
  · intro s v owner hrun hrole howner hv hmoved
    have hne := roster_reowned_ne hv hmoved
    have hpub := announce_published hne
    refine ⟨_, exec_ownerReassign hrun _ _, ?_⟩
    rw [Nat.mod_eq_of_lt howner, reassignOwner_reowned hrole hv hmoved]
    refine ⟨hpub.viewers, hpub.edition.trans hpub.viewers.symm, ?_, ?_, (keeps_reowned s v.slot owner).trans hpub.keeps⟩
    · rw [hpub.get _ (by decide) (by decide), reowned, State.get_bump_same]
      rfl
    · rw [get_announce_gen hne (sameSeats_of_moved hv (mem_reowned owner hv) rfl hmoved), reowned, State.get_bump_ne _ (by decide)]
      rfl
  · intro s slot owner hrun hrole
    refine ⟨_, exec_ownerReassign hrun slot owner, ?_⟩
    rw [reassignOwner_notHead hrole]
    exact ⟨rfl, KeepsAllRegs.refl _ s, KeepsBytes.refl s⟩
  · intro s zone hrun hzone hunseen
    refine ⟨_, exec_zoneUnobserved hrun zone, ?_⟩
    rw [zoneEnded_unseen hzone hunseen]
    exact ⟨State.get_set_same .., rfl, (KeepsAllRegs.refl _ s).set 0 (ofFields_self _ _), keepsBytes_of_mem rfl⟩
  · intro s zone hrun hseen
    refine ⟨_, exec_zoneUnobserved hrun zone, ?_⟩
    rw [zoneEnded_seen hseen]
    exact ⟨rfl, KeepsAllRegs.refl _ s, KeepsBytes.refl s⟩

end Sys2Proof.Machine
